-- ==== Sys2Proof/Word.lean ====
section
/-! DEFINITION. The byte and byte-string types of the exchange (R250). -/
namespace Sys2Proof

/-- One byte of a message. -/
abbrev Byte := BitVec 8

/-- A string of bytes, first byte first. -/
abbrev Bytes := List Byte

end Sys2Proof
end

