-- ==== Sys2Proof/Syntax.lean ====
section
/-! DEFINITION. The commands of the block: the rows of spec/opcode_table.json with the operands the outside supplies. -/
namespace Sys2Proof

/-- The eight islands (chapter 02), in the order of ISL_STATE. -/
inductive Island where | bk | ao | fb | cr | sc | nw | pw | nv
  deriving DecidableEq, Repr

/-- The ports a message comes through (chapter 13), and the field access port (R675). -/
inductive Port where | canFd | t1l | host | fac
  deriving DecidableEq, Repr

/-- The authentication trailer that ends every message (Table: Authentication trailer): bytes 0 to 15 by their fields, and the
tag. -/
structure Trailer where
  stamp : Nat
  ctr : Nat
  gen : Nat
  dir : Nat
  epoch : Nat
  tag : Bytes
  deriving DecidableEq, Repr

/-- The Ethernet frame that something over 10BASE-T1L comes in, and its packet (R475, R480, R481): its length; whether its frame
check holds; EtherType; whether it has a VLAN tag; its destination; the packet's destination; `sound`: the packet has no
extension header and its checksum is good and, of a datagram, not 0; the port and the length of a datagram. -/
structure Eth where
  len : Nat
  fcs : Bool
  etherType : Nat
  vlan : Bool
  dest : Nat
  ip : Nat
  sound : Bool
  port : Nat
  udpLen : Nat
  deriving DecidableEq, Repr

/-- A message at the device's terminals: what the port knows of it, and its bytes by their fields (Table: Message header).
`udp` and `eth`: on
10BASE-T1L, the sender's port and the frame. `sound`: the port's framing and integrity hold. `tail`: the header's bytes 11 to 15; of a ring operation the payload's bytes 10
to 15 (Table: Ring operation payload). The body of a ring operation is its target and the bytes 8 and 9. -/
structure Req where
  port : Port
  src : Nat
  udp : Nat
  eth : Eth
  sound : Bool
  version : Nat
  cidField : Nat
  reqNo : Nat
  bodyLen : Nat
  flags : Nat
  tail : Nat
  body : Bytes
  tr : Trailer
  deriving DecidableEq, Repr

/-- What an uncorrectable error took, one form for each memory of Table: Effects of ECC_LOST, 0x01 to 0x0B: a record; a client
timer or a plan entry; a bundle, a ring entry or a stream; a word of the core; of SC; a frame of a port, received or to be
sent; a copy of a keeper slot; an image slot; an evidence entry; a persistent element. -/
inductive EccObj where
  | record (id : Nat)
  | timer (cid handle : Nat)
  | plan (hid tag : Nat)
  | bundle (cid num : Nat)
  | entry (target seq : Nat)
  | stream (source target hid : Nat)
  | core
  | security
  | frame (p : Port) (received : Bool)
  | keeperCopy (k : Fin 4)
  | image (slot : Fin 2)
  | log (chain seq : Nat)
  | element (addr : Nat)
  deriving DecidableEq, Repr

/-- What a half finds on a bond-link frame: its CRC holds and, but for a HELLO, its tag verifies; its frame counter (R751). -/
structure Bond where
  sound : Bool
  counter : Nat
  deriving DecidableEq, Repr

/-- The payload of a HELLO (R753): role, capability word and twin minimum of the sender's image, its DEV_UID, its identity key and
its ephemeral point, each X ‖ Y, whether it is reference-ready, and the two halves of its signature. -/
structure Hello where
  role : Nat
  cap : Nat
  least : Nat
  uid : Nat
  identity : Nat
  eph : Nat
  ready : Bool
  sigR : Nat
  sigS : Nat
  deriving DecidableEq, Repr

/-- The commands of the block: one constructor for each row of the opcode table. -/
inductive Instr where
  /-- HANDSHAKE_TIMEOUT (R61). A requester's 2,048 AO-cycle handshake timer runs out in REQUEST or RELEASE, so the request completes ABANDONED detail 0x01 or the channel goes STUCK. -/
  | handshakeTimeout (ch : Fin 20) (phase : Fin 3) (victim : Option Req) (op : Nat)
  /-- ORPHAN_ACK_LOW (R850). A channel in ORPHAN sees ack low for 8 consecutive AO cycles and returns to IDLE. -/
  | orphanAckLow (ch : Fin 20)
  /-- ILLEGAL_STATE_ENCODING (R56). A wrapper finds an island state register holding an illegal code or disagreeing with its shadow, raises the tamper source and treats the island as UNPOWERED. -/
  | illegalStateEncoding (i : Island) (code shadow : Nat)
  /-- ISLAND_SELF_RESET (R852). Within 16 AO cycles of an encoding fault the device gives the island a per-island reset without draining. -/
  | islandSelfReset (i : Island)
  /-- ISLAND_WAKE (R68). A request reaches a GATED island that wakes on demand, and the wrapper holds it and starts the island. -/
  | islandWake (i : Island) (ch : Fin 20)
  /-- ISLAND_RUN_REACHED (R851). An island in STARTING has a stable clock and completed restore or reset and enters RUN, serving held requests. -/
  | islandRunReached (i : Island)
  /-- ISLAND_IDLE_STOP (R58). An island meets its idle rule and enters DRAINING to be gated, FB first loading the wake comparator. -/
  | islandIdleStop (i : Island) (loaded : Bool)
  /-- DRAIN_COMPLETE (R71). A draining island's queue is empty and its outbound channels settled, so it goes to GATED, STARTING or UNPOWERED. -/
  | drainComplete (i : Island)
  /-- DRAIN_LIMIT_EXPIRY (R72). 4,096 AO cycles after entering DRAINING, queued requests complete ABANDONED detail 0x04 and the drain completes. -/
  | drainLimitExpiry (i : Island)
  /-- ISLAND_SUPPLY_FAIL (R850). An island's supply fails, so it goes UNPOWERED without a drain and its outbound requests are lost. -/
  | islandSupplyFail (i : Island)
  /-- ISL_REQ_GATE (R85). A station admin writes GATE to ISL_REQ, which acts at once or returns DEFERRED under a hold. -/
  | islReqGate (r : Req)
  /-- ISL_REQ_RESET (R85). A station admin writes RESET to ISL_REQ, which drains and resets the island or becomes pending under a hold. -/
  | islReqReset (r : Req)
  /-- ISL_REQ_WITHDRAW (R87). A write of 0x00 to ISL_REQ withdraws a pending island request and returns OK. -/
  | islReqWithdraw (r : Req)
  /-- ISLAND_HOLD_TAKE (R75). The keeper takes an island hold lease of at most 10 s on an island. -/
  | islandHoldTake (i : Island) (ms : Nat)
  /-- ISLAND_HOLD_RELEASE (R77). The keeper releases a hold, and any pending gate or reset request is executed after a drain. -/
  | islandHoldRelease (i : Island)
  /-- HOLD_LEASE_EXPIRY (R77). An island hold lease expires, ending the hold and executing any pending request. -/
  | holdLeaseExpiry (i : Island)
  /-- HOLD_EXPIRY_SIGNAL (R79). 250 ms before a hold lease expires the device signals the keeper to start no new work on that island. -/
  | holdExpirySignal (i : Island)
  /-- WAKE_COMPARATOR_WAKE (R31). BK reaches the whole second before the earliest pending instant loaded into AO, and AO wakes FB. -/
  | wakeComparatorWake
  /-- FIRMWARE_RETRY (R90). The firmware repeats an abandoned log append, signing, persistent write or image block after its spacing. -/
  | firmwareRetry (work : Fin 4) (ok : Bool)
  /-- MAIN_POWER_UP (R92). VSYS rises above 5.7 V and the device starts its main supplies. -/
  | mainPowerUp
  /-- VDD5_GOOD (R93). VDD5 becomes good, AO leaves reset, outputs are held off and VAUX and VCORE start. -/
  | vdd5Good
  /-- VCORE_GOOD (R95). VCORE becomes good at 1.000 V and FB starts and rebuilds station time. -/
  | vcoreGood
  /-- STRAP_SAMPLE (R110). VDDIO_A becomes good at a full or main reset and AO samples the straps. -/
  | strapSample (hostsel facEn twinUp twinDown : Bool)
  /-- STRAP_DEFAULT_TIMEOUT (R114). VDDIO_A is not good 1 s after VCORE good, so the straps take their defaults and STRAP_DEFAULTED is set. -/
  | strapDefaultTimeout
  /-- BOOT_SLOT_TRY (R117). The boot ROM reads, hashes and verifies a firmware slot and starts it in full or reduced service or moves on. -/
  | bootSlotTry
  /-- FIRMWARE_START (R106). The firmware starts, chooses its value set, reapplies tamper responses, restores values, loads PW and plans, and appends the start entry. -/
  | firmwareStart (torn : Option (Fin 64)) (ages : List Int)
  /-- RSTO_RELEASE (R109). RSTO_EXT after the host port is ready, the host reset outputs are released. -/
  | rstoRelease
  /-- RST_N_LOW (R99). RST_N stays low for 1 µs and the device enters a main reset, draining first. -/
  | rstNLow
  /-- RST_N_WIDEN (R99). RST_N is still low 10 ms after it fell, so the reset widens to full. -/
  | rstNWiden
  /-- RST_N_RELEASE (R99). RST_N rises and the device leaves reset. -/
  | rstNRelease
  /-- VCORE_BROWNOUT (R97). VCORE falls below its brown-out level and a main reset with cause 0x06 acts without a drain. -/
  | vcoreBrownout
  /-- DEV_RESET_MAIN (R101). A write of 0x01 to DEV_RESET requests a main reset, deferred while any hold stands. -/
  | devResetMain (r : Req)
  /-- DEV_RESET_FULL (R101). A write of 0x02 to DEV_RESET requests a full reset, deferred while any hold stands. -/
  | devResetFull (r : Req)
  /-- KEEPER_MAIN_RESET (R97). The keeper requests a main reset with cause 0x08 after an unrecoverable firmware fault. -/
  | keeperMainReset
  /-- BACKUP_POWER_ON (R854). The backup node rises after state loss and BK starts with a backup-scope reset and time UNSET. -/
  | backupPowerOn
  /-- STATION_TIME_LOAD (R125). At the BK tick after the time pair arrives, FB loads station time from BK. -/
  | stationTimeLoad (n : Nat)
  /-- X32_QUALIFIED (R133). The crystal passes 65,536 good cycles and is qualified. -/
  | x32Qualified (cycles gap predicted : Nat)
  /-- X32_CHANGEOVER (R134). At a whole-second boundary BK changes its tick source from the LFRC to the qualified crystal. -/
  | x32Changeover
  /-- X32_QUAL_TIMEOUT (R136). The crystal has not qualified 10 s after a backup-scope reset and the tamper source X32 stopped is raised. -/
  | x32QualTimeout
  /-- X32_RESTART_ATTEMPT (R173). Every 10 s on the LFRC, BK tries to restart the crystal at the fenced drive step. -/
  | x32RestartAttempt
  /-- X32_STOPPED (R171). No crystal edge arrives for the missing-edge time, so BK moves to the LFRC, credits 4 ticks and raises X32 stopped. -/
  | x32Stopped
  /-- SWITCHOVER_TO_VBK (R139). VSYS or VDD5 falls below its level and the backup node moves to VBK within 2 µs. -/
  | switchoverToVbk
  /-- SWITCHOVER_TO_MAIN (R139). VSYS and VDD5 hold their return levels for 16 BK ticks and the backup node moves back to main. -/
  | switchoverToMain
  /-- VBK_LOW_CHECK (R146). Once per BK second BK compares VBK with VBK_LOW_MV and raises or releases VBK low. -/
  | vbkLowCheck (mv : Nat)
  /-- TRICKLE_STOP (R151). VBK reaches TRICKLE_MV and the trickle charger stops. -/
  | trickleStop
  /-- TRICKLE_RESTART (R151). VBK falls 50 mV below TRICKLE_MV and the trickle charger sources current again. -/
  | trickleRestart
  /-- BK_COPY_FAILED (R157). A backup counter copy is reloaded at 16 consecutive tick edges and is marked failed. -/
  | bkCopyFailed (copy : Fin 3) (held : Nat)
  /-- RING_ENTRY_RELEASE (R163). The keeper releases the oldest capture ring entry after its log append is stored. -/
  | ringEntryRelease (seq : Fin 256)
  /-- L3_EVALUATE (R166). Each BK second L3 reads the crystal swing and raises or lowers the drive step. -/
  | l3Evaluate (swing : Nat)
  /-- LFRC_CAL_START (R174). Every LFRC_CAL_S, FB starts a 16 s run of the LFRC against X32. -/
  | lfrcCalStart
  /-- LFRC_CAL_END (R174). A 16 s LFRC calibration run ends and FB refits the LFRC temperature model. -/
  | lfrcCalEnd (err temp : Int)
  /-- AORC_MEASURE (R177). Every 64 s while FB runs, FB measures AORC into AORC_HZ. -/
  | aorcMeasure (hz : Nat)
  /-- XH_MEASURE (R178). Every second FB measures XH and raises an event if it lies beyond 50 ppm. -/
  | xhMeasure (ppb : Int)
  /-- PLL_LOCK_LOSS (R183). The fabric PLL loses lock and FB stamps from BK with COARSE. -/
  | pllLockLoss
  /-- PLL_RELOCK (R183). The fabric PLL relocks and FB rebuilds station time from BK. -/
  | pllRelock
  /-- COMP_LOAD (R184). FB recomputes the crystal error and loads COMP_WORD and BK_COMP, integrating HOLD_UNC. -/
  | compLoad (ts0 : Int)
  /-- COMP_TEMP_WAKE (R184). AO finds TS0 outside ±COMP_DT of the last load temperature and wakes FB to reload compensation. -/
  | compTempWake (ts0 : Int)
  /-- PPS_PULSE (R190). A pulse arrives on PPS_IN, is stamped, judged good or not and advances reference qualification. -/
  | ppsPulse (stamp : Nat)
  /-- NMEA_SENTENCE (R417). A ZDA or RMC sentence completes on EVT22 and is judged good and paired with a pulse. -/
  | nmeaSentence (good : Bool) (start stop minute sec : Nat)
  /-- PTP_EXCHANGE (R191). A PTP Sync and delay exchange completes in SLAVE and yields an offset and path delay. -/
  | ptpExchange (offset delay : Int) (gmClass : Nat) (ptpScale : Bool)
  /-- REF_INPUT_MISSING (R193). Four consecutive expected reference inputs are missing or bad and LOCKED goes to HOLDOVER. -/
  | refInputMissing
  /-- REF_QUALIFY_TIMEOUT (R193). No good reference input arrives for 10 s in QUALIFYING and the state returns to its previous value. -/
  | refQualifyTimeout
  /-- REF_LABEL_WRITE (R192). A station admin writes REF_LABEL to label the next technician pulse with a whole second. -/
  | refLabelWrite (r : Req)
  /-- REF_ACCEPT_WRITE (R194). A write of 0x01 to REF_ACCEPT lets a disagreeing reference go to LOCKED. -/
  | refAcceptWrite (r : Req)
  /-- DRIFT_OBSERVATION (R198). Every 1,024 s in LOCKED, and on leaving it, the device forms an observation and updates the estimator. -/
  | driftObservation (rbar u1 u2 u3 l : Int)
  /-- LEARN_RESET_WRITE (R201). A write of 0x01 to LEARN_RESET resets the crystal model to its priors. -/
  | learnResetWrite (r : Req)
  /-- MODEL_STORE (R202). At least every 86,400 s and at each episode close, the keeper stores the drift model. -/
  | modelStore
  /-- EPISODE_ROLLOVER (R204). An episode reaches 86,400 s and closes, and the next begins at once. -/
  | episodeRollover
  /-- PPS_OUT_PULSE (R211). Station time crosses a whole second and PPS_OUT rises if its gate is open. -/
  | ppsOutPulse
  /-- RANGE_END_REACHED (R216). Station time reaches its maximum, holds there, sets RANGE_END and raises an event. -/
  | rangeEndReached
  /-- LEAP_TABLE_EXPIRED (R221). Station time reaches LEAP_EXPIRES and TABLE_EXPIRED is set. -/
  | leapTableExpired
  /-- SLEW_ADD_WRITE (R227). A write to SLEW_ADD adds its value to SLEW_REM. -/
  | slewAddWrite (r : Req)
  /-- SLEW_COMPLETE (R228). SLEW_REM reaches exactly 0 and the slew term ends. -/
  | slewComplete
  /-- TIME_STEP_WRITE (R232). A station admin writes a non-zero TIME_STEP, which is checked and made pending for the next 1/64 s boundary. -/
  | timeStepWrite (r : Req) (peer : Option Nat)
  /-- TIME_STEP_F_WRITE (R232). A station admin writes a non-zero TIME_STEP_F to request a forced step. -/
  | timeStepFWrite (r : Req) (peer : Option Nat)
  /-- TIME_SET_WRITE (R232). A station admin writes TIME_SET to request a step to the written station time. -/
  | timeSetWrite (r : Req) (peer : Option Nat)
  /-- STEP_WITHDRAW (R235). A write of 0 to TIME_STEP or TIME_STEP_F withdraws a pending step. -/
  | stepWithdraw (r : Req)
  /-- STEP_APPLY (R237). At the application instant the step is checked again and applied or refused, serving crossed objects. -/
  | stepApply (peerOk : Bool)
  /-- READ (R262). A READ request returns one element's live or staged value. -/
  | read (r : Req)
  /-- REFUSED_RESPONSE_SEND (R270). A response carrying REFUSED leaves at the fixed delay of its refusal class. -/
  | refusedResponseSend (k : Nat)
  /-- WRITE (R260). A WRITE of an element without its own behaviour applies a direct value or stages an S element. -/
  | write (r : Req)
  /-- GATHER (R265). A GATHER request for up to 16 elements is checked and a freeze instant at least 20 µs ahead is requested. -/
  | gather (r : Req)
  /-- GATHER_FREEZE (R263). At the freeze strobe every named element is latched at one fabric instant and the gather response is built. -/
  | gatherFreeze (lost : List Island)
  /-- SCATTER (R261). A SCATTER places all its items in the parison or none of them. -/
  | scatter (r : Req)
  /-- COMMIT (R286). A COMMIT runs the commit check and, without violations, accepts the parison as a pending commit. -/
  | commit (r : Req) (peer : List (Nat × Nat))
  /-- COMMIT_CHECK_ONLY (R283). A COMMIT with CHECK_ONLY reports the check's violations and changes nothing. -/
  | commitCheckOnly (r : Req) (peer : List (Nat × Nat))
  /-- DISCARD (R283). A DISCARD empties the requester's parison. -/
  | discard (r : Req)
  /-- LEASE (R316). A LEASE request queues a bundle, or upgrades, and starts an arbiter pass. -/
  | lease (r : Req)
  /-- RELEASE (R321). A RELEASE ends a held bundle or withdraws a queued one. -/
  | release (r : Req)
  /-- SUBSCRIBE (R277). A SUBSCRIBE creates or replaces a Source or Watch subscription in a slot. -/
  | subscribe (r : Req)
  /-- UNSUBSCRIBE (R278). An UNSUBSCRIBE ends a subscription without notice. -/
  | unsubscribe (r : Req)
  /-- LOG_READ (R677). A LOG_READ returns up to 16 signed entries of the requester's own chain. -/
  | logRead (r : Req)
  /-- DOORBELL (R423). A DOORBELL request posts a message source assigned to the poster's holder. -/
  | doorbell (r : Req)
  /-- ECHO (R520). An ECHO returns ST_NOW and SERVICE_MODE, exempt from freshness checks. -/
  | echo (r : Req)
  /-- UNKNOWN_OPCODE (R253). A request with an unknown opcode, 0x40 or bit 7 set returns REFUSED. -/
  | unknownOpcode (r : Req) (op : Nat)
  /-- IMAGE_BEGIN (R737). IMAGE block 0xFFF0 opens an update session and sets the slot to WRITING. -/
  | imageBegin (r : Req)
  /-- IMAGE_DATA (R738). An IMAGE data block from the session owner is stored in the session's slot. -/
  | imageData (r : Req)
  /-- IMAGE_FINISH (R740). IMAGE block 0xFFF1 checks and verifies the whole image and sets the slot VERIFIED or INVALID. -/
  | imageFinish (r : Req)
  /-- IMAGE_ABORT (R739). IMAGE block 0xFFF2 ends the session and leaves the slot INVALID. -/
  | imageAbort (r : Req)
  /-- IMAGE_ACTIVATE (R741). IMAGE block 0xFFF3 puts a slot in TRIAL, writes BOOT_PREF and restarts CR. -/
  | imageActivate (r : Req)
  /-- IMAGE_CONFIRM (R742). IMAGE block 0xFFF4 confirms the running trial image. -/
  | imageConfirm (r : Req)
  /-- FW_AUTO_CONFIRM (R742). The running trial image has run FW_TRIAL_S in full service and is confirmed. -/
  | fwAutoConfirm
  /-- FW_SESSION_TIMEOUT (R739). An update session has no IMAGE from its owner for 3,600 s, ends and leaves the slot INVALID. -/
  | fwSessionTimeout
  /-- WATCH_INTERVAL (R276). A Watch subscription's interval passes and the element is compared with the value last notified. -/
  | watchInterval (cid slot : Nat) (atWrite : Bool)
  /-- SUBSCRIPTION_EXPIRY (R277). A subscription's lifetime ends and a NOTIFY of kind 0x03 with TIMEOUT is sent. -/
  | subscriptionExpiry (cid slot : Nat)
  /-- COMMIT_PREPARE (R290). At s − 1 s, or at acceptance if later, the keeper sends shadow banks and predicates to the islands. -/
  | commitPrepare
  /-- COMMIT_PREPARED (R41). Every island acknowledges its shadow bank and the commit reads PREPARED. -/
  | commitPrepared
  /-- COMMIT_PREP_DEADLINE (R292). At s − 2 ms a commit that is not PREPARED fails with ABANDONED or TIMEOUT. -/
  | commitPrepDeadline (answered : Bool)
  /-- COMMIT_CHECK_STROBE (R294). At the shape instant FB issues the check strobe and the commit flips or aborts. -/
  | commitCheckStrobe (peerPrepared : Bool)
  /-- COMMIT_STORE (R296). With CR in RUN the keeper stores a flipped commit's persistent elements as one record. -/
  | commitStore
  /-- PARISON_IDLE_DISCARD (R283). PARISON_IDLE seconds pass without staging or COMMIT and the parison is emptied. -/
  | parisonIdleDiscard (cid : Nat)
  /-- CM_WITHDRAW_WRITE (R298). A client writes a commit number to CM_WITHDRAW to withdraw its pending commit. -/
  | cmWithdrawWrite (r : Req)
  /-- CM_WITHDRAW_ANY_WRITE (R298). A station admin writes CM_WITHDRAW_ANY to withdraw any client's pending commit. -/
  | cmWithdrawAnyWrite (r : Req)
  /-- LEASE_EXPIRY (R317). A lease reaches its expiry, ends, frees its amounts and starts an arbiter pass. -/
  | leaseExpiry (cid num : Nat)
  /-- LEASE_REQUEST_TIMEOUT (R322). A queued bundle's request timeout runs out and it ends with TIMEOUT. -/
  | leaseRequestTimeout (cid num : Nat)
  /-- LS_RENEW_WRITE (R319). A write to LS_RENEW sets a held bundle's new expiry unless a queued bundle blocks it. -/
  | lsRenewWrite (r : Req)
  /-- LS_DROP_WRITE (R321). A holder admin writes LS_DROP to end or withdraw another client's bundle of its holder. -/
  | lsDropWrite (r : Req)
  /-- REVOKE_ANY_WRITE (R335). A station admin writes REVOKE_ANY to revoke a bundle after notice. -/
  | revokeAnyWrite (r : Req)
  /-- REVOCATION_EFFECT (R336). The revocation notice of a lease ends and the lease is revoked. -/
  | revocationEffect (cid num : Nat)
  /-- ENDED_SLOT_EXPIRY (R323). 600 s after a bundle ended, its ENDED slot is freed. -/
  | endedSlotExpiry (cid num : Nat)
  /-- TIMER_ARM (R350). A client writes a TMR handle in ABS, REL or PER mode and arms a timer cell. -/
  | timerArm (r : Req)
  /-- TIMER_DISARM (R354). A write of mode 0x00 to a TMR handle disarms it and frees its cell. -/
  | timerDisarm (r : Req)
  /-- TIMER_FIRE (R344). An armed client timer cell reaches its due instant, fires, writes its record and posts or reschedules. -/
  | timerFire (cid handle : Nat)
  /-- PLAN_ENTRY_FIRE (R377). A plan timer entry reaches its due instant and performs its record, doorbell or lease action. -/
  | planEntryFire (hid tag : Nat)
  /-- PLAN_EXCHANGE (R371). At a plan seam with an exchange pending, FB swaps the plan banks and carries, cancels or starts entries. -/
  | planExchange
  /-- EVT_RAW_TRANSITION (R393). A raw transition on a leased event input with FB in RUN gets a fine stamp and starts filtering. -/
  | evtRawTransition (input : Fin 24) (rising upper : Bool) (stamp : Nat)
  /-- EVT_EDGE_QUALIFY (R391). A transition holds for the filter time and qualifies as an edge that writes a record. -/
  | evtEdgeQualify (input : Fin 24) (held : Bool)
  /-- LATCH_EDGE (R397). An AO latch catches an edge while FB is stopped, requests a BK stamp and wakes FB. -/
  | latchEdge (input : Fin 24) (rising upper answered : Bool) (cycles : Nat)
  /-- LATCH_HANDOVER (R400). FB reaches RUN and takes the latched edges from AO, writing their records in stamp order. -/
  | latchHandover
  /-- GRANT_LEVEL_TAKE (R388). After a grant on an input, the filter time passes and the detector takes the input's level. -/
  | grantLevelTake (input : Fin 24) (level retake : Bool)
  /-- L4_EVALUATE (R403). At each whole BK second L4 moves an adaptive input's threshold toward k times the noise RMS. -/
  | l4Evaluate (input : Fin 8) (p : Nat)
  /-- FB_REF_RUN_EXPIRY (R415). 2 s pass without a PPS pulse or NMEA character and FB may stop again. -/
  | fbRefRunExpiry
  /-- CLAIM (R436). A CLAIM takes the oldest unclaimed entry of a ring, or returns a spurious record. -/
  | claim (r : Req)
  /-- COMPLETE (R439). A COMPLETE ends service of a claimed entry and places the stream's next waiting record. -/
  | complete (r : Req)
  /-- RING_STATUS (R440). A RING_STATUS returns the RING_STAT record of a host target. -/
  | ringStatus (r : Req)
  /-- DOORBELL_WRITE (R423). A write to the DOORBELL element posts a message source of the writer's holder. -/
  | doorbellWrite (r : Req)
  /-- EN_SET_WRITE (R448). A write to EN_SET enables a source and places its waiting records. -/
  | enSetWrite (r : Req)
  /-- EN_CLR_WRITE (R448). A write to EN_CLR disables a source so its records wait unplaced. -/
  | enClrWrite (r : Req)
  /-- PEND_SET_WRITE (R448). A write to PEND_SET posts a message source. -/
  | pendSetWrite (r : Req)
  /-- PEND_CLR_WRITE (R449). A write to PEND_CLR withdraws a source's unclaimed entries and waiting records. -/
  | pendClrWrite (r : Req)
  /-- HOLDOFF_END (R453). A hold-off group's timer ends and its held records are placed, restarting the timer if any were. -/
  | holdoffEnd (g : Fin 32)
  /-- CLAIM_TIMEOUT (R442). A claim at T1 or T2 has been held for CLAIM_TMO and ends without completion. -/
  | claimTimeout (target : Fin 3) (seq : Nat)
  /-- T0_CLAIM (R857). With CR in RUN the keeper claims a T0 entry within 10 ms of its placement. -/
  | t0Claim
  /-- NOTIFIER_CLAIM (R441). NW claims a T3 entry, sends a NOTIFY to each matching subscription and completes the entry. -/
  | notifierClaim
  /-- CAN_SEG_TIMEOUT (R469). CAN_SEG_TMO passes between two frames of a message and its reassembly is dropped. -/
  | canSegTimeout (cid tag : Nat)
  /-- CAN_TX_TIMEOUT (R471). A frame unsent CAN_TX_TMO after reaching the queue head has the rest of its message abandoned. -/
  | canTxTimeout
  /-- CAN_BUS_ERROR (R472). A bus error updates the CAN error counts under ISO 11898-1 fault confinement. -/
  | canBusError (tec rec_ : Nat)
  /-- CAN_BOFF_HOLD_EXPIRY (R472). CAN_BOFF_HOLD passes after bus-off and recovery begins. -/
  | canBoffHoldExpiry
  /-- CAN_RECOVERY_COMPLETE (R472). 128 occurrences of 11 recessive bits complete and the controller returns to error active. -/
  | canRecoveryComplete
  /-- T1L_LINK_UP (R478). The 10BASE-T1L link comes up and duplicate address detection runs for every address. -/
  | t1lLinkUp (amp24 master : Bool)
  /-- T1L_LINK_DOWN (R476). The 10BASE-T1L link goes down, queued frames are discarded and PTP goes FAULTY. -/
  | t1lLinkDown
  /-- ICMPV6_ECHO (R480). An ICMPv6 echo request is answered, up to 10 per second. -/
  | icmpv6Echo (f : Eth) (source ident seq : Nat)
  /-- PTP_SYNC_SEND (R488). As master, the device sends a stamped Sync and Follow_Up at its sync interval. -/
  | ptpSyncSend
  /-- HOST_SEND (R500). A SEND host-port command delivers one frame into the inbound queue. -/
  | hostSend (addr typ : Nat) (sound : Bool)
  /-- HOST_FETCH (R497). A FETCH command returns the oldest fetchable frame, which leaves the queue once fully read. -/
  | hostFetch (addr : Nat) (whole : Bool)
  /-- HOST_STATUS (R500). A STATUS command returns the port status, free places and fetchable frames and clears ERR. -/
  | hostStatus (addr : Nat)
  /-- HOST_UNKNOWN_COMMAND (R500). An unknown host-port command sets ERR and the rest of the transaction is ignored. -/
  | hostUnknownCommand (addr : Nat)
  /-- KX_START_WRITE (R536). A write to KX_START opens a key exchange with a signed ephemeral device key. -/
  | kxStartWrite (r : Req)
  /-- KX_PEER_WRITE (R538). A write of the peer point to KX_PEER computes the wrapping and MAC keys. -/
  | kxPeerWrite (r : Req)
  /-- KX_EXPIRY (R540). An open key exchange reaches its expiry and is erased. -/
  | kxExpiry (cid : Nat)
  /-- ZEROIZE_WRITE (R546). A station admin writes 0x5A to ZEROIZE to start a zeroize. -/
  | zeroizeWrite (r : Req)
  /-- ENTROPY_FAULT (R550). The entropy source fails its health test and a kind 0x05 record is written. -/
  | entropyFault
  /-- VIN_OVERVOLTAGE (R552). VIN rises above 62 V and the converter stops within 2 µs and enters FAULT. -/
  | vinOvervoltage (vin : Nat)
  /-- VSYS_OVERVOLTAGE (R556). VSYS exceeds the profile overvoltage limit and the comparator stops the converter. -/
  | vsysOvervoltage (vsys : Nat)
  /-- CHARGE_TRANSITION (R562). A charge-state condition holds for its time and the charger moves state. -/
  | chargeTransition (vin vsys : Nat) (temp : Int) (ntcFault : Bool) (ibat : Int) (longAbsorb : Bool)
  /-- PRECHARGE_TIMEOUT (R562). PRE_TMO minutes pass in PRECHARGE and the charger enters FAULT cause 0x03. -/
  | prechargeTimeout
  /-- CHG_CLEAR_WRITE (R562). A write of 0x01 to CHG_CLEAR clears a precharge-timeout fault. -/
  | chgClearWrite (r : Req)
  /-- L5_EVALUATE (R569). Every 50 ms L5 moves V_ref to track the panel maximum or follow demand. -/
  | l5Evaluate (vin vsys ichg : Nat) (limited : Bool)
  /-- MPPT_SWEEP (R570). Every MPPT_SWEEP seconds L5 measures V_oc and sweeps for the best power point. -/
  | mpptSweep (voc best : Nat)
  /-- L6_EVALUATE (R572). Every 10 s L6 sets the heater duty. -/
  | l6Evaluate (ib : Int) (devMw : Nat)
  /-- L7_EVALUATE (R567). Every second L7 moves the charge current limit toward I7. -/
  | l7Evaluate (temp : Int) (ntcFault : Bool)
  /-- SOC_REST_CORRECTION (R575). After 3,600 s at rest the device sets SOC from the rest voltage. -/
  | socRestCorrection (vsys : Nat)
  /-- HOUR_BOUNDARY (R578). At each hour boundary the keeper stores the hour's net harvest and SOC and the budget is recomputed. -/
  | hourBoundary
  /-- BUDGET_COMPUTE (R577). PW computes the admitted power and sets ENERGY_CAP. -/
  | budgetCompute
  /-- BAT_ALARM_CHANGE (R579). VSYS per cell crosses BAT_LOW or BAT_CUT for its time and BAT_ALARM changes. -/
  | batAlarmChange (vsys : Nat)
  /-- SNOW_CHECK (R582). At each station midnight the device sets or clears SNOW_SUSPECT from daily harvest. -/
  | snowCheck
  /-- PW_NIGHT_WAKE (R581). AO finds VIN or VSYS beyond its night threshold and wakes PW. -/
  | pwNightWake (charge : Int) (vin vsys : Nat)
  /-- RAIL_BAND_CROSS (R592). A rail enters or leaves a warning or fault band after RAIL_FILT samples. -/
  | railBandCross (rail : Fin 8) (band : Fin 4) (entered : Bool) (mv : Nat)
  /-- UP_DELAY_EXPIRY (R595). A rail's UP_DLY passes in WAIT_UP and it enters RAMP. -/
  | upDelayExpiry (rail : Fin 8)
  /-- RAIL_GOOD (R593). A ramping rail reaches its warning-low level and is ON. -/
  | railGood (rail : Fin 8)
  /-- RAMP_TIMEOUT (R595). RAMP_TMO passes without good and the rail enters FAULT cause 0x03. -/
  | rampTimeout (rail : Fin 8)
  /-- DOWN_DELAY_EXPIRY (R596). A rail's turn and DOWN_DLY pass in WAIT_DOWN and it releases its enable into FALL. -/
  | downDelayExpiry (rail : Fin 8)
  /-- RAIL_OFF_REACHED (R598). A released rail falls below its off level and goes OFF or HELD. -/
  | railOffReached (rail : Fin 8)
  /-- DISCHARGE_TIMEOUT (R595). DIS_TMO passes in FALL and the rail enters STUCK. -/
  | dischargeTimeout (rail : Fin 8)
  /-- FLT_N_ASSERTED (R603). FLT_N reads low for FLT_FILT and the device runs its fault-down. -/
  | fltNAsserted
  /-- FLT_N_RELEASE (R600). FLT_MIN has passed with no joined output still going down, so the device stops driving FLT_N. -/
  | fltNRelease (lineHigh : Bool)
  /-- FLT_HOLD_EXPIRY (R605). FLT_N has been high for FLT_HOLD and HELD or retrying FAULT outputs go to OFF. -/
  | fltHoldExpiry (cool : Nat)
  /-- SEQ_CLEAR_WRITE (R605). A write of 0x01 to SEQ_CLEAR clears faults and restores every output's retries. -/
  | seqClearWrite (r : Req)
  /-- RETRY_RESTORE (R605). An output stays ON for 600 s and its retries are set back to FLT_RETRY. -/
  | retryRestore (o : Fin 14)
  /-- LSW_RAMP_DONE (R607). A load switch output reaches 95 % of VSYS and is ON. -/
  | lswRampDone (k : Fin 6)
  /-- LSW_CURRENT_LIMIT (R608). A switch stays in current limit for LSW_TLIM and opens into FAULT. -/
  | lswCurrentLimit (k : Fin 6)
  /-- LSW_OVERTEMP (R609). A switch exceeds 175 °C and opens into FAULT within 10 µs. -/
  | lswOvertemp (k : Fin 6)
  /-- LSW_LOAD_CHECK (R611). A switch's 10 s mean power exceeds 1.25 times the declared amounts and a record is written. -/
  | lswLoadCheck (k : Fin 6) (ma meanMw : Nat)
  /-- MARG_REQ_WRITE (R613). A client writes MARG_REQ to set its margin current. -/
  | margReqWrite (r : Req)
  /-- MARG_TARGET_REACHED (R612). A margin output ramping at 1 µA per ms reaches its target. -/
  | margTargetReached (m : Fin 4)
  /-- WD_KEY_ARM (R628). A write of 0x5C3A to WD_KEY arms a key-mode channel. -/
  | wdKeyArm (r : Option Req)
  /-- WD_KEY_SERVICE (R628). A write of 0xA3C5 to WD_KEY services an armed channel, or is early. -/
  | wdKeyService (r : Option Req)
  /-- WD_KEY_BAD (R629). An unarmed 0xA3C5 or any other WD_KEY value is a bad-key violation. -/
  | wdKeyBad (r : Req)
  /-- WD_CHECKIN (R630). A task writes its slot to WD_CHECKIN, completing the set or being held. -/
  | wdCheckin (r : Req)
  /-- WD_NAP (R633). A write to WD_NAP services the channel and lengthens its next period. -/
  | wdNap (r : Req)
  /-- WD_PERIOD_END (R634). A watchdog period ends without a service that counts, so the channel warns or trips. -/
  | wdPeriodEnd (w : Fin 3)
  /-- WD_WINDOW_OPEN (R631). A watchdog window opens and a held check-in completion counts. -/
  | wdWindowOpen (w : Fin 3)
  /-- WD_GRACE_EXPIRY (R639). A grace period ends without service and counts as a violation. -/
  | wdGraceExpiry (w : Fin 3)
  /-- WD_CLOCK_STOP (R640). The watching clock finds the selected clock stopped and trips the channel. -/
  | wdClockStop (w : Fin 3)
  /-- WD_STATE_ILLEGAL (R624). A watchdog state register holds an illegal code and the channel trips. -/
  | wdStateIllegal (w : Fin 3) (code shadow : Nat)
  /-- WD_RSTO_END (R638). WD_RSTO passes after a host watchdog trip and the reset output is released into grace. -/
  | wdRstoEnd (w : Fin 3)
  /-- TAMPER_ASSERT (R653). A tamper source asserts, BK writes a ring entry and sets the sticky flag, and responses act. -/
  | tamperAssert (src : Fin 13) (detail : Nat)
  /-- TAMPER_RELEASE (R653). A tamper source releases and its release ring entry is written. -/
  | tamperRelease (src : Fin 13)
  /-- TMP_CLEAR_WRITE (R662). A station admin writes TMP_CLEAR to clear sticky flags and end their responses. -/
  | tmpClearWrite (r : Req)
  /-- TAMPER_HOLD_EXPIRY (R666). A host hold's hold time passes and the hold ends. -/
  | tamperHoldExpiry (src : Fin 16)
  /-- SHADOW_MISMATCH (R670). A setting disagrees with its shadow, source 9 asserts and the keeper reloads both copies. -/
  | shadowMismatch (group : Fin 6) (sticky : Nat)
  /-- TMP_TEST_WRITE (R671). A station admin writes TMP_TEST to inject a source's condition. -/
  | tmpTestWrite (r : Req)
  /-- TMP_TEST_END (R672). A built-in test window ends and its outcome is recorded. -/
  | tmpTestEnd (detected : Bool)
  /-- FAC_OPEN_REQUEST (R673). A tool requests the field access port, source 8 asserts and a challenge is returned. -/
  | facOpenRequest
  /-- FAC_SIGNATURE (R673). A tool returns a signature, its two halves, which opens the port after a zeroize, or fails. -/
  | facSignature (r x : Nat)
  /-- FAC_CHALLENGE_EXPIRY (R673). A field access challenge passes its 60 s validity. -/
  | facChallengeExpiry
  /-- FAC_LOCKOUT_END (R674). 10 s after a failed signature the port accepts open requests again. -/
  | facLockoutEnd
  /-- FAC_IDLE_CLOSE (R675). The open field access port sees no frame for 600 s and closes. -/
  | facIdleClose
  /-- LOG_ARCHIVE_WRITE (R681). A holder admin writes LOG_ARCHIVE to free chain entries and sign a new base. -/
  | logArchiveWrite (r : Req)
  /-- EVIDENCE_APPEND (R39). A waiting evidence entry is signed and appended to its chain in order. -/
  | evidenceAppend
  /-- L1_EVALUATE (R688). Every 10 ms L1 moves VCORE within its window on timing margin. -/
  | l1Evaluate (freqs : List Nat) (ts : List Int) (canary : Nat)
  /-- L2_EVALUATE (R690). Every 1 ms L2 adapts the droop threshold. -/
  | l2Evaluate (canary : Bool) (stretched edges : Nat)
  /-- VMON_BAND_CROSS (R685). Two readings of a voltage monitor cross its VMON_LIM level and a record is written. -/
  | vmonBandCross (mon : Fin 8) (high entered : Bool) (mv : Nat)
  /-- LOOP_INPUT_LOST (R698). A loop input misses four periods or faults and the loop holds its output as STALE. -/
  | loopInputLost (loop : Fin 7) (monitor : Nat)
  /-- LOOP_INPUT_RETURN (R698). A lost loop input gives two good readings and the loop resumes. -/
  | loopInputReturn (loop : Fin 7) (monitor : Nat)
  /-- SCRUB_PASS_END (R705). A memory scrubber completes a pass, finding seeds and refreshing aged array blocks. -/
  | scrubPassEnd (mem : Fin 12) (rows programmed : List Nat) (corrected : Nat)
  /-- SEED_REPAIR (R707). A seed row is copied to a spare row and its address switched. -/
  | seedRepair (mem : Fin 7)
  /-- FIELD_REPAIR_STORE (R708). The keeper stores a field repair in the persistent region. -/
  | fieldRepairStore
  /-- ECC_UNCORRECTABLE (R711). An uncorrectable memory error returns ECC_LOST and has its memory's effect. -/
  | eccUncorrectable (obj : EccObj) (row : Nat) (scrub : Bool) (victim : Option Req) (op : Nat)
  /-- BLOCK_RETIRE (R713). An array block is retired, its data moved to a spare block and the block table rewritten. -/
  | blockRetire (mem : Fin 4) (block : Nat)
  /-- TWIN_HELLO_SEND (R753). Every 100 ms until a HELLO is accepted, a half sends a signed HELLO. -/
  | twinHelloSend
  /-- TWIN_HELLO (R754). A half receives a HELLO, verifies the peer, derives the session key and checks versions. -/
  | twinHello (f : Bond) (h : Hello)
  /-- TWIN_HEARTBEAT_SEND (R752). Every 1,250 µs a half sends a HEARTBEAT. -/
  | twinHeartbeatSend
  /-- TWIN_HEARTBEAT (R776). A half accepts a HEARTBEAT, updating leadership and driving shared-rail enables. -/
  | twinHeartbeat (f : Bond) (state word echo count : Nat) (ready : Bool)
  /-- TWIN_HEARTBEAT_MISS (R752). A heartbeat is missed, and at the third miss the link is lost. -/
  | twinHeartbeatMiss
  /-- TWIN_SYNC_SEND (R760). Every 125 ms the halves exchange SYNC frames. -/
  | twinSyncSend
  /-- TWIN_SYNC (R760). A SYNC exchange gives the follower its offset, driving join and time disagreement. -/
  | twinSync (f : Bond) (t1 t2 t3 t4 : Int) (leadState leadUnc leadSigma : Nat) (leadLocked : Bool)
  /-- TWIN_DIGEST_COMPUTE (R768). At each 10 s multiple a half computes and sends its configuration digest. -/
  | twinDigestCompute
  /-- TWIN_DIGEST (R769). A half receives a digest and enters DISCORD or JOINED by comparison. -/
  | twinDigest (f : Bond) (instant digest : Nat)
  /-- TWIN_RECORD (R779). A half receives a forwarded station record and writes it with REMOTE. -/
  | twinRecord (f : Bond) (stamp source kind flags detail : Nat)
  /-- TWIN_COMMIT (R771). A half receives a mirrored commit and checks its twin-shared elements. -/
  | twinCommit (f : Bond) (items : List (Nat × Nat)) (shape : Nat) (both : Bool)
  /-- TWIN_STEP (R766). A half receives a STEP frame and checks the step for joint application. -/
  | twinStep (f : Bond) (delta : Int) (at_ : Nat) (forced both : Bool)
  /-- TWIN_VALUES (R773). A half receives VALUES frames and commits the chosen half's shared values. -/
  | twinValues (f : Bond) (items : List (Nat × Nat))
  /-- TWIN_RESOLVE_WRITE (R773). A station admin writes TWIN_RESOLVE to adopt one role's values in discord. -/
  | twinResolveWrite (r : Req)
  /-- WAKE_N_LOW (R795). WAKE_N is low for 10 µs and FB and CR wake and stay awake. -/
  | wakeNLow
  /-- WAKE_N_HIGH (R795). WAKE_N rises and the islands' idle rules apply again. -/
  | wakeNHigh
  /-- BK_STATE_LOSS (R138). The backup node falls below 1.50 V and BK loses its counters, ring, sticky flags and switch-over counters. -/
  | bkStateLoss
  /-- BK_COPY_RELOAD (R156). At a tick edge a backup counter copy differs from the voted value, is reloaded and counted in BK_RESYNC. -/
  | bkCopyReload (copy : Fin 3) (held : Nat) (voted : Option Nat)
  /-- CONVERTER_VIN_LOW_STOP (R552). VIN falls below VSYS + 0.5 V and the converter stops switching within 2 µs. -/
  | converterVinLowStop (vin vsys : Nat)
  /-- FLT_N_LINE_RELEASED (R604). The shared FLT_N line returns high after another device stops driving it, starting the FLT_HOLD count and writing the released record. -/
  | fltNLineReleased
  /-- BANK_SUPPLY_CHANGE (R790). VDDIO_A or VDDIO_B becomes good or is lost, so the bank's inputs are ignored and its outputs, enables included, are not driven. -/
  | bankSupplyChange (bankB good : Bool)
  /-- PTP_ANNOUNCE_RECEIVED (R483). An Announce message is taken in, runs the best master clock algorithm and moves the port from LISTENING toward UNCALIBRATED or SLAVE. -/
  | ptpAnnounceReceived (f : Eth) (part : Fin 3) (parent : Nat) (utc : Option Int)
  /-- ANNOUNCE_RECEIPT_TIMEOUT (R483). announceReceiptTimeout intervals pass without an Announce, and the port leaves its parent for the state the best master clock algorithm gives. -/
  | announceReceiptTimeout
  /-- PTP_ANNOUNCE_SEND (R487). As master, the device sends an Announce at its announce interval with the clockClass, accuracy and UTC fields of R487. -/
  | ptpAnnounceSend
  /-- PTP_DELAY_REQ_RECEIVED (R488). As master, the device stamps a received Delay_Req and answers with Delay_Resp. -/
  | ptpDelayReqReceived (f : Eth) (requester : Nat)
  /-- CAN_SEGMENT_RECEIVED (R469). A CAN FD frame is taken in and starts, continues, restarts or breaks a reassembly. -/
  | canSegmentReceived (fd : Bool) (dir node cid tag reserved : Nat) (first last : Bool) (index total len : Nat)
  /-- CAN_FRAME_TRANSMITTED (R470). A CAN FD frame is sent successfully, and the transmit queue moves to the next frame or message. -/
  | canFrameTransmitted
  /-- NEIGHBOUR_DISCOVERY_FRAME (R478). A neighbour solicitation or advertisement is taken in, answering it or finding an address duplicated. -/
  | neighbourDiscoveryFrame (f : Eth) (advert : Bool) (target source mac : Nat)
  /-- PPS_OUT_PULSE_END (R211). PPS_W after its rise, PPS_OUT falls. -/
  | ppsOutPulseEnd
  /-- EPISODE_COUNTED (R204). A LOCKED span reaches 3,600 s and is counted as an episode, and LEARN_STATE may become BANDED. -/
  | episodeCounted
  /-- KEY_TABLE_REBUILT (R517). SC finishes rebuilding the client key table after its start and answers frame authentication again. -/
  | keyTableRebuilt
  deriving DecidableEq, Repr

end Sys2Proof
end

