-- ==== Sys2Proof/Decode.lean ====
section
/-! DEFINITION. The opcode table of this block gives its rows no bits: the spec writes no command as a word of a numbered encoding,
so no word spells one. A message's own encoding is read where its operation is (Machine/Operands.lean and the operations). -/
namespace Sys2Proof

/-- The command that a word spells by the table's bits: none. -/
def decodeTableWord (_nbits _w : Nat) : Option Instr := none

end Sys2Proof
end

