-- ==== Sys2Proof/Config.lean ====
section
/-! DEFINITION. What the manual leaves to the part or leaves open: constants without a body, so that no proof sees a value. -/
namespace Sys2Proof.Config

/-- A value the manual leaves open, drawn afresh: the nth value the device draws. The step that draws it advances
State.freeN (log entry 2). -/
opaque freeValue : Nat → Nat

/-- The value set at manufacture of an element of the dictionary, by address (log entry 4). -/
opaque atManufacture : Nat → Nat

/-- L = ln(1 + a / 2,592,000 s) of an age a in units of station time, in units of 2⁻³² (chapter 05, the crystal's aging):
the rounding of the logarithm is the part's. -/
opaque ageLog : Nat → Nat

/-- f_req of a process bank in kHz: the factory-calibrated frequency that it needs for its island's present clock (chapter
19, L1). -/
opaque bankReq : Nat → Nat

/-- Header fields of the image that slot A holds at manufacture (R806): 0 its image version, 1 its capability word, 2 its
schema (log entry 7). -/
opaque deliveredImage : Nat → Nat

/-- The length of a year in units of station time, for the 10 years of R723 (log entry 16). -/
opaque arrayYear : Nat

/-- Blocks, or bytes, in use of a part of the array whose layout is the part's own: 3 the persistent region, 4 the spare pool,
5 the keeper area, by the bytes that are stored (log entry 60). -/
opaque regionUse : Nat → Nat → Nat

/-! ### The functions of the published standards that the keys rest on (chapter 14, log entry 73): the manual names each by its
standard and gives no other definition; a statement about them holds for every such function. -/

/-- HMAC-SHA-256 of a message under a key. -/
opaque hmacSha256 : Bytes → Bytes → Bytes

/-- SHA-256 (FIPS 180-4). -/
opaque sha256 : Bytes → Bytes

/-- AES-CMAC of a message under a key of 16 or 32 bytes, 16 bytes (NIST SP 800-38B). -/
opaque aesCmac : Bytes → Bytes → Bytes

/-- The public point of a P-256 private key, X ‖ Y, as a number of 64 bytes. -/
opaque p256Point : Nat → Nat

/-- A point X ‖ Y in its compressed form, as a number of 33 bytes (SEC 1). -/
def p256Compress (p : Nat) : Nat := (2 + p % 2) * 2 ^ 256 + p / 2 ^ 256 % 2 ^ 256

/-- The public point of a P-256 private key, compressed. -/
def p256Public (k : Nat) : Nat := p256Compress (p256Point k)

/-- The x-coordinate of the point that a private key and a compressed point share; none where the point is not on the curve
(NIST SP 800-56A). -/
opaque p256Shared : Nat → Nat → Option Nat

/-- The two halves of the ECDSA signature of a digest under a private key with a per-message secret (FIPS 186-5). -/
opaque ecdsaSign : Nat → Bytes → Nat → Nat × Nat

/-- An ECDSA signature (r, s) of a digest verifies under a compressed public point (FIPS 186-5). -/
opaque ecdsaVerify : Nat → Bytes → Nat → Nat → Bool

/-- The public points of the firmware roots K1 and K2 (Table: Keeper slots). -/
opaque firmwareRoot : Bool → Nat

/-- The blocks of 512 bytes of the image that slot A holds at manufacture (log entry 7). -/
opaque deliveredBlock : Nat → Bytes

/-- K0, the device identity key, generated on die at manufacture (Table: Keeper slots). -/
opaque identityKey : Nat

end Sys2Proof.Config
end

