-- ==== Sys2Proof/Machine/Bits.lean ====
section
/-! DEFINITION. Reading and writing numbers in bytes and bit fields (R250: most significant byte first). -/
namespace List

/-- An element placed before the first that it may precede. -/
def insertBy {α : Type} (le : α → α → Bool) (a : α) : List α → List α
  | [] => [a]
  | b :: t => if le a b then a :: b :: t else b :: insertBy le a t

/-- A list in order, elements of equal rank as they stood. -/
def sortBy {α : Type} (l : List α) (le : α → α → Bool) : List α := l.foldr (insertBy le) []

end List

namespace Sys2Proof.Machine

/-- The number that bytes spell, most significant byte first (R250). -/
def bytesToNum (b : Bytes) : Nat := b.foldl (fun a x => a * 256 + x.toNat) 0

/-- The n bytes that spell the low 8n bits of v, most significant byte first (R250). -/
def numToBytes : (n v : Nat) → Bytes
  | 0, _ => []
  | n + 1, v => BitVec.ofNat 8 (v / 256 ^ n) :: numToBytes n v

/-- The bytes of an ASCII string. -/
def ascii (s : String) : Bytes := s.toList.map (fun c => BitVec.ofNat 8 c.toNat)

/-- Two's complement reading of the low `bits` bits of v. -/
def signed (bits v : Nat) : Int :=
  let u := v % 2 ^ bits
  if u < 2 ^ (bits - 1) then u else (u : Int) - 2 ^ bits

/-- The low `bits` bits of an integer, in two's complement. -/
def unsigned (bits : Nat) (v : Int) : Nat := (v % (2 ^ bits : Int)).toNat

/-- The field of v that stands at bits lo+n−1 down to lo. -/
def field (v lo n : Nat) : Nat := v / 2 ^ lo % 2 ^ n

/-- v with the field at bits lo+n−1 down to lo set to x. -/
def setField (v lo n x : Nat) : Nat :=
  v - field v lo n * 2 ^ lo + (x % 2 ^ n) * 2 ^ lo

/-- v held between lo and hi. -/
def clampInt (v lo hi : Int) : Int := max lo (min v hi)

/-- Bit k of v. -/
def bitOf (v k : Nat) : Bool := v / 2 ^ k % 2 == 1

/-- v with bit k set or cleared. -/
def setBit (v k : Nat) (b : Bool) : Nat := setField v k 1 (if b then 1 else 0)

end Sys2Proof.Machine
end

