-- ==== Sys2Proof/Machine/Reg.lean ====
section
/-! DEFINITION. The addresses of the dictionary's elements by the spec's names: index times 256 plus element (R250, the
element tables of the chapters). A name with an argument i is the element of number i counted from 0 in its range. -/
namespace Sys2Proof.Machine.Reg

abbrev VENDOR : Nat := 0x100001
abbrev FAMILY : Nat := 0x100002
abbrev PRODUCT : Nat := 0x100003
abbrev GRADE : Nat := 0x100004
abbrev ORDER_CODE : Nat := 0x100005
abbrev LOT : Nat := 0x100006
abbrev DATE_CODE : Nat := 0x100007
abbrev PACKAGE : Nat := 0x100008
abbrev RESET_CAUSE : Nat := 0x100101
abbrev RESET_COUNT : Nat := 0x100103
abbrev STRAPS : Nat := 0x100104
abbrev BOOT_SLOT : Nat := 0x100105
abbrev SERVICE_MODE : Nat := 0x100106
abbrev TIME_STATE : Nat := 0x100107
abbrev BOOT_ST : Nat := 0x100108
abbrev DEV_RESET : Nat := 0x100109
abbrev RSTO_EXT : Nat := 0x10010A
abbrev BOOT_LOST : Nat := 0x10010B
abbrev BOOT_PREF : Nat := 0x10010C
abbrev EXCH_VERSION : Nat := 0x101001
abbrev SCHEMA_VER : Nat := 0x101002
abbrev MAX_BODY : Nat := 0x101003
abbrev REFUSE_DLY_T : Nat := 0x101004
abbrev REFUSE_DLY_Q : Nat := 0x101005
abbrev REFUSE_DLY_C : Nat := 0x101006
abbrev REFUSE_UNBOUND : Nat := 0x101007
abbrev MSG_DROPPED : Nat := 0x101008
abbrev ST_NOW : Nat := 0x110001
abbrev ST_QUAL : Nat := 0x110002
abbrev TAI_UTC : Nat := 0x110003
abbrev CAL_UTC : Nat := 0x110004
abbrev TIME_STEP : Nat := 0x110005
abbrev TIME_STEP_F : Nat := 0x110006
abbrev TIME_SET : Nat := 0x110007
abbrev STEP_BLOCK : Nat := 0x110008
abbrev STEP_LAST_AT : Nat := 0x110009
abbrev STEP_LAST_SIZE : Nat := 0x11000A
abbrev STEP_COUNT : Nat := 0x11000B
abbrev SLEW_REM : Nat := 0x11000C
abbrev SLEW_ADD : Nat := 0x11000D
abbrev SLEW_PPM : Nat := 0x11000E
abbrev LEAP_COUNT : Nat := 0x11000F
abbrev LEAP_EXPIRES : Nat := 0x110010
abbrev LEAP_ENTRY (i : Nat) : Nat := 0x110020 + i
abbrev X32_STATE : Nat := 0x120001
abbrev X32_DRIVE : Nat := 0x120002
abbrev X32_DRIVE_MAX : Nat := 0x120003
abbrev X32_CL : Nat := 0x120004
abbrev XTAL_T_OFS : Nat := 0x120005
abbrev PRIOR_T0 : Nat := 0x120006
abbrev PRIOR_BETA : Nat := 0x120007
abbrev PRIOR_TOL : Nat := 0x120008
abbrev COMP_DT : Nat := 0x120009
abbrev COMP_WORD : Nat := 0x12000A
abbrev BK_COMP : Nat := 0x12000B
abbrev XTAL_T : Nat := 0x12000C
abbrev LFRC_CAL_S : Nat := 0x12000D
abbrev LFRC_RESID : Nat := 0x12000E
abbrev LFRC_TRIM : Nat := 0x12000F
abbrev THETA_C0 : Nat := 0x120010
abbrev THETA_C1 : Nat := 0x120011
abbrev THETA_C2 : Nat := 0x120012
abbrev THETA_C3 : Nat := 0x120013
abbrev THETA_A : Nat := 0x120014
abbrev LEARN_SIGMA : Nat := 0x120015
abbrev LEARN_STATE : Nat := 0x120016
abbrev EPISODES : Nat := 0x120017
abbrev LEARN_LO : Nat := 0x120018
abbrev LEARN_HI : Nat := 0x120019
abbrev AGE_ORIGIN : Nat := 0x12001A
abbrev LEARN_RESET : Nat := 0x12001B
abbrev REF_SEL : Nat := 0x12001C
abbrev REF_ACTIVE : Nat := 0x12001D
abbrev REF_STATE : Nat := 0x12001E
abbrev REF_OFFSET : Nat := 0x12001F
abbrev PPS_TOL : Nat := 0x120020
abbrev PTP_DLY_TOL : Nat := 0x120021
abbrev PPS_DELAY : Nat := 0x120022
abbrev REF_LABEL : Nat := 0x120023
abbrev REF_ACCEPT : Nat := 0x120024
abbrev DISC_TAU : Nat := 0x120025
abbrev STEP_THR : Nat := 0x120026
abbrev HOLD_UNC : Nat := 0x120027
abbrev HOLD_START : Nat := 0x120028
abbrev OUTAGE_CORR : Nat := 0x120029
abbrev REF_REJECT : Nat := 0x12002A
abbrev PPS_MODE : Nat := 0x12002B
abbrev PPS_W : Nat := 0x12002C
abbrev PPS_GATE : Nat := 0x12002D
abbrev PPS_UNC_MAX : Nat := 0x12002E
abbrev XH_PPB : Nat := 0x12002F
abbrev AORC_HZ : Nat := 0x120030
abbrev BK_SUPPLY : Nat := 0x130001
abbrev VBK_MV : Nat := 0x130002
abbrev VBK_LOW_MV : Nat := 0x130003
abbrev BK_SOURCE : Nat := 0x130004
abbrev TRICKLE_MV : Nat := 0x130005
abbrev TRICKLE_UA : Nat := 0x130006
abbrev SWO_COUNT : Nat := 0x130007
abbrev SWO_LAST : Nat := 0x130008
abbrev SWO_RETURN : Nat := 0x130009
abbrev BK_ON_VBK_S : Nat := 0x13000A
abbrev RING_FILL : Nat := 0x13000B
abbrev RING_OVER : Nat := 0x13000C
abbrev BK_RESYNC : Nat := 0x13000D
abbrev BK_VOTE : Nat := 0x13000E
abbrev RING_SLOT (i : Nat) : Nat := 0x130010 + i
abbrev PLAN_LIVE : Nat := 0x140001
abbrev PLAN_PENDING : Nat := 0x140002
abbrev PLAN_SEAM_AT : Nat := 0x140003
abbrev PLAN_SEAM : Nat := 0x140004
abbrev PLAN_GEN : Nat := 0x140005
abbrev TM_FREE : Nat := 0x140006
abbrev TM_COLLAPSED : Nat := 0x140007
abbrev TM_FIRES : Nat := 0x140008
abbrev REC_FREE : Nat := 0x150001
abbrev REC_LOW : Nat := 0x150002
abbrev REC_OVERRUN_ALL : Nat := 0x150003
abbrev NMEA_BAUD : Nat := 0x150010
abbrev NMEA_PAIR : Nat := 0x150011
abbrev NMEA_DELAY : Nat := 0x150012
abbrev NMEA_GOOD : Nat := 0x150013
abbrev NMEA_BAD : Nat := 0x150014
abbrev NMEA_LAST : Nat := 0x150015
abbrev PPS_IN_POL : Nat := 0x150016
abbrev PPS_COUNT : Nat := 0x150017
abbrev EVT_PIN (i : Nat) : Nat := 0x150101 + i
abbrev L4_FENCE (i : Nat) : Nat := 0x150201 + i
abbrev TGT_OWNER : Nat := 0x160001
abbrev HINT_EN : Nat := 0x160002
abbrev CLAIM_TMO : Nat := 0x160003
abbrev DLV_EPOCH : Nat := 0x160004
abbrev RING_WAITS : Nat := 0x160005
abbrev CLAIM_RETURNED : Nat := 0x160006
abbrev DOORBELL : Nat := 0x160007
abbrev EN_SET : Nat := 0x160008
abbrev EN_CLR : Nat := 0x160009
abbrev PEND_SET : Nat := 0x16000A
abbrev PEND_CLR : Nat := 0x16000B
abbrev RING_STAT (i : Nat) : Nat := 0x160010 + i
abbrev GRP_CFG (i : Nat) : Nat := 0x160101 + i
abbrev SRC_CFG (i : Nat) : Nat := 0x160200 + i
abbrev SRC_ROUTE (i : Nat) : Nat := 0x160480 + i
abbrev SRC_EN (i : Nat) : Nat := 0x160601 + i
abbrev SRC_PEND (i : Nat) : Nat := 0x160701 + i
abbrev SRC_ACTIVE (i : Nat) : Nat := 0x160801 + i
abbrev ARB_QUEUED : Nat := 0x170001
abbrev ARB_HELD : Nat := 0x170002
abbrev ARB_RESERVED : Nat := 0x170003
abbrev ARB_DMAX : Nat := 0x170004
abbrev ARB_S : Nat := 0x170005
abbrev ARB_QMAX : Nat := 0x170006
abbrev OVF_TIMERS : Nat := 0x170007
abbrev OVF_RECORDS : Nat := 0x170008
abbrev REVOKE_NOTICE : Nat := 0x170009
abbrev REVOKE_ANY : Nat := 0x17000A
abbrev ARB_GRANTS : Nat := 0x17000B
abbrev ARB_REVOKES : Nat := 0x17000C
abbrev RES_CFG (i : Nat) : Nat := 0x170101 + i
abbrev RES_LIVE (i : Nat) : Nat := 0x170201 + i
abbrev STANDING (i : Nat) : Nat := 0x170301 + i
abbrev CM_PENDING : Nat := 0x180001
abbrev CM_NEXT_AT : Nat := 0x180002
abbrev CM_ABORTS : Nat := 0x180003
abbrev CM_WITHDRAW_ANY : Nat := 0x180004
abbrev PARISON_IDLE : Nat := 0x180005
abbrev PORT_EN : Nat := 0x190001
abbrev CAN_NODE : Nat := 0x190101
abbrev CAN_RATE : Nat := 0x190102
abbrev CAN_MODE : Nat := 0x190103
abbrev CAN_NTF_PRIO : Nat := 0x190104
abbrev CAN_SEG_TMO : Nat := 0x190105
abbrev CAN_TX_TMO : Nat := 0x190106
abbrev CAN_BOFF_HOLD : Nat := 0x190107
abbrev CAN_STATE : Nat := 0x190108
abbrev CAN_ERRCNT : Nat := 0x190109
abbrev CAN_BOFF_COUNT : Nat := 0x19010A
abbrev CAN_SEG_DROP : Nat := 0x19010B
abbrev CAN_NTF_DROP : Nat := 0x19010C
abbrev T1L_MAC : Nat := 0x190201
abbrev T1L_AMPL : Nat := 0x190202
abbrev T1L_AN : Nat := 0x190203
abbrev T1L_MS : Nat := 0x190204
abbrev T1L_LINK : Nat := 0x190205
abbrev T1L_DOWN_COUNT : Nat := 0x190206
abbrev T1L_FCS_ERR : Nat := 0x190207
abbrev T1L_DROPPED : Nat := 0x190208
abbrev IP6_LL : Nat := 0x190210
abbrev IP6_ADDR (i : Nat) : Nat := 0x190211 + i
abbrev IP6_GW : Nat := 0x190213
abbrev IP6_HOPS : Nat := 0x190214
abbrev MALNAN_PORT : Nat := 0x190215
abbrev IP6_DAD : Nat := 0x190216
abbrev PTP_ROLE : Nat := 0x190301
abbrev PTP_DOMAIN : Nat := 0x190302
abbrev PTP_PRIO : Nat := 0x190303
abbrev PTP_INTERVALS : Nat := 0x190304
abbrev PTP_SCOPE : Nat := 0x190305
abbrev PTP_ASYM : Nat := 0x190306
abbrev PTP_HOLD_SPEC : Nat := 0x190307
abbrev PTP_CLOCK_ID : Nat := 0x190308
abbrev PTP_STATE : Nat := 0x190309
abbrev PTP_PARENT : Nat := 0x19030A
abbrev PTP_MPD : Nat := 0x19030B
abbrev PTP_CLASS : Nat := 0x19030C
abbrev HP_MODE : Nat := 0x190401
abbrev I2C_ADDR : Nat := 0x190402
abbrev HINT_CFG : Nat := 0x190403
abbrev HP_DROPPED : Nat := 0x190404
abbrev DEV_UID : Nat := 0x1A0001
abbrev DEV_ID_X : Nat := 0x1A0002
abbrev DEV_ID_Y : Nat := 0x1A0003
abbrev ROOT_DIGEST_A : Nat := 0x1A0004
abbrev ROOT_DIGEST_B : Nat := 0x1A0005
abbrev FRESH_WIN : Nat := 0x1A0006
abbrev AUTH_EPOCH : Nat := 0x1A0007
abbrev AUTH_EPOCH_N : Nat := 0x1A0008
abbrev KEY_WARN : Nat := 0x1A0009
abbrev ZEROIZE : Nat := 0x1A000A
abbrev ZEROIZE_COUNT : Nat := 0x1A000B
abbrev ZEROIZE_LAST : Nat := 0x1A000C
abbrev KX_LIFE : Nat := 0x1A000D
abbrev PROV_STATE : Nat := 0x1A000E
abbrev K0_USES : Nat := 0x1A000F
abbrev ZEROIZE_DONE : Nat := 0x1A0010
abbrev CHG_EN : Nat := 0x1B0001
abbrev CHG_STATE : Nat := 0x1B0002
abbrev CHG_FAULT : Nat := 0x1B0003
abbrev CHG_CLEAR : Nat := 0x1B0004
abbrev MPPT_FSW : Nat := 0x1B0005
abbrev CSH_UOHM : Nat := 0x1B0006
abbrev CHG_IMAX : Nat := 0x1B0007
abbrev MPPT_VMIN : Nat := 0x1B0008
abbrev MPPT_VMAX : Nat := 0x1B0009
abbrev MPPT_SWEEP : Nat := 0x1B000A
abbrev VIN_MV : Nat := 0x1B000B
abbrev PV_MW : Nat := 0x1B000C
abbrev VMPP_MV : Nat := 0x1B000D
abbrev HARV_DAY : Nat := 0x1B000E
abbrev SNOW_SUSPECT : Nat := 0x1B000F
abbrev BAT_CHEM : Nat := 0x1B0101
abbrev BAT_CAP_AH : Nat := 0x1B0102
abbrev CV_MV : Nat := 0x1B0103
abbrev FLOAT_MV : Nat := 0x1B0104
abbrev RECH_MV : Nat := 0x1B0105
abbrev CHG_T_LO : Nat := 0x1B0106
abbrev CHG_T_HI : Nat := 0x1B0107
abbrev CHG_CRATE : Nat := 0x1B0108
abbrev ABSORB_MAX : Nat := 0x1B0109
abbrev PRE_TMO : Nat := 0x1B010A
abbrev BSH_UOHM : Nat := 0x1B010B
abbrev NTC_R25 : Nat := 0x1B010C
abbrev NTC_BETA : Nat := 0x1B010D
abbrev BAT_V : Nat := 0x1B010E
abbrev BAT_I : Nat := 0x1B010F
abbrev BAT_T : Nat := 0x1B0110
abbrev SOC : Nat := 0x1B0111
abbrev SOC_STALE : Nat := 0x1B0112
abbrev BAT_LOW_MV : Nat := 0x1B0113
abbrev BAT_CUT_MV : Nat := 0x1B0114
abbrev HTR_MODE : Nat := 0x1B0201
abbrev HTR_W : Nat := 0x1B0202
abbrev HTR_T_SET : Nat := 0x1B0203
abbrev HTR_DUTY_MAX : Nat := 0x1B0204
abbrev HTR_SOC_MIN : Nat := 0x1B0205
abbrev HTR_BAT_TOL : Nat := 0x1B0206
abbrev HTR_DUTY : Nat := 0x1B0207
abbrev ENERGY_CAP : Nat := 0x1B0301
abbrev P_ADM_MW : Nat := 0x1B0302
abbrev P_HARV_MW : Nat := 0x1B0303
abbrev BUDGET_WIN : Nat := 0x1B0304
abbrev BUDGET_HORIZON : Nat := 0x1B0305
abbrev BAT_RESERVE : Nat := 0x1B0306
abbrev ENERGY_MAX : Nat := 0x1B0307
abbrev BAT_ALARM : Nat := 0x1B0308
abbrev DEV_MW : Nat := 0x1B0309
abbrev FLT_CFG : Nat := 0x1C0001
abbrev FLT_STATUS : Nat := 0x1C0002
abbrev FLT_COUNT : Nat := 0x1C0003
abbrev SEQ_CLEAR : Nat := 0x1C0004
abbrev COLLAPSE_COUNT : Nat := 0x1C0005
abbrev COLLAPSE_LAST : Nat := 0x1C0006
abbrev RAIL_CFG (i : Nat) : Nat := 0x1C0101 + i
abbrev RAIL_LVL (i : Nat) : Nat := 0x1C0201 + i
abbrev RAIL_MV (i : Nat) : Nat := 0x1C0301 + i
abbrev OUT_STATE (i : Nat) : Nat := 0x1C0401 + i
abbrev LSW_CFG (i : Nat) : Nat := 0x1C0501 + i
abbrev LSW_MA (i : Nat) : Nat := 0x1C0601 + i
abbrev MARG_CFG (i : Nat) : Nat := 0x1C0701 + i
abbrev MARG_NOW (i : Nat) : Nat := 0x1C0801 + i
abbrev WD_MODE (w : Nat) : Nat := 0x1D0101 + 256 * w
abbrev WD_PERIOD (w : Nat) : Nat := 0x1D0102 + 256 * w
abbrev WD_CLOCK (w : Nat) : Nat := 0x1D0103 + 256 * w
abbrev WD_WIN (w : Nat) : Nat := 0x1D0104 + 256 * w
abbrev WD_GRACE (w : Nat) : Nat := 0x1D0105 + 256 * w
abbrev WD_RSTO (w : Nat) : Nat := 0x1D0106 + 256 * w
abbrev WD_TASKS (w : Nat) : Nat := 0x1D0107 + 256 * w
abbrev WD_KEY (w : Nat) : Nat := 0x1D0108 + 256 * w
abbrev WD_CHECKIN (w : Nat) : Nat := 0x1D0109 + 256 * w
abbrev WD_NAP (w : Nat) : Nat := 0x1D010A + 256 * w
abbrev WD_NAP_MAX (w : Nat) : Nat := 0x1D010B + 256 * w
abbrev WD_STATE (w : Nat) : Nat := 0x1D010C + 256 * w
abbrev WD_WARNS (w : Nat) : Nat := 0x1D010D + 256 * w
abbrev WD_TRIPS (w : Nat) : Nat := 0x1D010E + 256 * w
abbrev WD_LAST_TRIP (w : Nat) : Nat := 0x1D010F + 256 * w
abbrev TMP_STICKY : Nat := 0x1E0001
abbrev TMP_ACTIVE : Nat := 0x1E0002
abbrev TMP_CLEAR : Nat := 0x1E0003
abbrev TMP_HOLDING : Nat := 0x1E0004
abbrev TEMP_LO : Nat := 0x1E0005
abbrev TEMP_HI : Nat := 0x1E0006
abbrev TMP_TEST : Nat := 0x1E0007
abbrev TMP_TEST_RES : Nat := 0x1E0008
abbrev FAC_KEY : Nat := 0x1E0009
abbrev FAC_UNTIL : Nat := 0x1E000A
abbrev FAC_STATE : Nat := 0x1E000B
abbrev FAC_OPENS : Nat := 0x1E000C
abbrev TMP_CFG (i : Nat) : Nat := 0x1E0010 + i
abbrev TMPO_CFG : Nat := 0x1E0014
abbrev REACTION (i : Nat) : Nat := 0x1E0101 + i
abbrev TS_T (i : Nat) : Nat := 0x1F0001 + i
abbrev TS_EXT (i : Nat) : Nat := 0x1F0101 + i
abbrev VMON_MV (i : Nat) : Nat := 0x1F0201 + i
abbrev VMON_LIM (i : Nat) : Nat := 0x1F0301 + i
abbrev PROC_F (i : Nat) : Nat := 0x1F0401 + i
abbrev PROC_AGE (i : Nat) : Nat := 0x1F0501 + i
abbrev CANARY : Nat := 0x1F0601
abbrev LOOP_STATE (i : Nat) : Nat := 0x1F1001 + i
abbrev LOOP_FENCED (i : Nat) : Nat := 0x1F1101 + i
abbrev LOOP_STALE (i : Nat) : Nat := 0x1F1201 + i
abbrev L1_FENCE : Nat := 0x1F2001
abbrev L1_MARGIN : Nat := 0x1F2002
abbrev L2_FENCE : Nat := 0x1F2003
abbrev SAFETY_ACTIVE : Nat := 0x1F2004
abbrev REPAIR_RESERVE : Nat := 0x1F3001
abbrev REPAIR_MIN_CLASS : Nat := 0x1F3002
abbrev REPAIR_CLASS (i : Nat) : Nat := 0x1F3101 + i
abbrev ECC_STAT (i : Nat) : Nat := 0x1F3201 + i
abbrev ISL_STATE (i : Nat) : Nat := 0x1F8001 + i
abbrev ISL_REQ (i : Nat) : Nat := 0x1F8101 + i
abbrev CH_ABANDON (i : Nat) : Nat := 0x1F8201 + i
abbrev ISL_HOLD (i : Nat) : Nat := 0x1F8301 + i
abbrev CH_STUCK : Nat := 0x1F8401
abbrev NV_REGION (i : Nat) : Nat := 0x200001 + i
abbrev NV_CYCLES_MAX : Nat := 0x200006
abbrev NV_AGE_MAX : Nat := 0x200007
abbrev NV_REFRESHES : Nat := 0x200008
abbrev NV_SET_USE : Nat := 0x200009
abbrev FW_SLOT_INFO (i : Nat) : Nat := 0x200101 + i
abbrev FW_SESSION : Nat := 0x200103
abbrev FW_TRIAL_S : Nat := 0x200104
abbrev FW_TRIAL_LEFT : Nat := 0x200105
abbrev FW_FLOOR : Nat := 0x200106
abbrev FW_STEPPING : Nat := 0x200107
abbrev FW_FEATURES : Nat := 0x200108
abbrev SCHEMA_SETS : Nat := 0x200109
abbrev TWIN_STATE : Nat := 0x210001
abbrev TWIN_REASON : Nat := 0x210002
abbrev TWIN_PEER_ID : Nat := 0x210003
abbrev TWIN_LEADER : Nat := 0x210004
abbrev TWIN_OFFSET : Nat := 0x210005
abbrev TWIN_T_THR : Nat := 0x210006
abbrev TWIN_JOIN_T : Nat := 0x210007
abbrev TWIN_DIGEST : Nat := 0x210008
abbrev TWIN_PEER_DIGEST : Nat := 0x210009
abbrev TWIN_DIGEST_AT : Nat := 0x21000A
abbrev TWIN_RESOLVE : Nat := 0x21000B
abbrev TWIN_SPLITS : Nat := 0x21000C
abbrev TWIN_LAST_SPLIT : Nat := 0x21000D
abbrev TWIN_PEER_CAP : Nat := 0x21000E
abbrev TWIN_LINK_ERR : Nat := 0x21000F
abbrev FLEET_T_THR : Nat := 0x210010
abbrev FLEET_OFFSET : Nat := 0x210011
abbrev FLEET_STATE : Nat := 0x210012
abbrev CID_BIND (cid : Nat) : Nat := 0x400001 + 256 * cid
abbrev REFUSALS (cid : Nat) : Nat := 0x400030 + 256 * cid
abbrev REFUSE_LAST (cid : Nat) : Nat := 0x400031 + 256 * cid
abbrev IN_PROGRESS (cid : Nat) : Nat := 0x400032 + 256 * cid
abbrev AUTH_CTR_IN (cid : Nat) : Nat := 0x400033 + 256 * cid
abbrev AUTH_CTR_OUT (cid : Nat) : Nat := 0x400034 + 256 * cid
abbrev SUB (cid i : Nat) : Nat := 0x400038 + 256 * cid + i
abbrev PARISON_FILL (cid : Nat) : Nat := 0x400040 + 256 * cid
abbrev CM_WITHDRAW (cid : Nat) : Nat := 0x400041 + 256 * cid
abbrev CM_PEND (cid i : Nat) : Nat := 0x400042 + 256 * cid + i
abbrev CM_LAST (cid : Nat) : Nat := 0x400046 + 256 * cid
abbrev LS_RENEW (cid : Nat) : Nat := 0x400048 + 256 * cid
abbrev LS_DROP (cid : Nat) : Nat := 0x400049 + 256 * cid
abbrev LS_SLOT (cid i : Nat) : Nat := 0x400050 + 256 * cid + i
abbrev TMR (cid i : Nat) : Nat := 0x400070 + 256 * cid + i
abbrev KX_START (cid : Nat) : Nat := 0x400090 + 256 * cid
abbrev KX_DEV_EPH (cid : Nat) : Nat := 0x400091 + 256 * cid
abbrev KX_CTX (cid : Nat) : Nat := 0x400092 + 256 * cid
abbrev KX_SIG_R (cid : Nat) : Nat := 0x400093 + 256 * cid
abbrev KX_SIG_S (cid : Nat) : Nat := 0x400094 + 256 * cid
abbrev KX_PEER (cid : Nat) : Nat := 0x400095 + 256 * cid
abbrev KX_WRAP (cid : Nat) : Nat := 0x400096 + 256 * cid
abbrev KX_TAG (cid : Nat) : Nat := 0x400097 + 256 * cid
abbrev EVT_SET (cid i : Nat) : Nat := 0x4000A0 + 256 * cid + i
abbrev EVT_NF (cid i : Nat) : Nat := 0x4000B8 + 256 * cid + i
abbrev EVT_LOST (cid i : Nat) : Nat := 0x4000C0 + 256 * cid + i
abbrev EVT_COUNT (cid i : Nat) : Nat := 0x4000D8 + 256 * cid + i
abbrev MARG_REQ (cid i : Nat) : Nat := 0x4000F0 + 256 * cid + i
abbrev HOLDER_STATE (hid : Nat) : Nat := 0x500001 + 256 * hid
abbrev LOCAL_OFS (hid : Nat) : Nat := 0x500010 + 256 * hid
abbrev CAL_LOCAL (hid : Nat) : Nat := 0x500011 + 256 * hid
abbrev WEIGHT (hid : Nat) : Nat := 0x500020 + 256 * hid
abbrev TIMER_QUOTA (hid : Nat) : Nat := 0x500021 + 256 * hid
abbrev REC_QUOTA (hid : Nat) : Nat := 0x500022 + 256 * hid
abbrev LEASE_MAX (hid : Nat) : Nat := 0x500023 + 256 * hid
abbrev DEFICIT (hid : Nat) : Nat := 0x500024 + 256 * hid
abbrev TIMERS_USED (hid : Nat) : Nat := 0x500025 + 256 * hid
abbrev RECS_USED (hid : Nat) : Nat := 0x500026 + 256 * hid
abbrev REC_DROPPED (hid : Nat) : Nat := 0x500027 + 256 * hid
abbrev WAIT_MAX (hid : Nat) : Nat := 0x500028 + 256 * hid
abbrev REC_OVERRUNS (hid : Nat) : Nat := 0x500029 + 256 * hid
abbrev PLAN_ALLOT (hid : Nat) : Nat := 0x50002A + 256 * hid
abbrev PLAN_FAIL (hid : Nat) : Nat := 0x50002B + 256 * hid
abbrev PLAN_CELLS (hid : Nat) : Nat := 0x50002C + 256 * hid
abbrev HOLDER_ROUTE (hid : Nat) : Nat := 0x500030 + 256 * hid
abbrev KEY_STATE (hid : Nat) : Nat := 0x500040 + 256 * hid
abbrev KEY_GEN (hid : Nat) : Nat := 0x500041 + 256 * hid
abbrev KEY_ALG (hid : Nat) : Nat := 0x500042 + 256 * hid
abbrev KEY_USES (hid : Nat) : Nat := 0x500043 + 256 * hid
abbrev KEY_ERASE (hid : Nat) : Nat := 0x500044 + 256 * hid
abbrev SHED_CLASS (hid : Nat) : Nat := 0x500050 + 256 * hid
abbrev LOG_QUOTA (hid : Nat) : Nat := 0x500060 + 256 * hid
abbrev LOG_USED (hid : Nat) : Nat := 0x500061 + 256 * hid
abbrev LOG_STATE (hid : Nat) : Nat := 0x500062 + 256 * hid
abbrev LOG_HEAD (hid : Nat) : Nat := 0x500063 + 256 * hid
abbrev LOG_HEAD_R (hid i : Nat) : Nat := 0x500064 + 256 * hid + i
abbrev LOG_BASE (hid : Nat) : Nat := 0x500066 + 256 * hid
abbrev LOG_BASE_R (hid i : Nat) : Nat := 0x500067 + 256 * hid + i
abbrev LOG_ARCHIVE (hid : Nat) : Nat := 0x500069 + 256 * hid
abbrev LOG_LOST (hid : Nat) : Nat := 0x50006A + 256 * hid
abbrev LOG_WARN (hid : Nat) : Nat := 0x50006B + 256 * hid
abbrev PLAN_ENTRY (hid i : Nat) : Nat := 0x500080 + 256 * hid + i

end Sys2Proof.Machine.Reg
end

