-- ==== Sys2Proof/Machine/Catalog.lean ====
section
/-! DEFINITION. The catalog of the dictionary: every element's type, access classes, default, persistence, staging,
home island and range, as the element tables of the chapters and chapters 25 and 26 give them. -/
namespace Sys2Proof.Machine

/-- The access classes of R15: keeper, station admin, holder admin, own client, any client, observer. -/
inductive Acc where | k | sa | ha | oc | ac | ob
  deriving DecidableEq, Repr

/-- The types of an element (Table: Types); the number is its size in bytes. -/
inductive Ty where
  | u (n : Nat) | s (n : Nat) | bool | oct (n : Nat) | str (n : Nat)
  deriving DecidableEq, Repr

/-- What an element reads as when nothing has written it. -/
inductive Dflt where
  /-- The default the element's table gives. -/
  | val (v : Nat)
  /-- A live value that nothing has measured yet. -/
  | live
  /-- A value set at manufacture. -/
  | mfr
  deriving DecidableEq, Repr

/-- One row of an element table: first and last address, type, read and write class, default, persistent, staged, home
island, and for a scalar its least and greatest value and the step of its set (0, 0, 0 for no limit but its type). -/
structure Row where
  lo : Nat
  hi : Nat
  ty : Ty
  rd : Acc
  wr : Acc
  dflt : Dflt
  persist : Bool
  staged : Bool
  home : Island
  min : Int
  max : Int
  step : Nat
  deriving DecidableEq, Repr

/-- The elements of the dictionary, piece 0, in order of address: the element tables of the chapters. -/
def rows0 : List Row := [
  ⟨0x100001, 0x100001, .str 16, .ob, .k, .mfr, true, false, .cr, 0, 0, 0⟩,  -- VENDOR
  ⟨0x100002, 0x100002, .str 16, .ob, .k, .mfr, true, false, .cr, 0, 0, 0⟩,  -- FAMILY
  ⟨0x100003, 0x100003, .str 16, .ob, .k, .mfr, true, false, .cr, 0, 0, 0⟩,  -- PRODUCT
  ⟨0x100004, 0x100004, .u 1, .ob, .k, .mfr, true, false, .cr, 0, 0, 0⟩,  -- GRADE
  ⟨0x100005, 0x100005, .str 16, .ob, .k, .mfr, true, false, .cr, 0, 0, 0⟩,  -- ORDER_CODE
  ⟨0x100006, 0x100006, .str 8, .ob, .k, .mfr, true, false, .cr, 0, 0, 0⟩,  -- LOT
  ⟨0x100007, 0x100007, .u 2, .ob, .k, .mfr, true, false, .cr, 0, 0, 0⟩,  -- DATE_CODE
  ⟨0x100008, 0x100008, .u 1, .ob, .k, .val 1, true, false, .cr, 0, 0, 0⟩,  -- PACKAGE
  ⟨0x100101, 0x100101, .u 1, .ha, .k, .live, false, false, .cr, 0, 0, 0⟩,  -- RESET_CAUSE
  ⟨0x100103, 0x100103, .u 4, .ha, .k, .val 0, true, false, .cr, 0, 0, 0⟩,  -- RESET_COUNT
  ⟨0x100104, 0x100104, .u 4, .ha, .k, .live, false, false, .ao, 0, 0, 0⟩,  -- STRAPS
  ⟨0x100105, 0x100105, .u 1, .ob, .k, .live, false, false, .cr, 0, 0, 0⟩,  -- BOOT_SLOT
  ⟨0x100106, 0x100106, .u 1, .ob, .k, .live, false, false, .cr, 0, 0, 0⟩,  -- SERVICE_MODE
  ⟨0x100107, 0x100107, .u 1, .ob, .k, .live, false, false, .cr, 0, 0, 0⟩,  -- TIME_STATE
  ⟨0x100108, 0x100108, .u 8, .ha, .k, .live, false, false, .cr, 0, 0, 0⟩,  -- BOOT_ST
  ⟨0x100109, 0x100109, .u 1, .sa, .sa, .val 0, false, false, .cr, 0, 0, 0⟩,  -- DEV_RESET
  ⟨0x10010A, 0x10010A, .u 2, .sa, .sa, .val 10, true, false, .cr, 1, 1000, 1⟩,  -- RSTO_EXT
  ⟨0x10010B, 0x10010B, .u 2, .sa, .k, .live, false, false, .cr, 0, 0, 0⟩,  -- BOOT_LOST
  ⟨0x10010C, 0x10010C, .u 1, .sa, .k, .val 1, true, false, .cr, 0, 0, 0⟩,  -- BOOT_PREF
  ⟨0x101001, 0x101001, .u 1, .ob, .k, .val 1, false, false, .cr, 0, 0, 0⟩,  -- EXCH_VERSION
  ⟨0x101002, 0x101002, .u 2, .ob, .k, .live, false, false, .cr, 0, 0, 0⟩,  -- SCHEMA_VER
  ⟨0x101003, 0x101003, .u 2, .ob, .k, .val 1024, false, false, .cr, 0, 0, 0⟩,  -- MAX_BODY
  ⟨0x101004, 0x101004, .u 4, .ob, .k, .val 250, false, false, .cr, 0, 0, 0⟩,  -- REFUSE_DLY_T
  ⟨0x101005, 0x101005, .u 4, .ob, .k, .val 5000, false, false, .cr, 0, 0, 0⟩,  -- REFUSE_DLY_Q
  ⟨0x101006, 0x101006, .u 4, .ob, .k, .val 20000, false, false, .cr, 0, 0, 0⟩,  -- REFUSE_DLY_C
  ⟨0x101007, 0x101007, .u 4, .k, .k, .val 0, false, false, .cr, 0, 0, 0⟩,  -- REFUSE_UNBOUND
  ⟨0x101008, 0x101008, .u 4, .sa, .k, .val 0, false, false, .cr, 0, 0, 0⟩,  -- MSG_DROPPED
  ⟨0x110001, 0x110001, .u 8, .ob, .k, .live, false, false, .fb, 0, 0, 0⟩,  -- ST_NOW
  ⟨0x110002, 0x110002, .u 4, .ob, .k, .live, false, false, .fb, 0, 0, 0⟩,  -- ST_QUAL
  ⟨0x110003, 0x110003, .s 2, .ob, .k, .live, false, false, .fb, 0, 0, 0⟩,  -- TAI_UTC
  ⟨0x110004, 0x110004, .oct 16, .ob, .k, .live, false, false, .fb, 0, 0, 0⟩,  -- CAL_UTC
  ⟨0x110005, 0x110005, .s 8, .sa, .sa, .val 0, false, false, .fb, 0, 0, 0⟩,  -- TIME_STEP
  ⟨0x110006, 0x110006, .s 8, .sa, .sa, .val 0, false, false, .fb, 0, 0, 0⟩,  -- TIME_STEP_F
  ⟨0x110007, 0x110007, .u 8, .sa, .sa, .val 0, false, false, .fb, 0, 0, 0⟩,  -- TIME_SET
  ⟨0x110008, 0x110008, .u 8, .sa, .k, .val 0, false, false, .fb, 0, 0, 0⟩,  -- STEP_BLOCK
  ⟨0x110009, 0x110009, .u 8, .ha, .k, .val 0, true, false, .fb, 0, 0, 0⟩  -- STEP_LAST_AT
]

/-- The elements of the dictionary, piece 1, in order of address: the element tables of the chapters. -/
def rows1 : List Row := [
  ⟨0x11000A, 0x11000A, .s 8, .ha, .k, .val 0, true, false, .fb, 0, 0, 0⟩,  -- STEP_LAST_SIZE
  ⟨0x11000B, 0x11000B, .u 4, .ha, .k, .val 0, true, false, .fb, 0, 0, 0⟩,  -- STEP_COUNT
  ⟨0x11000C, 0x11000C, .s 8, .ob, .k, .val 0, false, false, .fb, 0, 0, 0⟩,  -- SLEW_REM
  ⟨0x11000D, 0x11000D, .s 8, .sa, .sa, .val 0, false, false, .fb, 0, 0, 0⟩,  -- SLEW_ADD
  ⟨0x11000E, 0x11000E, .u 2, .ha, .sa, .val 100, true, true, .fb, 1, 500, 1⟩,  -- SLEW_PPM
  ⟨0x11000F, 0x11000F, .u 1, .ob, .sa, .val 5, true, true, .fb, 0, 48, 1⟩,  -- LEAP_COUNT
  ⟨0x110010, 0x110010, .u 8, .ob, .sa, .mfr, true, true, .fb, 0, 0, 0⟩,  -- LEAP_EXPIRES
  ⟨0x110020, 0x110020, .oct 10, .ob, .sa, .val 0xB49D82100000000021, true, true, .fb, 0, 0, 0⟩,  -- LEAP_ENTRY
  ⟨0x110021, 0x110021, .oct 10, .ob, .sa, .val 0x10EEC42200000000022, true, true, .fb, 0, 0, 0⟩,  -- LEAP_ENTRY
  ⟨0x110022, 0x110022, .oct 10, .ob, .sa, .val 0x17824FA300000000023, true, true, .fb, 0, 0, 0⟩,  -- LEAP_ENTRY
  ⟨0x110023, 0x110023, .oct 10, .ob, .sa, .val 0x1D25EA2400000000024, true, true, .fb, 0, 0, 0⟩,  -- LEAP_ENTRY
  ⟨0x110024, 0x110024, .oct 10, .ob, .sa, .val 0x1FFB032500000000025, true, true, .fb, 0, 0, 0⟩,  -- LEAP_ENTRY
  ⟨0x110025, 0x11004F, .oct 10, .ob, .sa, .val 0, true, true, .fb, 0, 0, 0⟩,  -- LEAP_ENTRY
  ⟨0x120001, 0x120001, .u 1, .ob, .k, .live, false, false, .bk, 0, 0, 0⟩,  -- X32_STATE
  ⟨0x120002, 0x120002, .u 1, .ha, .k, .live, false, false, .bk, 0, 0, 0⟩,  -- X32_DRIVE
  ⟨0x120003, 0x120003, .u 1, .ha, .sa, .val 15, true, true, .fb, 0, 15, 1⟩,  -- X32_DRIVE_MAX
  ⟨0x120004, 0x120004, .u 1, .ha, .sa, .val 70, true, true, .fb, 60, 125, 5⟩,  -- X32_CL
  ⟨0x120005, 0x120005, .s 2, .ha, .sa, .val 0, true, true, .fb, -1000, 1000, 1⟩,  -- XTAL_T_OFS
  ⟨0x120006, 0x120006, .s 2, .ha, .sa, .val 2500, true, true, .fb, 1000, 4000, 1⟩,  -- PRIOR_T0
  ⟨0x120007, 0x120007, .u 2, .ha, .sa, .val 340, true, true, .fb, 100, 600, 1⟩,  -- PRIOR_BETA
  ⟨0x120008, 0x120008, .u 2, .ha, .sa, .val 20, true, true, .fb, 1, 200, 1⟩,  -- PRIOR_TOL
  ⟨0x120009, 0x120009, .u 2, .ha, .sa, .val 50, true, true, .fb, 10, 500, 1⟩,  -- COMP_DT
  ⟨0x12000A, 0x12000A, .s 4, .ha, .k, .live, false, false, .fb, 0, 0, 0⟩,  -- COMP_WORD
  ⟨0x12000B, 0x12000B, .s 4, .ha, .k, .live, false, false, .fb, 0, 0, 0⟩,  -- BK_COMP
  ⟨0x12000C, 0x12000C, .s 2, .ob, .k, .live, false, false, .fb, 0, 0, 0⟩,  -- XTAL_T
  ⟨0x12000D, 0x12000D, .u 4, .ha, .sa, .val 86400, true, true, .fb, 3600, 2592000, 1⟩,  -- LFRC_CAL_S
  ⟨0x12000E, 0x12000E, .u 4, .ha, .k, .val 15000000, true, false, .fb, 0, 0, 0⟩,  -- LFRC_RESID
  ⟨0x12000F, 0x12000F, .s 1, .ha, .k, .live, false, false, .fb, 0, 0, 0⟩,  -- LFRC_TRIM
  ⟨0x120010, 0x120010, .s 4, .ha, .k, .val 0, true, false, .fb, 0, 0, 0⟩,  -- THETA_C0
  ⟨0x120011, 0x120011, .s 4, .ha, .k, .val 0, true, false, .fb, 0, 0, 0⟩,  -- THETA_C1
  ⟨0x120012, 0x120012, .s 4, .ha, .k, .val 0xFFFF7B30, true, false, .fb, 0, 0, 0⟩,  -- THETA_C2
  ⟨0x120013, 0x120013, .s 4, .ha, .k, .val 0, true, false, .fb, 0, 0, 0⟩,  -- THETA_C3
  ⟨0x120014, 0x120014, .s 4, .ha, .k, .val 0, true, false, .fb, 0, 0, 0⟩,  -- THETA_A
  ⟨0x120015, 0x120015, .u 4, .ob, .k, .live, false, false, .fb, 0, 0, 0⟩,  -- LEARN_SIGMA
  ⟨0x120016, 0x120016, .u 1, .ob, .k, .val 0, true, false, .fb, 0, 0, 0⟩,  -- LEARN_STATE
  ⟨0x120017, 0x120017, .u 2, .ob, .k, .val 0, true, false, .fb, 0, 0, 0⟩  -- EPISODES
]

/-- The elements of the dictionary, piece 2, in order of address: the element tables of the chapters. -/
def rows2 : List Row := [
  ⟨0x120018, 0x120018, .s 2, .ob, .k, .val 0, true, false, .fb, 0, 0, 0⟩,  -- LEARN_LO
  ⟨0x120019, 0x120019, .s 2, .ob, .k, .val 0, true, false, .fb, 0, 0, 0⟩,  -- LEARN_HI
  ⟨0x12001A, 0x12001A, .u 8, .ha, .k, .val 0, true, false, .fb, 0, 0, 0⟩,  -- AGE_ORIGIN
  ⟨0x12001B, 0x12001B, .u 1, .sa, .sa, .val 0, false, false, .fb, 0, 0, 0⟩,  -- LEARN_RESET
  ⟨0x12001C, 0x12001C, .u 1, .ha, .sa, .val 0, true, true, .fb, 0, 255, 1⟩,  -- REF_SEL
  ⟨0x12001D, 0x12001D, .u 1, .ob, .k, .live, false, false, .fb, 0, 0, 0⟩,  -- REF_ACTIVE
  ⟨0x12001E, 0x12001E, .u 1, .ob, .k, .live, false, false, .fb, 0, 0, 0⟩,  -- REF_STATE
  ⟨0x12001F, 0x12001F, .s 8, .ob, .k, .val 0, false, false, .fb, 0, 0, 0⟩,  -- REF_OFFSET
  ⟨0x120020, 0x120020, .u 4, .ha, .sa, .val 1000, true, true, .fb, 100, 100000, 1⟩,  -- PPS_TOL
  ⟨0x120021, 0x120021, .u 2, .ha, .sa, .val 1000, true, true, .fb, 100, 60000, 1⟩,  -- PTP_DLY_TOL
  ⟨0x120022, 0x120022, .s 4, .ha, .sa, .val 0, true, true, .fb, -1000000, 1000000, 1⟩,  -- PPS_DELAY
  ⟨0x120023, 0x120023, .u 8, .sa, .sa, .val 0, false, false, .fb, 0, 0, 0⟩,  -- REF_LABEL
  ⟨0x120024, 0x120024, .u 1, .sa, .sa, .val 0, false, false, .fb, 0, 0, 0⟩,  -- REF_ACCEPT
  ⟨0x120025, 0x120025, .u 2, .ha, .sa, .val 64, true, true, .fb, 16, 1024, 1⟩,  -- DISC_TAU
  ⟨0x120026, 0x120026, .u 4, .ha, .sa, .val 128000, true, true, .fb, 1000, 10000000, 1⟩,  -- STEP_THR
  ⟨0x120027, 0x120027, .u 4, .ob, .k, .live, false, false, .fb, 0, 0, 0⟩,  -- HOLD_UNC
  ⟨0x120028, 0x120028, .u 8, .ob, .k, .val 0, true, false, .fb, 0, 0, 0⟩,  -- HOLD_START
  ⟨0x120029, 0x120029, .s 4, .ha, .k, .val 0, false, false, .fb, 0, 0, 0⟩,  -- OUTAGE_CORR
  ⟨0x12002A, 0x12002A, .u 4, .ha, .k, .val 0, false, false, .fb, 0, 0, 0⟩,  -- REF_REJECT
  ⟨0x12002B, 0x12002B, .u 1, .ha, .sa, .val 0, true, true, .fb, 0, 2, 1⟩,  -- PPS_MODE
  ⟨0x12002C, 0x12002C, .u 4, .ha, .sa, .val 100000, true, true, .fb, 1, 500000, 1⟩,  -- PPS_W
  ⟨0x12002D, 0x12002D, .u 1, .ha, .sa, .val 1, true, true, .fb, 0, 2, 1⟩,  -- PPS_GATE
  ⟨0x12002E, 0x12002E, .u 4, .ha, .sa, .val 1000, true, true, .fb, 10, 1000000000, 1⟩,  -- PPS_UNC_MAX
  ⟨0x12002F, 0x12002F, .s 4, .ha, .k, .live, false, false, .fb, 0, 0, 0⟩,  -- XH_PPB
  ⟨0x120030, 0x120030, .u 4, .ha, .k, .live, false, false, .fb, 0, 0, 0⟩,  -- AORC_HZ
  ⟨0x130001, 0x130001, .u 1, .ob, .k, .live, false, false, .bk, 0, 0, 0⟩,  -- BK_SUPPLY
  ⟨0x130002, 0x130002, .u 2, .ha, .k, .live, false, false, .ao, 0, 0, 0⟩,  -- VBK_MV
  ⟨0x130003, 0x130003, .u 2, .ha, .sa, .val 2000, true, true, .bk, 1700, 3600, 10⟩,  -- VBK_LOW_MV
  ⟨0x130004, 0x130004, .u 1, .ha, .sa, .val 0, true, true, .bk, 0, 1, 1⟩,  -- BK_SOURCE
  ⟨0x130005, 0x130005, .u 2, .ha, .sa, .val 2700, true, true, .bk, 2000, 3600, 100⟩,  -- TRICKLE_MV
  ⟨0x130006, 0x130006, .u 1, .ha, .sa, .val 0, true, true, .bk, 0, 200, 1⟩,  -- TRICKLE_UA
  ⟨0x130007, 0x130007, .u 4, .ha, .k, .val 0, false, false, .bk, 0, 0, 0⟩,  -- SWO_COUNT
  ⟨0x130008, 0x130008, .u 8, .ha, .k, .val 0, false, false, .bk, 0, 0, 0⟩,  -- SWO_LAST
  ⟨0x130009, 0x130009, .u 8, .ha, .k, .val 0, false, false, .bk, 0, 0, 0⟩,  -- SWO_RETURN
  ⟨0x13000A, 0x13000A, .u 4, .ha, .k, .val 0, false, false, .bk, 0, 0, 0⟩,  -- BK_ON_VBK_S
  ⟨0x13000B, 0x13000B, .u 1, .sa, .k, .val 0, false, false, .bk, 0, 0, 0⟩  -- RING_FILL
]

/-- The elements of the dictionary, piece 3, in order of address: the element tables of the chapters. -/
def rows3 : List Row := [
  ⟨0x13000C, 0x13000C, .u 2, .sa, .k, .val 0, false, false, .bk, 0, 0, 0⟩,  -- RING_OVER
  ⟨0x13000D, 0x13000D, .u 2, .ha, .k, .val 0, false, false, .bk, 0, 0, 0⟩,  -- BK_RESYNC
  ⟨0x13000E, 0x13000E, .u 4, .ha, .k, .val 0, false, false, .bk, 0, 0, 0⟩,  -- BK_VOTE
  ⟨0x130010, 0x130017, .oct 12, .sa, .k, .val 0, false, false, .bk, 0, 0, 0⟩,  -- RING_SLOT
  ⟨0x140001, 0x140001, .u 1, .ob, .k, .val 1, true, false, .fb, 0, 0, 0⟩,  -- PLAN_LIVE
  ⟨0x140002, 0x140002, .u 1, .ob, .k, .val 0, true, false, .fb, 0, 0, 0⟩,  -- PLAN_PENDING
  ⟨0x140003, 0x140003, .u 8, .ob, .k, .live, false, false, .fb, 0, 0, 0⟩,  -- PLAN_SEAM_AT
  ⟨0x140004, 0x140004, .u 4, .ob, .sa, .val 600, true, true, .fb, 1, 86400, 1⟩,  -- PLAN_SEAM
  ⟨0x140005, 0x140005, .u 4, .ob, .k, .val 0, true, false, .fb, 0, 0, 0⟩,  -- PLAN_GEN
  ⟨0x140006, 0x140006, .u 2, .sa, .k, .live, false, false, .fb, 0, 0, 0⟩,  -- TM_FREE
  ⟨0x140007, 0x140007, .u 4, .sa, .k, .val 0, false, false, .fb, 0, 0, 0⟩,  -- TM_COLLAPSED
  ⟨0x140008, 0x140008, .u 4, .sa, .k, .val 0, false, false, .fb, 0, 0, 0⟩,  -- TM_FIRES
  ⟨0x150001, 0x150001, .u 2, .sa, .k, .live, false, false, .fb, 0, 0, 0⟩,  -- REC_FREE
  ⟨0x150002, 0x150002, .u 2, .sa, .k, .val 16384, false, false, .fb, 0, 0, 0⟩,  -- REC_LOW
  ⟨0x150003, 0x150003, .u 4, .sa, .k, .val 0, false, false, .fb, 0, 0, 0⟩,  -- REC_OVERRUN_ALL
  ⟨0x150010, 0x150010, .u 1, .ha, .sa, .val 0, true, true, .fb, 0, 4, 1⟩,  -- NMEA_BAUD
  ⟨0x150011, 0x150011, .u 1, .ha, .sa, .val 0, true, true, .fb, 0, 1, 1⟩,  -- NMEA_PAIR
  ⟨0x150012, 0x150012, .s 4, .ha, .sa, .val 0, true, true, .fb, -1000000, 1000000, 1⟩,  -- NMEA_DELAY
  ⟨0x150013, 0x150013, .u 4, .ha, .k, .val 0, false, false, .fb, 0, 0, 0⟩,  -- NMEA_GOOD
  ⟨0x150014, 0x150014, .u 4, .ha, .k, .val 0, false, false, .fb, 0, 0, 0⟩,  -- NMEA_BAD
  ⟨0x150015, 0x150015, .u 8, .ha, .k, .val 0, false, false, .fb, 0, 0, 0⟩,  -- NMEA_LAST
  ⟨0x150016, 0x150016, .u 1, .ha, .sa, .val 0, true, true, .fb, 0, 1, 1⟩,  -- PPS_IN_POL
  ⟨0x150017, 0x150017, .u 4, .ha, .k, .val 0, false, false, .fb, 0, 0, 0⟩,  -- PPS_COUNT
  ⟨0x150101, 0x150118, .u 1, .ha, .sa, .val 0, true, true, .ao, 0, 5, 1⟩,  -- EVT_PIN
  ⟨0x150201, 0x150208, .oct 4, .ha, .sa, .val 0x204B0, true, true, .ao, 0, 0, 0⟩,  -- L4_FENCE
  ⟨0x160001, 0x160001, .oct 2, .ob, .sa, .val 0xFFFF, true, true, .fb, 0, 0, 0⟩,  -- TGT_OWNER
  ⟨0x160002, 0x160002, .u 1, .ha, .sa, .val 3, true, true, .fb, 0, 0, 0⟩,  -- HINT_EN
  ⟨0x160003, 0x160003, .oct 4, .ha, .sa, .val 0x0, true, true, .fb, 0, 0, 0⟩,  -- CLAIM_TMO
  ⟨0x160004, 0x160004, .u 2, .ob, .k, .live, false, false, .fb, 0, 0, 0⟩,  -- DLV_EPOCH
  ⟨0x160005, 0x160005, .u 4, .sa, .k, .val 0, false, false, .fb, 0, 0, 0⟩,  -- RING_WAITS
  ⟨0x160006, 0x160006, .u 4, .sa, .k, .val 0, false, false, .fb, 0, 0, 0⟩,  -- CLAIM_RETURNED
  ⟨0x160007, 0x160007, .u 2, .ac, .ac, .val 0, false, false, .fb, 0, 0, 0⟩,  -- DOORBELL
  ⟨0x160008, 0x160008, .u 2, .ac, .ac, .val 0, false, false, .fb, 0, 0, 0⟩,  -- EN_SET
  ⟨0x160009, 0x160009, .u 2, .ac, .ac, .val 0, false, false, .fb, 0, 0, 0⟩,  -- EN_CLR
  ⟨0x16000A, 0x16000A, .u 2, .ac, .ac, .val 0, false, false, .fb, 0, 0, 0⟩,  -- PEND_SET
  ⟨0x16000B, 0x16000B, .u 2, .ac, .ac, .val 0, false, false, .fb, 0, 0, 0⟩  -- PEND_CLR
]

/-- The elements of the dictionary, piece 4, in order of address: the element tables of the chapters. -/
def rows4 : List Row := [
  ⟨0x160010, 0x160013, .oct 9, .sa, .k, .live, false, false, .fb, 0, 0, 0⟩,  -- RING_STAT
  ⟨0x160101, 0x160120, .oct 3, .ha, .sa, .val 0xFF0000, true, true, .fb, 0, 0, 0⟩,  -- GRP_CFG
  ⟨0x160200, 0x1603FE, .oct 2, .ha, .sa, .val 0xFFFF, true, true, .fb, 0, 0, 0⟩,  -- SRC_CFG
  ⟨0x160480, 0x1605FE, .oct 2, .ac, .ha, .val 0x200, true, true, .fb, 0, 0, 0⟩,  -- SRC_ROUTE
  ⟨0x160601, 0x16060F, .u 4, .ac, .k, .val 0xFFFFFFFF, false, false, .fb, 0, 0, 0⟩,  -- SRC_EN
  ⟨0x160610, 0x160610, .u 4, .ac, .k, .val 0x7FFFFFFF, false, false, .fb, 0, 0, 0⟩,  -- SRC_EN
  ⟨0x160701, 0x160710, .u 4, .ac, .k, .val 0, false, false, .fb, 0, 0, 0⟩,  -- SRC_PEND
  ⟨0x160801, 0x160810, .u 4, .ac, .k, .val 0, false, false, .fb, 0, 0, 0⟩,  -- SRC_ACTIVE
  ⟨0x170001, 0x170001, .u 2, .sa, .k, .val 0, false, false, .fb, 0, 0, 0⟩,  -- ARB_QUEUED
  ⟨0x170002, 0x170002, .u 2, .sa, .k, .val 0, false, false, .fb, 0, 0, 0⟩,  -- ARB_HELD
  ⟨0x170003, 0x170003, .u 2, .sa, .k, .val 0, false, false, .fb, 0, 0, 0⟩,  -- ARB_RESERVED
  ⟨0x170004, 0x170004, .u 2, .ha, .k, .live, false, false, .fb, 0, 0, 0⟩,  -- ARB_DMAX
  ⟨0x170005, 0x170005, .u 2, .ob, .k, .val 12, false, false, .fb, 0, 0, 0⟩,  -- ARB_S
  ⟨0x170006, 0x170006, .u 2, .ha, .sa, .val 64, true, true, .fb, 16, 1024, 1⟩,  -- ARB_QMAX
  ⟨0x170007, 0x170007, .u 2, .ha, .k, .val 7168, false, false, .fb, 0, 0, 0⟩,  -- OVF_TIMERS
  ⟨0x170008, 0x170008, .u 2, .ha, .k, .val 14336, false, false, .fb, 0, 0, 0⟩,  -- OVF_RECORDS
  ⟨0x170009, 0x170009, .u 2, .ha, .sa, .val 5000, true, true, .fb, 1000, 60000, 1⟩,  -- REVOKE_NOTICE
  ⟨0x17000A, 0x17000A, .u 4, .sa, .sa, .val 0, false, false, .fb, 0, 0, 0⟩,  -- REVOKE_ANY
  ⟨0x17000B, 0x17000B, .u 4, .sa, .k, .val 0, false, false, .fb, 0, 0, 0⟩,  -- ARB_GRANTS
  ⟨0x17000C, 0x17000C, .u 4, .sa, .k, .val 0, false, false, .fb, 0, 0, 0⟩,  -- ARB_REVOKES
  ⟨0x170101, 0x170118, .oct 14, .sa, .sa, .val 0x10E1001000000000000000001, true, true, .fb, 0, 0, 0⟩,  -- RES_CFG
  ⟨0x170119, 0x170120, .oct 14, .sa, .sa, .val 0x3E80E1001000000000000000001, true, true, .fb, 0, 0, 0⟩,  -- RES_CFG
  ⟨0x170121, 0x170126, .oct 14, .sa, .sa, .val 0x1F40E1001000000000000000001, true, true, .fb, 0, 0, 0⟩,  -- RES_CFG
  ⟨0x170127, 0x17012A, .oct 14, .sa, .sa, .val 0x1025801000000000000000001, true, true, .fb, 0, 0, 0⟩,  -- RES_CFG
  ⟨0x17012B, 0x17012B, .oct 14, .sa, .sa, .val 0x1000000000000000001, true, true, .fb, 0, 0, 0⟩,  -- RES_CFG
  ⟨0x17012C, 0x17012D, .oct 14, .sa, .sa, .val 0xE1001000000000000000001, true, true, .fb, 0, 0, 0⟩,  -- RES_CFG
  ⟨0x170201, 0x17022D, .oct 8, .sa, .k, .live, false, false, .fb, 0, 0, 0⟩,  -- RES_LIVE
  ⟨0x170301, 0x170310, .oct 4, .sa, .sa, .val 0xFFFF0000, true, true, .fb, 0, 0, 0⟩,  -- STANDING
  ⟨0x180001, 0x180001, .u 2, .sa, .k, .val 0, false, false, .fb, 0, 0, 0⟩,  -- CM_PENDING
  ⟨0x180002, 0x180002, .u 8, .sa, .k, .val 0, false, false, .fb, 0, 0, 0⟩,  -- CM_NEXT_AT
  ⟨0x180003, 0x180003, .u 4, .sa, .k, .val 0, false, false, .fb, 0, 0, 0⟩,  -- CM_ABORTS
  ⟨0x180004, 0x180004, .u 4, .sa, .sa, .val 0, false, false, .fb, 0, 0, 0⟩,  -- CM_WITHDRAW_ANY
  ⟨0x180005, 0x180005, .u 4, .ha, .sa, .val 3600, true, true, .fb, 60, 86400, 1⟩,  -- PARISON_IDLE
  ⟨0x190001, 0x190001, .u 1, .ob, .sa, .val 7, true, true, .nw, 0, 0, 0⟩,  -- PORT_EN
  ⟨0x190101, 0x190101, .u 1, .ha, .sa, .val 16, true, true, .nw, 0, 127, 1⟩,  -- CAN_NODE
  ⟨0x190102, 0x190102, .u 1, .ha, .sa, .val 34, true, true, .nw, 0, 0, 0⟩  -- CAN_RATE
]

/-- The elements of the dictionary, piece 5, in order of address: the element tables of the chapters. -/
def rows5 : List Row := [
  ⟨0x190103, 0x190103, .u 1, .ha, .sa, .val 0, true, true, .nw, 0, 1, 1⟩,  -- CAN_MODE
  ⟨0x190104, 0x190104, .u 1, .ha, .sa, .val 4, true, true, .nw, 0, 7, 1⟩,  -- CAN_NTF_PRIO
  ⟨0x190105, 0x190105, .u 2, .ha, .sa, .val 100, true, true, .nw, 10, 1000, 1⟩,  -- CAN_SEG_TMO
  ⟨0x190106, 0x190106, .u 2, .ha, .sa, .val 500, true, true, .nw, 10, 5000, 1⟩,  -- CAN_TX_TMO
  ⟨0x190107, 0x190107, .u 2, .ha, .sa, .val 1000, true, true, .nw, 0, 60000, 1⟩,  -- CAN_BOFF_HOLD
  ⟨0x190108, 0x190108, .u 1, .ob, .k, .live, false, false, .nw, 0, 0, 0⟩,  -- CAN_STATE
  ⟨0x190109, 0x190109, .oct 2, .ha, .k, .live, false, false, .nw, 0, 0, 0⟩,  -- CAN_ERRCNT
  ⟨0x19010A, 0x19010A, .u 4, .ha, .k, .val 0, false, false, .nw, 0, 0, 0⟩,  -- CAN_BOFF_COUNT
  ⟨0x19010B, 0x19010B, .u 4, .ha, .k, .val 0, false, false, .nw, 0, 0, 0⟩,  -- CAN_SEG_DROP
  ⟨0x19010C, 0x19010C, .u 4, .ha, .k, .val 0, false, false, .nw, 0, 0, 0⟩,  -- CAN_NTF_DROP
  ⟨0x190201, 0x190201, .oct 6, .ob, .k, .mfr, true, false, .nw, 0, 0, 0⟩,  -- T1L_MAC
  ⟨0x190202, 0x190202, .u 1, .ha, .sa, .val 0, true, true, .nw, 0, 2, 1⟩,  -- T1L_AMPL
  ⟨0x190203, 0x190203, .u 1, .ha, .sa, .val 0, true, true, .nw, 0, 1, 1⟩,  -- T1L_AN
  ⟨0x190204, 0x190204, .u 1, .ha, .sa, .val 0, true, true, .nw, 0, 3, 1⟩,  -- T1L_MS
  ⟨0x190205, 0x190205, .oct 4, .ob, .k, .live, false, false, .nw, 0, 0, 0⟩,  -- T1L_LINK
  ⟨0x190206, 0x190206, .u 4, .ha, .k, .val 0, false, false, .nw, 0, 0, 0⟩,  -- T1L_DOWN_COUNT
  ⟨0x190207, 0x190207, .u 4, .ha, .k, .val 0, false, false, .nw, 0, 0, 0⟩,  -- T1L_FCS_ERR
  ⟨0x190208, 0x190208, .u 4, .ha, .k, .val 0, false, false, .nw, 0, 0, 0⟩,  -- T1L_DROPPED
  ⟨0x190210, 0x190210, .oct 16, .ob, .k, .live, false, false, .nw, 0, 0, 0⟩,  -- IP6_LL
  ⟨0x190211, 0x190212, .oct 16, .ob, .sa, .val 0, true, true, .nw, 0, 0, 0⟩,  -- IP6_ADDR
  ⟨0x190213, 0x190213, .oct 16, .ha, .sa, .val 0, true, true, .nw, 0, 0, 0⟩,  -- IP6_GW
  ⟨0x190214, 0x190214, .u 1, .ha, .sa, .val 64, true, true, .nw, 1, 255, 1⟩,  -- IP6_HOPS
  ⟨0x190215, 0x190215, .u 2, .ob, .sa, .val 61024, true, true, .nw, 1024, 65535, 1⟩,  -- MALNAN_PORT
  ⟨0x190216, 0x190216, .u 1, .ha, .k, .val 0, false, false, .nw, 0, 0, 0⟩,  -- IP6_DAD
  ⟨0x190301, 0x190301, .u 1, .ha, .sa, .val 1, true, true, .nw, 0, 3, 1⟩,  -- PTP_ROLE
  ⟨0x190302, 0x190302, .u 1, .ob, .sa, .val 0, true, true, .nw, 0, 127, 1⟩,  -- PTP_DOMAIN
  ⟨0x190303, 0x190303, .oct 2, .ha, .sa, .val 0x8080, true, true, .nw, 0, 0, 0⟩,  -- PTP_PRIO
  ⟨0x190304, 0x190304, .oct 4, .ha, .sa, .val 0x1000003, true, true, .nw, 0, 0, 0⟩,  -- PTP_INTERVALS
  ⟨0x190305, 0x190305, .u 1, .ha, .sa, .val 2, true, true, .nw, 2, 14, 12⟩,  -- PTP_SCOPE
  ⟨0x190306, 0x190306, .s 4, .ha, .sa, .val 0, true, true, .nw, -1000000, 1000000, 1⟩,  -- PTP_ASYM
  ⟨0x190307, 0x190307, .u 4, .ha, .sa, .val 1000000, true, true, .nw, 100, 1000000000, 1⟩,  -- PTP_HOLD_SPEC
  ⟨0x190308, 0x190308, .oct 8, .ob, .k, .mfr, true, false, .nw, 0, 0, 0⟩,  -- PTP_CLOCK_ID
  ⟨0x190309, 0x190309, .u 1, .ob, .k, .live, false, false, .nw, 0, 0, 0⟩,  -- PTP_STATE
  ⟨0x19030A, 0x19030A, .oct 10, .ob, .k, .live, false, false, .nw, 0, 0, 0⟩,  -- PTP_PARENT
  ⟨0x19030B, 0x19030B, .s 4, .ha, .k, .live, false, false, .nw, 0, 0, 0⟩,  -- PTP_MPD
  ⟨0x19030C, 0x19030C, .u 1, .ob, .k, .live, false, false, .nw, 0, 0, 0⟩  -- PTP_CLASS
]

/-- The elements of the dictionary, piece 6, in order of address: the element tables of the chapters. -/
def rows6 : List Row := [
  ⟨0x190401, 0x190401, .u 1, .ob, .k, .live, false, false, .nw, 0, 0, 0⟩,  -- HP_MODE
  ⟨0x190402, 0x190402, .u 1, .ha, .sa, .val 92, true, true, .nw, 8, 119, 1⟩,  -- I2C_ADDR
  ⟨0x190403, 0x190403, .u 1, .ha, .sa, .val 0, true, true, .nw, 0, 0, 0⟩,  -- HINT_CFG
  ⟨0x190404, 0x190404, .u 4, .ha, .k, .val 0, false, false, .nw, 0, 0, 0⟩,  -- HP_DROPPED
  ⟨0x1A0001, 0x1A0001, .oct 16, .ob, .k, .mfr, true, false, .sc, 0, 0, 0⟩,  -- DEV_UID
  ⟨0x1A0002, 0x1A0002, .oct 32, .ob, .k, .mfr, true, false, .sc, 0, 0, 0⟩,  -- DEV_ID_X
  ⟨0x1A0003, 0x1A0003, .oct 32, .ob, .k, .mfr, true, false, .sc, 0, 0, 0⟩,  -- DEV_ID_Y
  ⟨0x1A0004, 0x1A0004, .oct 32, .ob, .k, .mfr, true, false, .sc, 0, 0, 0⟩,  -- ROOT_DIGEST_A
  ⟨0x1A0005, 0x1A0005, .oct 32, .ob, .k, .mfr, true, false, .sc, 0, 0, 0⟩,  -- ROOT_DIGEST_B
  ⟨0x1A0006, 0x1A0006, .u 4, .ha, .sa, .val 5000, true, true, .sc, 100, 600000, 1⟩,  -- FRESH_WIN
  ⟨0x1A0007, 0x1A0007, .u 8, .ob, .k, .live, false, false, .sc, 0, 0, 0⟩,  -- AUTH_EPOCH
  ⟨0x1A0008, 0x1A0008, .u 1, .ob, .k, .val 0, true, false, .sc, 0, 0, 0⟩,  -- AUTH_EPOCH_N
  ⟨0x1A0009, 0x1A0009, .u 4, .ha, .sa, .val 16777216, true, true, .sc, 65536, 1073741824, 1⟩,  -- KEY_WARN
  ⟨0x1A000A, 0x1A000A, .u 1, .sa, .sa, .val 0, false, false, .sc, 0, 0, 0⟩,  -- ZEROIZE
  ⟨0x1A000B, 0x1A000B, .u 4, .ha, .k, .val 0, true, false, .sc, 0, 0, 0⟩,  -- ZEROIZE_COUNT
  ⟨0x1A000C, 0x1A000C, .u 8, .ha, .k, .val 0, true, false, .sc, 0, 0, 0⟩,  -- ZEROIZE_LAST
  ⟨0x1A000D, 0x1A000D, .u 2, .ha, .sa, .val 120, true, true, .sc, 30, 600, 1⟩,  -- KX_LIFE
  ⟨0x1A000E, 0x1A000E, .u 1, .ob, .k, .val 1, false, false, .sc, 0, 0, 0⟩,  -- PROV_STATE
  ⟨0x1A000F, 0x1A000F, .u 4, .sa, .k, .val 0, true, false, .sc, 0, 0, 0⟩,  -- K0_USES
  ⟨0x1A0010, 0x1A0010, .u 4, .sa, .k, .val 0, true, false, .sc, 0, 0, 0⟩,  -- ZEROIZE_DONE
  ⟨0x1B0001, 0x1B0001, .u 1, .ob, .sa, .val 1, true, true, .pw, 0, 1, 1⟩,  -- CHG_EN
  ⟨0x1B0002, 0x1B0002, .u 1, .ob, .k, .live, false, false, .pw, 0, 0, 0⟩,  -- CHG_STATE
  ⟨0x1B0003, 0x1B0003, .u 1, .ha, .k, .val 0, false, false, .pw, 0, 0, 0⟩,  -- CHG_FAULT
  ⟨0x1B0004, 0x1B0004, .u 1, .sa, .sa, .val 0, false, false, .pw, 0, 0, 0⟩,  -- CHG_CLEAR
  ⟨0x1B0005, 0x1B0005, .u 2, .ha, .sa, .val 300, true, true, .pw, 200, 600, 50⟩,  -- MPPT_FSW
  ⟨0x1B0006, 0x1B0006, .u 2, .ha, .sa, .val 2000, true, true, .pw, 500, 20000, 1⟩,  -- CSH_UOHM
  ⟨0x1B0007, 0x1B0007, .u 2, .ha, .sa, .val 10000, true, true, .pw, 100, 30000, 1⟩,  -- CHG_IMAX
  ⟨0x1B0008, 0x1B0008, .u 2, .ha, .sa, .val 5000, true, true, .pw, 5000, 60000, 1⟩,  -- MPPT_VMIN
  ⟨0x1B0009, 0x1B0009, .u 2, .ha, .sa, .val 60000, true, true, .pw, 5000, 60000, 1⟩,  -- MPPT_VMAX
  ⟨0x1B000A, 0x1B000A, .u 2, .ha, .sa, .val 600, true, true, .pw, 60, 3600, 1⟩,  -- MPPT_SWEEP
  ⟨0x1B000B, 0x1B000B, .u 2, .ob, .k, .live, false, false, .pw, 0, 0, 0⟩,  -- VIN_MV
  ⟨0x1B000C, 0x1B000C, .u 4, .ob, .k, .live, false, false, .pw, 0, 0, 0⟩,  -- PV_MW
  ⟨0x1B000D, 0x1B000D, .u 2, .ha, .k, .live, false, false, .pw, 0, 0, 0⟩,  -- VMPP_MV
  ⟨0x1B000E, 0x1B000E, .u 4, .ob, .k, .val 0, true, false, .pw, 0, 0, 0⟩,  -- HARV_DAY
  ⟨0x1B000F, 0x1B000F, .bool, .ob, .k, .val 0, true, false, .pw, 0, 0, 0⟩,  -- SNOW_SUSPECT
  ⟨0x1B0101, 0x1B0101, .u 1, .ob, .sa, .val 0, true, true, .pw, 0, 10, 1⟩  -- BAT_CHEM
]

/-- The elements of the dictionary, piece 7, in order of address: the element tables of the chapters. -/
def rows7 : List Row := [
  ⟨0x1B0102, 0x1B0102, .u 2, .ha, .sa, .val 100, true, true, .pw, 1, 2000, 1⟩,  -- BAT_CAP_AH
  ⟨0x1B0103, 0x1B0103, .u 2, .ha, .sa, .val 0, true, true, .pw, 0, 0, 0⟩,  -- CV_MV
  ⟨0x1B0104, 0x1B0104, .u 2, .ha, .sa, .val 0, true, true, .pw, 0, 0, 0⟩,  -- FLOAT_MV
  ⟨0x1B0105, 0x1B0105, .u 2, .ha, .sa, .val 0, true, true, .pw, 0, 0, 0⟩,  -- RECH_MV
  ⟨0x1B0106, 0x1B0106, .s 2, .ha, .sa, .val 32767, true, true, .pw, 0, 0, 0⟩,  -- CHG_T_LO
  ⟨0x1B0107, 0x1B0107, .s 2, .ha, .sa, .val 32767, true, true, .pw, 0, 0, 0⟩,  -- CHG_T_HI
  ⟨0x1B0108, 0x1B0108, .u 1, .ha, .sa, .val 20, true, true, .pw, 5, 100, 1⟩,  -- CHG_CRATE
  ⟨0x1B0109, 0x1B0109, .u 2, .ha, .sa, .val 240, true, true, .pw, 30, 720, 1⟩,  -- ABSORB_MAX
  ⟨0x1B010A, 0x1B010A, .u 2, .ha, .sa, .val 240, true, true, .pw, 30, 720, 1⟩,  -- PRE_TMO
  ⟨0x1B010B, 0x1B010B, .u 2, .ha, .sa, .val 1000, true, true, .pw, 200, 20000, 1⟩,  -- BSH_UOHM
  ⟨0x1B010C, 0x1B010C, .u 2, .ha, .sa, .val 10000, true, true, .pw, 1000, 65000, 1⟩,  -- NTC_R25
  ⟨0x1B010D, 0x1B010D, .u 2, .ha, .sa, .val 3435, true, true, .pw, 2500, 5000, 1⟩,  -- NTC_BETA
  ⟨0x1B010E, 0x1B010E, .u 4, .ob, .k, .live, false, false, .pw, 0, 0, 0⟩,  -- BAT_V
  ⟨0x1B010F, 0x1B010F, .s 4, .ob, .k, .live, false, false, .pw, 0, 0, 0⟩,  -- BAT_I
  ⟨0x1B0110, 0x1B0110, .s 2, .ob, .k, .live, false, false, .pw, 0, 0, 0⟩,  -- BAT_T
  ⟨0x1B0111, 0x1B0111, .u 2, .ob, .k, .val 500, true, false, .pw, 0, 0, 0⟩,  -- SOC
  ⟨0x1B0112, 0x1B0112, .bool, .ob, .k, .val 1, false, false, .pw, 0, 0, 0⟩,  -- SOC_STALE
  ⟨0x1B0113, 0x1B0113, .u 2, .ha, .sa, .val 0, true, true, .pw, 0, 0, 0⟩,  -- BAT_LOW_MV
  ⟨0x1B0114, 0x1B0114, .u 2, .ha, .sa, .val 0, true, true, .pw, 0, 0, 0⟩,  -- BAT_CUT_MV
  ⟨0x1B0201, 0x1B0201, .u 1, .ha, .sa, .val 0, true, true, .pw, 0, 2, 1⟩,  -- HTR_MODE
  ⟨0x1B0202, 0x1B0202, .u 2, .ha, .sa, .val 0, true, true, .pw, 0, 500, 1⟩,  -- HTR_W
  ⟨0x1B0203, 0x1B0203, .s 2, .ha, .sa, .val 800, true, true, .pw, -2000, 2500, 1⟩,  -- HTR_T_SET
  ⟨0x1B0204, 0x1B0204, .u 1, .ha, .sa, .val 100, true, true, .pw, 0, 100, 1⟩,  -- HTR_DUTY_MAX
  ⟨0x1B0205, 0x1B0205, .u 1, .ha, .sa, .val 60, true, true, .pw, 20, 100, 1⟩,  -- HTR_SOC_MIN
  ⟨0x1B0206, 0x1B0206, .u 2, .ha, .sa, .val 50, true, true, .pw, 0, 2000, 1⟩,  -- HTR_BAT_TOL
  ⟨0x1B0207, 0x1B0207, .u 1, .ob, .k, .live, false, false, .pw, 0, 0, 0⟩,  -- HTR_DUTY
  ⟨0x1B0301, 0x1B0301, .u 2, .ha, .k, .live, false, false, .pw, 0, 0, 0⟩,  -- ENERGY_CAP
  ⟨0x1B0302, 0x1B0302, .u 4, .ha, .k, .live, false, false, .pw, 0, 0, 0⟩,  -- P_ADM_MW
  ⟨0x1B0303, 0x1B0303, .u 4, .ha, .k, .live, false, false, .pw, 0, 0, 0⟩,  -- P_HARV_MW
  ⟨0x1B0304, 0x1B0304, .u 1, .ha, .sa, .val 72, true, true, .pw, 24, 168, 1⟩,  -- BUDGET_WIN
  ⟨0x1B0305, 0x1B0305, .u 2, .ha, .sa, .val 120, true, true, .pw, 24, 720, 1⟩,  -- BUDGET_HORIZON
  ⟨0x1B0306, 0x1B0306, .u 1, .ha, .sa, .val 30, true, true, .pw, 10, 90, 1⟩,  -- BAT_RESERVE
  ⟨0x1B0307, 0x1B0307, .u 2, .ha, .sa, .val 10000, true, true, .pw, 1, 65535, 1⟩,  -- ENERGY_MAX
  ⟨0x1B0308, 0x1B0308, .u 1, .ob, .k, .live, false, false, .pw, 0, 0, 0⟩,  -- BAT_ALARM
  ⟨0x1B0309, 0x1B0309, .u 2, .ha, .k, .live, false, false, .pw, 0, 0, 0⟩,  -- DEV_MW
  ⟨0x1C0001, 0x1C0001, .oct 6, .ha, .sa, .val 0x14006407D001, true, true, .pw, 0, 0, 0⟩  -- FLT_CFG
]

/-- The elements of the dictionary, piece 8, in order of address: the element tables of the chapters. -/
def rows8 : List Row := [
  ⟨0x1C0002, 0x1C0002, .oct 16, .ha, .k, .live, false, false, .pw, 0, 0, 0⟩,  -- FLT_STATUS
  ⟨0x1C0003, 0x1C0003, .u 4, .ha, .k, .val 0, true, false, .pw, 0, 0, 0⟩,  -- FLT_COUNT
  ⟨0x1C0004, 0x1C0004, .u 1, .sa, .sa, .val 0, false, false, .pw, 0, 0, 0⟩,  -- SEQ_CLEAR
  ⟨0x1C0005, 0x1C0005, .u 4, .ha, .k, .val 0, true, false, .pw, 0, 0, 0⟩,  -- COLLAPSE_COUNT
  ⟨0x1C0006, 0x1C0006, .u 8, .ha, .k, .val 0, true, false, .pw, 0, 0, 0⟩,  -- COLLAPSE_LAST
  ⟨0x1C0101, 0x1C0108, .oct 14, .ha, .sa, .val 0x3E8000000000000003201F40004, true, true, .pw, 0, 0, 0⟩,  -- RAIL_CFG
  ⟨0x1C0201, 0x1C0208, .oct 10, .ha, .sa, .val 0x640320038408980960, true, true, .pw, 0, 0, 0⟩,  -- RAIL_LVL
  ⟨0x1C0301, 0x1C0308, .u 2, .ob, .k, .live, false, false, .pw, 0, 0, 0⟩,  -- RAIL_MV
  ⟨0x1C0401, 0x1C040E, .oct 4, .ob, .k, .live, false, false, .pw, 0, 0, 0⟩,  -- OUT_STATE
  ⟨0x1C0501, 0x1C0506, .oct 7, .ha, .sa, .val 0x258000A001400, true, true, .pw, 0, 0, 0⟩,  -- LSW_CFG
  ⟨0x1C0601, 0x1C0606, .u 2, .ob, .k, .live, false, false, .pw, 0, 0, 0⟩,  -- LSW_MA
  ⟨0x1C0701, 0x1C0701, .oct 2, .ha, .sa, .val 0x0, true, true, .pw, 0, 0, 0⟩,  -- MARG_CFG
  ⟨0x1C0702, 0x1C0702, .oct 2, .ha, .sa, .val 0x100, true, true, .pw, 0, 0, 0⟩,  -- MARG_CFG
  ⟨0x1C0703, 0x1C0703, .oct 2, .ha, .sa, .val 0x200, true, true, .pw, 0, 0, 0⟩,  -- MARG_CFG
  ⟨0x1C0704, 0x1C0704, .oct 2, .ha, .sa, .val 0x300, true, true, .pw, 0, 0, 0⟩,  -- MARG_CFG
  ⟨0x1C0801, 0x1C0804, .s 1, .ha, .k, .val 0, false, false, .pw, 0, 0, 0⟩,  -- MARG_NOW
  ⟨0x1D0101, 0x1D0101, .u 1, .ha, .k, .val 1, true, true, .ao, 0, 2, 1⟩,  -- WD_MODE
  ⟨0x1D0102, 0x1D0102, .u 4, .ha, .k, .val 1000, true, true, .ao, 1, 86400000, 1⟩,  -- WD_PERIOD
  ⟨0x1D0103, 0x1D0103, .u 1, .ha, .k, .val 1, true, true, .ao, 0, 1, 1⟩,  -- WD_CLOCK
  ⟨0x1D0104, 0x1D0104, .u 1, .ha, .k, .mfr, true, false, .ao, 0, 0, 0⟩,  -- WD_WIN
  ⟨0x1D0105, 0x1D0105, .u 2, .ha, .k, .val 2, true, true, .ao, 1, 65535, 1⟩,  -- WD_GRACE
  ⟨0x1D0106, 0x1D0106, .u 2, .ha, .k, .val 100, true, true, .ao, 1, 1000, 1⟩,  -- WD_RSTO
  ⟨0x1D0107, 0x1D0107, .u 4, .ha, .k, .val 1, true, true, .ao, 0, 0, 0⟩,  -- WD_TASKS
  ⟨0x1D0108, 0x1D0108, .u 2, .ac, .k, .val 0, false, false, .ao, 0, 0, 0⟩,  -- WD_KEY
  ⟨0x1D0109, 0x1D0109, .u 1, .ac, .k, .val 0, false, false, .ao, 0, 0, 0⟩,  -- WD_CHECKIN
  ⟨0x1D010A, 0x1D010A, .u 4, .ac, .k, .val 0, false, false, .ao, 0, 0, 0⟩,  -- WD_NAP
  ⟨0x1D010B, 0x1D010B, .u 4, .ha, .k, .val 0, true, true, .ao, 0, 86400, 1⟩,  -- WD_NAP_MAX
  ⟨0x1D010C, 0x1D010C, .oct 16, .ha, .k, .live, false, false, .ao, 0, 0, 0⟩,  -- WD_STATE
  ⟨0x1D010D, 0x1D010D, .u 4, .ha, .k, .val 0, false, false, .ao, 0, 0, 0⟩,  -- WD_WARNS
  ⟨0x1D010E, 0x1D010E, .u 4, .ha, .k, .val 0, true, false, .ao, 0, 0, 0⟩,  -- WD_TRIPS
  ⟨0x1D010F, 0x1D010F, .oct 16, .ha, .k, .val 0, true, false, .ao, 0, 0, 0⟩,  -- WD_LAST_TRIP
  ⟨0x1D0201, 0x1D0201, .u 1, .ha, .sa, .val 0, true, true, .ao, 0, 2, 1⟩,  -- WD_MODE
  ⟨0x1D0202, 0x1D0202, .u 4, .ha, .sa, .val 10000, true, true, .ao, 1, 86400000, 1⟩,  -- WD_PERIOD
  ⟨0x1D0203, 0x1D0203, .u 1, .ha, .sa, .val 0, true, true, .ao, 0, 1, 1⟩,  -- WD_CLOCK
  ⟨0x1D0204, 0x1D0204, .u 1, .ha, .k, .mfr, true, false, .ao, 0, 0, 0⟩,  -- WD_WIN
  ⟨0x1D0205, 0x1D0205, .u 2, .ha, .sa, .val 60, true, true, .ao, 1, 65535, 1⟩  -- WD_GRACE
]

/-- The elements of the dictionary, piece 9, in order of address: the element tables of the chapters. -/
def rows9 : List Row := [
  ⟨0x1D0206, 0x1D0206, .u 2, .ha, .sa, .val 100, true, true, .ao, 1, 1000, 1⟩,  -- WD_RSTO
  ⟨0x1D0207, 0x1D0207, .u 4, .ha, .sa, .val 1, true, true, .ao, 0, 0, 0⟩,  -- WD_TASKS
  ⟨0x1D0208, 0x1D0208, .u 2, .ac, .ac, .val 0, false, false, .ao, 0, 0, 0⟩,  -- WD_KEY
  ⟨0x1D0209, 0x1D0209, .u 1, .ac, .ac, .val 0, false, false, .ao, 0, 0, 0⟩,  -- WD_CHECKIN
  ⟨0x1D020A, 0x1D020A, .u 4, .ac, .ac, .val 0, false, false, .ao, 0, 0, 0⟩,  -- WD_NAP
  ⟨0x1D020B, 0x1D020B, .u 4, .ha, .sa, .val 0, true, true, .ao, 0, 86400, 1⟩,  -- WD_NAP_MAX
  ⟨0x1D020C, 0x1D020C, .oct 16, .ha, .k, .live, false, false, .ao, 0, 0, 0⟩,  -- WD_STATE
  ⟨0x1D020D, 0x1D020D, .u 4, .ha, .k, .val 0, false, false, .ao, 0, 0, 0⟩,  -- WD_WARNS
  ⟨0x1D020E, 0x1D020E, .u 4, .ha, .k, .val 0, true, false, .ao, 0, 0, 0⟩,  -- WD_TRIPS
  ⟨0x1D020F, 0x1D020F, .oct 16, .ha, .k, .val 0, true, false, .ao, 0, 0, 0⟩,  -- WD_LAST_TRIP
  ⟨0x1D0301, 0x1D0301, .u 1, .ha, .sa, .val 0, true, true, .ao, 0, 2, 1⟩,  -- WD_MODE
  ⟨0x1D0302, 0x1D0302, .u 4, .ha, .sa, .val 10000, true, true, .ao, 1, 86400000, 1⟩,  -- WD_PERIOD
  ⟨0x1D0303, 0x1D0303, .u 1, .ha, .sa, .val 0, true, true, .ao, 0, 1, 1⟩,  -- WD_CLOCK
  ⟨0x1D0304, 0x1D0304, .u 1, .ha, .k, .mfr, true, false, .ao, 0, 0, 0⟩,  -- WD_WIN
  ⟨0x1D0305, 0x1D0305, .u 2, .ha, .sa, .val 60, true, true, .ao, 1, 65535, 1⟩,  -- WD_GRACE
  ⟨0x1D0306, 0x1D0306, .u 2, .ha, .sa, .val 100, true, true, .ao, 1, 1000, 1⟩,  -- WD_RSTO
  ⟨0x1D0307, 0x1D0307, .u 4, .ha, .sa, .val 1, true, true, .ao, 0, 0, 0⟩,  -- WD_TASKS
  ⟨0x1D0308, 0x1D0308, .u 2, .ac, .ac, .val 0, false, false, .ao, 0, 0, 0⟩,  -- WD_KEY
  ⟨0x1D0309, 0x1D0309, .u 1, .ac, .ac, .val 0, false, false, .ao, 0, 0, 0⟩,  -- WD_CHECKIN
  ⟨0x1D030A, 0x1D030A, .u 4, .ac, .ac, .val 0, false, false, .ao, 0, 0, 0⟩,  -- WD_NAP
  ⟨0x1D030B, 0x1D030B, .u 4, .ha, .sa, .val 0, true, true, .ao, 0, 86400, 1⟩,  -- WD_NAP_MAX
  ⟨0x1D030C, 0x1D030C, .oct 16, .ha, .k, .live, false, false, .ao, 0, 0, 0⟩,  -- WD_STATE
  ⟨0x1D030D, 0x1D030D, .u 4, .ha, .k, .val 0, false, false, .ao, 0, 0, 0⟩,  -- WD_WARNS
  ⟨0x1D030E, 0x1D030E, .u 4, .ha, .k, .val 0, true, false, .ao, 0, 0, 0⟩,  -- WD_TRIPS
  ⟨0x1D030F, 0x1D030F, .oct 16, .ha, .k, .val 0, true, false, .ao, 0, 0, 0⟩,  -- WD_LAST_TRIP
  ⟨0x1E0001, 0x1E0001, .u 4, .ha, .k, .val 0, false, false, .bk, 0, 0, 0⟩,  -- TMP_STICKY
  ⟨0x1E0002, 0x1E0002, .u 4, .ha, .k, .live, false, false, .bk, 0, 0, 0⟩,  -- TMP_ACTIVE
  ⟨0x1E0003, 0x1E0003, .u 4, .sa, .sa, .val 0, false, false, .cr, 0, 0, 0⟩,  -- TMP_CLEAR
  ⟨0x1E0004, 0x1E0004, .u 4, .ha, .k, .live, false, false, .cr, 0, 0, 0⟩,  -- TMP_HOLDING
  ⟨0x1E0005, 0x1E0005, .s 2, .ha, .sa, .val 59536, true, true, .cr, -7000, 0, 1⟩,  -- TEMP_LO
  ⟨0x1E0006, 0x1E0006, .s 2, .ha, .sa, .val 15500, true, true, .cr, 8500, 17000, 1⟩,  -- TEMP_HI
  ⟨0x1E0007, 0x1E0007, .u 1, .sa, .sa, .val 0, false, false, .cr, 0, 0, 0⟩,  -- TMP_TEST
  ⟨0x1E0008, 0x1E0008, .oct 10, .sa, .k, .val 0, false, false, .cr, 0, 0, 0⟩,  -- TMP_TEST_RES
  ⟨0x1E0009, 0x1E0009, .oct 33, .sa, .sa, .val 0, true, true, .cr, 0, 0, 0⟩,  -- FAC_KEY
  ⟨0x1E000A, 0x1E000A, .u 8, .sa, .sa, .val 0, true, true, .cr, 0, 0, 0⟩,  -- FAC_UNTIL
  ⟨0x1E000B, 0x1E000B, .u 1, .ha, .k, .live, false, false, .cr, 0, 0, 0⟩  -- FAC_STATE
]

/-- The elements of the dictionary, piece 10, in order of address: the element tables of the chapters. -/
def rows10 : List Row := [
  ⟨0x1E000C, 0x1E000C, .u 4, .ha, .k, .val 0, true, false, .cr, 0, 0, 0⟩,  -- FAC_OPENS
  ⟨0x1E0010, 0x1E0013, .oct 2, .ha, .sa, .val 0x3, true, true, .bk, 0, 0, 0⟩,  -- TMP_CFG
  ⟨0x1E0014, 0x1E0014, .oct 2, .ha, .sa, .val 0x301, true, true, .bk, 0, 0, 0⟩,  -- TMPO_CFG
  ⟨0x1E0101, 0x1E010C, .oct 8, .sa, .sa, .val 0x0300000000000000, true, true, .ao, 0, 0, 0⟩,  -- REACTION
  ⟨0x1E010D, 0x1E0110, .oct 8, .sa, .sa, .val 0, true, true, .ao, 0, 0, 0⟩,  -- REACTION
  ⟨0x1F0001, 0x1F0009, .s 2, .ob, .k, .live, false, false, .ao, 0, 0, 0⟩,  -- TS_T
  ⟨0x1F0101, 0x1F0109, .oct 4, .ha, .k, .mfr, true, false, .ao, 0, 0, 0⟩,  -- TS_EXT
  ⟨0x1F0201, 0x1F0208, .u 4, .ob, .k, .live, false, false, .ao, 0, 0, 0⟩,  -- VMON_MV
  ⟨0x1F0301, 0x1F0308, .oct 8, .ha, .sa, .val 0x0, true, true, .ao, 0, 0, 0⟩,  -- VMON_LIM
  ⟨0x1F0401, 0x1F040C, .u 4, .ha, .k, .live, false, false, .fb, 0, 0, 0⟩,  -- PROC_F
  ⟨0x1F0501, 0x1F050C, .s 2, .ha, .k, .val 0, true, false, .fb, 0, 0, 0⟩,  -- PROC_AGE
  ⟨0x1F0601, 0x1F0601, .u 4, .ha, .k, .val 0, false, false, .fb, 0, 0, 0⟩,  -- CANARY
  ⟨0x1F1001, 0x1F1007, .oct 12, .ha, .k, .live, false, false, .fb, 0, 0, 0⟩,  -- LOOP_STATE
  ⟨0x1F1101, 0x1F1107, .u 4, .ha, .k, .val 0, false, false, .fb, 0, 0, 0⟩,  -- LOOP_FENCED
  ⟨0x1F1201, 0x1F1207, .u 4, .ha, .k, .val 0, false, false, .fb, 0, 0, 0⟩,  -- LOOP_STALE
  ⟨0x1F2001, 0x1F2001, .oct 4, .ha, .sa, .val 0x2EE03E8, true, true, .fb, 0, 0, 0⟩,  -- L1_FENCE
  ⟨0x1F2002, 0x1F2002, .u 1, .ha, .sa, .val 8, true, true, .fb, 4, 20, 1⟩,  -- L1_MARGIN
  ⟨0x1F2003, 0x1F2003, .oct 2, .ha, .sa, .val 0xA3C, true, true, .fb, 0, 0, 0⟩,  -- L2_FENCE
  ⟨0x1F2004, 0x1F2004, .u 4, .ha, .k, .live, false, false, .fb, 0, 0, 0⟩,  -- SAFETY_ACTIVE
  ⟨0x1F3001, 0x1F3001, .u 1, .ob, .k, .live, false, false, .cr, 0, 0, 0⟩,  -- REPAIR_RESERVE
  ⟨0x1F3002, 0x1F3002, .u 1, .ob, .k, .live, false, false, .cr, 0, 0, 0⟩,  -- REPAIR_MIN_CLASS
  ⟨0x1F3101, 0x1F310D, .oct 8, .ha, .k, .mfr, true, false, .cr, 0, 0, 0⟩,  -- REPAIR_CLASS
  ⟨0x1F3201, 0x1F320B, .oct 20, .ha, .k, .val 0, false, false, .cr, 0, 0, 0⟩,  -- ECC_STAT
  ⟨0x1F8001, 0x1F8008, .u 1, .ha, .k, .live, false, false, .ao, 0, 0, 0⟩,  -- ISL_STATE
  ⟨0x1F8103, 0x1F8103, .u 1, .sa, .sa, .val 0, false, false, .ao, 0, 0, 0⟩,  -- ISL_REQ
  ⟨0x1F8105, 0x1F8105, .u 1, .sa, .sa, .val 0, false, false, .ao, 0, 0, 0⟩,  -- ISL_REQ
  ⟨0x1F8106, 0x1F8106, .u 1, .sa, .sa, .val 0, false, false, .ao, 0, 0, 0⟩,  -- ISL_REQ
  ⟨0x1F8107, 0x1F8107, .u 1, .sa, .sa, .val 0, false, false, .ao, 0, 0, 0⟩,  -- ISL_REQ
  ⟨0x1F8108, 0x1F8108, .u 1, .sa, .sa, .val 0, false, false, .ao, 0, 0, 0⟩,  -- ISL_REQ
  ⟨0x1F8201, 0x1F8214, .u 4, .sa, .k, .val 0, false, false, .ao, 0, 0, 0⟩,  -- CH_ABANDON
  ⟨0x1F8303, 0x1F8303, .u 2, .sa, .k, .val 0, false, false, .ao, 0, 0, 0⟩,  -- ISL_HOLD
  ⟨0x1F8305, 0x1F8305, .u 2, .sa, .k, .val 0, false, false, .ao, 0, 0, 0⟩,  -- ISL_HOLD
  ⟨0x1F8306, 0x1F8306, .u 2, .sa, .k, .val 0, false, false, .ao, 0, 0, 0⟩,  -- ISL_HOLD
  ⟨0x1F8307, 0x1F8307, .u 2, .sa, .k, .val 0, false, false, .ao, 0, 0, 0⟩,  -- ISL_HOLD
  ⟨0x1F8308, 0x1F8308, .u 2, .sa, .k, .val 0, false, false, .ao, 0, 0, 0⟩,  -- ISL_HOLD
  ⟨0x1F8401, 0x1F8401, .u 4, .sa, .k, .val 0, false, false, .ao, 0, 0, 0⟩  -- CH_STUCK
]

/-- The elements of the dictionary, piece 11, in order of address: the element tables of the chapters. -/
def rows11 : List Row := [
  ⟨0x200001, 0x200005, .oct 8, .ha, .k, .live, false, false, .nv, 0, 0, 0⟩,  -- NV_REGION
  ⟨0x200006, 0x200006, .u 4, .ha, .k, .mfr, true, false, .nv, 0, 0, 0⟩,  -- NV_CYCLES_MAX
  ⟨0x200007, 0x200007, .u 2, .ha, .k, .live, false, false, .nv, 0, 0, 0⟩,  -- NV_AGE_MAX
  ⟨0x200008, 0x200008, .u 4, .ha, .k, .val 0, true, false, .nv, 0, 0, 0⟩,  -- NV_REFRESHES
  ⟨0x200009, 0x200009, .oct 12, .ha, .k, .live, false, false, .nv, 0, 0, 0⟩,  -- NV_SET_USE
  ⟨0x200101, 0x200102, .oct 24, .ob, .k, .val 0, true, false, .nv, 0, 0, 0⟩,  -- FW_SLOT_INFO
  ⟨0x200103, 0x200103, .oct 16, .sa, .k, .val 0, false, false, .nv, 0, 0, 0⟩,  -- FW_SESSION
  ⟨0x200104, 0x200104, .u 4, .ha, .sa, .val 3600, true, true, .nv, 600, 86400, 1⟩,  -- FW_TRIAL_S
  ⟨0x200105, 0x200105, .u 4, .ha, .k, .live, false, false, .nv, 0, 0, 0⟩,  -- FW_TRIAL_LEFT
  ⟨0x200106, 0x200106, .u 1, .ob, .k, .mfr, true, false, .nv, 0, 0, 0⟩,  -- FW_FLOOR
  ⟨0x200107, 0x200107, .u 1, .ob, .k, .mfr, true, false, .nv, 0, 0, 0⟩,  -- FW_STEPPING
  ⟨0x200108, 0x200108, .u 4, .ob, .k, .mfr, true, false, .nv, 0, 0, 0⟩,  -- FW_FEATURES
  ⟨0x200109, 0x200109, .oct 5, .ha, .k, .live, true, false, .nv, 0, 0, 0⟩,  -- SCHEMA_SETS
  ⟨0x210001, 0x210001, .u 1, .ob, .k, .live, false, false, .nw, 0, 0, 0⟩,  -- TWIN_STATE
  ⟨0x210002, 0x210002, .u 1, .ha, .k, .live, false, false, .nw, 0, 0, 0⟩,  -- TWIN_REASON
  ⟨0x210003, 0x210003, .oct 32, .ha, .sa, .val 0, true, true, .nw, 0, 0, 0⟩,  -- TWIN_PEER_ID
  ⟨0x210004, 0x210004, .u 1, .ob, .k, .live, false, false, .nw, 0, 0, 0⟩,  -- TWIN_LEADER
  ⟨0x210005, 0x210005, .s 4, .ob, .k, .live, false, false, .nw, 0, 0, 0⟩,  -- TWIN_OFFSET
  ⟨0x210006, 0x210006, .u 4, .ha, .sa, .val 1000, true, true, .nw, 10, 1000000, 1⟩,  -- TWIN_T_THR
  ⟨0x210007, 0x210007, .u 4, .ha, .sa, .val 1000, true, true, .nw, 1, 1000000, 1⟩,  -- TWIN_JOIN_T
  ⟨0x210008, 0x210008, .oct 32, .ha, .k, .live, false, false, .nw, 0, 0, 0⟩,  -- TWIN_DIGEST
  ⟨0x210009, 0x210009, .oct 32, .ha, .k, .live, false, false, .nw, 0, 0, 0⟩,  -- TWIN_PEER_DIGEST
  ⟨0x21000A, 0x21000A, .u 8, .ha, .k, .live, false, false, .nw, 0, 0, 0⟩,  -- TWIN_DIGEST_AT
  ⟨0x21000B, 0x21000B, .u 1, .sa, .sa, .val 0, false, false, .nw, 0, 0, 0⟩,  -- TWIN_RESOLVE
  ⟨0x21000C, 0x21000C, .u 4, .ha, .k, .val 0, true, false, .nw, 0, 0, 0⟩,  -- TWIN_SPLITS
  ⟨0x21000D, 0x21000D, .u 8, .ha, .k, .val 0, true, false, .nw, 0, 0, 0⟩,  -- TWIN_LAST_SPLIT
  ⟨0x21000E, 0x21000E, .oct 12, .ha, .k, .val 0, false, false, .nw, 0, 0, 0⟩,  -- TWIN_PEER_CAP
  ⟨0x21000F, 0x21000F, .u 4, .ha, .k, .val 0, false, false, .nw, 0, 0, 0⟩,  -- TWIN_LINK_ERR
  ⟨0x210010, 0x210010, .u 4, .ha, .sa, .val 1000, true, true, .nw, 10, 1000000000, 1⟩,  -- FLEET_T_THR
  ⟨0x210011, 0x210011, .s 8, .ob, .k, .live, false, false, .nw, 0, 0, 0⟩,  -- FLEET_OFFSET
  ⟨0x210012, 0x210012, .u 1, .ob, .k, .live, false, false, .nw, 0, 0, 0⟩,  -- FLEET_STATE
  ⟨0x400001, 0x400001, .oct 2, .oc, .sa, .val 0xFF00, true, true, .cr, 0, 0, 0⟩,  -- CID_BIND
  ⟨0x400030, 0x400030, .u 4, .ha, .k, .val 0, false, false, .cr, 0, 0, 0⟩,  -- REFUSALS
  ⟨0x400031, 0x400031, .u 8, .ha, .k, .val 0, false, false, .cr, 0, 0, 0⟩,  -- REFUSE_LAST
  ⟨0x400032, 0x400032, .u 1, .oc, .k, .val 0, false, false, .cr, 0, 0, 0⟩,  -- IN_PROGRESS
  ⟨0x400033, 0x400033, .u 4, .oc, .k, .val 0, false, false, .sc, 0, 0, 0⟩  -- AUTH_CTR_IN
]

/-- The elements of the dictionary, piece 12, in order of address: the element tables of the chapters. -/
def rows12 : List Row := [
  ⟨0x400034, 0x400034, .u 4, .oc, .k, .val 0, false, false, .sc, 0, 0, 0⟩,  -- AUTH_CTR_OUT
  ⟨0x400038, 0x40003B, .oct 24, .oc, .k, .val 0, false, false, .nw, 0, 0, 0⟩,  -- SUB
  ⟨0x400040, 0x400040, .u 1, .oc, .k, .val 0, false, false, .cr, 0, 0, 0⟩,  -- PARISON_FILL
  ⟨0x400041, 0x400041, .u 2, .oc, .oc, .val 0, false, false, .fb, 0, 0, 0⟩,  -- CM_WITHDRAW
  ⟨0x400042, 0x400045, .oct 16, .oc, .k, .val 0, false, false, .fb, 0, 0, 0⟩,  -- CM_PEND
  ⟨0x400046, 0x400046, .oct 16, .oc, .k, .val 0, false, false, .fb, 0, 0, 0⟩,  -- CM_LAST
  ⟨0x400048, 0x400048, .oct 4, .oc, .oc, .val 0, false, false, .fb, 0, 0, 0⟩,  -- LS_RENEW
  ⟨0x400049, 0x400049, .u 2, .oc, .oc, .val 0, false, false, .fb, 0, 0, 0⟩,  -- LS_DROP
  ⟨0x400050, 0x400063, .oct 32, .oc, .k, .val 0, false, false, .fb, 0, 0, 0⟩,  -- LS_SLOT
  ⟨0x400070, 0x40008F, .oct 24, .oc, .oc, .val 0, false, false, .fb, 0, 0, 0⟩,  -- TMR
  ⟨0x400090, 0x400090, .oct 2, .oc, .oc, .val 0, false, false, .sc, 0, 0, 0⟩,  -- KX_START
  ⟨0x400091, 0x400091, .oct 33, .oc, .k, .val 0, false, false, .sc, 0, 0, 0⟩,  -- KX_DEV_EPH
  ⟨0x400092, 0x400092, .oct 22, .oc, .k, .val 0, false, false, .sc, 0, 0, 0⟩,  -- KX_CTX
  ⟨0x400093, 0x400093, .oct 32, .oc, .k, .val 0, false, false, .sc, 0, 0, 0⟩,  -- KX_SIG_R
  ⟨0x400094, 0x400094, .oct 32, .oc, .k, .val 0, false, false, .sc, 0, 0, 0⟩,  -- KX_SIG_S
  ⟨0x400095, 0x400095, .oct 33, .oc, .oc, .val 0, false, false, .sc, 0, 0, 0⟩,  -- KX_PEER
  ⟨0x400096, 0x400096, .oct 32, .oc, .oc, .val 0, false, true, .sc, 0, 0, 0⟩,  -- KX_WRAP
  ⟨0x400097, 0x400097, .oct 16, .oc, .oc, .val 0, false, true, .sc, 0, 0, 0⟩,  -- KX_TAG
  ⟨0x4000A0, 0x4000B7, .oct 16, .oc, .oc, .val 0x30200000140003204100A0000000000, true, true, .ao, 0, 0, 0⟩,  -- EVT_SET
  ⟨0x4000B8, 0x4000BF, .oct 8, .oc, .k, .val 0, false, false, .ao, 0, 0, 0⟩,  -- EVT_NF
  ⟨0x4000C0, 0x4000D7, .u 4, .oc, .k, .val 0, false, false, .fb, 0, 0, 0⟩,  -- EVT_LOST
  ⟨0x4000D8, 0x4000EF, .u 4, .oc, .k, .val 0, false, false, .fb, 0, 0, 0⟩,  -- EVT_COUNT
  ⟨0x4000F0, 0x4000F3, .s 1, .oc, .oc, .val 0, false, false, .pw, 0, 0, 0⟩,  -- MARG_REQ
  ⟨0x500001, 0x500001, .u 1, .ob, .sa, .val 0, true, true, .cr, 0, 1, 1⟩,  -- HOLDER_STATE
  ⟨0x500010, 0x500010, .s 1, .ob, .ha, .val 0, true, true, .cr, -56, 56, 1⟩,  -- LOCAL_OFS
  ⟨0x500011, 0x500011, .oct 16, .ob, .k, .live, false, false, .fb, 0, 0, 0⟩,  -- CAL_LOCAL
  ⟨0x500020, 0x500020, .u 1, .ha, .sa, .val 1, true, true, .fb, 1, 255, 1⟩,  -- WEIGHT
  ⟨0x500021, 0x500021, .u 2, .ha, .sa, .val 0, true, true, .fb, 0, 0, 0⟩,  -- TIMER_QUOTA
  ⟨0x500022, 0x500022, .u 2, .ha, .sa, .val 0, true, true, .fb, 0, 0, 0⟩,  -- REC_QUOTA
  ⟨0x500023, 0x500023, .u 2, .ha, .sa, .val 64, true, true, .fb, 1, 1024, 1⟩,  -- LEASE_MAX
  ⟨0x500024, 0x500024, .s 2, .ha, .k, .val 0, false, false, .fb, 0, 0, 0⟩,  -- DEFICIT
  ⟨0x500025, 0x500025, .u 2, .ha, .k, .val 0, false, false, .fb, 0, 0, 0⟩,  -- TIMERS_USED
  ⟨0x500026, 0x500026, .u 2, .ha, .k, .val 0, false, false, .fb, 0, 0, 0⟩,  -- RECS_USED
  ⟨0x500027, 0x500027, .u 4, .ha, .k, .val 0, false, false, .fb, 0, 0, 0⟩,  -- REC_DROPPED
  ⟨0x500028, 0x500028, .u 4, .ha, .k, .val 0, false, false, .fb, 0, 0, 0⟩,  -- WAIT_MAX
  ⟨0x500029, 0x500029, .u 4, .ha, .k, .val 0, false, false, .fb, 0, 0, 0⟩  -- REC_OVERRUNS
]

/-- The elements of the dictionary, piece 13, in order of address: the element tables of the chapters. -/
def rows13 : List Row := [
  ⟨0x50002A, 0x50002A, .u 1, .ha, .sa, .val 0, true, true, .fb, 0, 128, 1⟩,  -- PLAN_ALLOT
  ⟨0x50002B, 0x50002B, .oct 12, .ha, .k, .val 0, false, false, .fb, 0, 0, 0⟩,  -- PLAN_FAIL
  ⟨0x50002C, 0x50002C, .u 2, .ha, .k, .live, false, false, .fb, 0, 0, 0⟩,  -- PLAN_CELLS
  ⟨0x500030, 0x500030, .u 1, .ha, .ha, .val 2, true, true, .fb, 0, 0, 0⟩,  -- HOLDER_ROUTE
  ⟨0x500040, 0x500040, .u 1, .ha, .k, .val 0, true, false, .sc, 0, 0, 0⟩,  -- KEY_STATE
  ⟨0x500041, 0x500041, .u 2, .ha, .k, .val 0, true, false, .sc, 0, 0, 0⟩,  -- KEY_GEN
  ⟨0x500042, 0x500042, .u 1, .ha, .k, .val 0, true, false, .sc, 0, 0, 0⟩,  -- KEY_ALG
  ⟨0x500043, 0x500043, .u 4, .ha, .k, .val 0, true, false, .sc, 0, 0, 0⟩,  -- KEY_USES
  ⟨0x500044, 0x500044, .u 1, .ha, .ha, .val 0, false, true, .sc, 1, 1, 1⟩,  -- KEY_ERASE
  ⟨0x500050, 0x500050, .u 1, .ha, .sa, .val 4, true, true, .pw, 0, 7, 1⟩,  -- SHED_CLASS
  ⟨0x500060, 0x500060, .u 2, .ha, .sa, .val 256, true, true, .nv, 0, 0, 0⟩,  -- LOG_QUOTA
  ⟨0x500061, 0x500061, .u 2, .ha, .k, .live, true, false, .nv, 0, 0, 0⟩,  -- LOG_USED
  ⟨0x500062, 0x500062, .oct 2, .ha, .k, .val 0x0, true, false, .nv, 0, 0, 0⟩,  -- LOG_STATE
  ⟨0x500063, 0x500063, .oct 38, .ha, .k, .mfr, true, false, .nv, 0, 0, 0⟩,  -- LOG_HEAD
  ⟨0x500064, 0x500064, .oct 32, .ha, .k, .mfr, true, false, .nv, 0, 0, 0⟩,  -- LOG_HEAD_R
  ⟨0x500065, 0x500065, .oct 32, .ha, .k, .mfr, true, false, .nv, 0, 0, 0⟩,  -- LOG_HEAD_S
  ⟨0x500066, 0x500066, .oct 38, .ha, .k, .mfr, true, false, .nv, 0, 0, 0⟩,  -- LOG_BASE
  ⟨0x500067, 0x500067, .oct 32, .ha, .k, .mfr, true, false, .nv, 0, 0, 0⟩,  -- LOG_BASE_R
  ⟨0x500068, 0x500068, .oct 32, .ha, .k, .mfr, true, false, .nv, 0, 0, 0⟩,  -- LOG_BASE_S
  ⟨0x500069, 0x500069, .u 8, .ha, .ha, .val 0, false, false, .nv, 0, 0, 0⟩,  -- LOG_ARCHIVE
  ⟨0x50006A, 0x50006A, .u 4, .ha, .k, .val 0, true, false, .nv, 0, 0, 0⟩,  -- LOG_LOST
  ⟨0x50006B, 0x50006B, .u 2, .ha, .sa, .val 256, true, true, .nv, 16, 4096, 1⟩,  -- LOG_WARN
  ⟨0x500080, 0x5000FF, .oct 24, .ac, .ha, .val 0, true, true, .fb, 0, 0, 0⟩  -- PLAN_ENTRY
]

/-- The address an element's row is listed under: per-client records under 0x4000, per-holder records under 0x5000. -/
def rowAddr (a : Nat) : Nat :=
  if 0x400000 ≤ a ∧ a < 0x440000 then 0x400000 + a % 256
  else if 0x500000 ≤ a ∧ a < 0x504000 then 0x500000 + a % 256
  else a

/-- The piece of the catalog that holds an address's row: every element of the dictionary is in one, in order of address. -/
def pieceOf (x : Nat) : List Row :=
  if x < 0x1B0102 then
    if x < 0x13000C then
      if x < 0x11000A then
        rows0
      else
        if x < 0x120018 then
          rows1
        else
          rows2
    else
      if x < 0x190103 then
        if x < 0x160010 then
          rows3
        else
          rows4
      else
        if x < 0x190401 then
          rows5
        else
          rows6
  else
    if x < 0x1E000C then
      if x < 0x1C0002 then
        rows7
      else
        if x < 0x1D0206 then
          rows8
        else
          rows9
    else
      if x < 0x400034 then
        if x < 0x200001 then
          rows10
        else
          rows11
      else
        if x < 0x50002A then
          rows12
        else
          rows13

/-- A row holds an address. -/
def Row.holds (x : Nat) (r : Row) : Bool := decide (r.lo ≤ x) && decide (x ≤ r.hi)

/-- The row of an element, if the element exists. -/
def rowOf (a : Nat) : Option Row := (pieceOf (rowAddr a)).find? (Row.holds (rowAddr a))

/-- The size of a type in bytes; for a string the most it may have. -/
def Ty.size : Ty → Nat
  | .u n => n
  | .s n => n
  | .bool => 1
  | .oct n => n
  | .str n => n

/-- Defaults that differ from their row's: client 0 and holder 0 at manufacture (R301, R302), and the identity strings
that chapter 23 states. -/
def specialDefaults : List (Nat × Nat) := [
  (0x400001, 0x0001),          -- CID_BIND of CID 0: HID 0, holder admin
  (0x500001, 1),               -- HOLDER_STATE of HID 0
  (0x500021, 1024),            -- TIMER_QUOTA of HID 0
  (0x500022, 2048),            -- REC_QUOTA of HID 0
  (0x50002A, 128),             -- PLAN_ALLOT of HID 0
  (0x500050, 7),               -- SHED_CLASS of HID 0
  (0x500060, 16640),           -- LOG_QUOTA of HID 0
  (0x100001, 0x52616C686F6967),  -- VENDOR "Ralhoig"
  (0x100002, 0x436F6C616B),      -- FAMILY "Colak"
  (0x100003, 0x544731303234)]    -- PRODUCT "TG1024"

/-- h₀ of the evidence chain c (chapter 18, Chaining and signatures). -/
def chainStart (c : Nat) : Nat :=
  bytesToNum (Config.sha256 (ascii "MALNAN-G" ++ numToBytes 16 (Config.atManufacture Reg.DEV_UID) ++ numToBytes 1 c))

/-- hₙ of a chain from hₙ₋₁ and bytes 0 to 27 of entry n. -/
def chainNext (h : Nat) (b : Bytes) : Nat := bytesToNum (Config.sha256 (numToBytes 32 h ++ b))

/-- What an element reads as when nothing has written it since its home's reset: its default; for a live value 0
(DESIGN CHOICE, log entry 3); for a value set at manufacture a constant of Config (log entry 4). -/
def defaultOf (a : Nat) : Nat :=
  match specialDefaults.find? (fun p => p.1 == a) with
  | some p => p.2
  | none =>
    match rowOf a with
    | none => 0
    | some r =>
      match r.dflt with
      | .val v => v
      | .live => 0
      | .mfr =>
        if a = 0x200106 then Config.atManufacture a % 65
        else if a = 0x110010 then Config.atManufacture a % 2 ^ 36 * 2 ^ 28  -- LEAP_EXPIRES: a zero fraction (R859)
        else if rowAddr a = 0x500063 ∨ rowAddr a = 0x500066 then chainStart (a / 256 - 0x5000) % 2 ^ 256
        else Config.atManufacture a % 2 ^ (8 * r.ty.size)

/-- How many bytes a number takes. -/
def byteLen : Nat → Nat → Nat
  | 0, _ => 0
  | n + 1, v => if v = 0 then 0 else 1 + byteLen n (v / 256)

/-- The bytes of a value of a type (Table: Types). -/
def typeBytes (t : Ty) (v : Nat) : Bytes :=
  match t with
  | .str n => numToBytes (byteLen n v) v
  | t => numToBytes t.size v

end Sys2Proof.Machine
end

