-- ==== Sys2Proof/Machine/State.lean ====
section
/-! DEFINITION. The state of the block as plain data: the dictionary's registers in one sparse store, and, chapter by
chapter, the state that no element shows. -/
namespace Sys2Proof.Machine
open Host

/-- Why the block would stop for good. No command's meaning raises one: the spec gives every command of the table an
effect or leaves the state as it was. -/
inductive Fault where
  /-- Reserved for a store outside the dictionary; raised by nothing. Safe. -/
  | outsideDictionary
  deriving DecidableEq, Repr

/-- Why a command has no meaning here. -/
inductive Refusal where
  /-- Raised by exec's arm of a command that the model does not give a meaning. Safe: the machine stops. -/
  | notModelled (mnemonic : String)
  deriving DecidableEq, Repr

/-! ### What leaves the device -/

/-- Who asks: the keeper, a client, or CID 0 unprovisioned (R541). -/
inductive Who where | keeper | client (cid : Nat) | bootstrap
  deriving DecidableEq, Repr

/-- One thing that left the device at its terminals. -/
inductive Out where
  /-- A response to a request (Table: Message header). -/
  | response (port : Port) (src udp opcode cid reqNo status detail : Nat) (body : Bytes) (tr : Trailer)
  /-- A NOTIFY to a subscriber (Table: NOTIFY body). -/
  | notify (port : Port) (src udp cid slot kind seq : Nat) (payload : Bytes) (tr : Trailer)
  /-- The reply to a host-port ring operation (Table: Ring operation payload, request and reply). -/
  | ring (cid reqNo op target status detail : Nat) (payload : Bytes) (tr : Trailer)
  /-- The reply to the host-port STATUS command (R500). -/
  | hostStatus (flags free fetchable : Nat)
  /-- A frame of one of the other protocols, by its name, with the numbers it carries. -/
  | frame (name : String) (fields : List Nat)
  deriving DecidableEq, Repr

/-! ### Chapter 07: the exchange -/

/-- A response before its trailer is made: where it goes, what it answers, and the generation under which its request was
verified, none where it carries a zero trailer (R528, R541, R544). `ring`: the reply to a ring operation on a target. -/
structure Reply where
  port : Port
  src : Nat
  udp : Nat
  op : Nat
  cid : Nat
  reqNo : Nat
  ring : Option Nat
  status : Nat
  detail : Nat
  body : Bytes
  gen : Option Nat
  deriving DecidableEq, Repr

/-- A response kept for R256: the latest eight of each CID. `late`: it carries REFUSED in an item, and leaves at the delay of
its refusal class, in µs (R270). -/
structure Answered where
  cid : Nat
  reqNo : Nat
  body : Bytes
  at_ : Nat
  out : Reply
  late : Option Nat
  deriving DecidableEq, Repr

/-- A GATHER that waits for its freeze strobe (R263), with the instant it was asked for; the items refused or not offered are already settled. -/
structure Gather where
  req : Req
  asked : Nat
  freezeAt : Nat
  deriving DecidableEq, Repr

/-- A response that carries REFUSED and waits for its class's delay: the station time at which that ends (R270). -/
structure Refused where
  out : Reply
  due : Nat
  deriving DecidableEq, Repr

/-- A subscription in force (R274 to R280). `nextAt`: when the interval of a Watch next passes; `last`: the value last notified. -/
structure Subscr where
  cid : Nat
  slot : Nat
  kind : Nat
  port : Port
  src : Nat
  udp : Nat
  seq : Nat
  selector : Nat
  interval : Nat
  expiry : Nat
  nextAt : Nat
  last : Nat
  deriving DecidableEq, Repr

/-- `resumed`: the request that a command now serves was held, and for a requester once it had passed steps 1 to 4 of R258;
`forced`: its island drains and serves it from its queue (R71); `muted`: its answer does not reach its requester (R66). They are none and false
between commands. -/
structure ExchSt where
  answered : List Answered
  gathers : List Gather
  refused : List Refused
  subs : List Subscr
  resumed : Option (Option Who)
  forced : Bool
  muted : Bool
  deriving DecidableEq, Repr

/-! ### Chapter 08: parisons and commits -/

/-- The parison of a client: the staged elements with their values, and the time of the last staging or COMMIT. -/
structure Parison where
  cid : Nat
  items : List (Nat × Nat)
  lastAt : Nat
  deriving DecidableEq, Repr

inductive Phase where | pending | prepared | applied | aborted | failed | withdrawn
  deriving DecidableEq, Repr

/-- A pending commit. `order` is the order of acceptance (R290); `sa` says a station admin made it (R297). `shadowed` says
the keeper has sent its shadow banks. -/
structure Commit where
  cid : Nat
  hid : Nat
  num : Nat
  phase : Phase
  items : List (Nat × Nat)
  shape : Nat
  order : Nat
  sa : Bool
  shadowed : Bool
  /-- Its place in CM_PEND; a zeroize has hit its key elements (R549), or an earlier commit its committer's binding. -/
  slot : Nat
  killed : Bool
  deriving DecidableEq, Repr

/-- The outcome of a client's latest commit (CM_LAST). -/
structure CmLast where
  cid : Nat
  num : Nat
  phase : Phase
  status : Nat
  detail : Nat
  rule : Nat
  count : Nat
  shape : Nat
  deriving DecidableEq, Repr

structure StageSt where
  parisons : List Parison
  commits : List Commit
  last : List CmLast
  nextNum : List (Nat × Nat)
  order : Nat
  /-- Persistent elements of flipped commits that wait to be stored (R296), each with the values before the flip. -/
  unstored : List (List (Nat × Nat))
  deriving DecidableEq, Repr

/-! ### Chapter 09: leases -/

inductive BState where | queued | reserved | held | revoking | ended
  deriving DecidableEq, Repr

/-- A bundle. Items are resource ordinal and amount with bit 15 cleared; `fine` are the ordinals leased with fine stamping. -/
structure Bundle where
  cid : Nat
  hid : Nat
  num : Nat
  slot : Nat
  st : BState
  reason : Nat
  items : List (Nat × Nat)
  fine : List Nat
  timeoutAt : Nat
  dur : Nat
  bypass : Nat
  pb : Nat
  age : Nat
  reqAt : Nat
  grantAt : Nat
  /-- The grant instant was taken from BK (R127). -/
  coarse : Bool
  inst : Nat
  resOrder : Nat
  resAt : Nat
  deriving DecidableEq, Repr

/-- A standing lease (R339): STANDING slot or reference input, its ordinal and amount, and whether it is granted. -/
structure Standing where
  ord : Nat
  amount : Nat
  reference : Bool
  granted : Bool
  /-- The instant at which a revocation with notice ends it, 0 for none (R335, R580). -/
  ends : Nat
  /-- The instant of its grant (R236). -/
  grantAt : Nat
  deriving DecidableEq, Repr

structure ArbSt where
  bundles : List Bundle
  standing : List Standing
  cursor : Nat
  clientCursor : List (Nat × Nat)
  nextNum : List (Nat × Nat)
  /-- Clients with an accepted LEASE since FB started (R324). -/
  known : List Nat
  resOrder : Nat
  /-- Power outputs with a revocation in this fabric instant (R338). -/
  revokedNow : List Nat
  /-- The arbiter has a budget that PW computed after the requests now waiting arrived (R35). -/
  budgeted : Bool
  deriving DecidableEq, Repr

/-! ### Chapter 10: timers and plans -/

/-- A client timer handle that the client has written since FB started. State 0 idle, 1 armed, 2 fired, 3 cancelled.
`ovf` says the cell counts on the client's overflow lease (R310). -/
structure Tmr where
  cid : Nat
  handle : Nat
  mode : Nat
  state : Nat
  post : Nat
  inst : Nat
  interval : Nat
  fires : Nat
  ovf : Bool
  deriving DecidableEq, Repr

/-- A timer entry of the live plan as FB runs it: its next due instant and its effective anchor (R372, R382). -/
structure PlanTimer where
  hid : Nat
  tag : Nat
  due : Nat
  anchor : Nat
  deriving DecidableEq, Repr

structure TmrSt where
  timers : List Tmr
  /-- FB has started and every handle not written since reads "lost" (R360). -/
  lost : Bool
  /-- The two plan banks: (address, value) of every non-empty entry; bank A, bank B. -/
  bankA : List (Nat × Nat)
  bankB : List (Nat × Nat)
  seamA : Nat
  seamB : Nat
  /-- Effective anchors stored with the banks: (hid, tag, anchor). -/
  anchors : List (Nat × Nat × Nat)
  loaded : Bool
  planTimers : List PlanTimer
  /-- The latest client of each holder to commit plan entries: (hid, cid) (R371). -/
  authors : List (Nat × Nat)
  /-- The shape instant of the commit that set the exchange pending (R369). -/
  pendingFrom : Nat
  deriving DecidableEq, Repr

/-! ### Chapters 11 and 12: event inputs, the record store, delivery -/

/-- A record of the store. `hid` 64 stands for a station record's holder of its own (chapter 12, streams). `mask` has a bit
for every target that has not yet completed it; `ovf` the account it is counted on (R310); `evid` an evidence entry is
still to be stored (R407). -/
structure Rec where
  id : Nat
  stamp : Nat
  source : Nat
  cid : Nat
  kind : Nat
  flags : Nat
  detail : Nat
  hid : Nat
  mask : Nat
  any : Bool
  ovf : Bool
  evid : Bool
  deriving DecidableEq, Repr

/-- An entry of a target's ring that no claim has consumed; `void` gives the spurious reason of a void entry. -/
structure Entry where
  target : Nat
  seq : Nat
  rid : Nat
  void : Option Nat
  replay : Bool
  deriving DecidableEq, Repr

/-- A claim held at a target. -/
structure Claim where
  target : Nat
  seq : Nat
  rid : Nat
  at_ : Nat
  deriving DecidableEq, Repr

/-- Why a record written is not yet placed: behind its stream or its source's enable bit, held by a hold-off group, or for
room in the ring. -/
inductive Wait where | stream | group (n : Nat) | room
  deriving DecidableEq, Repr

/-- A placement to come: the record and its target; target 4 stands for all the targets of an ANY record. -/
structure Waiting where
  rid : Nat
  target : Nat
  why : Wait
  replay : Bool
  deriving DecidableEq, Repr

structure DlvSt where
  recs : List Rec
  nextRec : Nat
  entries : List Entry
  claims : List Claim
  waiting : List Waiting
  /-- The next sequence number of T0 to T3. -/
  seq0 : Nat
  seq1 : Nat
  seq2 : Nat
  seq3 : Nat
  /-- Hold-off groups whose timer runs, with the instant at which it ends (R453). -/
  groups : List (Nat × Nat)
  /-- (source, holder) whose next record carries OVERRUN (R408). -/
  overrun : List (Nat × Nat)
  deriving DecidableEq, Repr

/-- A raw transition that awaits qualification or writing (R396). -/
structure EvtWait where
  input : Nat
  rising : Bool
  stamp : Nat
  detail : Nat
  cid : Nat
  hid : Nat
  coarse : Bool
  /-- What was in force at the raw transition: polarity, targets, evidence flag and filter code (R43, R375). -/
  polarity : Nat
  targets : Nat
  evid : Bool
  filter : Nat
  deriving DecidableEq, Repr

/-- An edge an AO latch holds: its stamp, if BK answered the stamp request; else the AO cycles counted from its raw
transition to the request, which stood at `asked` (R397 to R401). -/
structure Latched where
  edge : EvtWait
  stamp : Option Nat
  cycles : Nat
  asked : Nat
  deriving DecidableEq, Repr

/-- Loop L4 of one analog input (R402 to R406): threshold and noise power (in units of (mV)²/65536), comparator, end of
the hold, fenced flag, and whether a sample since the last whole second counts toward the estimate though the comparator has
opened since. -/
structure L4 where
  input : Nat
  th : Nat
  p : Nat
  isOpen : Bool
  holdEnd : Nat
  fenced : Bool
  quiet : Bool
  deriving DecidableEq, Repr

structure EvtSt where
  /-- The qualified level of inputs whose detector has taken one. -/
  levels : List (Nat × Bool)
  waits : List EvtWait
  latched : List Latched
  l4 : List L4
  /-- FB stays awake for the reference inputs (R415, R420). -/
  refAwake : Bool
  deriving DecidableEq, Repr

/-! ### Chapter 14: keys -/

/-- A holder slot of the keeper: its 256-bit key (R512), and the stored reserve of KEY_USES (R531). -/
structure Slot where
  hid : Nat
  key : Nat
  reserve : Nat
  /-- The 64 bytes of the wrapped blob in the array, if there is one (R514). -/
  blob : Option Bytes
  warned : Bool
  deriving DecidableEq, Repr

/-- An open key exchange of a client (R536): the ephemeral private key; peer written, W and M by their bytes as numbers. -/
structure Kx where
  cid : Nat
  hid : Nat
  alg : Nat
  gen : Nat
  expiry : Nat
  eph : Nat
  peerDone : Bool
  w : Nat
  m : Nat
  deriving DecidableEq, Repr

/-- `copies`: the keys of earlier generations that requests verified before a flip are answered with: holder, generation,
algorithm, key (R543, R544). `dummy`: what the table's dummy keys were drawn from at the latest start of SC (R517). -/
structure KeySt where
  slots : List Slot
  kx : List Kx
  k3 : Nat
  copies : List (Nat × Nat × Nat × Nat)
  dummy : Nat
  /-- SC is rebuilding the client key table after a start (R517). -/
  rebuilding : Bool
  /-- The station time of the latest accepted KX_START (R537), 0 for none. -/
  lastKx : Nat
  /-- Clients with a request accepted since AUTH_EPOCH (R519). -/
  fresh : List Nat
  deriving DecidableEq, Repr

/-! ### Chapter 18: tamper and the evidence log -/

/-- What happens once a waiting evidence entry is stored. -/
inductive OnStored where
  | nothing
  /-- The record's slot may be freed (R407). -/
  | freeRec (id : Nat)
  /-- The ring entry of a ring sequence may be released (R163). -/
  | releaseRing (seq : Nat)
  /-- TMP_CLEAR clears its mask and is answered OK (R662). -/
  | clearSticky (mask : Nat) (req : Option Req)
  /-- The field access port opens (R673). -/
  | openFac
  deriving DecidableEq, Repr

/-- A group of evidence entries: the first with its CONT entries, 10 payload bytes each. -/
structure LogGroup where
  chain : Nat
  stamp : Nat
  typ : Nat
  flags : Nat
  cid : Nat
  payloads : List Bytes
  onStored : OnStored
  deriving DecidableEq, Repr

/-- A stored evidence entry; `last` marks the end of its group, `h` the chain value after it. -/
structure LogEntry where
  chain : Nat
  seq : Nat
  stamp : Nat
  typ : Nat
  flags : Nat
  cid : Nat
  payload : Bytes
  last : Bool
  h : Nat
  deriving DecidableEq, Repr

structure LogSt where
  waiting : List LogGroup
  entries : List LogEntry
  /-- Chains whose loss of an evidence record was reported, with the station time (R683). -/
  lostNoted : List (Nat × Nat)
  deriving DecidableEq, Repr

/-- An entry of the backup capture ring (R160). -/
structure RingEntry where
  /-- Its log append has been stored, or none is called for (R163). -/
  logged : Bool
  /-- It waits to be appended to the log. -/
  queued : Bool
  /-- Kind: asserted, else released. -/
  asserted : Bool
  stamp : Nat
  source : Nat
  seq : Nat
  flags : Nat
  detail : Nat
  deriving DecidableEq, Repr

structure TmpSt where
  /-- Response holds in force: (source, responses byte, hosts, shed, end instant or 0 for none). -/
  holds : List (Nat × Nat × Nat × Nat × Nat)
  lfsr : Nat
  /-- The source of the running built-in test, its client and when its window ends. -/
  testing : Option Nat
  testChanged : Bool
  testCid : Nat
  testEnds : Nat
  /-- When the challenge of the field access port was given, and its 16 bytes; until when it takes no request; its latest frame. -/
  challengeAt : Option Nat
  challenge : Nat
  lockoutUntil : Nat
  lastFrame : Nat
  deriving DecidableEq, Repr

/-! ### Chapter 13: field ports -/

/-- A message in the CAN transmit queue (R470): its frames and how many were sent. -/
structure CanMsg where
  out : Out
  prio : Nat
  frames : Nat
  sent : Nat
  deriving DecidableEq, Repr

/-- A CAN message under reassembly (R469). -/
structure Reasm where
  cid : Nat
  tag : Nat
  total : Nat
  got : Nat
  next : Nat
  deriving DecidableEq, Repr

structure PortSt where
  canTx : List CanMsg
  reasm : List Reasm
  /-- Responses that wait for room in the CAN transmit queue (R470). -/
  canWait : List CanMsg
  /-- Frames in the host port's inbound queue, and the frames its outbound queue holds or that wait for room (R496). -/
  hostIn : Nat
  hostOut : List Out
  hostErr : Bool
  /-- The I²C address the port answers at, as taken over at the start after a full or main reset (R504); none until then. -/
  i2cAddr : Option Nat
  /-- ICMPv6 echo replies in the present second (R480), and the second. -/
  echoes : Nat
  echoSec : Nat
  /-- Neighbour cache (R478): (address, MAC). -/
  neighbours : List (Nat × Nat)
  /-- Until when duplicate address detection runs (R478). -/
  dadUntil : Nat
  deriving DecidableEq, Repr

/-! ### Chapter 02: islands and channels -/

/-- A requester's channel state, as far as it outlasts one transaction (Table: Requester channel states). -/
inductive Chan where | idle | orphan | stuck
  deriving DecidableEq, Repr

/-- What a drain leads to: GATED, a per-island reset, UNPOWERED, or the main or full reset that waits for every drain (R100). -/
inductive DrainTo where | gate | reset | powerDown | scope
  deriving DecidableEq, Repr

/-- A request that waits: for its island to reach RUN or its channel to be IDLE (R62, R68, R70), or, without an island, behind
an earlier request of its own client (R254). `cmd` is the command to be served, none for a request of the device itself; `who`
its requester, once the request has passed steps 1 to 4 of R258. -/
structure Held where
  isl : Option Island
  ch : Nat
  cmd : Option Instr
  cid : Nat
  who : Option Who
  deriving DecidableEq, Repr

structure IslSt where
  /-- The twenty channels CH00 to CH19. -/
  chans : List Chan
  /-- The inverted shadow copies of the eight state registers, in the order of ISL_STATE (R55). -/
  shadows : List Nat
  /-- The instant loaded into AO's wake comparator, none where nothing is pending (R31). -/
  comparator : Option Nat
  /-- Islands in DRAINING with what the drain leads to. -/
  drains : List (Island × DrainTo)
  /-- Requests that wait, oldest first. -/
  held : List Held
  /-- Islands on which a request acts, with its code, 1 GATE or 2 RESET, until it completes (R85, R86, R852). -/
  acting : List (Island × Nat)
  /-- Holds of the keeper: island, end of the hold lease, and whether the 250 ms signal was given (R75, R79). -/
  holds : List (Island × Nat × Bool)
  /-- Islands that lost their state without a drain: their outbound channels start in ORPHAN (R850, R852). -/
  lostState : List Island
  /-- Islands whose state register failed, until the device has reset them (R56, R852). -/
  faulted : List Island
  /-- Requests whose persistent write or image block the firmware repeats: opcode, request, repeats so far (R90). -/
  retries : List (Nat × Req × Nat)
  deriving DecidableEq, Repr

/-! ### Chapter 03: supplies, resets, boot -/

/-- The reset scopes that a command asks for. -/
inductive Scope where | main | full
  deriving DecidableEq, Repr

structure BootSt where
  /-- The supplies that are good. -/
  vsys : Bool
  vdd5 : Bool
  vcore : Bool
  /-- VAUX is on: it rises with every start of VDD5 (R94). -/
  vaux : Bool
  vddioA : Bool
  vddioB : Bool
  /-- RST_N is low; it has been low 10 ms (R99). -/
  rstLow : Bool
  rstWide : Bool
  /-- A reset requested through DEV_RESET that waits for holds (R101). -/
  pendingReset : Option Scope
  /-- A main or full reset whose drain is under way, with its cause (R100). -/
  draining : Option (Scope × Nat)
  /-- The cause of the next firmware start (R98), and whether the reset before it was full or wider. -/
  cause : Nat
  fullReset : Bool
  /-- The host reset outputs RSTO_A, RSTO_B are asserted by the bring-up (R109). -/
  rstoA : Bool
  rstoB : Bool
  /-- The levels at which AO holds HINT_A and HINT_B while FB is stopped (R445); whether the firmware has loaded HINT_CFG, before
  which both are high impedance (R793). -/
  hintA : Bool
  hintB : Bool
  hintOut : Bool
  /-- The host port is ready (R96), and the instant at which it became so (R109). -/
  portReady : Bool
  readyAt : Nat
  /-- The firmware runs. -/
  firmware : Bool
  /-- BOOT_LOST for the next start (R107). -/
  lost : Nat
  /-- WAKE_N is held low (R795). -/
  wakeN : Bool
  /-- The straps were sampled or defaulted since the last full or main reset (R110). -/
  straps : Bool
  /-- The boot ROM has chosen what to start (R116 to R120); how many slots it has tried. -/
  chosen : Bool
  tries : Nat
  deriving DecidableEq, Repr

/-! ### Chapter 04: the backup domain -/

structure BkSt where
  /-- The capture ring, oldest first, at most eight entries (R160). -/
  ring : List RingEntry
  /-- The next ring sequence number, 8 bits. -/
  ringSeq : Nat
  /-- The three copies of the counters, in ticks, and their consecutive reloads (R156, R157). -/
  copies : List Nat
  misses : List Nat
  /-- The compensation setting BK last received, in 2⁻³⁰, and the 30-bit accumulator (R186, R189). -/
  comp : Int
  acc : Nat
  /-- A second copy failed on VBK: source 9 waits for main power (R158). -/
  voteDeferred : Bool
  /-- The trickle charger sources current; its settings were loaded (R150). -/
  trickle : Bool
  settings : Bool
  /-- The level of VBK at the charger, in mV, as last sensed (R151). -/
  vbk : Nat
  /-- BK's own copies of VBK_LOW_MV and X32_DRIVE_MAX (R147, R167). -/
  vbkLow : Nat
  driveMax : Nat
  /-- BK lost its state and has not restarted (R138, R854). -/
  lost : Bool
  /-- X32 has been qualified and waits for the whole second (R134); X32 has stopped since the last qualification. -/
  qualified : Bool
  stopped : Bool
  /-- Consecutive BK seconds of high swing (R166). -/
  highSwing : Nat
  /-- S4: the copy of X32_DRIVE_MAX is not loaded since the backup-scope reset (R168, R693). -/
  s4 : Bool
  deriving DecidableEq, Repr

/-! ### Chapter 05: oscillators, references, the crystal model -/

/-- An observation's ends (R198, R199): t₁, ε₁, t₂, ε₂ in ns, the steps between in ns, σ_ref in ns. -/
structure Obs where
  t1 : Nat
  e1 : Int
  t2 : Nat
  e2 : Int
  steps : Int
  sigma : Nat
  deriving DecidableEq, Repr

/-- The covariance that the priors give (R201), in ppt: PRIOR_BETA in 0.1 ppb/°C², PRIOR_TOL in ppm. -/
def priorCov (beta tol : Rat) : List (List Rat) :=
  let b := beta * 100
  let sd : List Rat := [tol * 1000000, 10 * b, b / 10, 200, 3000000]
  (List.range 5).map (fun i => (List.range 5).map (fun j => if i = j then sd.getD i 0 * sd.getD i 0 else 0))

/-- The crystal model as the keeper stores it (R202): θ, P, the registers that show it, the mean temperatures and the latest
start of the counted episodes, and whether AGE_ORIGIN is still to be set. -/
structure Model where
  theta : List Rat
  cov : List (List Rat)
  regs : List (Nat × Nat)
  temps : List Int
  lastStart : Option Nat
  ageWaits : Bool
  deriving DecidableEq, Repr

structure OscSt where
  pllLocked : Bool
  /-- TS0 with its offset at the last compensation load, in 0.01 °C, and when that was. -/
  lastLoadT : Option Int
  lastLoadAt : Nat
  /-- −y + d at the last load, as a fraction: COMP_WORD without its slew term. -/
  base : Rat
  /-- The sub-tick phase written into BK before FB stopped, in units of 2⁻²⁸ s, and the cycles of BK's tick source, of 2048,
  over which FB has still to remove it (R188). -/
  phase : Nat
  phaseRun : Nat
  /-- What is left of the outage correction, in ns, exactly (R207, R229); the part of the first nanosecond of SLEW_REM that is
  slewed already (R228). -/
  corr : Rat
  slewPart : Rat
  /-- The stamps of the latest nine PPS_IN pulses (R190). -/
  pulses : List Nat
  /-- Consecutive good and consecutive missing or bad inputs of the class in use (R193). -/
  refGood : Nat
  refMissing : Nat
  /-- The state and class QUALIFYING returns to (R193). -/
  refPrev : Nat
  refPrevCls : Nat
  /-- REF_LABEL's second for the next good pulse, and the label of the latest technician pulse (R192). -/
  label : Option Nat
  techLast : Option Nat
  /-- A pulse that waits for its sentence (stamp corrected, stamp, interval good), the latest PPS label, and a label that
  waits for its pulse with the end of its second, none where two sentences differ (R418). -/
  pulseWait : Option (Nat × Nat × Bool)
  ppsLast : Option Nat
  heldLabel : Option (Option Nat × Nat)
  /-- The latest pulse labelled: when it was stamped, and its label. -/
  ppsSeen : Option (Nat × Nat)
  /-- The latest 16 mean path delays, in ns (R191). -/
  ptpDelays : List Int
  /-- REF_ACCEPT was written, the disagreement was reported (R194). -/
  accepted : Bool
  disagreed : Bool
  /-- The discipline term d as a fraction, its integral part, and the instant of the latest input that moved it (R195 to R197). -/
  disc : Rat
  discI : Rat
  discAt : Option Nat
  /-- The observation under way: start, offset there, σ_ref (R198); the steps since, in ns; those that end to be applied. -/
  obs : Option (Nat × Int × Nat)
  steps : Int
  obsDue : List Obs
  /-- The end of the last LOCKED span and its offset, while R199 lets a gap be used. -/
  gap : Option (Nat × Int)
  /-- The episode under way, counted or not, the sum and number of its temperatures; the start of the latest counted one;
  the mean temperatures of the counted episodes (R204, R205). -/
  epStart : Option Nat
  epCounted : Bool
  epSumT : Int
  epN : Nat
  epLastStart : Option Nat
  epTemps : List Int
  /-- θ and P of the estimator, in ppt (R200); the model as last stored (R202). -/
  theta : List Rat
  cov : List (List Rat)
  stored : Model
  /-- AGE_ORIGIN is set at the next qualification of X32 (R201). -/
  ageWaits : Bool
  /-- LFRC calibrations: error in ppb and temperature in 0.01 °C, the latest 32 (R174); a run is under way. -/
  lfrcCal : List (Int × Int)
  lfrcRun : Bool
  /-- A pulse of PPS_OUT under way: the instant at which it falls (R211). -/
  ppsUntil : Option Nat
  /-- HOLD_UNC in units of 10⁻¹² s (R209). -/
  holdAcc : Nat
  /-- The outages of at least 1 s that await their correction, from and to (R207). -/
  outages : List (Nat × Nat)
  /-- The pair (offset, TAI−UTC) last compared (R223). -/
  leapSeen : Option (Int × Int)
  /-- The currentUtcOffset that the grandmaster last announced as valid. -/
  gmUtc : Option Int
  deriving DecidableEq, Repr

/-! ### Chapter 06: station time -/

/-- A step that waits for its application instant (R234, R235): the keeper's own; of both halves of a pair (R766). -/
structure Step where
  delta : Int
  forced : Bool
  at_ : Nat
  cid : Nat
  keeper : Bool
  joint : Bool
  deriving DecidableEq, Repr

structure TimSt where
  step : Option Step
  rangeEnd : Bool
  deriving DecidableEq, Repr

/-! ### Chapter 15: harvest, battery, heater, budget -/

structure PwrSt where
  /-- VIN and VSYS in mV as last read. -/
  vin : Nat
  vsys : Nat
  /-- The converter switches; it stopped above 62 V and waits for 60 V (R552). -/
  on : Bool
  high : Bool
  /-- L5: V_ref and the one before it in mV, the last power in mW, its direction, and follow (R569). -/
  vRef : Nat
  vRefLast : Nat
  pLast : Nat
  up : Bool
  follow : Bool
  /-- Consecutive evaluations of L6 at full duty while cold and following (R573). -/
  full : Nat
  /-- L7's limit in mA (R567). -/
  l7 : Nat
  /-- The charger starts from evaluation (chapter 15, Edges). -/
  fresh : Bool
  /-- In FAULT with cause 0x03, VIN has fallen as for NIGHT; how many nights in a row ended that fault (R562). -/
  dark : Bool
  tries : Nat
  /-- Net harvest of the completed hours in mWh, at most 168, and of the completed days, at most 9, newest first (R578, R582). -/
  hours : List Int
  days : List Int
  /-- Net harvest of the hour under way in mW·s, of the day's completed hours in mWh; the hour's number. -/
  acc : Int
  dayAcc : Int
  hour : Nat
  /-- The median that SNOW_SUSPECT was set against (R582). -/
  snowMed : Int
  /-- ENERGY_CAP at the latest record of kind 0x04; since when the held energy exceeds it (R580). -/
  capLast : Nat
  overAt : Option Nat
  /-- SOC as the keeper last stored it (R576); the charge counted below one step of SOC, in mA·s × 100. -/
  socStored : Nat
  charge : Int
  /-- The firmware has loaded PW since it started (step 8 of Table: Power-up from VSYS, R553). -/
  loaded : Bool
  /-- The thresholds in mV that PW loaded into AO before it stopped in NIGHT: of VIN, of VSYS for BAT_LOW and BAT_CUT (R581). -/
  night : Option (Nat × Nat × Nat)
  deriving DecidableEq, Repr


/-! ### Chapter 16: rails, load switches -/

/-- One of the outputs 0–13 (Table: Output states): state, cause, retries left, down by a fault-down, its DOWN_DLY runs
(R596); bands entered (warning low and high, fault low and high); below its off level; over temperature; the station time of
its latest load record (R611). -/
structure Output where
  state : Nat
  cause : Nat
  retries : Nat
  faultDown : Bool
  turn : Bool
  warnLo : Bool
  warnHi : Bool
  faultLo : Bool
  faultHi : Bool
  below : Bool
  hot : Bool
  loadAt : Option Nat
  /-- In WAIT_UP: UP_DLY has passed (R776). -/
  upPassed : Bool
  deriving DecidableEq, Repr

structure RailSt where
  outs : List Output
  /-- FLT_N reads low (R603); the device drives it (R600); it recorded itself originator (R601), with output, cause, stamp. -/
  fltLow : Bool
  driving : Bool
  originator : Bool
  fltOut : Nat
  fltCause : Nat
  fltAt : Nat
  /-- FLT_MIN has passed since it began to drive. -/
  minPassed : Bool
  /-- FLT_N has been high for FLT_HOLD. -/
  holdOk : Bool
  deriving DecidableEq, Repr

/-! ### Chapter 17: watchdogs -/

/-- A watchdog channel: its state code, armed, in grace, frozen, counting on the other clock, its window open; the slots
checked in and whether their completion is held (R631); its reset output asserted by its trip; the start and the length of
its period, in station time and ms, and the cause outstanding; what the ticks or cycles of the period take, in units of
2⁻²⁸ s (R625). -/
structure Wd where
  st : Nat
  armed : Bool
  grace : Bool
  frozen : Bool
  other : Bool
  isOpen : Bool
  slots : Nat
  held : Bool
  rsto : Bool
  began : Nat
  len : Nat
  cause : Nat
  span : Nat
  deriving DecidableEq, Repr


/-! ### Chapter 19: health monitors and loops -/

structure LehrSt where
  /-- Lost inputs, by loop and monitor (R698). -/
  lost : List (Nat × Nat)
  /-- The loops in FENCED; the loops in SAFETY with their rule (R696, R697). -/
  fenced : List Nat
  safety : List (Nat × Nat)
  /-- L1: VCORE in mV; L2: th in mV; their counts (R688, R690). -/
  vcore : Nat
  th : Nat
  calm : Nat
  quiet : Nat
  /-- S3 in force: L1's evaluations since the latest canary error, and the top of W before it; S2 in force (R693). -/
  s3 : Option Nat
  s3Top : Nat
  s2 : Bool
  /-- Warning bands entered: monitor, high (R685). -/
  bands : List (Nat × Bool)
  /-- The process banks that have read −3.00 % or less (R686): held for good. -/
  aged : List Nat
  deriving DecidableEq, Repr


/-! ### Chapter 20: redundancy and self-repair -/

structure RepSt where
  /-- The latest four passes of a memory, newest first: the rows or blocks in which each found a correctable error (R706,
  R712). -/
  passes : List (Nat × List Nat)
  /-- Seeds that await their repair; repairs stored in the persistent region, and made but not yet stored; seeds that found no
  spare row (R707 to R709): memory and row. -/
  seeds : List (Nat × Nat)
  stored : List (Nat × Nat)
  fresh : List (Nat × Nat)
  unrepaired : List (Nat × Nat)
  /-- Lost copies of K0 to K3 (R710). -/
  lostCopies : List Nat
  /-- Array blocks due for retirement; retired blocks of the memories 0x08 to 0x0B; regions that are read-only (R712 to
  R714). -/
  due : List (Nat × Nat)
  retired : List Nat
  readOnly : List Nat
  /-- The age that a block never programmed since manufacture has, in weighted units of station time; the station time it was
  brought up to; TS7 as last read, in 0.01 °C, and as it stood before an outage (R723, R724). -/
  ageClock : Nat
  ageAt : Nat
  ts7 : Int
  outTs : Option Int
  /-- Memories whose blocks are all rewritten in their next pass (R724). -/
  ageAll : List Nat
  /-- Memory, block and ageClock at the block's latest program. -/
  programmed : List (Nat × Nat × Nat)
  /-- The reserve warning was raised (R717); the crystal counts as restarted (R715). -/
  warned : Bool
  restarted : Bool
  /-- What uncorrectable errors of the array took: slots, log entries (chain, sequence), elements (R711). -/
  badSlots : List Nat
  lostLog : List (Nat × Nat)
  lostEls : List Nat
  deriving DecidableEq, Repr

/-! ### Chapter 21: the firmware slots and value sets -/

/-- An image's header (Table: Image header). `layout`: magic, format and reserved bytes are as R733 asks. -/
structure Image where
  layout : Bool
  len : Nat
  version : Nat
  security : Nat
  stepLo : Nat
  stepHi : Nat
  features : Nat
  capability : Nat
  twinMin : Nat
  schema : Nat
  migrates : Nat
  deriving DecidableEq, Repr

/-- What a slot holds: the header, once its first block is stored, and the blocks by number. -/
structure ImageSlot where
  hdr : Option Image
  blocks : List (Nat × Bytes)
  deriving DecidableEq, Repr

/-- The image current at manufacture (R806): its security version is FW_FLOOR, its compatibility record admits its part, it
migrates from no older schema, and it runs beside any half (log entry 7). -/
def deliveredImage : Image :=
  { layout := true, len := 782336, version := Config.deliveredImage 0 % 2 ^ 32,
    security := Config.atManufacture 0x200106 % 65, stepLo := 0, stepHi := 255, features := 0,
    capability := Config.deliveredImage 1 % 2 ^ 32, twinMin := 0, schema := Config.deliveredImage 2 % 2 ^ 16,
    migrates := Config.deliveredImage 2 % 2 ^ 16 }

/-- A value set: the schema it holds and, while it is not in use, its configuration and the two plan banks. -/
structure ValueSet where
  schema : Nat
  values : List (Nat × Nat)
  bankA : List (Nat × Nat)
  bankB : List (Nat × Nat)
  deriving DecidableEq, Repr

structure FwSt where
  slotA : ImageSlot
  slotB : ImageSlot
  /-- The security version of a pending floor advance (R731). -/
  pendingFloor : Option Nat
  setA : ValueSet
  setB : ValueSet
  /-- The set last in use (R744), and the set whose values the dictionary holds: 1 A, 2 B, 0 none. -/
  lastSet : Nat
  active : Nat
  /-- The station time since which the running image has run in full service (R742). -/
  since : Option Nat
  deriving DecidableEq, Repr

/-! ### Chapter 22: the twin -/

structure TwinSt where
  /-- The session key (R754); the frame counters of the frames sent and of the last one accepted (R751). -/
  key : Option Nat
  /-- The private key of the ephemeral point of this half's latest HELLO (R753). -/
  eph : Option Nat
  tx : Nat
  rx : Nat
  /-- A HELLO is sent every 100 ms (R753). -/
  helloing : Bool
  /-- The station time of the last heartbeat accepted, the misses since; the counts sent and accepted (R752). -/
  hbAt : Nat
  misses : Nat
  hbOut : Nat
  hbIn : Nat
  /-- What the peer's heartbeat carried: its TWIN_STATE and whether it is reference-ready; the leader to take over at the next
  SYNC exchange (R759). -/
  peerState : Nat
  peerReady : Bool
  nextLeader : Nat
  /-- Shared rails: A's word as B received it, B's echo as A received it, and the enables that B drives (R776). -/
  word : Nat
  echo : Nat
  lent : Nat
  /-- The offset of the latest exchange in ns; exchanges in a row above and below the thresholds; a time disagreement is raised
  (R764). -/
  offset : Int
  above : Nat
  under : Nat
  disagree : Bool
  /-- This half follows; the leader's REF_STATE and HOLD_UNC (R762). -/
  follow : Bool
  leadState : Nat
  leadUnc : Nat
  /-- The digests to be compared are there: its own; the peer's, with its instant (R768, R769). -/
  ownDigest : Bool
  peerDigest : Option Nat
  /-- The role whose values TWIN_RESOLVE adopts, who wrote it, the elements changed (R773). -/
  adopt : Nat
  adoptCid : Nat
  adopted : Nat
  /-- The latest eight fleet offsets, in ns (R782). -/
  fleet : List Int
  /-- The station time of this half's latest digest. -/
  digestFor : Nat
  deriving DecidableEq, Repr

/-! ### The whole -/

/-- The station clock: FB's station time with the 38 bits below its LSB (R182), whether FB has loaded it since its start (R125),
and V, BK's voted value in ticks of 2⁻¹⁵ s (chapter 04). -/
structure Clk where
  st : Nat
  loaded : Bool
  v : Nat
  sub : Nat
  deriving DecidableEq, Repr

structure State where
  /-- The commands that wait, first in, first out. -/
  pending : List Instr
  /-- The dictionary: (address, value) of every element that differs from its default, addresses rising. -/
  dict : List (Nat × Nat)
  /-- How many values the manual leaves open have been drawn (the model's own field). -/
  freeN : Nat
  clk : Clk
  exch : ExchSt
  stage : StageSt
  arb : ArbSt
  tmr : TmrSt
  evt : EvtSt
  dlv : DlvSt
  port : PortSt
  key : KeySt
  log : LogSt
  tmp : TmpSt
  isl : IslSt
  boot : BootSt
  bk : BkSt
  osc : OscSt
  tim : TimSt
  pwr : PwrSt
  rail : RailSt
  wd : List Wd
  lehr : LehrSt
  rep : RepSt
  fw : FwSt
  twin : TwinSt
  /-- What has left the device, oldest first. -/
  out : List Out
  deriving DecidableEq, Repr

/-- The dictionary right after the first supply of a delivered part: every element at its default but those of the island
state registers (BK runs from VBK, the rest has no supply) and those that R806 and R129 state; slot A is CONFIRMED. -/
def resetDict : List (Nat × Nat) := [
  (0x120002, 15), (0x12001D, 0xFF), (0x130001, 1),
  (0x1F8001, 0x66), (0x1F8002, 0x0F), (0x1F8003, 0x0F), (0x1F8004, 0x0F),
  (0x1F8005, 0x0F), (0x1F8006, 0x0F), (0x1F8007, 0x0F), (0x1F8008, 0x0F),
  (0x200101, 4 * 2 ^ 184 + 2 ^ 168 + deliveredImage.version * 2 ^ 128 + deliveredImage.security * 2 ^ 112 +
    deliveredImage.schema * 2 ^ 96 + deliveredImage.capability * 2 ^ 64)]

/-- The device right after reset: the first supply of a delivered part is a backup-scope reset (R806, R854). -/
def State.reset : State :=
  { pending := [], dict := resetDict, freeN := 0, clk := ⟨0, false, 0, 0⟩,
    exch := ⟨[], [], [], [], none, false, false⟩, stage := ⟨[], [], [], [], 0, []⟩,
    arb := ⟨[], [], 0, [], [], [], 0, [], false⟩,
    tmr := ⟨[], true, [], [], 600, 600, [], false, [], [], 0⟩,
    evt := ⟨[], [], [], [], false⟩,
    dlv := ⟨[], 0, [], [], [], 0, 0, 0, 0, [], []⟩,
    port := ⟨[], [], [], 0, [], false, none, 0, 0, [], 0⟩,
    key := ⟨[], [], 0, [], 0, false, 0, []⟩,
    log := ⟨[], [], []⟩,
    tmp := ⟨[], 1, none, false, 0, 0, none, 0, 0, 0⟩,
    isl := ⟨List.replicate 20 .idle, [0x99, 0xF0, 0xF0, 0xF0, 0xF0, 0xF0, 0xF0, 0xF0], none, [], [], [], [], [], [], []⟩,
    boot := { vsys := false, vdd5 := false, vcore := false, vaux := false, vddioA := false, vddioB := false, rstLow := false, rstWide := false, pendingReset := none, draining := none, cause := 0x01, fullReset := true, rstoA := true, rstoB := true, hintA := false, hintB := false, hintOut := false, portReady := false, readyAt := 0, firmware := false, lost := 0, wakeN := false, straps := false, chosen := false, tries := 0 },
    bk := ⟨[], 0, [0, 0, 0], [0, 0, 0], 0, 0, false, false, false, 0, 2000, 15, false, false, false, 0, true⟩,
    osc := { pllLocked := false, lastLoadT := none, lastLoadAt := 0, base := 0, phase := 0, phaseRun := 0, corr := 0, slewPart := 0, pulses := [], refGood := 0, refMissing := 0, refPrev := 0, refPrevCls := 255, label := none, techLast := none, pulseWait := none, ppsLast := none, heldLabel := none, ppsSeen := none, ptpDelays := [], accepted := false, disagreed := false, disc := 0, discI := 0, discAt := none, obs := none, steps := 0, obsDue := [], gap := none, epStart := none, epCounted := false, epSumT := 0, epN := 0, epLastStart := none, epTemps := [], theta := [0, 0, -34000, 0, 0], cov := priorCov 340 20, stored := ⟨[0, 0, -34000, 0, 0], priorCov 340 20, [(0x120010, 0), (0x120011, 0), (0x120012, 2 ^ 32 - 34000), (0x120013, 0), (0x120014, 0), (0x120016, 0), (0x120017, 0), (0x120018, 0), (0x120019, 0), (0x12001A, 0)], [], none, true⟩, ageWaits := true, lfrcCal := [], lfrcRun := false, ppsUntil := none, holdAcc := 0, outages := [], leapSeen := none, gmUtc := none },
    tim := ⟨none, false⟩,
    pwr := ⟨0, 0, false, false, 0, 0, 0, true, false, 0, 0, true, false, 0, [], [], 0, 0, 0, 0, 0, none, 500, 0, false, none⟩,
    rail := ⟨List.replicate 14 ⟨0, 0, 1, false, false, false, false, false, false, true, false, none, false⟩, false, false, false, 0, 0, 0, false, true⟩,
    wd := List.replicate 3 ⟨0x0F, false, false, false, false, false, 0, false, false, 0, 0, 0, 0⟩,
    lehr := ⟨[], [], [], 1000, 10, 0, 0, none, 1000, false, [], []⟩,
    rep := { passes := [], seeds := [], stored := [], fresh := [], unrepaired := [], lostCopies := [0, 0, 0, 0], due := [], retired := [0, 0, 0, 0], readOnly := [], ageClock := 0, ageAt := 0, ts7 := 0, outTs := none, ageAll := [], programmed := [], warned := false, restarted := false, badSlots := [], lostLog := [], lostEls := [] },
    fw := { slotA := ⟨some deliveredImage, []⟩, slotB := ⟨none, []⟩, pendingFloor := none, setA := ⟨deliveredImage.schema, [], [], []⟩, setB := ⟨0, [], [], []⟩, lastSet := 1, active := 1, since := none },
    twin := { key := none, eph := none, tx := 0, rx := 0, helloing := false, hbAt := 0, misses := 0, hbOut := 0, hbIn := 0, peerState := 0, peerReady := false, nextLeader := 0, word := 0, echo := 0, lent := 0, offset := 0, above := 0, under := 0, disagree := false, follow := false, leadState := 0, leadUnc := 0, ownDigest := false, peerDigest := none, adopt := 0, adoptCid := 0, adopted := 0, fleet := [], digestFor := 0 },
    out := [] }

end Sys2Proof.Machine
end

