-- ==== Sys2Proof/Machine/Dict.lean ====
section
/-! DEFINITION. The dictionary's store and the named operations over it: reading, writing and counting in registers. -/
namespace Sys2Proof.Machine
open Host

/-- What the store reads at an address: the listed value, else the element's default. -/
def dictGet (d : List (Nat × Nat)) (a : Nat) : Nat :=
  match d.find? (fun p => p.1 == a) with
  | some p => p.2
  | none => defaultOf a

/-- The store with an address no longer listed. -/
def dictErase (d : List (Nat × Nat)) (a : Nat) : List (Nat × Nat) := d.filter (fun p => p.1 != a)

/-- The store with an address listed with a value, addresses rising. -/
def dictInsert : List (Nat × Nat) → Nat → Nat → List (Nat × Nat)
  | [], a, v => [(a, v)]
  | (b, w) :: t, a, v =>
    if a < b then (a, v) :: (b, w) :: t
    else if a = b then (a, v) :: t
    else (b, w) :: dictInsert t a v

/-- Writing the store: an address that takes its default is not listed. -/
def dictSet (d : List (Nat × Nat)) (a v : Nat) : List (Nat × Nat) :=
  if v = defaultOf a then dictErase d a else dictInsert d a v

/-- The store's canonical form: addresses strictly rising, no value equal to its default. -/
def dictWf (d : List (Nat × Nat)) : Bool :=
  decide (d.Pairwise (fun p q => p.1 < q.1)) && d.all (fun p => p.2 != defaultOf p.1)

/-- The register at an address. -/
def State.el (s : State) (a : Nat) : Nat := dictGet s.dict a

/-- The register at an address, as a signed number of n bytes. -/
def State.elS (s : State) (n a : Nat) : Int := signed (8 * n) (s.el a)

/-- Writing a register. -/
def State.put (s : State) (a v : Nat) : State := { s with dict := dictSet s.dict a v }

/-- Writing a signed number of n bytes to a register. -/
def State.putS (s : State) (n a : Nat) (v : Int) : State := s.put a (unsigned (8 * n) v)

/-- Writing several registers in order. -/
def State.putAll (s : State) (l : List (Nat × Nat)) : State := l.foldl (fun t p => t.put p.1 p.2) s

/-- Counting one up in a register that saturates at n bytes. -/
def State.inc (s : State) (n a : Nat) : State := s.put a (min (s.el a + 1) (2 ^ (8 * n) - 1))

/-- Adding to a register that saturates at n bytes. -/
def State.add (s : State) (n a x : Nat) : State := s.put a (min (s.el a + x) (2 ^ (8 * n) - 1))

/-- Taking the next free value: what the manual leaves open (log entry 2). -/
def State.free (s : State) : Nat := Config.freeValue s.freeN

/-- The state after a free value was drawn. -/
def State.drawn (s : State) : State := { s with freeN := s.freeN + 1 }

/-- Something left the device. -/
def State.emit (s : State) (o : Out) : State := { s with out := s.out ++ [o] }

/-- Registers at which p holds take their defaults. -/
def State.dropEls (s : State) (p : Nat → Bool) : State := { s with dict := s.dict.filter (fun q => !p q.1) }

/-- The client or holder number an address belongs to. -/
def cidOfAddr (a : Nat) : Nat := a / 256 - 0x4000
def hidOfAddr (a : Nat) : Nat := a / 256 - 0x5000

/-! ### Islands -/

/-- The number of an island: its place in ISL_STATE less 1. -/
def islNum : Island → Nat
  | .bk => 0 | .ao => 1 | .fb => 2 | .cr => 3 | .sc => 4 | .nw => 5 | .pw => 6 | .nv => 7

/-- The codes of ISL_STATE (R55). -/
abbrev islUnpowered : Nat := 0x0F
abbrev islGated : Nat := 0x33
abbrev islStarting : Nat := 0x55
abbrev islRun : Nat := 0x66
abbrev islDraining : Nat := 0x99

/-- The state code of an island. -/
def State.isl_ (s : State) (i : Island) : Nat := s.el (Reg.ISL_STATE (islNum i))

/-- An island's state set, and its inverted shadow copy with it (R55). -/
def State.setIsl (s : State) (i : Island) (c : Nat) : State :=
  State.put { s with isl := { s.isl with shadows := s.isl.shadows.set (islNum i) (255 - c) } } (Reg.ISL_STATE (islNum i)) c

/-- An island that serves requests: in RUN, or draining what it holds. -/
def State.runs (s : State) (i : Island) : Bool := s.isl_ i == islRun

/-- Main power is present: AO has its supply. -/
def State.mainPower (s : State) : Bool := s.isl_ .ao == islRun

/-- The backup node is fed from VBK. -/
def State.onVbk (s : State) : Bool := s.el Reg.BK_SUPPLY == 1

/-! ### Time -/

/-- Station time as the device shows it: FB's, once it has loaded it, else BK's in COARSE form (R33, R127). -/
def State.now (s : State) : Nat := if s.clk.loaded then s.clk.st else s.clk.v * 8192

/-- The greatest station time (R216). -/
abbrev stMax : Nat := 2 ^ 64 - 1

/-- One second and one millisecond in units of station time; a millisecond is rounded down. -/
abbrev stSecond : Nat := 2 ^ 28
def stMs (n : Nat) : Nat := n * 2 ^ 28 / 1000
def stUs (n : Nat) : Nat := n * 2 ^ 28 / 1000000
/-- The least whole number of units that is at least n ms. -/
def stMsUp (n : Nat) : Nat := (n * 2 ^ 28 + 999) / 1000

/-- The frequency of AORC that counts are taken at: as measured, before that 1,048,576 Hz (R177, R625). -/
def State.aorcHz (s : State) : Nat := if s.el Reg.AORC_HZ = 0 then 1048576 else s.el Reg.AORC_HZ

/-- The flags byte of a stamp: COARSE while FB has not loaded station time (R127). -/
def State.coarseFlag (s : State) : Nat := if s.clk.loaded then 0 else 0x80

/-! ### Holders and clients (R301, R302) -/

/-- Holder h is active. -/
def State.active (s : State) (h : Nat) : Bool := h == 0 || (h < 64 && s.el (Reg.HOLDER_STATE h) == 1)

/-- The holder and the role a CID is bound to. -/
def State.hidOf (s : State) (c : Nat) : Nat := s.el (Reg.CID_BIND c) / 256
def State.roleOf (s : State) (c : Nat) : Nat := s.el (Reg.CID_BIND c) % 256

/-- A CID is in use while it is bound to an active holder with a role (R302). -/
def State.inUse (s : State) (c : Nat) : Bool :=
  c < 1024 && s.active (s.hidOf c) && (s.roleOf c == 1 || s.roleOf c == 2 || s.roleOf c == 3)

/-- The requester passes as a station admin (R15, R541). -/
def State.isSa (s : State) : Who → Bool
  | .keeper => true
  | .bootstrap => true
  | .client c => s.inUse c && s.hidOf c == 0 && s.roleOf c == 1

/-- Who an element belongs to: the station, a client or a holder. -/
inductive Owner where | station | client (c : Nat) | holder (h : Nat)
  deriving DecidableEq, Repr

/-- The owner of an element by its address (R16). -/
def ownerOf (a : Nat) : Owner :=
  if 0x400000 ≤ a ∧ a < 0x440000 then .client (a / 256 - 0x4000)
  else if 0x500000 ≤ a ∧ a < 0x504000 then .holder (a / 256 - 0x5000)
  else .station

/-- Whether a requester passes an access class on an element of an owner (R15, R16). -/
def State.passes (s : State) (w : Who) (cls : Acc) (o : Owner) : Bool :=
  match w with
  | .keeper => true
  | .bootstrap => cls != .k
  | .client c =>
    let h := s.hidOf c
    let role := s.roleOf c
    let same := match o with
      | .station => true
      | .client d => s.inUse d && s.hidOf d == h
      | .holder g => g == h
    s.inUse c &&
    match cls with
    | .k => false
    | .sa => s.isSa w
    | .ha => same && role == 1
    | .oc => match o with
      | .client d => s.inUse d && (c == d || (same && role == 1))
      | _ => same && role == 1
    | .ac => same && (role == 1 || role == 2)
    | .ob => same

end Sys2Proof.Machine
end

