-- ==== Sys2Proof/Machine/Clock.lean ====
section
/-! DEFINITION. How time passes: BK's count, FB's station time under its steering word, the slew and the phase term (R125, R182,
R186 to R188, R228, R229). -/
namespace Sys2Proof.Machine
open Host

/-! ### Numbers -/

/-- The nearest integer, halves upward. -/
def roundRat (x : Rat) : Int := (x + 1 / 2).floor

/-- Held within two's complement of n bytes. -/
def clampS (n : Nat) (x : Int) : Int := clampInt x (-(2 ^ (8 * n - 1) : Int)) (2 ^ (8 * n - 1) - 1)

/-- The magnitude of a rational, and the value brought nearer to 0 by an amount. -/
def absRat (x : Rat) : Rat := if x < 0 then -x else x
def nearer (x m : Rat) : Rat := if x < 0 then x + m else x - m

/-- The least whole number of at least its magnitude, with its sign: 0 only for 0. -/
def awayInt (x : Rat) : Int := if x < 0 then -(absRat x).ceil else x.ceil

/-! ### BK's count -/

/-- V takes a value, of at most its 36 and 15 bits, and its copies with it: no vote of theirs leaves a live copy that differs
(R156). -/
def State.setV (s : State) (v0 : Nat) : State :=
  let v := min v0 (stMax / 8192)
  if v = s.clk.v then s else
  { s with clk := { s.clk with v := v }, bk := { s.bk with copies := List.replicate 3 v, misses := [0, 0, 0] } }

/-- One step of the sequence of the pulses of TMPO (R658). -/
def lfsrStep (x : Nat) : Nat := (x * 2 ||| (x / 2 ^ 14 + x / 2 ^ 13) % 2) &&& 0x7FFF

/-- A tamper pin is in dynamic mode; the ticks of a pulse period (R658, R659). -/
def State.pinsDynamic (s : State) : Bool := [0, 1, 2, 3].any (fun k => s.el (Reg.TMP_CFG k) / 256 == 3)
def State.pulsePeriod (s : State) : Nat := 32768 / 2 ^ (s.el Reg.TMPO_CFG / 256)

/-- Pulse periods begin with V a multiple of their length (log entry 96); at each start the register takes a step, of a sequence
that repeats after 32,767. -/
def State.pulsesTo (s : State) (v : Nat) : State :=
  if s.pinsDynamic then
    let n := v / s.pulsePeriod - s.clk.v / s.pulsePeriod
    { s with tmp := { s.tmp with lfsr := Nat.repeat lfsrStep (n % 32767) s.tmp.lfsr } }
  else s

/-- TMPO is high: the pulse begins at tick s mod (P/2 − w + 1) of its period and lasts w ticks (R658). -/
def State.tmpo (s : State) : Bool :=
  let w := s.el Reg.TMPO_CFG % 256
  let k := s.clk.v % s.pulsePeriod
  let b := s.tmp.lfsr % (s.pulsePeriod / 2 - w + 1)
  s.pinsDynamic && decide (b ≤ k ∧ k < b + w)

/-- BK counts on to v; on VBK every whole second that it passes is counted (R145). -/
def State.countTo (s : State) (v : Nat) : State :=
  let t := (s.pulsesTo v).setV v
  if s.onVbk then t.add 4 Reg.BK_ON_VBK_S (v / 32768 - s.clk.v / 32768) else t

/-! ### The slew (R227 to R229) -/

/-- What is left to be removed, in ns: of the outage correction, which station time has gained, and of SLEW_REM. -/
def State.corrLeft (s : State) : Rat := if s.el Reg.OUTAGE_CORR = 0 then 0 else s.osc.corr
def State.slewLeft (s : State) : Rat :=
  let r := s.elS 8 Reg.SLEW_REM
  if r = 0 then 0 else nearer r s.osc.slewPart

/-- The slew term s as a fraction: the outage correction first, against its sign (R228, R229). -/
def State.slewTerm (s : State) : Rat :=
  let c := s.corrLeft
  let x := if c = 0 then s.slewLeft else -c
  if x = 0 then 0 else if x < 0 then -((s.el Reg.SLEW_PPM : Rat) / 1000000) else (s.el Reg.SLEW_PPM : Rat) / 1000000

/-- What is left is shown: a part of a unit counts as a whole one, so that 0 is shown when nothing is left. -/
def State.setCorr (s : State) (x : Rat) : State :=
  State.putS { s with osc := { s.osc with corr := x } } 4 Reg.OUTAGE_CORR (clampS 4 (awayInt (x / 1000)))
def State.setSlew (s : State) (x : Rat) : State :=
  State.putS { s with osc := { s.osc with slewPart := absRat (awayInt x) - absRat x } } 8 Reg.SLEW_REM (clampS 8 (awayInt x))

/-- What a slew removes, of the correction and of SLEW_REM, in ns, over a span of the tick source's time in units of 2⁻²⁸ s. -/
def State.slewParts (s : State) (n : Rat) : Rat × Rat :=
  let m := n * 1000000000 / 2 ^ 28 * ((s.el Reg.SLEW_PPM : Rat) / 1000000)
  let a := min m (absRat s.corrLeft)
  (a, min (m - a) (absRat s.slewLeft))

/-- What station time gains by it, in units of 2⁻²⁸ s. -/
def State.slewGain (s : State) (n : Rat) : Rat :=
  let p := s.slewParts n
  ((if s.corrLeft < 0 then p.1 else -p.1) + (if s.slewLeft < 0 then -p.2 else p.2)) * 2 ^ 28 / 1000000000

/-- COMP_WORD = round((−y + d + s) × 2⁴⁰), with the slew term as it stands. -/
def State.steer (s : State) : State :=
  s.putS 4 Reg.COMP_WORD (clampS 4 (roundRat ((s.osc.base + s.slewTerm) * 2 ^ 40)))

/-- The slew over a span: what is left shrinks, and its term ends with it (R228). -/
def State.slewPass (s : State) (n : Rat) : State :=
  if s.corrLeft = 0 ∧ s.slewLeft = 0 then s else
  let p := s.slewParts n
  ((s.setCorr (nearer s.corrLeft p.1)).setSlew (nearer s.slewLeft p.2)).steer

/-- The phase term of R188 over k cycles. -/
def State.phasePass (s : State) (k : Nat) : State :=
  if s.osc.phaseRun = 0 then s else
  { s with osc :=
    { s.osc with phaseRun := s.osc.phaseRun - k, phase := if s.osc.phaseRun ≤ k then 0 else s.osc.phase } }

/-! ### Time passes -/

/-- r of R182. -/
def State.rate (s : State) : Rat := (s.elS 4 Reg.COMP_WORD : Rat) / 2 ^ 40

/-- Station time reaches t, no earlier than the present. BK's count goes on by as much, less what the slew and the phase term
gave FB alone. -/
def State.passTo (s : State) (t0 : Nat) : State :=
  let t := min t0 stMax
  if !s.clk.loaded then s.countTo (t / 8192)
  else
    let n : Rat := ((t - s.clk.st : Nat) : Rat) / (1 + s.rate)
    let k := min s.osc.phaseRun ((t - s.clk.st) / 8192)
    let g : Int := (s.slewGain n + (s.osc.phase * k : Nat) / (2048 : Rat)).floor
    let w : Int := ((t : Int) - g) / 8192 - (s.clk.st / 8192 : Nat)
    let s1 := ((s.slewPass n).phasePass k).countTo (s.clk.v + w.toNat)
    { s1 with clk := { s1.clk with st := t, sub := 0 } }

/-- Station time set, as by a step: BK's count moves by as much (R125, R241; log entry 84). -/
def State.setTime (s : State) (t0 : Nat) : State :=
  let t := min t0 stMax
  if s.clk.loaded then
    let s1 := s.setV (((s.clk.v + t / 8192 : Nat) : Int) - (s.clk.st / 8192 : Nat)).toNat
    { s1 with clk := { s1.clk with st := t, sub := 0 } }
  else s.setV (t / 8192)

/-- The clock has reached an instant: a command that says so moves station time forward to it, never back (log entry 6). -/
def State.reach (s : State) (t : Nat) : State := if t ≤ s.now then s else s.passTo t

/-- What falls due at an instant is served at that station time: the clock reaches it, or, where it has passed, the service
carries its own instant and the clock goes on from where it is (R32). -/
def State.servedAt (s : State) (t : Nat) (f : State → State) : State :=
  if s.now ≤ t then f (s.reach t) else (f (s.setTime t)).setTime s.now

/-- FB stops: it hands BK its station time, whole ticks in V and the rest as the sub-tick phase (R188; log entry 84). -/
def State.fbStops (s : State) : State :=
  if !s.clk.loaded then s else
  let left := s.osc.phase * s.osc.phaseRun / 2048
  let s1 := s.setV (s.clk.st / 8192)
  { s1 with clk := { s1.clk with loaded := false, sub := 0 },
            osc := { s1.osc with phase := s.clk.st % 8192 + left, phaseRun := 0 } }

/-- One cycle of BK's tick source in FB (R182, R188, R228): 2,048 timebase cycles of 4 × (1 + r) units, with the phase term; in
the last cycle of a slew only what was left of it. -/
def State.fbCycle (s : State) : State :=
  if !s.clk.loaded then s else
  let whole := s.slewTerm * 8192
  let cut := roundRat ((s.slewGain 8192 - whole) * 2 ^ 38)
  let ph : Int := if s.osc.phaseRun = 0 then 0 else (s.osc.phase * 2 ^ 27 : Nat)
  let x : Int := ((s.clk.st * 2 ^ 38 + s.clk.sub + 8192 * 2 ^ 38 : Nat) : Int) + s.elS 4 Reg.COMP_WORD * 2 ^ 11 + cut + ph
  let s1 := (s.slewPass 8192).phasePass 1
  let st := (x / 2 ^ 38).toNat
  { s1 with clk := { s1.clk with st := min st stMax, sub := if stMax ≤ st then 0 else (x % 2 ^ 38).toNat } }

end Sys2Proof.Machine
end

