-- ==== Sys2Proof/Machine/Ops.lean ====
section
/-! DEFINITION. The shared operations: writing event records, delivering them to the targets' rings (chapters 11, 12),
queueing evidence entries (chapter 18), writing the backup ring (R160 to R162). -/
namespace Sys2Proof.Machine
open Host

/-! ### Record flags and routes -/

abbrev fCoarse : Nat := 0x80
abbrev fOverrun : Nat := 0x40
abbrev fRemote : Nat := 0x20
abbrev fReplay : Nat := 0x10
abbrev fIncomplete : Nat := 0x08

/-- The holder number that stands for station records (chapter 12, Streams). -/
abbrev stationHid : Nat := 64

/-- What is to be written as a record: its fields, its base route, its mode, and whether it carries evidence. -/
structure NewRec where
  source : Nat
  cid : Nat
  kind : Nat
  detail : Nat
  stamp : Nat
  flags : Nat
  hid : Nat
  route : Nat
  any : Bool
  evid : Bool
  deriving DecidableEq, Repr

/-- The owner of target T1 or T2 (R425). -/
def State.targetOwner (s : State) (t : Nat) : Nat :=
  if t = 1 then s.el Reg.TGT_OWNER / 256 else s.el Reg.TGT_OWNER % 256

/-- Step 2 of R426: target t may take a record of holder h. -/
def State.targetOpen (s : State) (t h : Nat) : Bool :=
  if t = 1 ∨ t = 2 then h == stationHid || s.targetOwner t == h else true

/-- The route mask of R426. -/
def State.routeMask (s : State) (n : NewRec) : Nat :=
  let keep := fun (t : Nat) (b : Nat) => if bitOf n.route t && s.targetOpen t n.hid then b else 0
  let m := keep 0 1 + keep 1 2 + keep 2 4 + keep 3 8
  if n.evid && !bitOf m 0 then m + 1 else m

/-! ### The record store (R310, R407, R408, R422) -/

/-- The holder on whose quota records of a holder number count. -/
def quotaHid (h : Nat) : Nat := if h = stationHid then 0 else h

/-- Records a holder has on its quota. -/
def State.recsOnQuota (s : State) (h : Nat) : Nat :=
  (s.dlv.recs.filter (fun r => quotaHid r.hid == h && !r.ovf)).length

/-- Records a client has on its overflow lease. -/
def State.recsOnOvf (s : State) (c : Nat) : Nat :=
  (s.dlv.recs.filter (fun r => r.cid == c && r.ovf)).length

/-- A bundle that holds its amounts. -/
def Bundle.holds (b : Bundle) : Bool := b.st == .held || b.st == .revoking

/-- The amount a bundle names of a resource. -/
def Bundle.amount (b : Bundle) (ord : Nat) : Nat :=
  match b.items.find? (fun p => p.1 == ord) with | some p => p.2 | none => 0

/-- The amount of a resource that a client holds. -/
def State.heldBy (s : State) (c ord : Nat) : Nat :=
  (s.arb.bundles.filter (fun b => b.holds && b.cid == c)).foldl (fun a b => a + b.amount ord) 0

/-- The account a new record takes (R310): some false its quota, some true its overflow lease, none no room. -/
def State.recAccount (s : State) (h c : Nat) : Option Bool :=
  if s.recsOnQuota (quotaHid h) < s.el (Reg.REC_QUOTA (quotaHid h)) then some false
  else if s.recsOnOvf c < s.heldBy c 45 then some true
  else none

/-- Records the store can still take. -/
def State.recFree (s : State) : Nat := 16384 - s.dlv.recs.length

/-- A change of the delivery state. -/
def State.dlvSet (s : State) (d : DlvSt) : State := { s with dlv := d }

/-- A record that nothing keeps any longer leaves the store (R407, R427). -/
def State.freeRecs (s : State) : State :=
  s.dlvSet { s.dlv with recs := s.dlv.recs.filter (fun r => r.mask != 0 || r.evid) }

/-- The record of an identity. -/
def State.recOf (s : State) (id : Nat) : Option Rec := s.dlv.recs.find? (fun r => r.id == id)

/-- A record changed. -/
def State.recMap (s : State) (id : Nat) (f : Rec → Rec) : State :=
  s.dlvSet { s.dlv with recs := s.dlv.recs.map (fun r => if r.id = id then f r else r) }

/-- A target has completed a record, or lost it; an ANY record is then complete at every target (R429, R439). -/
def State.completeAt (s : State) (id t : Nat) : State :=
  (s.recMap id (fun r => { r with mask := if r.any || t = 4 then 0 else setBit r.mask t false })).freeRecs

/-! ### Streams, groups and placement (R430 to R435, R452 to R454) -/

/-- The enable bit of a source (R446). -/
def State.enabled (s : State) (src : Nat) : Bool := bitOf (s.el (Reg.SRC_EN (src / 32))) (src % 32)

/-- The stream target of a record at target t: 4 for an ANY record. -/
def Rec.streamTarget (r : Rec) (t : Nat) : Nat := if r.any then 4 else t

/-- An entry or claim of record id at target t belongs to the stream (source, target, holder). -/
def State.inStream (s : State) (id t src st hid : Nat) : Bool :=
  match s.recOf id with
  | some r => r.source == src && r.hid == hid && r.streamTarget t == st
  | none => false

/-- The stream has a live entry in a ring. -/
def State.placed (s : State) (src st hid : Nat) : Bool :=
  s.dlv.entries.any (fun e => e.void.isNone && s.inStream e.rid e.target src st hid)

/-- The stream is ACTIVE: a claim on it is held. -/
def State.streamActive (s : State) (src st hid : Nat) : Bool :=
  s.dlv.claims.any (fun c => s.inStream c.rid c.target src st hid)

/-- The stream has a placement to come. -/
def State.streamWaits (s : State) (src st hid : Nat) : Bool :=
  s.dlv.waiting.any (fun w => s.inStream w.rid w.target src st hid)

/-- The stream is IDLE: nothing placed, claimed or waiting (R430). -/
def State.streamIdle (s : State) (src st hid : Nat) : Bool :=
  !s.placed src st hid && !s.streamActive src st hid && !s.streamWaits src st hid

/-- The hold-off group of a source, if it acts on records of a holder (R452). -/
def State.groupOf (s : State) (src hid : Nat) : Option Nat :=
  let g := s.el (Reg.SRC_CFG src) % 256
  if g < 32 ∧ s.el (Reg.GRP_CFG g) / 65536 = hid ∧ s.el (Reg.GRP_CFG g) % 65536 ≠ 0 then some g else none

/-- A group's timer runs. -/
def State.groupRuns (s : State) (g : Nat) : Bool := s.dlv.groups.any (fun p => p.1 == g)

/-- A group's timer starts, for its hold-off in units of 64 µs (R453). -/
def State.startGroup (s : State) (g : Nat) : State :=
  s.dlvSet { s.dlv with groups := s.dlv.groups ++ [(g, s.now + stUs (64 * (s.el (Reg.GRP_CFG g) % 65536)))] }

/-- The next sequence number of a target. -/
def State.nextSeq (s : State) (t : Nat) : Nat :=
  if t = 0 then s.dlv.seq0 else if t = 1 then s.dlv.seq1 else if t = 2 then s.dlv.seq2 else s.dlv.seq3

/-- A target's sequence number taken, wrapping from 0xFFFF to 0 (R433). -/
def State.takeSeq (s : State) (t : Nat) : State :=
  let n := (s.nextSeq t + 1) % 65536
  s.dlvSet (if t = 0 then { s.dlv with seq0 := n } else if t = 1 then { s.dlv with seq1 := n }
    else if t = 2 then { s.dlv with seq2 := n } else { s.dlv with seq3 := n })

/-- The entries of a target's ring that no claim has consumed. -/
def State.ring (s : State) (t : Nat) : List Entry := s.dlv.entries.filter (fun e => e.target == t)

/-- T1 (t = 1) or T2 (t = 2) asks for its interrupt line: its ring holds an unclaimed entry and HINT_EN lets it (R444). -/
def State.hintAsked (s : State) (t : Nat) : Bool := bitOf (s.el Reg.HINT_EN) (t - 1) && !(s.ring t).isEmpty

/-- HINT_A (t = 1) or HINT_B (t = 2) is asserted: with FB in RUN as its ring asks, else as AO holds it (R444, R445). -/
def State.hint (s : State) (t : Nat) : Bool :=
  if s.runs .fb then s.hintAsked t else if t = 1 then s.boot.hintA else s.boot.hintB

/-- FB stops: AO takes the levels of HINT_A and HINT_B, and holds them (R445). -/
def State.holdHints (s : State) : State :=
  if s.runs .fb then { s with boot := { s.boot with hintA := s.hintAsked 1, hintB := s.hintAsked 2 } } else s

/-- A ring has room for an entry. -/
def State.ringRoom (s : State) (t : Nat) : Bool := decide ((s.ring t).length < 256)

/-- No field port is enabled (R441). -/
def State.noFieldPort (s : State) : Bool := s.el Reg.PORT_EN % 4 == 0

/-- FB is woken if it is stopped by its idle rule (R31, R58). -/
def State.wakeFb (s : State) : State := if s.isl_ .fb = islGated then s.setIsl .fb islStarting else s

/-- CR is woken if it is asleep, FB before it (R59, R456). -/
def State.wakeCr (s : State) : State := if s.isl_ .cr = islGated then s.wakeFb.setIsl .cr islStarting else s

/-- The state of a channel (Table: Handshake channels). -/
def State.chan (s : State) (n : Nat) : Chan := s.isl.chans.getD n .idle

/-- A request of the hardware on a channel, which is not made on a STUCK one: it is abandoned, and counted (R63, R89). -/
def State.over (s : State) (ch : Nat) (go : State → State) : State :=
  if s.chan ch = .stuck then s.inc 4 (Reg.CH_ABANDON ch) else go s

/-- AO wakes CR over CH04, if CR is asleep (R456, R637). -/
def State.callCr (s : State) : State := if s.isl_ .cr = islGated then s.over 4 State.wakeCr else s

/-- An entry is made in a ring that has room; at T3 with no field port, FB completes it at once (R441). -/
def State.pushEntry (s : State) (id t : Nat) (replay : Bool) : State :=
  let e : Entry := ⟨t, s.nextSeq t, id, none, replay⟩
  let s1 := (s.takeSeq t).callCr
  if t = 3 ∧ s.noFieldPort then s1.completeAt id 3
  else s1.dlvSet { s1.dlv with entries := s1.dlv.entries ++ [e] }

/-- A placement to come is added. -/
def State.addWait (s : State) (w : Waiting) : State :=
  s.dlvSet { s.dlv with waiting := s.dlv.waiting ++ [w] }

/-- The targets of a mask, lowest first. -/
def targetsOf (mask : Nat) : List Nat := [0, 1, 2, 3].filter (fun t => bitOf mask t)

/-- Step 2 of R426 at a placement: targets that no longer belong to the record's holder are taken out (R426, R427). -/
def State.trimMask (s : State) (r : Rec) : Nat :=
  (targetsOf r.mask).foldl (fun m t => if s.targetOpen t r.hid then m else setBit m t false) r.mask

/-- A placement of record r at stream target st (R426, R429, R435). -/
def State.place (s : State) (id st : Nat) (replay : Bool) : State :=
  match s.recOf id with
  | none => s
  | some r =>
    if st = 4 then
      let m := s.trimMask r
      let s1 := s.recMap id (fun x => { x with mask := m })
      let room := (targetsOf m).filter s1.ringRoom
      if m = 0 then s1.freeRecs
      else if room = [] then (s1.inc 4 Reg.RING_WAITS).addWait ⟨id, 4, .room, replay⟩
      else room.foldl (fun t k => t.pushEntry id k replay) s1
    else if !s.targetOpen st r.hid then s.completeAt id st
    else if s.ringRoom st then s.pushEntry id st replay
    else (s.inc 4 Reg.RING_WAITS).addWait ⟨id, st, .room, replay⟩

/-- A doorbell's record arrives at a stream (R430, R446, R453). -/
def State.arrive (s : State) (id st : Nat) : State :=
  match s.recOf id with
  | none => s
  | some r =>
    if !s.enabled r.source || !s.streamIdle r.source st r.hid then s.addWait ⟨id, st, .stream, false⟩
    else match s.groupOf r.source r.hid with
      | none => s.place id st false
      | some g =>
        if s.groupRuns g then s.addWait ⟨id, st, .group g, false⟩
        else
          let s1 := s.place id st false
          s1.startGroup g

/-- The oldest placement that waits on its stream. -/
def State.nextWaiting (s : State) (src st hid : Nat) : Option Waiting :=
  s.dlv.waiting.find? (fun w => w.why == .stream && s.inStream w.rid w.target src st hid)

/-- A placement to come is no longer to come. -/
def State.dropWait (s : State) (w : Waiting) : State :=
  s.dlvSet { s.dlv with waiting := s.dlv.waiting.erase w }

/-- After a completion, the stream's oldest waiting record is placed with REPLAY set (R430, R432, R454). -/
def State.advanceStream (s : State) (src st hid : Nat) : State :=
  if s.enabled src then
    match s.nextWaiting src st hid with
    | none => s
    | some w => (s.dropWait w).place w.rid st true
  else s

/-- A placement waits for room in a ring, of a source that is enabled (R435, R446). -/
def State.waitsRoom (s : State) (t : Nat) (w : Waiting) : Bool :=
  w.why == .room && match s.recOf w.rid with
    | some r => s.enabled r.source && (w.target == t || (w.target == 4 && bitOf r.mask t))
    | none => false

/-- Room in a ring is given to the placement that waits for it whose record was written first; an ANY record then waits nowhere
else (R435). -/
def State.fillRoom (s : State) (t : Nat) : State :=
  match (s.dlv.waiting.filter (s.waitsRoom t)).sortBy (fun a b => decide (a.rid ≤ b.rid)) with
  | [] => s
  | w :: _ => if s.ringRoom t then (s.dropWait w).pushEntry w.rid t w.replay else s

/-! ### Writing a record (R390, R407 to R409, R424) -/

/-- The doorbell of a record just written: it arrives at each of its streams. -/
def State.post (s : State) (id : Nat) : State :=
  match s.recOf id with
  | none => s
  | some r => if r.any then s.arrive id 4 else (targetsOf r.mask).foldl (fun t k => t.arrive id k) s

/-- A record that finds no room (R408, R422). -/
def State.overrun (s : State) (n : NewRec) : State :=
  let s1 := (s.inc 4 (Reg.REC_OVERRUNS (quotaHid n.hid))).inc 4 Reg.REC_OVERRUN_ALL
  let s2 := if n.source < 24 then s1.inc 4 (Reg.EVT_LOST n.cid n.source) else s1
  s2.dlvSet { s2.dlv with overrun :=
    if s2.dlv.overrun.contains (n.source, n.hid) then s2.dlv.overrun else s2.dlv.overrun ++ [(n.source, n.hid)] }

/-- In JOINED and DISCORD a station record of sources 24 to 39 and 44 to 57 goes to the peer in a RECORD frame, unless it came
from there (R779). -/
def State.forward (s : State) (r : Rec) : State :=
  if r.hid = stationHid ∧ (s.el Reg.TWIN_STATE = 3 ∨ s.el Reg.TWIN_STATE = 4) ∧ !bitOf r.flags 5 ∧
      ((24 ≤ r.source ∧ r.source ≤ 39) ∨ (44 ≤ r.source ∧ r.source ≤ 57)) then
    State.emit { s with twin := { s.twin with tx := (s.twin.tx + 1) % 2 ^ 32 } }
      (.frame "TWIN RECORD" [s.twin.tx, r.stamp, r.source, r.kind, r.flags, r.detail])
  else s

/-- Writing one record into the store and posting its source's doorbell (R407, R408, R424, R426, R427). FB writes every
record, woken if need be (log entry 8); without its supply none is written. -/
def State.record (s0 : State) (n : NewRec) : State :=
  if s0.isl_ .fb = islUnpowered then s0 else
  let s := s0.wakeFb
  match s.recAccount n.hid n.cid with
  | none => s.overrun n
  | some ovf =>
    let ran := s.dlv.overrun.contains (n.source, n.hid)
    let r : Rec :=
    { id := s.dlv.nextRec, stamp := n.stamp, source := n.source, cid := n.cid, kind := n.kind,
      flags := if ran then setBit n.flags 6 true else n.flags, detail := n.detail % 65536, hid := n.hid,
      mask := s.routeMask n, any := n.any, ovf := ovf, evid := n.evid }
    let s1 := s.dlvSet
      { s.dlv with
        recs := s.dlv.recs ++ [r]
        nextRec := s.dlv.nextRec + 1
        overrun := s.dlv.overrun.filter (fun p => p != (n.source, n.hid)) }
    let s2 := s1.put Reg.REC_LOW (min (s1.el Reg.REC_LOW) s1.recFree)
    ((s2.post r.id).freeRecs).forward r

/-- A station record (R422) to T1 and T2, and to T0 where its chapter says so, stamped now. -/
def State.stationRecord (s : State) (src kind detail : Nat) (t0 : Bool) : State :=
  s.record
    { source := src, cid := 0, kind := kind, detail := detail, stamp := s.now, flags := s.coarseFlag,
      hid := stationHid, route := if t0 then 7 else 6, any := false, evid := false }

/-- A station record of an event in PW, which reaches FB over CH19 (Table: Handshake channels). -/
def State.powerEvent (s : State) (src kind detail : Nat) : State :=
  s.over 19 (fun t => t.stationRecord src kind detail true)

/-- A record that carries a client's CID, routed by HOLDER_ROUTE of its holder (Table: Fixed sources). -/
def State.clientRecord (s : State) (src kind detail cid : Nat) : State :=
  let h := s.hidOf cid
  s.record
    { source := src, cid := cid, kind := kind, detail := detail, stamp := s.now, flags := s.coarseFlag,
      hid := h, route := s.el (Reg.HOLDER_ROUTE h), any := false, evid := false }

/-- The lowest-numbered holder admin of a holder (R683). -/
def State.adminOf (s : State) (h : Nat) : Nat :=
  match (List.range 1024).find? (fun c => s.hidOf c == h && s.roleOf c == 1) with
  | some c => c
  | none => 0

/-! ### Evidence entries wait to be appended (R39) -/

/-- An evidence entry group joins the queue of the keeper. -/
def State.logEntry (s : State) (g : LogGroup) : State :=
  { s with log := { s.log with waiting := s.log.waiting ++ [g] } }

/-- A station-chain entry of one slot, stamped now, that a client caused. -/
def State.logStation (s : State) (typ cid : Nat) (payloads : List Bytes) (f : OnStored) : State :=
  s.logEntry
    { chain := 0, stamp := s.now, typ := typ, flags := s.coarseFlag, cid := cid,
      payloads := payloads, onStored := f }

/-- A station-chain entry that no client caused: KEEPER is set and the CID is 0 (Table: Evidence entry). -/
def State.logKeeper (s : State) (typ : Nat) (payloads : List Bytes) (f : OnStored) : State :=
  s.logEntry
    { chain := 0, stamp := s.now, typ := typ, flags := s.coarseFlag + 8, cid := 0,
      payloads := payloads, onStored := f }

/-- Ten payload bytes from the fields given, the unused bytes 0 (Table: Evidence entry). -/
def payload10 (b : Bytes) : Bytes := (b ++ List.replicate 10 0).take 10

/-- The state of a chain's seal: its code in LOG_STATE. -/
def State.sealed (s : State) (chain : Nat) : Bool := s.el (Reg.LOG_STATE chain) / 256 == 1

end Sys2Proof.Machine
end

