-- ==== Sys2Proof/Machine/Crypto.lean ====
section
/-! DEFINITION. Keys and tags (chapter 14): HKDF over the HMAC of Config, the keys of clients, the bytes that a tag covers. The
ciphers and hashes themselves are Config's (log entry 73). -/
namespace Sys2Proof.Machine
open Host

/-- The first n bytes of a string, with zeros where it is shorter: the standards' functions give their own lengths. -/
def fit (n : Nat) (b : Bytes) : Bytes := (b ++ List.replicate n 0).take n

/-- HMAC-SHA-256, 32 bytes, and AES-CMAC, 16 bytes. -/
def hmac (key msg : Bytes) : Bytes := fit 32 (Config.hmacSha256 key msg)
def cmac (key msg : Bytes) : Bytes := fit 16 (Config.aesCmac key msg)

/-! ### HKDF-SHA-256 (RFC 5869, by R514, R516 and R538) -/

/-- The blocks T(i) to T(i + n − 1) of the expansion, from T(i − 1). -/
def hkdfBlocks (prk info : Bytes) : (n i : Nat) → (prev : Bytes) → Bytes
  | 0, _, _ => []
  | n + 1, i, prev =>
    let t := hmac prk (prev ++ info ++ numToBytes 1 i)
    t ++ hkdfBlocks prk info n (i + 1) t

/-- The first n bytes that HKDF-SHA-256 gives for a salt, the input key material and an info string. -/
def hkdf (salt ikm info : Bytes) (n : Nat) : Bytes :=
  (hkdfBlocks (hmac salt ikm) info ((n + 31) / 32) 1 []).take n

/-- An absent salt is 32 bytes of zero (RFC 5869). -/
abbrev noSalt : Bytes := List.replicate 32 0

/-! ### Holder keys and client keys (R512, R514, R516, R517) -/

/-- The key bytes of a slot: for AES-128 the first 16 of its 32 (R512). -/
def slotKey (alg key : Nat) : Bytes := (numToBytes 32 key).take (if alg = 1 then 16 else 32)

/-- DEV_UID, the salt of every client key. -/
def State.devUid (s : State) : Bytes := numToBytes 16 (s.el Reg.DEV_UID)

/-- K(c, d) under a slot's key, generation and algorithm (R516). -/
def State.clientKey (s : State) (c d gen alg key : Nat) : Bytes :=
  hkdf s.devUid (slotKey alg key)
    (ascii "MALNAN-C" ++ numToBytes 2 c ++ numToBytes 1 d ++ numToBytes 2 gen ++ numToBytes 1 alg)
    (if alg = 1 then 16 else 32)

/-- The dummy key of a CID and direction, from what was drawn at the latest start of SC (R517). -/
def State.dummyKey (s : State) (c d : Nat) : Bytes := numToBytes 32 (Config.freeValue (s.key.dummy + 2 * c + d))

/-- A holder slot of the keeper. -/
def State.slotOf (s : State) (h : Nat) : Slot :=
  match s.key.slots.find? (fun x => x.hid == h) with
  | some x => x
  | none => ⟨h, 0, 65536, none, false⟩

/-- The entry of a CID and direction in SC's client key table: a dummy for an unbound CID and one whose slot is not ACTIVE. -/
def State.tableKey (s : State) (c d : Nat) : Bytes :=
  let h := s.hidOf c
  if s.inUse c && s.el (Reg.KEY_STATE h) == 1 then
    s.clientKey c d (s.el (Reg.KEY_GEN h)) (s.el (Reg.KEY_ALG h)) (s.slotOf h).key
  else s.dummyKey c d

/-- The key under which a device message of a generation is tagged: the table's, or the copy of an earlier generation of the
holder that a request was verified under (R544); none once that key is erased (R547). -/
def State.replyKey (s : State) (c gen : Nat) : Option Bytes :=
  let h := s.hidOf c
  if s.el (Reg.KEY_STATE h) ≠ 0 ∧ s.el (Reg.KEY_GEN h) = gen then
    some (s.clientKey c 1 gen (s.el (Reg.KEY_ALG h)) (s.slotOf h).key)
  else match s.key.copies.find? (fun k => k.1 == h && k.2.1 == gen) with
    | some k => some (s.clientKey c 1 gen k.2.2.1 k.2.2.2)
    | none => none

/-! ### Signatures -/

/-- A signature of a digest verifies under the firmware root of a keeper slot, 1 K1 or 2 K2, of which a sound copy is left (R511;
Table: Effects of ECC_LOST, 0x07). -/
def State.rootVerifies (s : State) (k : Nat) (d : Bytes) (r x : Nat) : Bool :=
  s.rep.lostCopies.getD k 0 < 2 && Config.ecdsaVerify (Config.firmwareRoot (k == 2)) d r x

/-! ### The bytes a tag covers (R518) -/

end Sys2Proof.Machine

namespace Sys2Proof
open Machine

/-- A trailer of 32 zero bytes (R528, R541). -/
def Trailer.zero : Trailer := ⟨0, 0, 0, 0, 0, List.replicate 16 0⟩

/-- Bytes 0 to 15 of a trailer (Table: Authentication trailer). -/
def Trailer.first (t : Trailer) : Bytes :=
  numToBytes 8 t.stamp ++ numToBytes 4 t.ctr ++ numToBytes 2 t.gen ++ numToBytes 1 t.dir ++ numToBytes 1 t.epoch

/-- The CID a message names: bits 9:0 of its CID field. -/
def Req.cid (r : Req) : Nat := r.cidField % 1024

/-- Step 1 of R258: the port's framing and integrity, a datagram's length (R481), the version, the reserved bits of the CID field
and the body length. -/
def Req.framed (r : Req) : Bool :=
  r.sound && (r.port != .t1l || r.eth.udpLen == r.bodyLen + 56) && r.version == 1 && decide (r.cidField < 1024) && r.bodyLen == r.body.length && decide (r.bodyLen ≤ 1024)

/-- The message ends in 32 bytes of zero. -/
def Req.zeroTrailer (r : Req) : Bool := r.tr == Trailer.zero

/-- The header of a request (Table: Message header). -/
def Req.header (r : Req) (op : Nat) : Bytes :=
  numToBytes 1 r.version ++ numToBytes 1 op ++ numToBytes 2 r.cidField ++ numToBytes 4 r.reqNo ++ numToBytes 2 r.bodyLen ++
  numToBytes 1 r.flags ++ numToBytes 5 r.tail

/-- Bytes 0 to 15 of a ring operation's payload (Table: Ring operation payload, request and reply). -/
def Req.ringHead (r : Req) (op : Nat) : Bytes :=
  numToBytes 1 op ++ (r.body ++ [0]).take 1 ++ numToBytes 2 r.cidField ++ numToBytes 4 r.reqNo ++
  ((r.body.drop 1) ++ [0, 0]).take 2 ++ numToBytes 6 r.tail

/-- What the tag of a request covers (R518). -/
def Req.covered (r : Req) (op : Nat) (ring : Bool) : Bytes :=
  (if ring then r.ringHead op else r.header op ++ r.body) ++ r.tr.first

end Sys2Proof

namespace Sys2Proof.Machine
open Host

/-- The tag of a request verifies under the table's entry of the CID that it names, dummy keys included (R518, R526). -/
def State.tagOk (s : State) (r : Req) (op : Nat) (ring : Bool) : Bool :=
  r.tr.tag == cmac (s.tableKey r.cid 0) (r.covered op ring)

/-- The header of a device message: opcode, CID, request number, body length, status, detail. -/
def replyHeader (op cid reqNo len status detail : Nat) : Bytes :=
  numToBytes 1 1 ++ numToBytes 1 op ++ numToBytes 2 cid ++ numToBytes 4 reqNo ++ numToBytes 2 len ++ numToBytes 1 0 ++
  numToBytes 1 status ++ numToBytes 1 detail ++ numToBytes 3 0

/-- What the tag of a reply covers, but for its trailer (R518). -/
def Reply.covered (x : Reply) : Bytes :=
  match x.ring with
  | some t =>
    numToBytes 1 (x.op + 128) ++ numToBytes 1 t ++ numToBytes 2 x.cid ++ numToBytes 4 x.reqNo ++ numToBytes 1 x.status ++
    numToBytes 1 x.detail ++ numToBytes 6 0
  | none => replyHeader (x.op + 128) x.cid x.reqNo x.body.length x.status x.detail ++ x.body

/-- The message that a reply becomes with its trailer. -/
def Reply.out (x : Reply) (t : Trailer) : Out :=
  match x.ring with
  | some k => .ring x.cid x.reqNo (x.op + 128) k x.status x.detail x.body t
  | none => .response x.port x.src x.udp (x.op + 128) x.cid x.reqNo x.status x.detail x.body t

/-! ### Wrapped keys (R514) -/

/-- Bytes 0 to 15 of a blob: HID, generation, algorithm, reserved. -/
def blobHead (h gen alg : Nat) : Bytes := numToBytes 1 h ++ numToBytes 2 gen ++ numToBytes 1 alg ++ List.replicate 12 0

/-- The mask of a slot's key under K3: HKDF without a salt, with info "WRAP", HID and generation. -/
def wrapMask (k3 h gen : Nat) : Bytes :=
  hkdf noSalt (numToBytes 32 k3) (ascii "WRAP" ++ numToBytes 1 h ++ numToBytes 2 gen) 32

/-- Two byte strings combined by exclusive or. -/
def xorBytes (a b : Bytes) : Bytes := List.zipWith (fun x y => x ^^^ y) a b

/-- The blob of a slot under K3. -/
def blobOf (k3 h gen alg key : Nat) : Bytes :=
  let b := blobHead h gen alg ++ xorBytes (numToBytes 32 key) (wrapMask k3 h gen)
  b ++ cmac (numToBytes 32 k3) b

/-- The generation that a blob names. -/
def blobGen (b : Bytes) : Nat := bytesToNum ((b.drop 1).take 2)

/-- A blob opened: generation, algorithm and key; none where its tag or a reserved byte is wrong. -/
def openBlob (k3 h : Nat) (b : Bytes) : Option (Nat × Nat × Nat) :=
  let gen := blobGen b
  let alg := bytesToNum ((b.drop 3).take 1)
  if b.drop 48 ≠ cmac (numToBytes 32 k3) (b.take 48) ∨ bytesToNum ((b.drop 4).take 12) ≠ 0 ∨
      bytesToNum (b.take 1) ≠ h then none
  else some (gen, alg, bytesToNum (xorBytes ((b.drop 16).take 32) (wrapMask k3 h gen)))

end Sys2Proof.Machine
end

