-- ==== Sys2Proof/Machine/Guards.lean ====
section
/-! DEFINITION. The watchdog channels' shared operations (chapter 17): reset outputs, freezes, periods, grace. -/
namespace Sys2Proof.Machine
open Host

abbrev wdOff : Nat := 0x0F
abbrev wdRun : Nat := 0x33
abbrev wdWarned : Nat := 0x55
abbrev wdTripped : Nat := 0x66

/-- A channel that is OFF. -/
def Wd.off : Wd := ⟨wdOff, false, false, false, false, false, 0, false, false, 0, 0, 0, 0⟩

def State.wdOf (s : State) (w : Nat) : Wd := s.wd.getD w Wd.off

def State.setWd (s : State) (w : Nat) (f : Wd → Wd) : State := { s with wd := s.wd.modify w f }

/-- The hosts that tamper responses hold, bit 0 RSTO_A and bit 1 RSTO_B (Table: Responses). -/
def State.hostsHeld (s : State) : Nat := s.tmp.holds.foldl (fun a h => a ||| h.2.2.1 % 4) 0

/-- RSTO_A (w = 1) or RSTO_B (w = 2) is asserted: while any of its causes holds (R644). -/
def State.rstoOut (s : State) (w : Nat) : Bool :=
  (s.wdOf w).rsto || (if w = 1 then s.boot.rstoA else s.boot.rstoB) || bitOf s.hostsHeld (w - 1)

/-- A record of source 50, 51 or 52 to T0, T1 and T2 (R651). -/
def State.wdRecord (s : State) (w kind detail : Nat) : State := s.stationRecord (50 + w) kind detail true

/-- What a period of ms milliseconds takes on the channel's clock, in units of 2⁻²⁸ s: whole ticks of BK, or whole cycles of
AORC at its frequency as the period starts (R625, R641). -/
def State.wdSpan (s : State) (w ms : Nat) : Nat :=
  if (s.el (Reg.WD_CLOCK w) == 0) != (s.wdOf w).other then (ms * 32768 + 999) / 1000 * 8192
  else (ms * s.aorcHz + 999) / 1000 * 2 ^ 28 / s.aorcHz

/-- A period starts (R627, R629): disarmed, no slot checked in, the window open where it starts the period. -/
def State.startPeriod (s : State) (w ms : Nat) : State :=
  s.setWd w (fun x =>
    { x with armed := false, slots := 0, held := false, isOpen := s.el (Reg.WD_WIN w) % 8 == 0, grace := false,
             began := s.now, len := ms, span := s.wdSpan w ms })

/-- A normal period starts. -/
def State.newPeriod (s : State) (w : Nat) : State := s.startPeriod w (s.el (Reg.WD_PERIOD w))

/-- A channel starts in grace, in RUN: a service counts at any instant (R639). -/
def State.startGrace (s : State) (w : Nat) : State :=
  let t := s.startPeriod w (s.el (Reg.WD_GRACE w) * 1000)
  (t.setWd w (fun x => { x with grace := true, isOpen := true, st := if x.st = wdTripped then wdRun else x.st })).wdRecord w 4 0

/-- WD1 or WD2 is frozen: CR not in RUN, not in full service, or its own reset output asserted (R643). -/
def State.wdFrozen (s : State) (w : Nat) : Bool := !s.runs .cr || s.el Reg.SERVICE_MODE != 0 || s.rstoOut w

/-- The freeze of a host channel as the state now gives it: at its end a fresh period, or a start in grace where the reset
output was just released (R643). -/
def State.wdSync1 (s : State) (w : Nat) (released : Bool) : State :=
  let x := s.wdOf w
  if x.st = wdOff then s
  else if released ∧ !s.rstoOut w then
    let t := s.startGrace w
    t.setWd w (fun y => { y with frozen := t.wdFrozen w })
  else if s.wdFrozen w then s.setWd w (fun y => { y with frozen := true })
  else if x.frozen then (s.newPeriod w).setWd w (fun y => { y with frozen := false })
  else s

/-- Both host channels after a command that may have changed what freezes them; `before` is the state it began in. -/
def State.wdSync (s before : State) : State :=
  (s.wdSync1 1 (before.rstoOut 1)).wdSync1 2 (before.rstoOut 2)

/-- CR enters RUN: WD0 leaves TRIPPED in grace, starts in grace after a firmware update's restart, or starts a fresh period
(R639, R642, R648). -/
def State.wd0Wakes (s : State) : State :=
  let x := s.wdOf 0
  if x.st = wdOff then s else if x.st = wdTripped ∨ s.boot.cause = 0x0A then s.startGrace 0 else s.newPeriod 0

/-- The firmware loads WD0 and the persisted configuration of WD1 and WD2 at a start (R648): channels that are OFF and
enabled are in RUN, a host channel frozen until its output's release. -/
def State.wdStart (s : State) : State :=
  [0, 1, 2].foldl (fun t w =>
    if (t.wdOf w).st = wdOff ∧ (w = 0 ∨ t.el (Reg.WD_MODE w) ≠ 0) then
      (t.newPeriod w).setWd w (fun x => { x with st := wdRun, frozen := w != 0 })
    else t) s

end Sys2Proof.Machine
end

