-- ==== Sys2Proof/Machine/Mac.lean ====
section
/-! DEFINITION. What the 10BASE-T1L port takes in (R475, R477, R480, R481): the MAC's filter, the device's addresses and the
datagrams for them. -/
namespace Sys2Proof.Machine
open Host

/-- The 10BASE-T1L link is up (T1L_LINK, first byte 3) and its port serves. -/
def State.t1lUp (s : State) : Bool :=
  bitOf (s.el Reg.PORT_EN) 1 && s.runs .nw && s.el Reg.T1L_LINK / 2 ^ 24 == 3

/-- The link-local address (R477). -/
def State.linkLocal (s : State) : Nat :=
  let m := s.el Reg.T1L_MAC % 2 ^ 48
  let hi := (m / 2 ^ 24) ^^^ 0x020000
  0xFE80 * 2 ^ 112 + hi * 2 ^ 40 + 0xFFFE * 2 ^ 24 + m % 2 ^ 24

/-- The addresses in use, by their place in IP6_DAD: the link-local one and those of IP6_ADDR that are not zero. -/
def State.ownAddrs (s : State) : List (Nat × Nat) :=
  [(0, s.linkLocal)] ++ ([1, 2].filterMap (fun i =>
    if s.el (Reg.IP6_ADDR (i - 1)) = 0 then none else some (i, s.el (Reg.IP6_ADDR (i - 1)))))

/-- An address of the device that has not been found duplicated (R478). -/
def State.isOwn (s : State) (a : Nat) : Bool := s.ownAddrs.any (fun p => p.2 == a && !bitOf (s.el Reg.IP6_DAD) p.1)

/-- The multicast groups the device has joined, as Ethernet addresses: all nodes, PTP's, and for each of its addresses the
solicited-node group (RFC 2464, RFC 4291; log entry 93). -/
def State.macGroups (s : State) : List Nat :=
  [0x333300000001, 0x333300000181] ++ s.ownAddrs.map (fun p => 0x3333FF000000 + p.2 % 2 ^ 24)

/-- The MAC accepts a frame whose check holds (R475). -/
def State.macAccepts (s : State) (f : Eth) : Bool :=
  decide (64 ≤ f.len ∧ f.len ≤ 1518) && f.etherType == 0x86DD && !f.vlan &&
  (f.dest == s.el Reg.T1L_MAC || s.macGroups.contains f.dest)

/-- A frame is taken in. -/
def State.ethIn (s : State) (f : Eth) : Bool := f.fcs && s.macAccepts f

/-- A frame that is not taken in: counted by what is wrong with it; a pause frame is ignored (R475). -/
def State.ethDrop (s : State) (f : Eth) : State :=
  if !f.fcs then s.inc 4 Reg.T1L_FCS_ERR
  else if f.etherType = 0x8808 then s
  else s.inc 4 Reg.T1L_DROPPED

/-- A frame reaches the port: what `go` does is done where the MAC takes it in and its packet is sound (R475, R480). -/
def State.onFrame (s : State) (f : Eth) (go : State → State) : State :=
  if !s.t1lUp then s else if !s.ethIn f then s.ethDrop f else if !f.sound then s else go s

/-- A datagram to MALNAN_PORT at an address of the device (R480). -/
def State.malnanIn (s : State) (f : Eth) : Bool := f.sound && f.port == s.el Reg.MALNAN_PORT && s.isOwn f.ip

end Sys2Proof.Machine
end

