-- ==== Sys2Proof/Machine/Access.lean ====
section
/-! DEFINITION. The way of a request through the exchange (R251 to R258, R269 to R273, R519 to R534): the channels it crosses
(R62 to R71), authentication, the limit and the response store, the answer and the uniform refusal, and the queues of the
ports it leaves by (R470, R496). -/
namespace Sys2Proof.Machine
open Host

/-- A status with its detail (Table: Status codes and details). -/
structure Stat where
  code : Nat
  detail : Nat
  deriving DecidableEq, Repr

abbrev Stat.ok : Stat := ⟨0x00, 0⟩
abbrev Stat.refused : Stat := ⟨0x01, 0⟩
/-- RANGE with a reason and an item position. -/
abbrev Stat.range (reason pos : Nat) : Stat := ⟨0x02, reason * 32 + pos⟩
abbrev Stat.conflict (d : Nat) : Stat := ⟨0x03, d⟩
abbrev Stat.deferred : Stat := ⟨0x04, 1⟩
abbrev Stat.abandoned (d : Nat) : Stat := ⟨0x05, d⟩
abbrev Stat.queued : Stat := ⟨0x06, 0⟩
abbrev Stat.zeroized : Stat := ⟨0x07, 0⟩
abbrev Stat.sealed : Stat := ⟨0x08, 0⟩
abbrev Stat.exhausted (d : Nat) : Stat := ⟨0x09, d⟩
abbrev Stat.timeout (d : Nat) : Stat := ⟨0x0A, d⟩
abbrev Stat.eccLost (m : Nat) : Stat := ⟨0x0B, m⟩
abbrev Stat.leaseLost (d : Nat) : Stat := ⟨0x0C, d⟩
abbrev Stat.fenced (l : Nat) : Stat := ⟨0x0D, l⟩
abbrev Stat.split : Stat := ⟨0x0E, 0⟩
abbrev Stat.reduced (d : Nat) : Stat := ⟨0x0F, d⟩
abbrev Stat.stale : Stat := ⟨0x10, 0⟩
abbrev Stat.staged (n : Nat) : Stat := ⟨0x11, n⟩

/-! ### The ports' outbound queues -/

/-- The frames a message of n bytes takes on CAN FD (R468). -/
def canFrames (n : Nat) : Nat := if n ≤ 61 then 1 else 1 + (n - 61 + 62) / 63

/-- A message joins the CAN transmit queue: by PRIO, then in order of arrival, never before one being sent (R470). -/
def canInsert (m : CanMsg) : List CanMsg → List CanMsg
  | [] => [m]
  | x :: t => if x.sent = 0 ∧ m.prio < x.prio then m :: x :: t else x :: canInsert m t

/-- NW sends: in RUN, or while it drains what it has to send (R71, R88). -/
def State.nwSends (s : State) : Bool := s.runs .nw || s.isl_ .nw == islDraining

/-- The CAN port may send: enabled, NW there, not listen-only, not off or bus-off or recovering (R463, R472). -/
def State.canSends (s : State) : Bool :=
  bitOf (s.el Reg.PORT_EN) 0 && s.nwSends && s.el Reg.CAN_MODE == 0 &&
  (s.el Reg.CAN_STATE == 1 || s.el Reg.CAN_STATE == 2)

/-- A message for CAN FD: `ntf` for a NOTIFY, which is dropped where the queue is full; a response waits (R470). -/
def State.canSend (s : State) (o : Out) (prio bytes : Nat) (ntf : Bool) : State :=
  let m : CanMsg := ⟨o, prio, canFrames bytes, 0⟩
  if !s.canSends then s
  else if s.port.canTx.length < 8 then { s with port := { s.port with canTx := canInsert m s.port.canTx } }
  else if ntf then s.inc 4 Reg.CAN_NTF_DROP
  else { s with port := { s.port with canWait := s.port.canWait ++ [m] } }

/-- The link is up and NW sends on it. -/
def State.t1lSends (s : State) : Bool :=
  bitOf (s.el Reg.PORT_EN) 1 && s.nwSends && s.el Reg.T1L_LINK / 2 ^ 24 == 3

/-- A message leaves by its port; on CAN FD the sender's PRIO and TAG stand in `src` (R466). -/
def State.send (s : State) (p : Port) (src bytes : Nat) (o : Out) : State :=
  match p with
  | .canFd => s.canSend o (src / 16) bytes false
  | .t1l => if s.t1lSends then s.emit o else s
  | .host => { s with port := { s.port with hostOut := s.port.hostOut ++ [o] } }
  | .fac => s.emit o

/-! ### Key usage (R530 to R534) -/

/-- A holder slot changed. -/
def State.setSlot (s : State) (x : Slot) : State :=
  { s with key := { s.key with slots := s.key.slots.filter (fun y => y.hid != x.hid) ++ [x] } }

/-- A record of source 54 for one holder: to that holder's targets, HID in bits 15:10 (R551). -/
def State.keyRecord (s : State) (kind h low : Nat) : State :=
  s.record
    { source := 54, cid := s.adminOf h, kind := kind, detail := h * 1024 + low % 1024, stamp := s.now,
      flags := s.coarseFlag, hid := h, route := s.el (Reg.HOLDER_ROUTE h), any := false, evid := false }

/-- The uses a holder's key has left. -/
def State.usesLeft (s : State) (h : Nat) : Nat := 2 ^ 32 - s.el (Reg.KEY_USES h)

/-- The next reserve above a count of uses: a multiple of 65,536 (R531). -/
def nextReserve (uses : Nat) : Nat := (uses / 65536 + 1) * 65536

/-- One use of a holder's key: a tag generated or a verification passed (R530, R531, R534). -/
def State.useKey (s : State) (h : Nat) : State :=
  let u := min (s.el (Reg.KEY_USES h) + 1) (2 ^ 32 - 1)
  let x := s.slotOf h
  let warn := !x.warned && decide (2 ^ 32 - u ≤ s.el Reg.KEY_WARN)
  let s1 := (s.put (Reg.KEY_USES h) u).setSlot
    { x with
      reserve := if x.reserve ≤ u + 1 then nextReserve (u + 1) else x.reserve
      warned := x.warned || warn }
  if warn then s1.keyRecord 3 h 0 else s1

/-- A slot goes to RETIRED with its record (R532). -/
def State.retire (s : State) (h : Nat) : State := (s.put (Reg.KEY_STATE h) 2).keyRecord 4 h 0

/-! ### Answering -/

/-- The eight latest responses of a client are kept, the oldest leaving first (R256). -/
def keepAnswered (l : List Answered) (a : Answered) : List Answered :=
  let own := l.filter (fun x => x.cid == a.cid)
  if own.length < 8 then l ++ [a]
  else match own with
    | x :: _ => l.erase x ++ [a]
    | [] => l ++ [a]

/-- The reply to a request, or to a ring operation, whose target is its body's first byte. -/
def replyOf (r : Req) (op : Nat) (ring : Bool) (st : Stat) (body : Bytes) (gen : Option Nat) : Reply :=
  { port := r.port, src := r.src, udp := r.udp, op := op, cid := r.cid, reqNo := r.reqNo,
    ring := if ring then some (r.body.headD 0).toNat else none, status := st.code, detail := st.detail, body := body, gen := gen }

/-- The generation that a request's reply is tagged under; none where the request has a zero trailer (R541, R544). -/
def replyGen (r : Req) : Option Nat := if r.zeroTrailer then none else some r.tr.gen

/-- A device message with its trailer: station time at sending, the device's count for the CID, the generation, direction
0x01, the epoch and the tag (R518, R524); one use of the key, unless an earlier generation's copy makes the tag (R530, R544). -/
def State.tagged (s : State) (c gen : Nat) (key covered : Bytes) : State × Trailer :=
  let t := s.inc 4 (Reg.AUTH_CTR_OUT c)
  let u := if s.el (Reg.KEY_GEN (s.hidOf c)) = gen then t.useKey (s.hidOf c) else t
  let x : Trailer := ⟨u.now, u.el (Reg.AUTH_CTR_OUT c), gen, 1, u.el Reg.AUTH_EPOCH_N, []⟩
  (u, { x with tag := cmac key (covered ++ x.first) })

/-- A reply leaves: with a zero trailer, or tagged; not at all under a key that has been erased (R528, R541, R547). -/
def State.sendReply (s : State) (x : Reply) : State :=
  match x.gen with
  | none => s.send x.port x.src (x.body.length + 48) (x.out Trailer.zero)
  | some g =>
    match s.replyKey x.cid g with
    | none => s
    | some k =>
      let t := s.tagged x.cid g k x.covered
      t.1.send x.port x.src (x.body.length + 48) (x.out t.2)

/-- A response without a place in the response store. -/
def State.replyAs (s : State) (r : Req) (op : Nat) (ring : Bool) (st : Stat) (body : Bytes) : State :=
  if s.exch.muted then s else s.sendReply (replyOf r op ring st body (replyGen r))

def State.reply (s : State) (r : Req) (op : Nat) (st : Stat) (body : Bytes) : State := s.replyAs r op false st body

/-- A response kept for R256; `late`: the delay in µs at which it leaves, where it carries REFUSED. -/
def State.keepReply (s : State) (r : Req) (x : Reply) (late : Option Nat) : State :=
  { s with exch := { s.exch with answered := keepAnswered s.exch.answered ⟨r.cid, r.reqNo, r.body, s.now, x, late⟩ } }

/-- A response to an authentic request, kept for R256. -/
def State.answer (s : State) (r : Req) (op : Nat) (st : Stat) (body : Bytes) : State :=
  (s.keepReply r (replyOf r op false st body (replyGen r)) none).reply r op st body

/-- The delay classes of R270. -/
inductive Cls where | t | q | c
  deriving DecidableEq, Repr

/-- The fixed delay of a class, in µs (Table: Refusal classes). -/
def State.delayOf (s : State) : Cls → Nat
  | .t => s.el Reg.REFUSE_DLY_T
  | .q => s.el Reg.REFUSE_DLY_Q
  | .c => s.el Reg.REFUSE_DLY_C

/-- The counts of a refusal (R273). -/
def State.countRefusal (s : State) (c : Nat) : State :=
  if s.inUse c then (s.inc 4 (Reg.REFUSALS c)).put (Reg.REFUSE_LAST c) s.now
  else s.inc 4 Reg.REFUSE_UNBOUND

/-- A response that waits for a delay in µs, from the request's arrival at t0 (R270). -/
def State.delayed (s : State) (x : Reply) (us t0 : Nat) : State :=
  let due := t0 + (us * 2 ^ 28 + 999999) / 1000000
  { s with exch := { s.exch with refused := s.exch.refused ++ [⟨x, due⟩] } }

/-- The uniform refusal (R269 to R273, R528): counted, answered after the fixed delay, and nothing else changed. -/
def State.refuseAs (s : State) (r : Req) (op : Nat) (cls : Cls) (ring : Bool) : State :=
  (s.countRefusal r.cid).delayed (replyOf r op ring .refused [] none) (s.delayOf cls) s.now

def State.refuse (s : State) (r : Req) (op : Nat) (cls : Cls) : State := s.refuseAs r op cls false

/-- The end of an operation: refused, or answered with its status and body; an answer that is lost is not made (R65). -/
def State.finish (s : State) (r : Req) (op : Nat) (cls : Cls) (st : Stat) (body : Bytes) : State :=
  if s.exch.muted then s else if st.code = 0x01 then s.refuse r op cls else s.answer r op st body

/-! ### Crossing into an island (R26, R62 to R71) -/

/-- Requester and responder of a channel (Table: Handshake channels). -/
def chanEnds : Nat → Island × Island
  | 0 => (.ao, .bk) | 1 => (.bk, .ao) | 2 => (.ao, .fb) | 3 => (.fb, .ao) | 4 => (.ao, .cr)
  | 5 => (.cr, .ao) | 6 => (.ao, .pw) | 7 => (.fb, .cr) | 8 => (.cr, .fb) | 9 => (.cr, .sc)
  | 10 => (.nw, .sc) | 11 => (.cr, .nv) | 12 => (.sc, .nv) | 13 => (.cr, .nw) | 14 => (.nw, .cr)
  | 15 => (.fb, .nw) | 16 => (.nw, .fb) | 17 => (.cr, .pw) | 18 => (.fb, .pw) | _ => (.pw, .fb)

/-- The number that stands for no channel: a request that CR serves itself. -/
abbrev noChan : Nat := 20

/-- The channel on which CR reaches an island (Table: Handshake channels). -/
def chanTo : Island → Nat
  | .fb => 8 | .nw => 13 | .pw => 17 | .ao => 5 | .bk => 5 | .sc => 9 | .nv => 11 | .cr => noChan

/-- An island that wakes on demand. -/
def onDemand (i : Island) : Bool := i == .fb || i == .cr || i == .sc || i == .pw || i == .nv

/-- What a request meets at an island: it is served, it waits, or it completes with ABANDONED and a detail. -/
inductive Crossing where | serve | wait | shut (detail : Nat)
  deriving DecidableEq, Repr

/-- The keeper was told that its hold on an island ends: it starts no new work there (R79). -/
def State.signalled (s : State) (i : Island) (ch : Nat) : Bool :=
  ch == chanTo i && s.isl.holds.any (fun h => h.1 == i && h.2.2)

/-- What a new request on a channel into an island meets: a channel that is STUCK (R63) or in ORPHAN (R62), an island that is
absent (R67), one that has to wake or is starting (R68); a draining island serves what it has queued (R71), and work whose
answer is lost is done all the same (R66). CR serves once its firmware runs (log entry 74). -/
def State.crossing (s : State) (i : Island) (ch : Nat) : Crossing :=
  if s.exch.muted || (s.exch.forced && s.isl_ i == islDraining) then .serve
  else if s.chan ch = .stuck then .shut 3
  else if s.chan ch = .orphan then .wait
  else if s.signalled i ch then .wait
  else if s.isl_ i = islRun then (if i = .cr ∧ !s.boot.firmware then .wait else .serve)
  else if onDemand i && (s.isl_ i == islGated || s.isl_ i == islStarting) then .wait
  else .shut 2

/-- An island that is GATED wakes for a request; for CR, FB wakes first (R59, R68). -/
def State.wakeIsl (s : State) (i : Island) : State :=
  if s.isl_ i = islGated ∧ onDemand i then ((if i = .cr then s.wakeFb else s).setIsl i islStarting) else s

/-- A ring operation, which is neither limited nor kept (R494). -/
def isRingOp : Instr → Bool
  | .claim _ | .complete _ | .ringStatus _ => true
  | _ => false

/-- A request in progress, or no longer (R255). -/
def State.beginProgress (s : State) (c : Nat) : State := s.put (Reg.IN_PROGRESS c) (s.el (Reg.IN_PROGRESS c) + 1)
def State.endProgress (s : State) (c : Nat) : State := s.put (Reg.IN_PROGRESS c) (s.el (Reg.IN_PROGRESS c) - 1)

/-- A held request counts as one in progress: it has been admitted, and is no ring operation (R255, R494). -/
def Held.counted (h : Held) : Bool := h.who.isSome && match h.cmd with | some c => !isRingOp c | none => false

/-- A request is held. -/
def State.hold (s : State) (h : Held) : State :=
  let t : State := { s with isl := { s.isl with held := s.isl.held ++ [h] } }
  if h.counted then t.beginProgress h.cid else t

/-- A request is no longer held. -/
def State.unhold (s : State) (h : Held) : State :=
  let t : State := { s with isl := { s.isl with held := s.isl.held.erase h } }
  if h.counted then t.endProgress h.cid else t

/-- A request into an island over a channel: abandoned, held, or served (R62 to R68, R89). -/
def State.into (s : State) (i : Island) (ch : Nat) (cmd : Instr) (cid : Nat) (who : Option Who) (shut : State → Stat → State)
    (go : State → State) : State :=
  match s.crossing i ch with
  | .shut d => shut (s.inc 4 (Reg.CH_ABANDON ch)) (.abandoned d)
  | .wait => (s.wakeIsl i).hold ⟨some i, ch, some cmd, cid, who⟩
  | .serve => go s

/-- A request of the device itself, which nothing holds for later: abandoned, or begun where its island serves it; otherwise it
is not made yet. -/
def State.cross (s : State) (i : Island) (ch : Nat) (go : State → State) : State :=
  match s.crossing i ch with
  | .shut _ => s.inc 4 (Reg.CH_ABANDON ch)
  | .wait => s.wakeIsl i
  | .serve => go s

/-! ### Admission: steps 1 to 4 of R258 -/

/-- The port a message came through takes messages in: enabled, NW in RUN, its link up (chapter 13). -/
def State.portOpen (s : State) (p : Port) : Bool :=
  s.runs .nw && match p with
    | .canFd => bitOf (s.el Reg.PORT_EN) 0
    | .t1l => s.t1lUp
    | .host => bitOf (s.el Reg.PORT_EN) 2
    | .fac => s.el Reg.FAC_STATE == 2

/-- The stamp lies within FRESH_WIN of station time at arrival. -/
def State.inWindow (s : State) (stamp : Nat) : Bool :=
  decide (stamp ≤ s.now + stMs (s.el Reg.FRESH_WIN)) && decide (s.now ≤ stamp + stMs (s.el Reg.FRESH_WIN))

/-- The conditions of R519, given whether the tag verifies; an ECHO is exempt from the last two (R520). -/
def State.authentic (s : State) (r : Req) (echo tagOk : Bool) : Bool :=
  let h := s.hidOf r.cid
  s.inUse r.cid && s.el (Reg.KEY_STATE h) == 1 && tagOk && r.tr.dir == 0 && r.tr.epoch == 0 &&
  r.tr.gen == s.el (Reg.KEY_GEN h) && decide (s.el (Reg.AUTH_CTR_IN r.cid) < r.tr.ctr) &&
  (echo || (s.inWindow r.tr.stamp && (s.key.fresh.contains r.cid || decide (s.el Reg.AUTH_EPOCH < r.tr.stamp))))

/-- Unprovisioned access of R541: a zero trailer of CID 0 on the host port while HID 0's slot is EMPTY. -/
def State.bootstrapOk (s : State) (r : Req) : Bool :=
  r.zeroTrailer && (r.port == .host || r.port == .fac) && r.cid == 0 && s.el (Reg.KEY_STATE 0) == 0

/-- A request that passed step 2: its counter and one use are taken (R521, R530). -/
def State.accepted (s : State) (r : Req) : State :=
  let s1 := (s.put (Reg.AUTH_CTR_IN r.cid) r.tr.ctr).useKey (s.hidOf r.cid)
  let f := if s1.key.fresh.contains r.cid then s1.key.fresh else s1.key.fresh ++ [r.cid]
  { s1 with key := { s1.key with fresh := f } }

/-- What admission answers: the request has ended, it waits on a channel into an island, or it goes on for a requester. -/
inductive Admit where
  | done (s : State)
  | wait (s : State) (i : Option Island) (ch : Nat) (who : Option Who)
  | go (s : State) (w : Who)

/-- A host-port frame is taken from the inbound queue (R496); a frame at the open field access port keeps it open (R675). -/
def State.takeFrame (s : State) (r : Req) : State :=
  if s.exch.resumed.isSome then s
  else if r.port = .host then { s with port := { s.port with hostIn := s.port.hostIn - 1 } }
  else if r.port = .fac then { s with tmp := { s.tmp with lastFrame := s.now } } else s

/-- The kept response to a request of the same number (R256, R257). -/
def State.earlier (s : State) (r : Req) : Option Answered :=
  s.exch.answered.find? (fun a => a.cid == r.cid && a.reqNo == r.reqNo)

/-- An opcode the exchange has (Table: Operations); 0x40 is the device's own (R253). -/
def knownOpcode (op : Nat) : Bool := decide (1 ≤ op ∧ op ≤ 0x0E)

/-- Step 4 of R258, with R256 and R257 before it, and the order of a client's requests (R254): one that comes while another is
in progress waits behind it (log entry 75). -/
def State.limited (s : State) (r : Req) (op : Nat) (w : Who) : Admit :=
  let more : Admit :=
    if 4 ≤ s.el (Reg.IN_PROGRESS r.cid) then .done (s.reply r op (.exhausted 5) [])
    else if s.el (Reg.IN_PROGRESS r.cid) = 0 then .go s w
    else .wait s none noChan (some w)
  match s.earlier r with
  | some a =>
    if a.body ≠ r.body then .done (s.reply r op (.conflict 5) [])
    else if s.now ≤ a.at_ + 60 * stSecond then
      let x : Reply := { a.out with gen := replyGen r }
      .done (match a.late with | some us => s.delayed x us s.now | none => s.sendReply x)
    else more
  | none => more

/-- Steps 2 to 4 of R258 and R532, given whether the tag verifies. -/
def State.verified (s : State) (r : Req) (op : Nat) (cls : Cls) (ring tagOk : Bool) : Admit :=
  if !s.authentic r (op == 0x0E) tagOk then .done (s.refuseAs r op cls ring)
  else
    let h := s.hidOf r.cid
    let left := s.usesLeft h
    let t := s.accepted r
    if left ≤ 1 then .done (t.retire h)
    else if left = 2 then .done ((t.replyAs r op ring (.exhausted 1) []).retire h)
    else if ring || !knownOpcode op then .go t (.client r.cid)
    else t.limited r op (.client r.cid)

/-- The answer to a request that CR is not there for: no access check has run, and its trailer is zero (chapter 07, Edges). -/
def State.coreAbsent (s : State) (r : Req) (op detail : Nat) : State :=
  s.sendReply (replyOf r op false (.abandoned detail) [] none)

/-- Step 2 of R258 and what follows it: unprovisioned access skips the verification (R541); SC answers no frame
authentication while it rebuilds its table, and a frame it cannot check is dropped (R27, R517). `boot`: one of the operations
R541 offers. -/
def State.authenticate (s : State) (r : Req) (op : Nat) (cls : Cls) (ring boot tagOk : Bool) : Admit :=
  if s.bootstrapOk r then
    if boot then s.limited r op .bootstrap else .done (s.refuseAs r op cls ring)
  else match s.crossing .sc 10 with
    | .shut _ => .done (s.inc 4 (Reg.CH_ABANDON 10))
    | .wait => .wait (s.wakeIsl .sc) (some .sc) 10 none
    | .serve => if s.key.rebuilding then .done s else s.verified r op cls ring tagOk

/-- Steps 1 to 4 of R258, given whether the tag verifies. `fast`: the request is served without the control core (R495);
`ring`: a ring operation. A request that was held goes on from where it waited. -/
def State.acceptWith (s : State) (r : Req) (op : Nat) (cls : Cls) (fast ring boot tagOk : Bool) : Admit :=
  match s.exch.resumed with
  | some (some w) => .go s w
  | _ =>
    if s.exch.resumed.isNone && !s.portOpen r.port then .done s
    else if r.port = .t1l ∧ s.exch.resumed.isNone ∧ !s.ethIn r.eth then .done (s.ethDrop r.eth)
    else if r.port = .t1l ∧ s.exch.resumed.isNone ∧ !s.malnanIn r.eth then .done s
    else
      let t := s.takeFrame r
      if !r.framed then .done (t.inc 4 Reg.MSG_DROPPED)
      else if r.port = .canFd ∧ 12 ≤ r.src % 16 then .done (t.inc 4 Reg.MSG_DROPPED)
      else match (if fast then Crossing.serve else t.crossing .cr 14) with
        | .shut d => .done ((t.inc 4 (Reg.CH_ABANDON 14)).coreAbsent r op d)
        | .wait => .wait (t.wakeIsl .cr) (some .cr) 14 none
        | .serve => t.authenticate r op cls ring boot tagOk

/-- Steps 1 to 4 of R258. -/
def State.accept (s : State) (r : Req) (op : Nat) (cls : Cls) (fast ring boot : Bool) : Admit :=
  s.acceptWith r op cls fast ring boot (s.tagOk r op ring)

/-- A request of a client that admission holds. -/
def State.holdRequest (s : State) (cmd : Instr) (r : Req) (i : Option Island) (ch : Nat) (w : Option Who) : State :=
  s.hold ⟨i, ch, some cmd, r.cid, w⟩

/-- The service mode does not offer an operation: REDUCED with its detail (step 6 of R258). -/
def State.reducedStat (s : State) : Stat := .reduced (s.el Reg.SERVICE_MODE)

/-- The device runs in full service. -/
def State.full (s : State) : Bool := s.el Reg.SERVICE_MODE == 0

/-! ### Requests that end without an answer (R66, R69 to R73, R90) -/

end Sys2Proof.Machine

namespace Sys2Proof

/-- The request that a command brings, with its opcode, and whether it is a ring operation. -/
def Instr.brings : Instr → Option (Req × Nat × Bool)
  | .islReqGate r | .islReqReset r | .islReqWithdraw r | .devResetMain r | .devResetFull r | .refLabelWrite r
  | .refAcceptWrite r | .learnResetWrite r | .slewAddWrite r | .timeStepWrite r _ | .timeStepFWrite r _
  | .timeSetWrite r _ | .stepWithdraw r | .write r | .cmWithdrawWrite r | .cmWithdrawAnyWrite r | .lsRenewWrite r
  | .lsDropWrite r | .revokeAnyWrite r | .timerArm r | .timerDisarm r | .doorbellWrite r | .enSetWrite r
  | .enClrWrite r | .pendSetWrite r | .pendClrWrite r | .kxStartWrite r | .kxPeerWrite r | .zeroizeWrite r
  | .chgClearWrite r | .seqClearWrite r | .margReqWrite r | .wdKeyBad r | .wdCheckin r | .wdNap r | .tmpClearWrite r
  | .tmpTestWrite r | .logArchiveWrite r | .twinResolveWrite r | .wdKeyArm (some r) | .wdKeyService (some r) => some (r, 2, false)
  | .read r => some (r, 1, false)
  | .gather r => some (r, 3, false)
  | .scatter r => some (r, 4, false)
  | .commit r _ | .commitCheckOnly r _ => some (r, 5, false)
  | .discard r => some (r, 6, false)
  | .lease r => some (r, 7, false)
  | .release r => some (r, 8, false)
  | .subscribe r => some (r, 9, false)
  | .unsubscribe r => some (r, 0x0A, false)
  | .logRead r => some (r, 0x0B, false)
  | .doorbell r => some (r, 0x0C, false)
  | .echo r => some (r, 0x0E, false)
  | .imageBegin r | .imageData r | .imageFinish r | .imageAbort r | .imageActivate r | .imageConfirm r => some (r, 0x0D, false)
  | .claim r => some (r, 1, true)
  | .complete r => some (r, 2, true)
  | .ringStatus r => some (r, 3, true)
  | .unknownOpcode r op => some (r, op, false)
  | _ => none

end Sys2Proof

namespace Sys2Proof.Machine
open Host

/-- A persistent write or an image block that NV did not take: the firmware repeats it (R90, R247). -/
def State.retryLater (s : State) (r : Req) (op : Nat) : State :=
  State.beginProgress { s with isl := { s.isl with retries := s.isl.retries ++ [(op, r, 0)] } } r.cid

/-- A held request completes at its requester with ABANDONED and a detail, counted on its channel (R61, R72, R73, R89): a frame
that SC did not check is dropped (R27); one that CR did not take is answered as for a core that is absent; a persistent write
or an image block write is repeated by the firmware (R90). -/
def State.abandon (s : State) (h : Held) (d : Nat) : State :=
  let t := (s.unhold h).inc 4 (Reg.CH_ABANDON h.ch)
  match h.cmd.bind Instr.brings with
  | none => t
  | some (r, op, ring) =>
    if h.ch = 10 then t
    else if h.who = none then t.coreAbsent r op d
    else if ring then t.replyAs r op true (.abandoned d) []
    else if h.ch = 11 ∧ (op = 2 ∨ (op = 0x0D ∧ bytesToNum ((r.body.drop 1).take 2) < 0xFFF0)) then
      t.retryLater r op
    else t.finish r op .q (.abandoned d) []

/-- Held requests that are lost with their requester: they complete nowhere and are not counted (R850). -/
def State.dropHeld (s : State) (p : Held → Bool) : State := (s.isl.held.filter p).foldl State.unhold s

/-- Held requests that complete with ABANDONED. -/
def State.abandonAll (s : State) (p : Held → Bool) (d : Nat) : State :=
  (s.isl.held.filter p).foldl (fun t h => t.abandon h d) s

end Sys2Proof.Machine
end

