-- ==== Sys2Proof/Machine/Links.lean ====
section
/-! DEFINITION. The states of the field ports (chapter 13): starts and restarts, the link, the PTP port state, the next hop,
CAN's fault confinement; the start of the bond link (chapter 22). -/
namespace Sys2Proof.Machine
open Host

/-- A station record of source 55 to T0, T1 and T2 (R506). -/
def State.portRecord (s : State) (kind detail : Nat) : State := s.stationRecord 55 kind detail true

/-! ### The PTP port state (R483 to R485, R490, R491), by its IEEE 1588-2019 values -/

abbrev ptpInitializing : Nat := 1
abbrev ptpFaulty : Nat := 2
abbrev ptpDisabled : Nat := 3
abbrev ptpListening : Nat := 4
abbrev ptpMaster : Nat := 6
abbrev ptpPassive : Nat := 7
abbrev ptpUncalibrated : Nat := 8
abbrev ptpSlave : Nat := 9

/-- The PTP port takes a state, with its record when the state changes. -/
def State.ptpGo (s : State) (v : Nat) : State :=
  if s.el Reg.PTP_STATE = v then s else (s.put Reg.PTP_STATE v).portRecord 7 v

/-- The port is in a state other than DISABLED and FAULTY (R490). -/
def State.ptpRuns (s : State) : Bool :=
  let p := s.el Reg.PTP_STATE
  p != 0 && p != ptpDisabled && p != ptpFaulty

/-- PTP messages are processed: by the firmware, with NW in RUN (R491). -/
def State.ptpServed (s : State) : Bool := s.runs .nw && s.runs .cr && s.boot.firmware

/-! ### The 10BASE-T1L link -/

/-- The link goes down: its record and count; PTP is FAULTY (R476, R484). The subscriptions stay. -/
def State.linkDown (s : State) : State :=
  if s.el Reg.T1L_LINK / 2 ^ 24 ≠ 3 then s else
  let t := ((s.put Reg.T1L_LINK 0).inc 4 Reg.T1L_DOWN_COUNT).portRecord 5 0
  if t.el Reg.PTP_STATE = ptpDisabled then t else t.ptpGo ptpFaulty

/-- Duplicate address detection starts for every address (R478). IEEE's and the RFCs' own figures hold: one probe, one
second (log entry 51). -/
def State.startDad (s : State) : State :=
  let t := s.put Reg.IP6_DAD 0
  { t with port := { t.port with dadUntil := t.now + stSecond } }

/-- A destination is on-link: link-local, under the prefix of an address, or every one with no gateway (R477, R479). -/
def State.onLink (s : State) (a : Nat) : Bool :=
  s.el Reg.IP6_GW == 0 || s.ownAddrs.any (fun p => p.2 / 2 ^ 64 == a / 2 ^ 64)

/-- The next hop of a destination has a cache entry, or the firmware resolves it (R482). -/
def State.hopKnown (s : State) (a : Nat) : Bool :=
  (s.boot.firmware && (s.runs .cr || s.isl_ .cr == islGated || s.isl_ .cr == islStarting)) ||
  s.port.neighbours.any (fun p => p.1 == (if s.onLink a then a else s.el Reg.IP6_GW))

/-! ### Starts and restarts (R459) -/

/-- CAN FD starts: error active, or off where it is not enabled; what was queued or in reassembly is lost. -/
def State.startCan (s : State) : State :=
  let t : State := { s with port := { s.port with canTx := [], canWait := [], reasm := [] } }
  (t.put Reg.CAN_STATE (if bitOf (s.el Reg.PORT_EN) 0 then 1 else 0)).put Reg.CAN_ERRCNT 0

/-- 10BASE-T1L starts: the link goes down and, where the port is enabled, negotiates or trains (R474). -/
def State.startT1l (s : State) : State :=
  let t := s.linkDown
  let on := bitOf (s.el Reg.PORT_EN) 1
  let u := (t.put Reg.T1L_LINK (if !on then 0 else if s.el Reg.T1L_AN = 0 then 2 ^ 24 else 2 * 2 ^ 24)).put Reg.IP6_LL
    t.linkLocal
  u.ptpGo (if !on ∨ s.el Reg.PTP_ROLE = 0 then ptpDisabled else ptpFaulty)

/-- The host port is ready, from the instant it first is since CR's start (R96, R109). -/
def State.hostUp (s : State) : State :=
  if s.boot.portReady then s else { s with boot := { s.boot with portReady := true, readyAt := s.now } }

/-- The committed I²C address is taken over, once after each full or main reset (R504). -/
def State.takeI2c (s : State) : State :=
  { s with port := { s.port with i2cAddr := some (s.port.i2cAddr.getD (s.el Reg.I2C_ADDR)) } }

/-- The host port starts: its queues are empty; with the firmware running it is ready. -/
def State.startHost (s : State) : State :=
  let u : State := if s.boot.firmware ∧ bitOf (s.el Reg.PORT_EN) 2 then s.hostUp else s
  let t : State := { u with port := { u.port with hostIn := 0, hostOut := [] } }
  t.put Reg.HP_MODE (s.el Reg.STRAPS % 2)

/-- TWIN_ROLE: 0 single, 1 role A, 2 role B. -/
def State.twinRole (s : State) : Nat := field (s.el Reg.STRAPS) 2 2

/-- The state a half of a pair has before any HELLO: PAIRING without a peer's identity, else LINKING (R754, R755). -/
def State.twinStart (s : State) : State :=
  if s.twinRole = 0 ∨ s.el Reg.TWIN_STATE ≠ 0 then s
  else
    (State.put { s with twin := { s.twin with eph := none, helloing := true } } Reg.TWIN_STATE
      (if s.el Reg.TWIN_PEER_ID = 0 then 1 else 2))

/-- Every port starts, as at each start of NW, and the bond link. -/
def State.startPorts (s : State) : State := s.startCan.startT1l.startHost.twinStart

/-! ### CAN FD: errors (R472) -/

/-- Bus-off: counted and recorded; the transmit queue, and what waits for it, is discarded. -/
def State.busOff (s : State) : State :=
  let t : State := { s with port := { s.port with canTx := [], canWait := [] } }
  ((t.put Reg.CAN_STATE 3).inc 4 Reg.CAN_BOFF_COUNT).portRecord 2 0

/-- The controller's state after an error or a success left its counts at tec and rec (ISO 11898-1:2015: error passive from
128, bus-off above 255). -/
def State.canCounts (s : State) (tec rec_ : Nat) : State :=
  let t := s.put Reg.CAN_ERRCNT (min tec 255 * 256 + min rec_ 255)
  let st := s.el Reg.CAN_STATE
  if 255 < tec then t.busOff
  else if 127 < tec ∨ 127 < rec_ then (if st = 2 then t else (t.put Reg.CAN_STATE 2).portRecord 1 tec)
  else t.put Reg.CAN_STATE 1

/-- Room in the transmit queue goes to the responses that wait, in order (R470). -/
def State.canRefill (s : State) : State :=
  match s.port.canWait with
  | m :: l =>
    if s.port.canTx.length < 8 then { s with port := { s.port with canTx := canInsert m s.port.canTx, canWait := l } } else s
  | [] => s

end Sys2Proof.Machine
end

