-- ==== Sys2Proof/Machine/Loops.lean ====
section
/-! DEFINITION. The lehr loops' shared operations (chapter 19): windows, the states FENCED, SAFETY and STALE, LOOP_STATE. -/
namespace Sys2Proof.Machine
open Host

/-- A station record of source 47 to T0, T1 and T2 (R702). -/
def State.loopRecord (s : State) (kind detail : Nat) : State := s.stationRecord 47 kind detail true

/-- A lost input holds a loop's output (R698); a temperature sensor of L1 does not, the others serve (Edges). -/
def State.loopHolds (s : State) (n : Nat) : Bool :=
  s.lehr.lost.any (fun p => p.1 == n && !(n == 1 && decide (0x10 ≤ p.2 ∧ p.2 ≤ 0x18)))

/-- A loop's window from H, S and F, each a range (R691). -/
def loopWindow (h s f : Int × Int) : Int × Int :=
  let lo := max h.1 s.1
  let hi := min h.2 s.2
  if max lo f.1 ≤ min hi f.2 then (max lo f.1, min hi f.2)
  else if f.2 < lo then (lo, lo) else (hi, hi)

/-- A loop enters or leaves FENCED: counted and, for L1 to L3, recorded (R696). -/
def State.fence (s : State) (n : Nat) (fenced high : Bool) : State :=
  let was := s.lehr.fenced.contains n
  if fenced && !was then
    let t : State := { s with lehr := { s.lehr with fenced := s.lehr.fenced ++ [n] } }
    let u := t.inc 4 (Reg.LOOP_FENCED (n - 1))
    if n ≤ 3 then u.loopRecord 1 (n * 256 + (if high then 1 else 0)) else u
  else if !fenced && was then
    let t : State := { s with lehr := { s.lehr with fenced := s.lehr.fenced.erase n } }
    if n ≤ 3 then t.loopRecord 2 (n * 256) else t
  else s

/-- The safety rules that narrow a loop's window change, each with its record (R697). -/
def State.safety (s : State) (n : Nat) (rules : List Nat) : State :=
  let was := (s.lehr.safety.filter (fun p => p.1 == n)).map (fun p => p.2)
  let l := s.lehr.safety.filter (fun p => p.1 != n) ++ rules.map (fun r => (n, r))
  let t : State := { s with lehr := { s.lehr with safety := l } }
  let u := (was.filter (fun r => !rules.contains r)).foldl (fun x r => x.loopRecord 4 (n * 256 + r)) t
  (rules.filter (fun r => !was.contains r)).foldl (fun x r => x.loopRecord 3 (n * 256 + r)) u

/-- A safety rule is in force or not, as SAFETY_ACTIVE shows it (R693). -/
def State.ruleShown (s : State) (r : Nat) (on : Bool) : State := s.put Reg.SAFETY_ACTIVE (setBit (s.el Reg.SAFETY_ACTIVE) r on)

/-- LOOP_STATE of a loop, with its output and the value it wants (R699). -/
def State.showLoop (s : State) (n : Nat) (off following : Bool) (out want : Int) : State :=
  if s.isl_ .fb = islUnpowered then s else
  let fenced := s.lehr.fenced.contains n
  let hold := s.loopHolds n
  let st := if off then 0 else if hold then 3 else if s.lehr.safety.any (fun p => p.1 == n) then 4
    else if fenced then 2 else if following then 5 else 1
  let status := if off then 0 else if hold then 0x10 else if fenced then 0x0D else 0
  s.put (Reg.LOOP_STATE (n - 1)) (((st * 256 + status) * 65536 * 2 ^ 32 + unsigned 32 out) * 2 ^ 32 + unsigned 32 want)

/-- The parts of a LOOP_STATE record. -/
def loopOut (v : Nat) : Int := signed 32 (v / 2 ^ 32)
def loopWant (v : Nat) : Int := signed 32 v
def loopCode (v : Nat) : Nat := v / 2 ^ 88

/-- LOOP_STATE of a loop shown afresh with the output it has. -/
def State.reshow (s : State) (n : Nat) (off following : Bool) : State :=
  let v := s.el (Reg.LOOP_STATE (n - 1))
  s.showLoop n off following (loopOut v) (loopWant v)

end Sys2Proof.Machine
end

