-- ==== Sys2Proof/Machine/Rails.lean ====
section
/-! DEFINITION. The sequencer, the load switches and the margin outputs (chapter 16): the shared operations and the
meanings of the rail family. -/
namespace Sys2Proof.Machine
open Host

abbrev oOff : Nat := 0
abbrev oWaitUp : Nat := 1
abbrev oRamp : Nat := 2
abbrev oOn : Nat := 3
abbrev oWaitDown : Nat := 4
abbrev oFall : Nat := 5
abbrev oStuck : Nat := 6
abbrev oHeld : Nat := 7
abbrev oFault : Nat := 8

/-- An output that has never been used. -/
def Output.idle : Output := ⟨0, 0, 1, false, false, false, false, false, false, true, false, none, false⟩

def State.outp (s : State) (o : Nat) : Output := s.rail.outs.getD o Output.idle

def State.setOut (s : State) (o : Nat) (f : Output → Output) : State :=
  { s with rail := { s.rail with outs := s.rail.outs.modify o f } }

/-- Fields of RAIL_CFG: up order, down order, the join flag; of LSW_CFG the join flag (Table of chapter 16). -/
def State.upOrder (s : State) (r : Nat) : Nat := field (s.el (Reg.RAIL_CFG r)) 88 8
def State.downOrder (s : State) (r : Nat) : Nat := field (s.el (Reg.RAIL_CFG r)) 64 8
def State.joined (s : State) (o : Nat) : Bool :=
  if o < 8 then bitOf (s.el (Reg.RAIL_CFG o)) 8 else bitOf (s.el (Reg.LSW_CFG (o - 8))) 0

/-- FLT_RETRY of FLT_CFG. -/
def State.fltRetry (s : State) : Nat := s.el Reg.FLT_CFG % 256

/-- The outputs as PW finds them at a start: off, each with FLT_RETRY retries (R605). -/
def State.outsAnew (s : State) : List Output := List.replicate 14 { Output.idle with retries := s.fltRetry }

/-- Rail r requires rail q (R586). -/
def State.railRequires (s : State) (r q : Nat) : Bool :=
  r < 8 && q < 8 && s.upOrder r != 0 && s.upOrder q != 0 && decide (s.upOrder q < s.upOrder r)

/-- The ordinal of an output's resource (Table: Resources). -/
def ordOfOut (o : Nat) : Nat := 25 + o

/-- A lease names output o explicitly. -/
def State.namedLease (s : State) (o : Nat) : Bool :=
  s.arb.bundles.any (fun b => b.holds && b.items.any (fun p => p.1 == ordOfOut o)) ||
  s.arb.standing.any (fun x => x.granted && x.ord == ordOfOut o)

/-- A twin-shared rail that this half does not run: on role B, and on role A outside JOINED and DISCORD (R774, R777, R778). -/
def State.twinBlocked (s : State) (o : Nat) : Bool :=
  s.twinRole != 0 && o < 8 && bitOf (s.el (Reg.RES_CFG (24 + o))) 73 &&
  (s.twinRole != 1 || (s.el Reg.TWIN_STATE != 3 && s.el Reg.TWIN_STATE != 4))

/-- Output o is leased, implicit items included (R587, R595). -/
def State.outLeased (s : State) (o : Nat) : Bool :=
  (s.namedLease o || (List.range 8).any (fun r => s.railRequires r o && s.namedLease r)) && !s.twinBlocked o

/-- Every rail that rail r requires is ON. -/
def State.requiredOn (s : State) (r : Nat) : Bool :=
  (List.range 8).all (fun q => !s.railRequires r q || (s.outp q).state == oOn)

/-- Some rail that rail r requires is in FAULT (R602). -/
def State.requiredFault (s : State) (r : Nat) : Bool :=
  (List.range 8).any (fun q => s.railRequires r q && (s.outp q).state == oFault)

/-- A station record of source 48 to T0, T1 and T2 (R619). -/
def State.railRecord (s : State) (kind detail : Nat) : State := s.powerEvent 48 kind detail

/-- The client records of an output: one for each held bundle that names it explicitly (R619). -/
def State.outClientRecords (s : State) (o kind : Nat) : State :=
  (s.arb.bundles.filter (fun b => b.holds && b.items.any (fun p => p.1 == ordOfOut o))).foldl
    (fun t b => t.clientRecord 48 kind (o * 4096 + b.num % 4096) b.cid) s

/-- The margin outputs of a rail that leaves ON go to high impedance at once (R613). -/
def State.marginsOff (s : State) (r : Nat) : State :=
  [0, 1, 2, 3].foldl (fun t m => if s.el (Reg.MARG_CFG m) / 256 = r then t.put (Reg.MARG_NOW m) 0 else t) s

/-- An output changes state: its record of kind 0x01, and the client records 0x0A and 0x0B (R619). -/
def State.outGo (s : State) (o st cause : Nat) (f : Output → Output) : State :=
  let old := (s.outp o).state
  let s1 := (s.setOut o (fun x => { f x with state := st, cause := cause, upPassed := false })).railRecord 1 (o * 4096 + st * 256 + cause)
  let s2 := if st = oOn ∧ old ≠ oWaitDown then s1.outClientRecords o 0x0A
    else if cause ≠ 0 ∧ cause ≠ 4 ∧ (old = oOn ∨ old = oRamp ∨ old = oWaitUp) then s1.outClientRecords o 0x0B else s1
  if o < 8 ∧ old = oOn ∧ st ≠ oOn then s2.marginsOff o else s2

/-- The device begins to drive FLT_N for a joined output's fault (R600, R601); of two at one instant the lower output is named. -/
def State.driveFlt (s : State) (o cause : Nat) : State :=
  if s.joined o && s.rail.driving && s.rail.fltAt == s.now && decide (o < s.rail.fltOut) then
    { s with rail := { s.rail with fltOut := o, fltCause := cause } }
  else if s.joined o && !s.rail.driving then
    { s with rail :=
      { s.rail with driving := true, originator := !s.rail.fltLow, fltOut := o, fltCause := cause, fltAt := s.now,
                    minPassed := false } }
  else s

/-- An output enters FAULT (R599, R600). -/
def State.enterFault (s : State) (o cause : Nat) : State :=
  (s.outGo o oFault cause (fun x => { x with faultDown := false, turn := false, below := decide (8 ≤ o) })).driveFlt o cause

/-- An output leaves FAULT with one of its retries (R605). -/
def State.retryOut (s : State) (o : Nat) : State :=
  s.outGo o oOff 0 (fun x => { x with retries := x.retries - 1 })

/-- The transitions of one output that need nothing but the present state (Table: Rail transitions, R607, first listed
first). -/
def State.settleOut (s : State) (o : Nat) : State :=
  let x := s.outp o
  let flt := s.rail.fltLow && s.joined o
  let downCause := if o < 8 ∧ s.requiredFault o then 9 else if s.rail.driving then 8 else 7
  if o < 8 then
    if (x.state = oRamp ∨ x.state = oOn ∨ x.state = oWaitUp) ∧ (flt ∨ s.requiredFault o) then
      s.outGo o oWaitDown downCause (fun y => { y with faultDown := true, turn := false })
    else if x.state = oWaitDown ∧ !x.faultDown ∧ (flt ∨ s.requiredFault o) then
      s.setOut o (fun y => { y with faultDown := true, cause := downCause })
    else if x.state = oOff ∧ s.outLeased o ∧ s.requiredOn o ∧ !flt then
      s.outGo o oWaitUp 0 (fun y => { y with faultDown := false })
    else if x.state = oWaitUp ∧ (!s.outLeased o ∨ !s.requiredOn o) then s.outGo o oOff 0 id
    else if (x.state = oRamp ∨ x.state = oOn) ∧ !s.outLeased o then
      s.outGo o oWaitDown 0 (fun y => { y with faultDown := false, turn := false })
    else if x.state = oWaitDown ∧ !x.faultDown ∧ s.outLeased o then s.outGo o oOn 0 (fun y => { y with turn := false })
    else if x.state = oWaitDown ∧ !x.turn ∧
        !(List.range 8).any (fun q => decide (s.downOrder q < s.downOrder o) &&
          ((s.outp q).state == oWaitDown || (s.outp q).state == oFall)) then
      s.setOut o (fun y => { y with turn := true })
    else if x.state = oHeld ∧ s.rail.holdOk ∧ !flt then s.outGo o oOff 0 id
    else if x.state = oFault ∧ x.below ∧ s.rail.holdOk ∧ !flt ∧ x.retries ≠ 0 then s.retryOut o
    else s
  else
    if (x.state = oRamp ∨ x.state = oOn) ∧ flt then s.outGo o oHeld downCause (fun y => { y with faultDown := true })
    else if x.state = oOff ∧ s.outLeased o ∧ !flt then s.outGo o oRamp 0 id
    else if (x.state = oRamp ∨ x.state = oOn) ∧ !s.outLeased o then s.outGo o oOff 0 id
    else if x.state = oHeld ∧ s.rail.holdOk ∧ !flt then s.outGo o oOff 0 id
    else if x.state = oFault ∧ s.rail.holdOk ∧ !flt ∧ x.retries ≠ 0 ∧ !x.hot then s.retryOut o
    else s

/-- One pass over the outputs, lowest number first. -/
def State.settlePass (s : State) : State := (List.range 14).foldl (fun t o => t.settleOut o) s

/-- Every transition that is due acts; a chain of them takes at most as many passes as there are outputs. -/
def State.settle (s : State) : State :=
  if s.runs .pw then (List.range 16).foldl (fun t _ => t.settlePass) s else s

/-- PW acts on what is leased, woken if need be (R68). -/
def State.settleWoken (s : State) : State :=
  if s.isl_ .pw = islGated then s.setIsl .pw islStarting else s.settle

/-- A grant or an ending that concerns an output reaches PW over CH18 (R26, R68, R318). -/
def State.outputsChanged (s : State) : State := s.over 18 State.settleWoken

/-- The client that holds a lease on an output or input by its resource ordinal, on an exclusive resource. -/
def State.lessee (s : State) (ord : Nat) : Option Bundle :=
  s.arb.bundles.find? (fun b => b.holds && b.items.any (fun p => p.1 == ord))

/-! ### Meanings -/

/-- The level of a band of a rail in mV: 0 warning low, 1 warning high, 2 fault low, 3 fault high. -/
def State.bandLevel (s : State) (rail band : Nat) : Nat :=
  field (s.el (Reg.RAIL_LVL rail)) (if band = 0 then 32 else if band = 1 then 16 else if band = 2 then 48 else 0) 16

/-- The rail is in a band. -/
def Output.inBand (x : Output) (band : Nat) : Bool :=
  if band = 0 then x.warnLo else if band = 1 then x.warnHi else if band = 2 then x.faultLo else x.faultHi

/-- Readings of mv take a rail into a band that it is not in, or out of one that it is in (R592): beyond the level, or back on
the other side by 1 % of it. -/
def State.crossesBand (s : State) (rail band : Nat) (entered : Bool) (mv : Nat) : Bool :=
  let l := s.bandLevel rail band
  let low := band == 0 || band == 2
  (s.outp rail).inBand band != entered &&
  (if entered then (if low then decide (mv < l) else decide (l < mv))
   else if low then decide (101 * l ≤ 100 * mv) else decide (100 * mv ≤ 99 * l))

/-- RAIL_BAND_CROSS (R592, R593, R595): RAIL_FILT readings have crossed a level. -/
def execRailBandCross (rail : Fin 8) (band : Fin 4) (entered : Bool) (mv : Nat) (s : State) :
    Outcome State Fault Refusal :=
  if !s.runs .pw then .next s else
  let s1 := s.put (Reg.RAIL_MV rail) (mv % 65536)
  if !s1.crossesBand rail band entered mv then .next s1 else
  let x := s1.outp rail
  let s2 := s1.setOut rail (fun y =>
    { y with
      warnLo := if band = 0 then entered else y.warnLo
      warnHi := if band = 1 then entered else y.warnHi
      faultLo := if band = 2 then entered else y.faultLo
      faultHi := if band = 3 then entered else y.faultHi })
  if band = 0 ∨ band = 1 then
    .next (s2.railRecord 2 (rail * 4096 + (if band = 1 then 2 else 0) + (if entered then 1 else 0)))
  else if entered ∧ band = 3 ∧ (x.state = oRamp ∨ x.state = oOn) then .next (s2.enterFault rail 1).settle
  else if entered ∧ band = 2 ∧ x.state = oOn then .next (s2.enterFault rail 2).settle
  else .next s2

/-- UP_DELAY_EXPIRY (R595, R776): WAIT_UP goes to RAMP, and the enable rises; a twin-shared rail once B's echo shows it. -/
def execUpDelayExpiry (rail : Fin 8) (s : State) : Outcome State Fault Refusal :=
  let shared := s.twinRole != 0 && bitOf (s.el (Reg.RES_CFG (24 + rail))) 73
  if s.runs .pw ∧ (s.outp rail).state = oWaitUp ∧ (!shared ∨ bitOf s.twin.echo rail) then
    .next (s.outGo rail oRamp 0 (fun y => { y with below := false })).settle
  else if s.runs .pw ∧ (s.outp rail).state = oWaitUp then .next (s.setOut rail (fun y => { y with upPassed := true }))
  else .next s

/-- RAIL_GOOD (R593): a rail in RAMP is ON. -/
def execRailGood (rail : Fin 8) (s : State) : Outcome State Fault Refusal :=
  if s.runs .pw ∧ (s.outp rail).state = oRamp then .next (s.outGo rail oOn 0 id).settle else .next s

/-- RAMP_TIMEOUT (R595): FAULT with cause 0x03. -/
def execRampTimeout (rail : Fin 8) (s : State) : Outcome State Fault Refusal :=
  if s.runs .pw ∧ (s.outp rail).state = oRamp then .next (s.enterFault rail 3).settle else .next s

/-- DOWN_DELAY_EXPIRY (R596): the rail whose turn it is releases its enable and enters FALL. -/
def execDownDelayExpiry (rail : Fin 8) (s : State) : Outcome State Fault Refusal :=
  let x := s.outp rail
  if s.runs .pw ∧ x.state = oWaitDown ∧ x.turn then
    .next (s.outGo rail oFall x.cause (fun y => { y with turn := false, below := false })).settle
  else .next s

/-- RAIL_OFF_REACHED (R595, R598): FALL and STUCK end in OFF, or in HELD after a fault-down; a rail in FAULT may retry. -/
def execRailOffReached (rail : Fin 8) (s : State) : Outcome State Fault Refusal :=
  let x := s.outp rail
  if !s.runs .pw then .next s
  else if x.state = oFall ∨ x.state = oStuck then
    .next (s.outGo rail (if x.faultDown then oHeld else oOff) (if x.faultDown then x.cause else 0)
      (fun y => { y with below := true })).settle
  else if x.state = oFault then .next (s.setOut rail (fun y => { y with below := true })).settle
  else .next s

/-- DISCHARGE_TIMEOUT (R595): STUCK with cause 0x04. -/
def execDischargeTimeout (rail : Fin 8) (s : State) : Outcome State Fault Refusal :=
  if s.runs .pw ∧ (s.outp rail).state = oFall then .next (s.outGo rail oStuck 4 id).settle else .next s

/-- FLT_N_ASSERTED (R602, R603, R606): the line has read low for FLT_FILT; the device runs its fault-down. -/
def execFltNAsserted (s : State) : Outcome State Fault Refusal :=
  if !s.runs .pw ∨ s.rail.fltLow then .next s else
  let r := s.rail
  let s1 := { s with rail :=
    { r with fltLow := true, holdOk := false,
             originator := if r.driving then r.originator else false
             fltOut := if r.driving then r.fltOut else 0
             fltCause := if r.driving then r.fltCause else 7
             fltAt := if r.driving then r.fltAt else s.now } }
  let d := (if r.driving then r.fltOut * 4096 + 256 else 0) + (if s1.rail.originator then 1 else 0)
  let s2 := (s1.inc 4 Reg.FLT_COUNT).railRecord 3 d
  let s3 := s2.logKeeper 0x08
    [payload10 (numToBytes 1 (if s1.rail.originator then 1 else 0) ++ numToBytes 1 s1.rail.fltOut ++
      numToBytes 1 s1.rail.fltCause)] .nothing
  .next s3.settle

/-- FLT_N_RELEASE (R600): FLT_MIN has passed and no joined output is still going down, so the device stops driving;
`lineHigh` says whether the line then reads high. -/
def execFltNRelease (lineHigh : Bool) (s : State) : Outcome State Fault Refusal :=
  let busy := (List.range 14).any (fun o => s.joined o && ((s.outp o).state == oWaitDown || (s.outp o).state == oFall))
  if !s.runs .pw ∨ !s.rail.driving then .next s
  else if busy then .next { s with rail := { s.rail with minPassed := true } }
  else
    let s1 := { s with rail := { s.rail with driving := false, minPassed := true } }
    let s2 := { s1 with rail := { s1.rail with fltLow := false } }
    if lineHigh ∧ s.rail.fltLow then .next (s2.railRecord 4 0) else .next s1

/-- FLT_N_LINE_RELEASED (R604): the shared line returns high after another device stops driving it. -/
def execFltNLineReleased (s : State) : Outcome State Fault Refusal :=
  if s.runs .pw ∧ s.rail.fltLow ∧ !s.rail.driving then
    let s1 := { s with rail := { s.rail with fltLow := false } }
    .next (s1.railRecord 4 0)
  else .next s

/-- FLT_HOLD_EXPIRY (R605, R609): FLT_N has been high for FLT_HOLD; `cool` names the switches below 160 °C. -/
def execFltHoldExpiry (cool : Nat) (s : State) : Outcome State Fault Refusal :=
  if !s.runs .pw ∨ s.rail.fltLow then .next s else
  let s1 := { s with rail := { s.rail with holdOk := true } }
  let s2 := (List.range 6).foldl (fun t k => if bitOf cool k then t.setOut (8 + k) (fun y => { y with hot := false }) else t) s1
  .next s2.settle

/-- The effect of a write of 0x01 to SEQ_CLEAR (R605). -/
def State.seqClear (s : State) : State :=
  let o := s.rail.outs.map (fun x => { x with retries := s.fltRetry })
  let s1 := { s with rail := { s.rail with outs := o } }
  let s2 := (List.range 14).foldl (fun t o =>
    if (t.outp o).state = oFault ∧ !(t.rail.fltLow && t.joined o) then t.outGo o oOff 0 id else t) s1
  s2.settle

/-- RETRY_RESTORE (R605): an output ON for 600 s has its retries set back. -/
def execRetryRestore (o : Fin 14) (s : State) : Outcome State Fault Refusal :=
  if s.runs .pw ∧ (s.outp o).state = oOn then .next (s.setOut o (fun y => { y with retries := s.fltRetry })) else .next s

/-- LSW_RAMP_DONE (R607): the switch is ON. -/
def execLswRampDone (k : Fin 6) (s : State) : Outcome State Fault Refusal :=
  if s.runs .pw ∧ (s.outp (8 + k)).state = oRamp then .next (s.outGo (8 + k) oOn 0 id).settle else .next s

/-- LSW_CURRENT_LIMIT (R608): FAULT with cause 0x05. -/
def execLswCurrentLimit (k : Fin 6) (s : State) : Outcome State Fault Refusal :=
  let x := s.outp (8 + k)
  if s.runs .pw ∧ (x.state = oRamp ∨ x.state = oOn) then .next (s.enterFault (8 + k) 5).settle else .next s

/-- LSW_OVERTEMP (R609): FAULT with cause 0x06, no retry until the switch has cooled. -/
def execLswOvertemp (k : Fin 6) (s : State) : Outcome State Fault Refusal :=
  let x := s.outp (8 + k)
  let s1 := s.setOut (8 + k) (fun y => { y with hot := true })
  if !s.runs .pw then .next s
  else if x.state = oRamp ∨ x.state = oOn then .next (s1.enterFault (8 + k) 6).settle
  else .next s1

/-- The amounts held on an output, in units of 10 mW. -/
def State.declaredOn (s : State) (o : Nat) : Nat :=
  (s.arb.bundles.filter Bundle.holds).foldl (fun a b => a + b.amount (ordOfOut o)) 0 +
  (s.arb.standing.filter (fun x => x.granted && x.ord == ordOfOut o)).foldl (fun a x => a + x.amount) 0

/-- LSW_LOAD_CHECK (R611): the 10 s mean of a switch's power, in mW, against 1.25 times the amounts declared. -/
def execLswLoadCheck (k : Fin 6) (ma meanMw : Nat) (s : State) : Outcome State Fault Refusal :=
  if !s.runs .pw then .next s else
  let o := 8 + k.val
  let s1 := s.put (Reg.LSW_MA k) (ma % 65536)
  let due : Bool := match (s1.outp o).loadAt with
    | none => true
    | some t => decide (t + 3600 * stSecond ≤ s1.now)
  if s1.declaredOn o * 10 * 5 < meanMw * 4 ∧ due then
    .next ((s1.setOut o (fun y => { y with loadAt := some s1.now })).railRecord 6 o)
  else .next s1

/-- The current a margin output moves to: its lessee's MARG_REQ while the rail is ON, but no further than the fence; else 0
(R612, R613). -/
def State.margTarget (s : State) (m : Nat) : Nat :=
  let f : Int := (s.el (Reg.MARG_CFG m) % 256 : Nat)
  match s.lessee (39 + m) with
  | some b =>
    if (s.outp (s.el (Reg.MARG_CFG m) / 256)).state = oOn then unsigned 8 (clampInt (s.elS 1 (Reg.MARG_REQ b.cid m)) (-f) f) else 0
  | none => 0

/-- MARG_TARGET_REACHED (R612): the output has reached its target. -/
def execMargTargetReached (m : Fin 4) (s : State) : Outcome State Fault Refusal :=
  if !s.runs .pw ∨ s.el (Reg.MARG_NOW m) = s.margTarget m then .next s
  else .next ((s.put (Reg.MARG_NOW m) (s.margTarget m)).railRecord 5 (m * 4096 + s.margTarget m % 256))

/-- The effect of a write to MARG_REQ (R613). -/
def State.writeMargReq (s : State) (cid m v : Nat) : State × Stat :=
  let x := signed 8 v
  let fence : Int := (s.el (Reg.MARG_CFG m) % 256 : Nat)
  if x < -100 ∨ 100 < x then (s, .range 2 0)
  else if fence < x ∨ x < -fence then (s, .conflict 3)
  else (s.put (Reg.MARG_REQ cid m) v, .ok)

end Sys2Proof.Machine
end

