-- ==== Sys2Proof/Machine/Budget.lean ====
section
/-! DEFINITION. The chemistry profiles, the battery's readings and the energy budget (chapter 15). -/
namespace Sys2Proof.Machine
open Host

/-- A power output: a rail or a load switch. -/
def powerOrd (o : Nat) : Bool := decide (25 ≤ o ∧ o ≤ 38)

/-- The standing amount T_r; power items count on the energy resource too (R308, log entry 14). -/
def State.standingAmount (s : State) (o : Nat) : Nat :=
  s.arb.standing.foldl (fun a x => if x.ord = o ∨ (o = 43 ∧ powerOrd x.ord) then a + x.amount else a) 0

/-! ### Chemistry profiles (Table: Chemistry profiles); voltages per cell in mV, temperatures in 0.01 °C -/

/-- A profile: cells, nominal voltage, CV with its hard window, float, recharge, precharge, overvoltage, low and cut levels,
charge temperatures with their hard limits, and the VSYS window per cell of R559. -/
structure Profile where
  cells : Nat
  vnom : Nat
  cv : Nat
  cvLo : Nat
  cvHi : Nat
  flt : Nat
  rech : Nat
  pre : Nat
  above : Nat
  low : Nat
  cut : Nat
  tLo : Int
  tLoHard : Int
  tHi : Int
  tHiHard : Int
  vLo : Nat
  vHi : Nat
  deriving DecidableEq, Repr

def leadAcid (n : Nat) : Profile :=
  ⟨n, 2000, 2400, 2300, 2450, 2250, 2100, 1750, 2550, 1950, 1850, -3000, -4000, 4500, 5500, 1700, 2600⟩
def lifepo4 (n : Nat) : Profile :=
  ⟨n, 3200, 3500, 3400, 3600, 0, 3350, 2500, 3650, 3000, 2800, 300, 0, 4500, 6000, 2000, 3700⟩
def liIon (n : Nat) : Profile :=
  ⟨n, 3600, 4100, 3900, 4200, 0, 4000, 3000, 4250, 3400, 3200, 300, 0, 4500, 5000, 2500, 4300⟩

/-- The profile of a BAT_CHEM code; none for 0x00 (R557). -/
def profileOf (c : Nat) : Option Profile :=
  if c = 1 then some (leadAcid 6) else if c = 2 then some (leadAcid 12)
  else if c = 3 then some (lifepo4 4) else if c = 4 then some (lifepo4 8)
  else if 5 ≤ c ∧ c ≤ 10 then some (liIon (c - 2)) else none

def isLead (c : Nat) : Bool := c == 1 || c == 2
def isLife (c : Nat) : Bool := c == 3 || c == 4

/-- The profile in force. -/
def State.profile (s : State) : Option Profile := profileOf (s.el Reg.BAT_CHEM)
def State.lead (s : State) : Bool := isLead (s.el Reg.BAT_CHEM)

/-- A level of an element, 0 for the profile's (R557). -/
def State.level (s : State) (a d : Nat) : Nat := if s.el a = 0 then d else s.el a
def State.tLevel (s : State) (a : Nat) (d : Int) : Int := if s.el a = 0x7FFF then d else s.elS 2 a

/-- The mean of TS1 to TS8 in 0.01 °C. -/
def State.tsMean (s : State) : Int :=
  ((List.range 8).foldl (fun a i => a + s.elS 2 (Reg.TS_T (i + 1))) (0 : Int)) / 8

/-- The battery temperature T: BAT_T, or the die's mean where the thermistor fails (R561). -/
def State.batTemp (s : State) : Int := if s.el Reg.BAT_T = 0x7FFF then s.tsMean else s.elS 2 Reg.BAT_T

/-- VSYS per cell in mV. -/
def State.cellMv (s : State) : Nat := match s.profile with | some p => s.pwr.vsys / p.cells | none => 0

/-! ### The budget (R577 to R579) -/

/-- P_h: the mean net harvest over the latest BUDGET_WIN completed hours, in mW; an hour never stored passed without main
power and counts as zero (R578). -/
def State.harvestMean (s : State) : Rat :=
  let w := max (s.el Reg.BUDGET_WIN) 1
  (((s.pwr.hours.take w).foldl (· + ·) (0 : Int) : Int) : Rat) / (w : Rat)

/-- k_T in units of 1/10,000. -/
def State.kTemp (s : State) : Int :=
  if 2000 ≤ s.batTemp then 10000 else max 4000 (10000 - (2000 - s.batTemp))

/-- E_soc and E_res in mWh. -/
def State.eSoc (s : State) : Rat :=
  match s.profile with
  | none => 0
  | some p =>
    let soc : Int := (s.el Reg.SOC : Int) - (if s.el Reg.SOC_STALE = 1 then 150 else 0)
    ((soc * (s.el Reg.BAT_CAP_AH : Int) * (p.cells * p.vnom : Nat) * s.kTemp : Int) : Rat) / 10000000
def State.eRes (s : State) : Rat :=
  match s.profile with
  | none => 0
  | some p => ((s.el Reg.BAT_RESERVE * s.el Reg.BAT_CAP_AH * p.cells * p.vnom : Nat) : Rat) / 100

/-- P_adm in mW. -/
def State.pAdm (s : State) : Rat := s.harvestMean + (s.eSoc - s.eRes) / ((max (s.el Reg.BUDGET_HORIZON) 1 : Nat) : Rat)

/-- ENERGY_CAP as P_adm and BAT_ALARM give it (R577, R579), in units of 10 mW. -/
def State.energyCap (s : State) : Nat :=
  if s.el Reg.BAT_ALARM = 2 then 0
  else if s.el Reg.BAT_ALARM = 1 then s.standingAmount 43
  else min (s.pAdm.floor.toNat / 10) (s.el Reg.ENERGY_MAX)

/-- PW computes the budget (R577), with its record when it has changed by more than 10 % (R583). -/
def State.computeBudget (s : State) : State :=
  let c := s.energyCap % 65536
  let t := ((s.put Reg.P_ADM_MW (min s.pAdm.floor.toNat (2 ^ 32 - 1))).put Reg.P_HARV_MW
    (min s.harvestMean.floor.toNat (2 ^ 32 - 1))).put Reg.ENERGY_CAP c
  let last := t.pwr.capLast
  if last < 10 * (if last ≤ c then c - last else last - c) then
    ({ t with pwr := { t.pwr with capLast := c } }).stationRecord 49 4 c true
  else t

end Sys2Proof.Machine
end

