-- ==== Sys2Proof/Machine/Arbiter.lean ====
section
/-! DEFINITION. Tenancy and the arbiter (chapter 09): resources, bundles, the arbiter's pass, the endings of bundles. -/
namespace Sys2Proof.Machine
open Host

/-! ### Resources (R306 to R311) -/

/-- The ordinal of a resource number (Table: Resources), 0 for none. -/
def ordOf (n : Nat) : Nat :=
  if n < 24 then n + 1
  else if 0x100 ≤ n ∧ n < 0x108 then n - 0x100 + 25
  else if 0x110 ≤ n ∧ n < 0x116 then n - 0x110 + 33
  else if 0x120 ≤ n ∧ n < 0x124 then n - 0x120 + 39
  else if n = 0x180 then 43
  else if n = 0x200 then 44
  else if n = 0x201 then 45
  else 0

/-- An exclusive resource: an event input or a margin output. -/
def exclusive (o : Nat) : Bool := decide (1 ≤ o ∧ o ≤ 24) || decide (39 ≤ o ∧ o ≤ 42)

/-- Fields of RES_CFG (Table: RES_CFG record). -/
def State.resDmax (s : State) (o : Nat) : Nat := field (s.el (Reg.RES_CFG (o - 1))) 80 16
def State.resEnabled (s : State) (o : Nat) : Bool := bitOf (s.el (Reg.RES_CFG (o - 1))) 72
def State.twinShared (s : State) (o : Nat) : Bool := bitOf (s.el (Reg.RES_CFG (o - 1))) 73
def State.resAllows (s : State) (o h : Nat) : Bool := bitOf (s.el (Reg.RES_CFG (o - 1))) h

/-- The sum of a per-holder register over all holders. -/
def State.sumHolders (s : State) (f : Nat → Nat) : Nat := (List.range 64).foldl (fun a h => a + s.el (f h)) 0

/-- OVF_TIMERS and OVF_RECORDS (R311). -/
def State.ovfTimers (s : State) : Nat := 8192 - s.sumHolders Reg.TIMER_QUOTA
def State.ovfRecords (s : State) : Nat := 16384 - s.sumHolders Reg.REC_QUOTA

/-- The capacity of a resource in force. -/
def State.resCap (s : State) (o : Nat) : Nat :=
  if exclusive o then 1
  else if o = 43 then s.el Reg.ENERGY_CAP
  else if o = 44 then s.ovfTimers
  else if o = 45 then s.ovfRecords
  else field (s.el (Reg.RES_CFG (o - 1))) 96 16

/-- The standing amount already granted. -/
def State.standingGranted (s : State) (o : Nat) : Nat :=
  s.arb.standing.foldl (fun a x => if x.granted ∧ (x.ord = o ∨ (o = 43 ∧ powerOrd x.ord)) then a + x.amount else a) 0

/-- The amount H_r held under other leases. -/
def State.held (s : State) (o : Nat) : Nat :=
  (s.arb.bundles.filter Bundle.holds).foldl (fun a b => a + b.amount o) 0

/-- The inputs REF_SEL takes (Table: Reference use of EVT22 and EVT23), as ordinals. -/
def State.refInputs (s : State) : List Nat :=
  let r := s.el Reg.REF_SEL
  if r = 0 ∨ r = 1 then [23, 24] else if r = 3 then [23] else if r = 4 then [24] else []

/-- The standing leases that the configuration declares (R339, R412). -/
def State.standingConfig (s : State) : List Standing :=
  ((List.range 16).filterMap (fun i =>
    let v := s.el (Reg.STANDING i)
    if v / 65536 = 0xFFFF ∨ ordOf (v / 65536) = 0 then none
    else some ⟨ordOf (v / 65536), v % 32768, false, false, 0, 0⟩)) ++
  s.refInputs.map (fun o => ⟨o, 1, true, false, 0, 0⟩)

/-! ### Fit and room (R327) -/

/-- The amounts of the reserved bundles Z on a resource. -/
def roomFor (z : List Bundle) (o : Nat) : Nat := z.foldl (fun a b => a + b.amount o) 0

/-- A bundle fits with room for Z; none fits on an output revoked in this instant (R338), nor on a power output without a
budget of PW (R35). -/
def State.fits (s : State) (b : Bundle) (z : List Bundle) : Bool :=
  b.items.all (fun p => decide (p.2 + s.standingAmount p.1 + s.held p.1 + roomFor z p.1 ≤ s.resCap p.1) &&
    !s.arb.revokedNow.contains p.1 && (!powerOrd p.1 || s.arb.budgeted))

/-- The reserved bundles in the order of their reservation. -/
def State.reserveList (s : State) : List Bundle :=
  (s.arb.bundles.filter (fun b => b.st == .reserved)).sortBy (fun a b => decide (a.resOrder ≤ b.resOrder))

/-- Same bundle: a client and its number. -/
def Bundle.is (b : Bundle) (c n : Nat) : Bool := b.cid == c && b.num == n && b.st != .ended

def State.bundleMap (s : State) (c n : Nat) (f : Bundle → Bundle) : State :=
  { s with arb := { s.arb with bundles := s.arb.bundles.map (fun b => if b.is c n then f b else b) } }

/-- A bundle queued, reserved or not. -/
def Bundle.waits (b : Bundle) : Bool := b.st == .queued || b.st == .reserved

/-- The cost of a bundle: 1 + floor(duration / 256 s). -/
def Bundle.cost (b : Bundle) : Nat := 1 + b.dur / 256

/-- A lease record of source 40 (R342). -/
def State.leaseRecord (s : State) (kind : Nat) (b : Bundle) : State := s.clientRecord 40 kind b.num b.cid

/-! ### Event inputs at a grant and at an ending (R388, R406, chapter 11 elements) -/

/-- A field of a client's EVT_SET record: the byte k, from 0. -/
def State.evtSet (s : State) (c i k : Nat) : Nat := field (s.el (Reg.EVT_SET c i)) (8 * (15 - k)) 8

/-- The fences of an analog input within the hard limits (chapter 11, L4). -/
def State.l4Lo (s : State) (i : Nat) : Nat := max (s.el (Reg.L4_FENCE i) / 65536) 2
def State.l4Hi (s : State) (i : Nat) : Nat := min (s.el (Reg.L4_FENCE i) % 65536) 1200

/-- The threshold field of EVT_SET within the fences. -/
def State.l4Start (s : State) (c i : Nat) : Nat :=
  max (s.l4Lo i) (min (field (s.el (Reg.EVT_SET c i)) 64 16) (s.l4Hi i))

/-- L4 of an input at a grant: th from the setting, p = (th/k)² with k in 1/16, in units of (mV)²/65536 (R403). -/
def State.l4Init (s : State) (c i : Nat) : L4 :=
  let th := s.l4Start c i
  let k := max (s.evtSet c i 5) 1
  ⟨i, th, th * th * 256 * 65536 / (k * k), false, 0, false, false⟩

/-- The loops L4 with that of one input started anew, if its pin is analog (R403). -/
def State.l4Started (s : State) (c i : Nat) : List L4 :=
  let analog : Bool := s.el (Reg.EVT_PIN i) == 4 || s.el (Reg.EVT_PIN i) == 5
  let l := s.evt.l4.filter (fun x => x.input != i)
  if analog && decide (i < 8) then l ++ [s.l4Init c i] else l

/-- What a client reads of an input restarts from zero (chapter 11, Elements). -/
def State.inputZero (s : State) (c i : Nat) : State :=
  let s1 := (s.put (Reg.EVT_LOST c i) 0).put (Reg.EVT_COUNT c i) 0
  if i < 8 then s1.put (Reg.EVT_NF c i) 0 else s1

/-- An input is granted to a client: its counters restart, its detector has yet to take its level, and on an analog pin
L4 starts. -/
def State.grantInput (s : State) (c i : Nat) : State :=
  let s1 := s.inputZero c i
  { s1 with evt :=
    { s1.evt with levels := s1.evt.levels.filter (fun p => p.1 != i)
                  l4 := s.l4Started c i } }

/-- A lease on an input ends: L4's state is discarded and the client reads zeros (R406). -/
def State.endInput (s : State) (c i : Nat) : State :=
  let s1 := s.inputZero c i
  { s1 with evt :=
    { s1.evt with levels := s1.evt.levels.filter (fun p => p.1 != i)
                  l4 := s1.evt.l4.filter (fun x => x.input != i) } }

/-! ### Endings (R312, R321, R323) -/

/-- Timers of a client on its overflow lease are cancelled (R312, R358). -/
def State.cancelOvfTimers (s : State) (c : Nat) : State :=
  let l := s.tmr.timers.filter (fun t => t.cid == c && t.ovf && t.state == 1)
  let s1 := { s with tmr := { s.tmr with timers := s.tmr.timers.map (fun t =>
    if t.cid = c ∧ t.ovf ∧ t.state = 1 then { t with state := 3, ovf := false } else t) } }
  l.foldl (fun t x => t.clientRecord 41 0x1E x.handle c) s1

/-- Records of a client on its overflow lease are dropped: unclaimed entries turn void with reason 3 (R312). -/
def State.dropOvfRecs (s : State) (c : Nat) : State :=
  let gone := s.dlv.recs.filter (fun r => r.cid == c && r.ovf)
  let ids := gone.map (fun r => r.id)
  let s1 := s.add 4 (Reg.REC_DROPPED (s.hidOf c)) gone.length
  let s2 := s1.dlvSet
    { s1.dlv with
      recs := s1.dlv.recs.filter (fun r => !(r.cid == c && r.ovf))
      entries := s1.dlv.entries.map (fun e => if ids.contains e.rid then { e with void := some 3 } else e)
      claims := s1.dlv.claims.filter (fun k => !ids.contains k.rid)
      waiting := s1.dlv.waiting.filter (fun w => !ids.contains w.rid) }
  gone.foldl (fun t r => (if r.any then [4] else targetsOf r.mask).foldl (fun u k =>
    if u.placed r.source k r.hid || u.streamActive r.source k r.hid then u else u.advanceStream r.source k r.hid) t) s2

/-- What ends with a bundle that held its amounts: overflow items, input sensing; outputs turn off when settled. -/
def State.loseItems (s : State) (b : Bundle) : State :=
  b.items.foldl (fun t p =>
    if p.1 = 44 then t.cancelOvfTimers b.cid
    else if p.1 = 45 then t.dropOvfRecs b.cid
    else if 1 ≤ p.1 ∧ p.1 ≤ 24 then t.endInput b.cid (p.1 - 1)
    else t) s

/-- A bundle ends with a reason, at a given instant, with its record (R321 to R323, R342). -/
def State.endBundle (s : State) (b : Bundle) (reason kind : Nat) : State :=
  let s1 := s.bundleMap b.cid b.num (fun x => { x with st := .ended, reason := reason, inst := s.now })
  let s2 := if b.holds then s1.loseItems b else s1
  s2.leaseRecord kind b

/-! ### The pass (R328 to R332) -/

/-- A queued bundle is noted as bypassed, at most once a pass; at eight it is reserved (R329, R330). -/
def State.noteBypass (sn : State × List (Nat × Nat)) (x : Bundle) : State × List (Nat × Nat) :=
  if sn.2.contains (x.cid, x.num) then sn
  else
    let s := sn.1
    let n := x.bypass + 1
    if n = 8 ∧ x.st = .queued then
      let s1 := s.bundleMap x.cid x.num (fun b =>
        { b with bypass := n, st := .reserved, pb := s.reserveList.length, resOrder := s.arb.resOrder, resAt := s.now })
      let s2 := { s1 with arb := { s1.arb with resOrder := s1.arb.resOrder + 1 } }
      (s2.leaseRecord 0x16 x, sn.2 ++ [(x.cid, x.num)])
    else (s.bundleMap x.cid x.num (fun b => { b with bypass := min n 8 }), sn.2 ++ [(x.cid, x.num)])

/-- A bundle is granted at the instant of the pass (R317, R331), and the queued bundles it leaves no room for are noted. -/
def State.grant (sn : State × List (Nat × Nat)) (b : Bundle) : State × List (Nat × Nat) :=
  let s := sn.1
  let s1 := s.bundleMap b.cid b.num (fun x =>
    { x with st := .held, grantAt := s.now, coarse := !s.clk.loaded, inst := s.now + b.dur * stSecond })
  let s2 := b.items.foldl (fun t p => if 1 ≤ p.1 ∧ p.1 ≤ 24 then t.grantInput b.cid (p.1 - 1) else t) s1
  let wait := (s.now - b.reqAt) * 1000 / stSecond
  let s3 := ((s2.inc 4 Reg.ARB_GRANTS).put (Reg.WAIT_MAX b.hid) (max (s2.el (Reg.WAIT_MAX b.hid)) (min wait (2 ^ 32 - 1)))).leaseRecord 0x10 b
  (s3.arb.bundles.filter (fun x => x.waits &&
      x.items.any (fun p => b.items.any (fun q => q.1 == p.1) &&
        decide (s3.resCap p.1 < p.2 + s3.standingAmount p.1 + s3.held p.1)))).foldl State.noteBypass (s3, sn.2)

/-- The reserved bundles in their order, each with room for those before it (R330). -/
def State.grantReserved (sn : State × List (Nat × Nat)) : State × List (Nat × Nat) :=
  (sn.1.reserveList.foldl (fun (a : (State × List (Nat × Nat)) × List Bundle) b =>
    if a.1.1.fits b a.2 then
      let g := State.grant a.1 b
      let h := b.hid
      ((g.1.putS 2 (Reg.DEFICIT h) (max (g.1.elS 2 (Reg.DEFICIT h) - (b.cost : Int)) (-512)), g.2), a.2)
    else (a.1, a.2 ++ [b])) (sn, [])).1

/-- Outputs that a shed-loads response holds (Table: Responses), as a mask of output numbers. -/
def State.shedMask (s : State) : Nat :=
  s.tmp.holds.foldl (fun a h => if bitOf h.2.1 4 then a ||| h.2.2.2.1 else a) 0

/-- The standing leases not yet granted come first (R340); a standing lease's record goes to T0 only. -/
def State.grantStanding (s : State) : State :=
  (List.range s.arb.standing.length).foldl (fun t i =>
    match t.arb.standing[i]? with
    | none => t
    | some x =>
      let ok := fun o => decide (x.amount + t.standingGranted o + t.held o ≤ t.resCap o)
      if !x.granted && ok x.ord && (!powerOrd x.ord || (t.arb.budgeted && ok 43)) && !t.arb.revokedNow.contains x.ord &&
          !(powerOrd x.ord && bitOf t.shedMask (x.ord - 25)) then
        let t1 := { t with arb := { t.arb with standing := t.arb.standing.set i { x with granted := true, grantAt := t.now } } }
        if x.reference then t1 else
        t1.drawn.record
          { source := 40, cid := 0, kind := 0x10, detail := t1.free % 65536, stamp := t1.now, flags := t1.coarseFlag,
            hid := stationHid, route := 1, any := false, evid := false }
      else t) s

/-- The oldest queued unreserved bundle of a client that fits with room. -/
def State.oldestFit (s : State) (c : Nat) : Option Bundle :=
  let z := s.reserveList
  ((s.arb.bundles.filter (fun b => b.cid == c && b.st == .queued && s.fits b z)).sortBy
    (fun a b => decide (a.age ≤ b.age))).head?

/-- A holder has a queued unreserved bundle that fits with room. -/
def State.holderFits (s : State) (h : Nat) : Bool :=
  let z := s.reserveList
  s.arb.bundles.any (fun b => b.hid == h && b.st == .queued && s.fits b z)

/-- A list turned round to begin at the first element not below a value. -/
def turned (l : List Nat) (from_ : Nat) : List Nat := l.filter (fun x => decide (from_ ≤ x)) ++ l.filter (fun x => decide (x < from_))

/-- The clients of a holder that have queued bundles, in ascending order of CID from the holder's cursor (R328). -/
def State.clientRing (s : State) (h : Nat) : List Nat :=
  let cs := ((s.arb.bundles.filter (fun b => b.hid == h && b.st == .queued)).map (fun b => b.cid)).eraseDups.sortBy (· ≤ ·)
  let c := match s.arb.clientCursor.find? (fun p => p.1 == h) with | some p => p.2 | none => 0
  turned cs c

/-- One holder's turn in a round of the weighted deficit round robin. -/
def State.holderTurn (sn : State × List (Nat × Nat)) (h : Nat) : State × List (Nat × Nat) :=
  let s := sn.1
  if !s.holderFits h then (s.put (Reg.DEFICIT h) 0, sn.2)
  else
    let d := min (s.elS 2 (Reg.DEFICIT h) + (s.el (Reg.WEIGHT h) : Nat)) 512
    let s1 := s.putS 2 (Reg.DEFICIT h) d
    ((s1.clientRing h).foldl (fun (a : (State × List (Nat × Nat)) × Bool) c =>
      if a.2 then a else
      let t := a.1.1
      match t.oldestFit c with
      | none => a
      | some b =>
        if t.elS 2 (Reg.DEFICIT h) < (b.cost : Int) then (a.1, true)
        else
          let g := State.grant a.1 b
          let g1 := g.1.putS 2 (Reg.DEFICIT h) (g.1.elS 2 (Reg.DEFICIT h) - (b.cost : Int))
          let cur := g1.arb.clientCursor.filter (fun p => p.1 != h) ++ [(h, c + 1)]
          (({ g1 with arb := { g1.arb with clientCursor := cur } }, g.2), false)) ((s1, sn.2), false)).1

/-- One round over the holders from the cursor; the cursor moves to the next holder. -/
def State.round (sn : State × List (Nat × Nat)) : State × List (Nat × Nat) :=
  let r := (turned (List.range 64) sn.1.arb.cursor).foldl State.holderTurn sn
  ({ r.1 with arb := { r.1.arb with cursor := (sn.1.arb.cursor + 1) % 64 } }, r.2)

/-- Rounds until no holder has a queued unreserved bundle that fits with room. -/
def State.rounds : Nat → State × List (Nat × Nat) → State × List (Nat × Nat)
  | 0, sn => sn
  | n + 1, sn =>
    let r := State.round sn
    if (List.range 64).any r.1.holderFits then State.rounds n r else r

/-- Expiries due at or before now are served before the pass (R317). -/
def State.serveExpiries (s : State) : State :=
  (s.arb.bundles.filter (fun b => b.holds && decide (b.inst ≤ s.now))).foldl (fun t b =>
    if b.st = .revoking then (t.endBundle b 2 0x12).inc 4 Reg.ARB_REVOKES else t.endBundle b 1 0x11) s

/-- Request timeouts due at or before now are applied after the pass (R322). -/
def State.serveTimeouts (s : State) : State :=
  (s.arb.bundles.filter (fun b => b.waits && b.timeoutAt != 0 && decide (b.timeoutAt ≤ s.now))).foldl
    (fun t b => t.endBundle b 5 0x14) s

/-! ### Revocation and the energy budget (R335 to R338, R35, R580) -/

/-- A revocation takes effect at once: the bundle ends, and no grant is made on its outputs in this instant (R338). -/
def State.revokeNow (s : State) (b : Bundle) : State :=
  let s1 := (s.endBundle b 2 0x12).inc 4 Reg.ARB_REVOKES
  let outs := (b.items.map (fun p => p.1)).filter powerOrd
  { s1 with arb := { s1.arb with revokedNow := s1.arb.revokedNow ++ outs } }

/-- Notice of at least REVOKE_NOTICE is given: the bundle is held and REVOKING until its end (R335, R336). -/
def State.giveNotice (s : State) (b : Bundle) : State :=
  if b.st ≠ .held then s else
  let at_ := s.now + stMs (max (s.el Reg.REVOKE_NOTICE) 1000)
  (s.bundleMap b.cid b.num (fun x => { x with st := .revoking, inst := min x.inst at_ })).leaseRecord 0x13 b

/-- At a change of capacities or standing amounts, queued bundles that can no longer be granted end (R337). -/
def State.revokeQueued (s : State) : State :=
  (s.arb.bundles.filter (fun b => b.waits &&
    b.items.any (fun p => decide (s.resCap p.1 < p.2 + s.standingAmount p.1)))).foldl
    (fun t b => (t.endBundle b 2 0x12).inc 4 Reg.ARB_REVOKES) s

/-- The held energy and the standing energy exceed ENERGY_CAP (R580). -/
def State.overEnergy (s : State) : Bool := decide (s.resCap 43 < s.held 43 + s.standingAmount 43)

/-- What a bundle or a standing lease that is not on its way out holds of the energy resource. -/
def State.energyKept (s : State) : Nat :=
  (s.arb.bundles.filter (fun b => b.st == .held)).foldl (fun a b => a + b.amount 43) 0 +
  (s.arb.standing.filter (fun x => x.granted && x.ends == 0 && powerOrd x.ord)).foldl (fun a x => a + x.amount) 0

/-- The order in which leases are shed: ascending SHED_CLASS, within a class the latest granted first (R580). -/
def State.shedOrder (s : State) : List Bundle :=
  (s.arb.bundles.filter (fun b => b.st == .held && b.items.any (fun p => powerOrd p.1))).sortBy (fun a b =>
    decide (s.el (Reg.SHED_CLASS a.hid) < s.el (Reg.SHED_CLASS b.hid)) ||
    (s.el (Reg.SHED_CLASS a.hid) == s.el (Reg.SHED_CLASS b.hid) && decide (b.grantAt ≤ a.grantAt)))

/-- A standing lease is given notice (R335, R580). -/
def State.noticeStanding (s : State) (i : Nat) : State :=
  let at_ := s.now + stMs (max (s.el Reg.REVOKE_NOTICE) 1000)
  { s with arb := { s.arb with standing := s.arb.standing.modify i (fun x => { x with ends := at_ }) } }

/-- Power leases are revoked with notice until the rest fits (R580). -/
def State.shedEnergy (s : State) : State :=
  let t := s.shedOrder.foldl (fun t b => if t.resCap 43 < t.energyKept then t.giveNotice b else t) s
  (List.range t.arb.standing.length).reverse.foldl (fun u i =>
    match u.arb.standing[i]? with
    | some x => if u.resCap 43 < u.energyKept ∧ x.granted ∧ x.ends = 0 ∧ powerOrd x.ord then u.noticeStanding i else u
    | none => u) t

/-- A computation of the budget, with what follows from it (R337, R577, R580): `now_` sheds at once. -/
def State.budget (s : State) (now_ : Bool) : State :=
  let t := s.computeBudget.revokeQueued
  if !t.overEnergy then { t with pwr := { t.pwr with overAt := none } }
  else match t.pwr.overAt with
    | none =>
      let u : State := { t with pwr := { t.pwr with overAt := some t.now } }
      if now_ then u.shedEnergy else u
    | some a => if now_ ∨ a + 60 * stSecond ≤ t.now then t.shedEnergy else t

/-- A power lease waits for a grant. -/
def State.wantsPower (s : State) : Bool :=
  s.arb.bundles.any (fun b => b.waits && b.items.any (fun p => powerOrd p.1)) ||
  s.arb.standing.any (fun x => !x.granted && powerOrd x.ord)

/-- The arbiter asks PW over CH18 for an energy budget that it computes now; PW is started for it if it is stopped. Until PW
answers, no power lease is granted (R35). -/
def State.obtainBudget (s : State) : State :=
  let t : State := { s with arb := { s.arb with budgeted := false } }
  match t.crossing .pw 18 with
  | .serve => if t.pwr.loaded then State.budget { t with arb := { t.arb with budgeted := true } } false else t
  | .wait => t.wakeIsl .pw
  | .shut _ => t.inc 4 (Reg.CH_ABANDON 18)

/-- The arbiter's pass (chapter 09, procedure pass). Nothing is granted outside full service but standing leases (R123). With
FB not in RUN there is no pass, and the outputs follow what has ended (R34). -/
def State.pass (s : State) : State :=
  if s.isl_ .fb ≠ islRun then s.settle else
  let s0 := s.serveExpiries
  let s1 := (if s0.wantsPower then s0.obtainBudget else s0).grantStanding
  if !s1.full then s1.serveTimeouts.outputsChanged else
  let r1 := State.grantReserved (s1, [])
  let n := (r1.1.arb.bundles.filter (fun b => b.st == .queued)).length
  let r2 := State.rounds (300 * (n + 1)) r1
  let z := r2.1.reserveList
  let r3 := (r2.1.arb.bundles.filter (fun x => x.st == .queued && r2.1.fits x [] && !r2.1.fits x z)).foldl State.noteBypass r2
  let s2 := r3.1.serveTimeouts
  { s2 with arb := { s2.arb with revokedNow := [] } }.outputsChanged

/-- ARB_DMAX (R332). -/
def State.arbDmax (s : State) : Nat :=
  let d := (List.range 45).foldl (fun a o => max a (s.resDmax (o + 1))) 0
  (s.arb.bundles.filter Bundle.holds).foldl (fun a b => max a b.dur) d

/-- The bound instant of a bundle that waits (R334). -/
def State.boundOf (s : State) (b : Bundle) : Nat :=
  let ds := s.arbDmax * stSecond + stMs (s.el Reg.ARB_S)
  let q := b.reqAt + (8 + s.el Reg.ARB_QMAX) * ds
  if b.st = .reserved then min q (b.resAt + (b.pb + 1) * ds) else q

/-! ### A LEASE (R307 to R316, R325, R326) -/

/-- A bundle asked for: request timeout, duration, items as resource number and amount. -/
structure LeaseAsk where
  timeout : Nat
  dur : Nat
  items : List (Nat × Nat)
  deriving DecidableEq, Repr

/-- R309: the resource of an item is open to a holder. -/
def State.resOpen (s : State) (n h : Nat) : Bool :=
  ordOf n != 0 && s.resEnabled (ordOf n) && s.resAllows (ordOf n) h

/-- The amount of an item without the fine-stamping bit. -/
def itemAmount (p : Nat × Nat) : Nat := if exclusive (ordOf p.1) then p.2 % 32768 else p.2

/-- The first item that fails a test, by its position from 1. -/
def firstBad (l : List (Nat × Nat)) (f : Nat × Nat → Bool) : Option Nat :=
  match (l.zipIdx).find? (fun p => f p.1) with | some p => some (p.2 + 1) | none => none

/-- An item's amount is against R307: bit 15 only on an event input; an exclusive resource takes 1. -/
def badAmount (p : Nat × Nat) : Bool :=
  let o := ordOf p.1
  (decide (32768 ≤ p.2) && !decide (1 ≤ o ∧ o ≤ 24)) || (exclusive o && p.2 % 32768 != 1)

/-- A resource that stands twice. -/
def dupItem (l : List (Nat × Nat)) : Bool := (l.map (fun p => p.1)).eraseDups.length != l.length

/-- The bundle's items by ordinal, the energy of its power items added (R308). -/
def bundleItems (l : List (Nat × Nat)) : List (Nat × Nat) :=
  let its := l.map (fun p => (ordOf p.1, itemAmount p))
  let e := (its.filter (fun p => powerOrd p.1)).foldl (fun a p => a + p.2) 0
  if its.any (fun p => powerOrd p.1) then its ++ [(43, e)] else its

/-- The twin states of TWIN_STATE in which the pair is split or joined (chapter 22). -/
def State.twinIs (s : State) (c : Nat) : Bool := s.el Reg.TWIN_STATE == c

/-- The device is half B of a pair (STRAPS TWIN_ROLE, bits 3:2: 1 role A, 2 role B). -/
def State.roleB (s : State) : Bool := field (s.el Reg.STRAPS) 2 2 == 2

/-- Checks of a LEASE beyond its rights, in the order of R307 to R315 and R775; none when it may be queued. -/
def State.leaseCheck (s : State) (c : Nat) (a : LeaseAsk) : Option Stat :=
  let h := s.hidOf c
  let own := s.arb.bundles.filter (fun b => b.cid == c)
  let its := bundleItems a.items
  let shared := a.items.any (fun p => s.twinShared (ordOf p.1))
  let up := own.filter (fun b => b.holds && b.items.any (fun p => p.1 != 43 && its.any (fun q => q.1 == p.1)))
  if dupItem a.items then some (.range 1 0)
  else match firstBad a.items (fun p => p.1 == 0x180) with
  | some k => some (.range 2 k)
  | none => match firstBad a.items badAmount with
  | some k => some (.range 2 k)
  | none => match firstBad a.items (fun p => a.dur == 0 || decide (s.resDmax (ordOf p.1) < a.dur)) with
  | some k => some (.range 2 k)
  | none => match firstBad a.items (fun p => itemAmount p == 0 || decide (s.resCap (ordOf p.1) < itemAmount p)) with
  | some k => some (.range 2 k)
  | none =>
    if shared ∧ s.twinIs 5 then some .split
    else if shared ∧ s.roleB ∧ (s.twinIs 1 ∨ s.twinIs 2) then some .split
    else if shared ∧ s.roleB ∧ (s.twinIs 3 ∨ s.twinIs 4) then some (.conflict 3)
    else if its.any (fun p => decide (s.resCap p.1 < p.2 + s.standingAmount p.1)) then some (.conflict 2)
    else if its.any (fun p => powerOrd p.1 && bitOf s.shedMask (p.1 - 25)) then some (.conflict 3)
    else if up.any (fun b => b.st == .revoking) then some (.conflict 3)
    else if 4 ≤ (own.filter Bundle.waits).length ∨ 20 ≤ own.length then some (.exhausted 6)
    else if s.el (Reg.LEASE_MAX h) ≤ (s.arb.bundles.filter (fun b => b.hid == h && (b.holds || b.waits))).length then
      some (.exhausted 6)
    else if s.el Reg.ARB_QMAX ≤ (s.arb.bundles.filter Bundle.waits).length then some (.exhausted 6)
    else none

/-- The next number of a client's count from 1, wrapping past 65,535 and skipping those in use (R288, R316). -/
def nextFree (used : List Nat) : Nat → Nat → Nat
  | 0, n => n
  | f + 1, n => if used.contains n then nextFree used f (if n = 65535 then 1 else n + 1) else n

/-- A client's count, 1 before its first number. -/
def countOf (l : List (Nat × Nat)) (c : Nat) : Nat :=
  match l.find? (fun p => p.1 == c) with | some p => p.2 | none => 1

/-- The lowest slot of a client that holds no bundle. -/
def State.freeSlot (s : State) (c : Nat) : Nat :=
  let used := (s.arb.bundles.filter (fun b => b.cid == c)).map (fun b => b.slot)
  match (List.range 20).find? (fun i => !used.contains i) with | some i => i | none => 0

/-- A bundle is queued and a pass starts (R316, R326). Answers the state and the bundle's number. -/
def State.queueBundle (s : State) (c : Nat) (a : LeaseAsk) : State × Nat :=
  let its := bundleItems a.items
  let ups := s.arb.bundles.filter (fun b => b.cid == c && b.holds &&
    b.items.any (fun p => p.1 != 43 && its.any (fun q => q.1 == p.1)))
  let age := ups.foldl (fun m b => min m b.age) s.now
  let s1 := ups.foldl (fun t b => t.endBundle b 4 0x15) s
  let used := (s1.arb.bundles.filter (fun b => b.cid == c)).map (fun b => b.num)
  let n := nextFree used 21 (countOf s1.arb.nextNum c)
  let fine := (a.items.filter (fun p => decide (32768 ≤ p.2))).map (fun p => ordOf p.1)
  let b : Bundle :=
    { cid := c, hid := s.hidOf c, num := n, slot := s1.freeSlot c, st := .queued, reason := 0, items := its,
      fine := fine, timeoutAt := if a.timeout = 0 then 0 else s.now + a.timeout * stSecond, dur := a.dur,
      bypass := 0, pb := 0, age := age, reqAt := s.now, grantAt := 0, coarse := false, inst := 0, resOrder := 0, resAt := 0 }
  let nn := s1.arb.nextNum.filter (fun p => p.1 != c) ++ [(c, if n = 65535 then 1 else n + 1)]
  let kn := if s1.arb.known.contains c then s1.arb.known else s1.arb.known ++ [c]
  let s2 := { s1 with arb := { s1.arb with bundles := s1.arb.bundles ++ [b], nextNum := nn, known := kn } }
  (s2.pass, n)

/-- The bundle of a client by its number, ended ones included. -/
def State.bundleOf (s : State) (c n : Nat) : Option Bundle :=
  s.arb.bundles.find? (fun b => b.cid == c && b.num == n)

/-- What naming a bundle answers when it is not a live one (R323, R324): LEASE_LOST, TIMEOUT or RANGE, and its slot freed. -/
def State.nameEnded (s : State) (c n : Nat) : State × Stat :=
  if !s.arb.known.contains c then (s, .leaseLost 3)
  else match s.bundleOf c n with
    | none => (s, ⟨0x02, 0x40⟩)
    | some b =>
      let s1 := { s with arb := { s.arb with bundles := s.arb.bundles.erase b } }
      if b.reason = 5 then (s1, .timeout 1)
      else (s1, .leaseLost b.reason)

/-- RELEASE of a bundle, or its withdrawal (R321). -/
def State.release (s : State) (c n : Nat) : State × Stat :=
  match s.bundleOf c n with
  | some b => if b.st = .ended ∨ !s.arb.known.contains c then s.nameEnded c n else ((s.endBundle b 4 0x15).pass, .ok)
  | none => s.nameEnded c n

/-- LS_RENEW (R319, R320). -/
def State.renew (s : State) (c n d : Nat) : State × Stat :=
  match s.bundleOf c n with
  | none => s.nameEnded c n
  | some b =>
    if b.st = .ended ∨ !s.arb.known.contains c then s.nameEnded c n
    else if d = 0 ∨ b.items.any (fun p => p.1 != 43 && decide (s.resDmax p.1 < d)) then (s, .range 2 0)
    else if b.st = .revoking then (s, .conflict 3)
    else if b.waits then (s, ⟨0x02, 0x40⟩)
    else if s.arb.bundles.any (fun x => x.waits && x.items.any (fun p => b.items.any (fun q => q.1 == p.1) &&
        decide (s.resCap p.1 < p.2 + s.standingAmount p.1 + s.held p.1))) then (s, .conflict 2)
    else ((s.bundleMap c n (fun x => { x with inst := s.now + d * stSecond, dur := max x.dur d })).pass, .ok)

/-- The client may lease: holder admin or client (R305). -/
def State.mayLease (s : State) (c : Nat) : Bool := s.roleOf c == 1 || s.roleOf c == 2

/-! ### Meanings of the lease family that need no exchange -/

/-- The bundle of the command, when its state is as the event says. -/
def State.bundleIn (s : State) (c n : Nat) (f : Bundle → Bool) : Option Bundle :=
  s.arb.bundles.find? (fun b => b.cid == c && b.num == n && f b)

/-- LEASE_EXPIRY (R317): station time is at the lease's expiry. -/
def execLeaseExpiry (cid num : Nat) (s : State) : Outcome State Fault Refusal :=
  match s.bundleIn cid num (fun b => b.st == .held) with
  | none => .next s
  | some b => if s.runs .fb then .next (s.servedAt b.inst State.pass) else .next s

/-- LEASE_REQUEST_TIMEOUT (R322): applied after a pass, so a grant in that pass stands. -/
def execLeaseRequestTimeout (cid num : Nat) (s : State) : Outcome State Fault Refusal :=
  match s.bundleIn cid num (fun b => b.waits && b.timeoutAt != 0) with
  | none => .next s
  | some b => if s.runs .fb then .next (s.servedAt b.timeoutAt State.pass) else .next s

/-- A standing lease's notice ends: it is revoked, and waits to be granted anew (R336, R338, R580). -/
def State.revokeStanding (s : State) (i : Nat) (x : Standing) : State :=
  let t := s.inc 4 Reg.ARB_REVOKES
  { t with arb :=
    { t.arb with standing := t.arb.standing.set i { x with granted := false, ends := 0 }
                 revokedNow := t.arb.revokedNow ++ [x.ord] } }

/-- REVOCATION_EFFECT (R336): the notice ends and the lease is revoked; no grant on its outputs in that pass. A CID above
1,023 names a standing lease, by its place. -/
def execRevocationEffect (cid num : Nat) (s : State) : Outcome State Fault Refusal :=
  if !s.runs .fb then .next s
  else if 1023 < cid then
    match s.arb.standing[num]? with
    | some x => if x.ends = 0 then .next s else .next (s.servedAt x.ends (fun t => (t.revokeStanding num x).pass))
    | none => .next s
  else match s.bundleIn cid num (fun b => b.st == .revoking) with
  | none => .next s
  | some b => .next (s.servedAt b.inst (fun t => (t.revokeNow b).pass))

/-- ENDED_SLOT_EXPIRY (R323): 600 s after its end, the slot is freed. -/
def execEndedSlotExpiry (cid num : Nat) (s : State) : Outcome State Fault Refusal :=
  match s.bundleIn cid num (fun b => b.st == .ended) with
  | none => .next s
  | some b =>
    let s1 := s.reach (b.inst + 600 * stSecond)
    .next { s1 with arb := { s1.arb with bundles := s1.arb.bundles.erase b } }

end Sys2Proof.Machine
end

