-- ==== Sys2Proof/Machine/Reserve.lean ====
section
/-! DEFINITION. The repair reserve (R715 to R718), the ages of the array's blocks (R722 to R724), what the firmware slots'
registers hold and the end of an update session (R739). -/
namespace Sys2Proof.Machine
open Host

/-! ### Repair classes (Table: Repair classes) -/

/-- Spares at design of the classes 0x01 to 0x0D; copies, or 1 for the crystal (R716). -/
def repDesign (c : Nat) : Nat := [16, 16, 8, 16, 4, 8, 3, 24, 24, 64, 64, 3, 1].getD (c - 1) 0

/-- The class is a region of the array, and draws on the shared blocks. -/
def repShared (c : Nat) : Bool := decide (8 ≤ c ∧ c ≤ 11)

/-- Spares used at the factory: a value set at manufacture that leaves the class at 75 % or more (R718). -/
def repFactory (c : Nat) : Nat :=
  if c ≤ 6 ∨ repShared c then Config.atManufacture (Reg.REPAIR_CLASS (c - 1)) % (repDesign c / 4 + 1) else 0

/-- Copies of BK's counters that are marked failed. -/
def State.bkFailed (s : State) : Nat := ((List.range 3).filter (fun i => bitOf (s.el Reg.BK_VOTE) i)).length

/-- Spares used in the field, or copies lost. -/
def State.repField (s : State) (c : Nat) : Nat :=
  if c ≤ 6 then ((s.rep.stored ++ s.rep.fresh).filter (fun p => p.1 == c)).length
  else if c = 7 then s.rep.lostCopies.foldl max 0
  else if repShared c then s.rep.retired.getD (c - 8) 0
  else if c = 12 then s.bkFailed
  else if s.el Reg.X32_STATE = 2 then 1 else 0

/-- Spares used of a class. -/
def State.repUsed (s : State) (c : Nat) : Nat := repFactory c + s.repField c

/-- Shared blocks free. -/
def State.sharedFree (s : State) : Nat :=
  80 - ([8, 9, 10, 11].foldl (fun a c => a + (s.repUsed c - repDesign c)) 0)

/-- Spares free of a class: its own, and for a region of the array the shared blocks. -/
def State.repFree (s : State) (c : Nat) : Nat := (repDesign c - s.repUsed c) + (if repShared c then s.sharedFree else 0)

/-- The percentage of a class, rounded down (R716). -/
def State.repPct (s : State) (c : Nat) : Nat :=
  if c ≤ 6 then 100 * s.repFree c / repDesign c
  else if repShared c then 100 * s.repFree c / (repDesign c + 80)
  else if c = 13 then (if s.el Reg.X32_STATE = 2 then 0 else if s.rep.restarted then 50 else 100)
  else if s.repUsed c = 0 then 100 else if s.repUsed c = 1 then 50 else 0

/-- REPAIR_RESERVE: the lowest percentage; REPAIR_MIN_CLASS: the lowest class that has it. -/
def State.reserve (s : State) : Nat := (List.range 13).foldl (fun a i => min a (s.repPct (i + 1))) 100
def State.minClass (s : State) : Nat :=
  ((List.range 13).find? (fun i => s.repPct (i + 1) == s.reserve)).getD 0 + 1

/-- The REPAIR_CLASS record of a class. -/
def State.repRecord (s : State) (c : Nat) : Nat :=
  repDesign c * 2 ^ 48 + repFactory c * 2 ^ 32 + s.repField c * 2 ^ 16 + s.repPct c * 2 ^ 8

/-- A record of source 47 (R720). -/
def State.repairEvent (s : State) (kind mem low : Nat) : State := s.stationRecord 47 kind (mem * 256 + low) true

/-- The reserve warning at a fall to 25 % or below (R717). No entry type is given for it: the type and the payload are free
values (log entry 17). -/
def State.repairCheck (s : State) : State :=
  if 25 < s.reserve then { s with rep := { s.rep with warned := false } }
  else if s.rep.warned then s
  else
    let s1 : State := { s with rep := { s.rep with warned := true } }
    let s2 := s1.repairEvent 0x14 s1.minClass s1.reserve
    let v := s2.free
    s2.drawn.logKeeper (v % 256) [payload10 (numToBytes 10 (v / 256))] .nothing

/-! ### Ages of the array's blocks -/

/-- The weight w(T) of Table: Retention and ageing weight; T in 0.01 °C. -/
def ageWeight (t : Int) : Nat := if t ≤ 8500 then 1 else if t ≤ 12500 then 2 else 20

/-- The ages brought up to the present with TS7 as it has read. -/
def State.ageTo (s : State) : State :=
  if s.rep.ageAt ≤ s.now then
    { s with rep := { s.rep with
        ageClock := s.rep.ageClock + ageWeight s.rep.ts7 * (s.now - s.rep.ageAt), ageAt := s.now } }
  else { s with rep := { s.rep with ageAt := s.now } }

/-- A reading of TS7: the first after an outage also ages the blocks over the outage, at the weight of the higher of the two
readings (R724). -/
def State.ageRead (s : State) (t : Int) : State :=
  match s.rep.outTs with
  | some u =>
    let w := ageWeight (max t u) * (s.el Reg.SWO_RETURN - s.el Reg.SWO_LAST)
    { s with rep := { s.rep with
        ageClock := s.rep.ageClock + w, ageAt := s.el Reg.SWO_RETURN, ts7 := t, outTs := none } }.ageTo
  | none =>
    let s1 := s.ageTo
    { s1 with rep := { s1.rep with ts7 := t } }

/-- The outage begins. -/
def State.ageOut (s : State) : State :=
  let s1 := s.ageTo
  { s1 with rep := { s1.rep with outTs := some s1.rep.ts7 } }

/-- The temperatures TS0 to TS8 as read (R684), and their lifetime extremes. -/
def State.readTs (s : State) (ts : List Int) : State :=
  ((ts.take 9).zipIdx).foldl (fun t p =>
    let x := clampInt p.1 (-32768) 32767
    let e := t.el (Reg.TS_EXT p.2)
    let lo := min (signed 16 (e / 65536)) x
    let hi := max (signed 16 e) x
    let u := (t.putS 2 (Reg.TS_T p.2) x).put (Reg.TS_EXT p.2) (unsigned 16 lo * 65536 + unsigned 16 hi)
    if p.2 = 7 then u.ageRead x else u) s

/-- BK has lost its state: the outage has no known length, and every block is rewritten in the next passes (R724). -/
def State.ageUnknown (s : State) : State :=
  { s with rep := { s.rep with ageAll := [8, 9, 10, 11], outTs := none, ageAt := s.now } }

/-- NV_CYCLES_MAX after a program cycle of a block; which block has the most is left open (log entry 16). -/
def State.cycle (s : State) : State := (s.add 4 Reg.NV_CYCLES_MAX (s.free % 2)).drawn

/-- A block of a memory is programmed: its age starts anew. -/
def State.programmed (s : State) (mem b : Nat) : State :=
  { s with rep := { s.rep with
      programmed := s.rep.programmed.filter (fun p => !(p.1 == mem && p.2.1 == b)) ++ [(mem, b, s.rep.ageClock)] } }

/-- The equivalent age of a block. -/
def State.blockAge (s : State) (mem b : Nat) : Nat :=
  match s.rep.programmed.find? (fun p => p.1 == mem && p.2.1 == b) with
  | some p => s.rep.ageClock - p.2.2
  | none => s.rep.ageClock

/-- Blocks of 4 KiB of the memories 0x08 to 0x0B (Table: Array map). -/
def memBlocks (mem : Nat) : Nat := if mem = 8 ∨ mem = 9 then 192 else if mem = 10 then 256 else 128

/-- The highest equivalent age of any block (NV_AGE_MAX), in units of station time. -/
def State.oldest (s : State) : Nat :=
  [8, 9, 10, 11].foldl (fun a m => (List.range (memBlocks m)).foldl (fun x b => max x (s.blockAge m b)) a) 0

/-- A region can take no more writes (R714). -/
def State.isReadOnly (s : State) (mem : Nat) : Bool := s.rep.readOnly.contains mem

/-! ### The slots' registers (Table: Slot states) -/

abbrev slInvalid : Nat := 0
abbrev slWriting : Nat := 1
abbrev slVerified : Nat := 2
abbrev slTrial : Nat := 3
abbrev slConfirmed : Nat := 4
abbrev slRejected : Nat := 5
abbrev slBelow : Nat := 6

/-- The state, trial starts and compatibility of slot A, 0, or B, 1, in FW_SLOT_INFO. -/
def State.slotState (s : State) (i : Nat) : Nat := field (s.el (Reg.FW_SLOT_INFO i)) 184 8
def State.slotTrials (s : State) (i : Nat) : Nat := field (s.el (Reg.FW_SLOT_INFO i)) 176 8
def State.slotCompat (s : State) (i : Nat) : Bool := field (s.el (Reg.FW_SLOT_INFO i)) 168 8 == 1

def State.setSlotState (s : State) (i st : Nat) : State :=
  s.put (Reg.FW_SLOT_INFO i) (setField (s.el (Reg.FW_SLOT_INFO i)) 184 8 st)
def State.setSlotTrials (s : State) (i n : Nat) : State :=
  s.put (Reg.FW_SLOT_INFO i) (setField (s.el (Reg.FW_SLOT_INFO i)) 176 8 n)

/-- The slot of the update session, 0 for none, and its owner (FW_SESSION). -/
def State.sessSlot (s : State) : Nat := field (s.el Reg.FW_SESSION) 120 8
def State.sessOwner (s : State) : Nat := field (s.el Reg.FW_SESSION) 96 16

/-- The session ends; unless FINISH succeeded its slot is INVALID (R739). -/
def State.endSession (s : State) (good : Bool) : State :=
  if s.sessSlot = 0 then s
  else (if good then s else s.setSlotState (s.sessSlot - 1) slInvalid).put Reg.FW_SESSION 0

end Sys2Proof.Machine
end

