-- ==== Sys2Proof/Machine/Timers.lean ====
section
/-! DEFINITION. Timers and cadence plans (chapter 10): cells, client timers, plan banks, seams and exchanges. -/
namespace Sys2Proof.Machine
open Host

/-! ### Message sources (R423, R424) -/

/-- The holder a message source is assigned to. -/
def State.srcHolder (s : State) (src : Nat) : Nat := s.el (Reg.SRC_CFG src) / 256

/-- A message source exists for a holder. -/
def State.srcAssigned (s : State) (src h : Nat) : Bool := decide (128 ≤ src ∧ src ≤ 510) && s.srcHolder src == h

/-- A post of a message source by a client: one record, then its doorbell (R424, R426, R428). -/
def State.postSource (s : State) (src cid kind detail : Nat) : State :=
  let v := s.el (Reg.SRC_ROUTE (src - 128))
  s.record
    { source := src, cid := cid, kind := kind, detail := detail, stamp := s.now, flags := s.coarseFlag,
      hid := s.hidOf cid, route := v / 256 % 16, any := v % 256 == 1, evid := false }

/-! ### Cells (R310, R353, R367) -/

/-- Units of 2⁻¹⁰ s in station time. -/
abbrev tick10 : Nat := 2 ^ 18

/-- Cells a holder has on its quota: armed client timers and plan timer entries. -/
def State.timersUsed (s : State) (h : Nat) : Nat :=
  (s.tmr.timers.filter (fun t => s.hidOf t.cid == h && t.state == 1 && !t.ovf)).length +
  (s.tmr.planTimers.filter (fun p => p.hid == h)).length

/-- Cells a client has on its overflow lease. -/
def State.timersOnOvf (s : State) (c : Nat) : Nat :=
  (s.tmr.timers.filter (fun t => t.cid == c && t.state == 1 && t.ovf)).length

/-- TM_FREE: cells not armed. -/
def State.cellsFree (s : State) : Nat :=
  8192 - (s.tmr.timers.filter (fun t => t.state == 1)).length - s.tmr.planTimers.length

/-- The account a new cell takes (R310). -/
def State.cellAccount (s : State) (c : Nat) : Option Bool :=
  if s.timersUsed (s.hidOf c) < s.el (Reg.TIMER_QUOTA (s.hidOf c)) then some false
  else if s.timersOnOvf c < s.heldBy c 44 then some true
  else none

/-! ### Client timers (R344, R347, R350 to R357) -/

def State.timerOf (s : State) (c h : Nat) : Option Tmr := s.tmr.timers.find? (fun t => t.cid == c && t.handle == h)

def State.setTimer (s : State) (t : Tmr) : State :=
  { s with tmr := { s.tmr with timers := s.tmr.timers.filter (fun x => !(x.cid == t.cid && x.handle == t.handle)) ++ [t] } }

/-- The first due instant of a periodic chain that lies after t. -/
def nextAfter (due interval t : Nat) : Nat :=
  if t < due + interval then due + interval else due + ((t - due) / interval + 1) * interval

/-- An armed timer fires: its record, its rescheduling, its post (R347, R348, R356, R357). `present`: the time that a periodic
chain must get beyond. -/
def State.fireTimer (s : State) (t : Tmr) (present : Nat) : State :=
  let iv := t.interval * tick10
  let next := nextAfter t.inst iv present
  let skipped := t.mode == 3 && next != t.inst + iv
  let h := s.hidOf t.cid
  let s1 := s.inc 4 Reg.TM_FIRES
  let s2 := s1.setTimer
    (if t.mode = 3 then { t with inst := next, fires := min (t.fires + 1) (2 ^ 32 - 1) }
     else { t with state := 2, ovf := false, fires := min (t.fires + 1) (2 ^ 32 - 1) })
  let s3 := s2.record
    { source := 41, cid := t.cid, kind := 0x18, detail := t.handle, stamp := s.now,
      flags := s.coarseFlag + (if skipped then fOverrun else 0), hid := h, route := s.el (Reg.HOLDER_ROUTE h),
      any := false, evid := false }
  if t.post ≠ 0 ∧ s3.srcAssigned t.post h then s3.postSource t.post t.cid 3 t.handle else s3

/-- The fields of a written TMR record. -/
def tmrMode (v : Nat) : Nat := field v 184 8
def tmrPost (v : Nat) : Nat := field v 160 16
def tmrInst (v : Nat) : Nat := field v 96 64
def tmrInterval (v : Nat) : Nat := field v 64 32

/-- R351: the written record is out of range. -/
def tmrBad (v : Nat) : Bool :=
  let m := tmrMode v
  decide (3 < m) || (m == 1 && (tmrInst v == 0 || tmrInterval v != 0)) ||
  ((m == 2 || m == 3) && (tmrInterval v == 0 || tmrInst v != 0))

/-- R352: the source that a written record posts is assigned to the writer's holder. -/
def State.tmrMay (s : State) (cid v : Nat) : Bool := tmrPost v == 0 || s.srcAssigned (tmrPost v) (s.hidOf cid)

/-- The effect of a write to a TMR handle (R350 to R355). -/
def State.writeTmr (s : State) (cid handle v : Nat) : State × Stat :=
  let m := tmrMode v
  let old := s.timerOf cid handle
  if tmrBad v then (s, .range 2 0)
  else if m = 0 then
    (s.setTimer ⟨cid, handle, 0, 0, tmrPost v, tmrInst v, tmrInterval v, 0, false⟩, .ok)
  else
    let armed := match old with | some t => t.state == 1 | none => false
    let acct : Option Bool := if armed then old.map (fun t => t.ovf) else s.cellAccount cid
    match acct with
    | none => (s, .exhausted 6)
    | some ovf =>
      let due := if m = 1 then tmrInst v else s.now + tmrInterval v * tick10
      let t : Tmr := ⟨cid, handle, m, 1, tmrPost v, due, tmrInterval v, 0, ovf⟩
      let s1 := s.setTimer t
      (if m = 1 ∧ due ≤ s.now then s1.fireTimer t s.now else s1, .ok)

/-! ### Plan entries (Table: PLAN_ENTRY record) -/

def peTag (v : Nat) : Nat := field v 176 16
def peKind (v : Nat) : Nat := field v 168 8
def peMode (v : Nat) : Nat := field v 160 8
def peOwner (v : Nat) : Nat := field v 144 10
def peA (v : Nat) : Nat := field v 128 16
def peB (v : Nat) : Nat := field v 112 16
def peC (v : Nat) : Nat := field v 96 16
def peAnchor (v : Nat) : Nat := field v 32 64
def pePeriod (v : Nat) : Nat := field v 0 32

/-- The live bank, the inactive bank, and the live seam period. -/
def State.liveBank (s : State) : List (Nat × Nat) := if s.el Reg.PLAN_LIVE = 2 then s.tmr.bankB else s.tmr.bankA
def State.idleBank (s : State) : List (Nat × Nat) := if s.el Reg.PLAN_LIVE = 2 then s.tmr.bankA else s.tmr.bankB
def State.liveSeam (s : State) : Nat := if s.el Reg.PLAN_LIVE = 2 then s.tmr.seamB else s.tmr.seamA
def State.idleSeam (s : State) : Nat := if s.el Reg.PLAN_LIVE = 2 then s.tmr.seamA else s.tmr.seamB

def State.setIdleBank (s : State) (b : List (Nat × Nat)) : State :=
  { s with tmr := if s.el Reg.PLAN_LIVE = 2 then { s.tmr with bankA := b } else { s.tmr with bankB := b } }
def State.setIdleSeam (s : State) (n : Nat) : State :=
  { s with tmr := if s.el Reg.PLAN_LIVE = 2 then { s.tmr with seamA := n } else { s.tmr with seamB := n } }

/-- The holder of a plan entry's address. -/
def peHid (a : Nat) : Nat := a / 256 - 0x5000

/-- A bank with an entry set; an empty entry is not listed. -/
def bankSet (b : List (Nat × Nat)) (a v : Nat) : List (Nat × Nat) :=
  let r := b.filter (fun p => p.1 != a)
  if v = 0 then r else dictInsert r a v

/-- The entry of a holder and tag in a bank, of a kind. -/
def planEntry (b : List (Nat × Nat)) (h tag kind : Nat) : Option Nat :=
  (b.find? (fun p => peHid p.1 == h && peTag p.2 == tag && peKind p.2 == kind)).map (fun p => p.2)

/-- The period of an entry in units of station time. -/
def periodOf (v : Nat) : Nat := max (pePeriod v) 1 * tick10

/-- The earliest instant anchor + k × period, k any integer, at or after t (R363). -/
def chainFrom (anchor period t : Nat) : Nat :=
  if t ≤ anchor then anchor - (anchor - t) / period * period
  else anchor + (t - anchor + period - 1) / period * period

/-- The first seam strictly after t (R368, R369). -/
def seamAfter (seconds t : Nat) : Nat := (t / (max seconds 1 * stSecond) + 1) * (max seconds 1 * stSecond)

/-- A commit writes a plan entry or the seam at its shape instant: into the inactive bank, and the exchange is pending
(R364). -/
def State.planPending (s : State) (shape : Nat) : State :=
  if s.el Reg.PLAN_PENDING = 1 then s
  else
    let s1 := s.put Reg.PLAN_PENDING 1
    { s1 with tmr := { s1.tmr with pendingFrom := shape } }

/-- The stored effective anchor of an entry, else the entry's own (R371, R382). -/
def State.anchorOf (s : State) (h v : Nat) : Nat :=
  match s.tmr.anchors.find? (fun p => p.1 == h && p.2.1 == peTag v) with
  | some p => p.2.2
  | none => peAnchor v

/-- The timer entries of a bank, as (holder, entry). -/
def bankTimers (b : List (Nat × Nat)) : List (Nat × Nat) :=
  (b.filter (fun p => peKind p.2 == 1)).map (fun p => (peHid p.1, p.2))

/-- PLAN_LOAD (R382): the live bank is loaded into FB, and a record goes to HID 0's targets; an
exchange that was pending waits for the first seam after it (R384). -/
def State.planLoad (s0 : State) : State :=
  let s : State := { s0 with tmr := { s0.tmr with pendingFrom := s0.now } }
  let l := (bankTimers s.liveBank).map (fun p =>
    let a := s.anchorOf p.1 p.2
    (⟨p.1, peTag p.2, chainFrom a (periodOf p.2) s.now, a⟩ : PlanTimer))
  let s1 := { s with tmr := { s.tmr with planTimers := l, loaded := true } }
  s1.record
    { source := 42, cid := 0, kind := 0x1D, detail := l.length, stamp := s.now, flags := s.coarseFlag, hid := 0,
      route := s.el (Reg.HOLDER_ROUTE 0), any := false, evid := false }

/-- With CR in RUN, the keeper stores the effective anchors (R371, step 9). -/
def State.storeAnchors (s : State) : State :=
  if s.tmr.loaded ∧ s.runs .cr ∧ s.boot.firmware then
    { s with tmr := { s.tmr with anchors := s.tmr.planTimers.map (fun p => (p.hid, p.tag, p.anchor)) } }
  else s

/-- The seam at which a pending exchange acts: the first strictly after the commit that set it pending, or after the load
(R369, R384). -/
def State.exchangeAt (s : State) : Nat :=
  seamAfter s.liveSeam s.tmr.pendingFrom

/-! ### What falls due, and in what order (R345, R346) -/

/-- An object that falls due at a station time (R345, R346). -/
inductive Due where
  | lease (cid num : Nat)
  | exchange
  | flip (order : Nat)
  | plan (hid tag : Nat)
  | timer (cid handle : Nat)
  | sub (cid slot : Nat)
  deriving DecidableEq, Repr

/-- Its place among those of one station time, and the two numbers that order its kind. -/
def Due.key : Due → Nat × Nat × Nat
  | .lease c n => (0, c, n)
  | .exchange => (1, 0, 0)
  | .flip o => (2, o, 0)
  | .plan h t => (3, h, t)
  | .timer c h => (4, c, h)
  | .sub c k => (5, c, k)

/-- In order of station time, then of R345 and R346. -/
def dueLe (x y : Nat × Due) : Bool :=
  let a := x.2.key
  let b := y.2.key
  decide (x.1 < y.1) || (x.1 == y.1 && (decide (a.1 < b.1) || (a.1 == b.1 &&
    (decide (a.2.1 < b.2.1) || (a.2.1 == b.2.1 && decide (a.2.2 ≤ b.2.2))))))

/-- What waits to be served: leases, an exchange, prepared commits, plan entries and client timers, each with its instant. -/
def State.dues (s : State) : List (Nat × Due) :=
  (s.arb.bundles.filter Bundle.holds).map (fun b => (b.inst, .lease b.cid b.num)) ++
  (if s.el Reg.PLAN_PENDING = 1 ∧ s.tmr.loaded then [(s.exchangeAt, .exchange)] else []) ++
  (s.stage.commits.filter (fun c => c.phase == .prepared)).map (fun c => (c.shape, .flip c.order)) ++
  s.tmr.planTimers.map (fun p => (p.due, .plan p.hid p.tag)) ++
  (s.tmr.timers.filter (fun t => t.state == 1)).map (fun t => (t.inst, .timer t.cid t.handle))

/-- FB serves an object in its turn: when nothing that waits stands before it (R345, R346). -/
def State.turn (s : State) (t : Nat) (d : Due) : Bool := s.runs .fb && s.dues.all (dueLe (t, d))

/-- TIMER_FIRE (R32, R344 to R346, R348): station time is at the cell's due instant; one that passed while FB was stopped is
served, and stamped, as at that instant. -/
def execTimerFire (cid handle : Nat) (s : State) : Outcome State Fault Refusal :=
  match s.timerOf cid handle with
  | none => .next s
  | some t =>
    if t.state = 1 ∧ s.turn t.inst (.timer cid handle) then
      .next (s.servedAt t.inst (fun u => u.fireTimer t (max s.now t.inst)))
    else .next s

/-- The latest client of a holder to commit plan entries. -/
def State.planAuthor (s : State) (h : Nat) : Nat :=
  match s.tmr.authors.find? (fun p => p.1 == h) with | some p => p.2 | none => s.adminOf h

/-- A record of source 42 or 41 for a holder, stamped now. -/
def State.planRecord (s : State) (src kind detail cid h : Nat) : State :=
  s.record
    { source := src, cid := cid, kind := kind, detail := detail, stamp := s.now, flags := s.coarseFlag, hid := h,
      route := s.el (Reg.HOLDER_ROUTE h), any := false, evid := false }

/-- The exchange at a seam (R371 to R374, R365): the banks swap, entries are carried, cancelled or started. -/
def State.planExchange (s : State) : State :=
  let σ := s.now
  let old := s.liveBank
  let new := s.idleBank
  let carried := s.tmr.planTimers.filterMap (fun p =>
    match planEntry new p.hid p.tag 1 with
    | some _ => some ({ p with anchor := p.due } : PlanTimer)
    | none => none)
  let gone := s.tmr.planTimers.filter (fun p => (planEntry new p.hid p.tag 1).isNone)
  let fresh := (bankTimers new).filterMap (fun p =>
    if s.tmr.planTimers.any (fun q => q.hid == p.1 && q.tag == peTag p.2) then none
    else some (⟨p.1, peTag p.2, chainFrom (peAnchor p.2) (periodOf p.2) σ, peAnchor p.2⟩ : PlanTimer))
  let timers := carried ++ fresh
  let live := if s.el Reg.PLAN_LIVE = 2 then 1 else 2
  let seam := s.idleSeam
  let s1 := (((s.put Reg.PLAN_LIVE live).put Reg.PLAN_PENDING 0).inc 4 Reg.PLAN_GEN)
  let s2 := { s1 with tmr :=
    { s1.tmr with planTimers := timers, anchors := [], bankA := new, bankB := new, seamA := seam, seamB := seam } }
  let s3 := gone.foldl (fun t p =>
    let owner := match planEntry old p.hid p.tag 1 with | some v => peOwner v | none => t.adminOf p.hid
    t.planRecord 42 0x1C p.tag owner p.hid) s2.storeAnchors
  let changed := (List.range 64).filter (fun h =>
    old.filter (fun p => peHid p.1 == h) != new.filter (fun p => peHid p.1 == h))
  changed.foldl (fun t h => t.planRecord 42 0x1B (t.el Reg.PLAN_GEN % 65536) (t.planAuthor h) h) s3

/-- PLAN_EXCHANGE (R369 to R371): station time is at a seam with an exchange pending. -/
def execPlanExchange (s : State) : Outcome State Fault Refusal :=
  if s.el Reg.PLAN_PENDING = 1 ∧ s.tmr.loaded ∧ s.turn s.exchangeAt .exchange then
    .next (s.servedAt s.exchangeAt State.planExchange)
  else .next s

/-- R379: an entry's action was not done. -/
def State.planFail (s : State) (h tag cid : Nat) (st : Stat) : State :=
  (s.put (Reg.PLAN_FAIL h) (((tag * 256 + st.code) * 256 + st.detail) * 2 ^ 64 + s.now)).planRecord 41 0x1A tag cid h

/-- A lease action (R378): renew the owner's held bundle that names the resource, else queue a bundle of one item. -/
def State.planLease (s : State) (v : Nat) : State × Stat :=
  let c := peOwner v
  let o := ordOf (peA v)
  match s.arb.bundles.find? (fun b => b.cid == c && b.holds && b.items.any (fun p => p.1 == o)) with
  | some b => s.renew c b.num (peC v)
  | none =>
    let a : LeaseAsk := ⟨min (pePeriod v / 1024) 65535, peC v, [(peA v, peB v)]⟩
    if !s.mayLease c || !s.resOpen (peA v) (s.hidOf c) then (s, .refused)
    else match s.leaseCheck c a with
      | some st => (s, st)
      | none => ((s.queueBundle c a).1, .ok)

/-- A plan timer entry fires (R346 to R348, R377 to R379): its record, then its action; then its next due instant. -/
def State.firePlan (s : State) (p : PlanTimer) (v : Nat) : State :=
  let per := periodOf v
  let next := if s.now < p.due + per then p.due + per else chainFrom p.anchor per (s.now + 1)
  let s1 := s.inc 4 Reg.TM_FIRES
  let l := s1.tmr.planTimers.map (fun q => if q.hid = p.hid ∧ q.tag = p.tag then { q with due := next } else q)
  let s2 := { s1 with tmr := { s1.tmr with planTimers := l } }
  let s3 := s2.planRecord 41 0x19 p.tag (peOwner v) p.hid
  if peMode v = 2 then
    if s3.srcAssigned (peA v) p.hid then s3.postSource (peA v) (peOwner v) 4 p.tag
    else s3.planFail p.hid p.tag (peOwner v) .refused
  else if peMode v = 3 then
    let r := s3.planLease v
    if [0x00, 0x06, 0x11].contains r.2.code then r.1
    else r.1.planFail p.hid p.tag (peOwner v) r.2
  else s3

/-- PLAN_ENTRY_FIRE (R377): station time is at the entry's due instant. -/
def execPlanEntryFire (hid tag : Nat) (s : State) : Outcome State Fault Refusal :=
  match s.tmr.planTimers.find? (fun p => p.hid == hid && p.tag == tag), planEntry s.liveBank hid tag 1 with
  | some p, some v =>
    if s.turn p.due (.plan hid tag) then .next (s.servedAt p.due (fun t => t.firePlan p v)) else .next s
  | _, _ => .next s

/-- The plan edge entry of a client's holder that names an input and its owner (R389, R376). -/
def State.edgeEntry (s : State) (c i : Nat) : Option Nat :=
  if !s.tmr.loaded then none else
  (s.liveBank.find? (fun p => peHid p.1 == s.hidOf c && peKind p.2 == 2 && peOwner p.2 == c && peA p.2 == i)).map (fun p => p.2)

end Sys2Proof.Machine
end

