-- ==== Sys2Proof/Machine/Commits.lean ====
section
/-! DEFINITION. Pending commits (chapter 08): what a staged value becomes when it applies, the order of commits, and how a
commit ends, with its record, its CM_LAST and its evidence entry. -/
namespace Sys2Proof.Machine
open Host

/-- The elements of an open exchange read zero (chapter 14): KX_DEV_EPH to KX_PEER of a client. -/
def State.zeroKxEls (s : State) (c : Nat) : State :=
  s.dropEls (fun a => decide (Reg.KX_DEV_EPH c ≤ a ∧ a ≤ Reg.KX_PEER c))

/-- An exchange is erased (R540). -/
def State.eraseKx (s : State) (c : Nat) : State :=
  ({ s with key := { s.key with kx := s.key.kx.filter (fun k => k.cid != c) } }).zeroKxEls c

/-! ### Staged values -/

/-- A plan element: PLAN_ENTRY, or PLAN_SEAM. -/
def isPlan (a : Nat) : Bool := a == Reg.PLAN_SEAM || decide (0x500080 ≤ rowAddr a ∧ rowAddr a ≤ 0x5000FF)

/-- An element of the key exchange (chapter 14) that acts at its flip and reads 0. -/
def isKeyAct (a : Nat) : Bool := rowAddr a == 0x400096 || rowAddr a == 0x400097 || rowAddr a == 0x500044

/-- An element of staging D that has a write of its own (all but RSTO_EXT): committed, it has that write's effect. -/
def isDirect (a : Nat) : Bool :=
  a != Reg.RSTO_EXT && match rowOf a with | some e => !e.staged && e.wr != .k | none => false

/-- A value without the reserved bits and fields of its element, which the device ignores (R22). -/
def maskEl (a v : Nat) : Nat :=
  if a = Reg.PORT_EN then v % 8
  else if a = Reg.HINT_CFG then v % 16
  else if Reg.RES_CFG 0 ≤ a ∧ a ≤ Reg.RES_CFG 44 then
    let u := setField (setField v 74 6 0) 64 8 0
    let w := if Reg.RES_CFG 42 ≤ a then setField u 96 16 0
      else if a < Reg.RES_CFG 24 ∨ Reg.RES_CFG 38 ≤ a then setField u 96 16 1 else u
    if a = Reg.RES_CFG 42 then setField w 80 16 0 else w
  else if Reg.RAIL_CFG 0 ≤ a ∧ a ≤ Reg.RAIL_CFG 7 then setField v 9 7 0
  else if Reg.LSW_CFG 0 ≤ a ∧ a ≤ Reg.LSW_CFG 5 then setField v 1 7 0
  else if 0x4000A0 ≤ rowAddr a ∧ rowAddr a ≤ 0x4000B7 then
    setField (setField (setField v 116 4 0) 98 6 0) 0 40 0
  else v

/-- The value of an element that a flip finds, and writes: a plan element of the inactive bank (R364). -/
def State.stagedEl (s : State) (a : Nat) : Nat :=
  if a = Reg.PLAN_SEAM then s.idleSeam
  else if isPlan a then match s.idleBank.find? (fun p => p.1 == a) with | some p => p.2 | none => 0
  else s.el a

/-- A staged value applied, without its further effects. -/
def State.applyItem (s : State) (p : Nat × Nat) : State :=
  if p.1 = Reg.PLAN_SEAM then s.setIdleSeam p.2
  else if isPlan p.1 then s.setIdleBank (bankSet s.idleBank p.1 p.2)
  else if isKeyAct p.1 || isDirect p.1 then s
  else s.put p.1 (maskEl p.1 p.2)

def State.applyItems (s : State) (l : List (Nat × Nat)) : State := l.foldl State.applyItem s

/-! ### The order of commits (R290) -/

/-- The pending commits by shape instant, then by acceptance. -/
def State.commitOrder (s : State) : List Commit :=
  s.stage.commits.sortBy (fun a b => decide (a.shape < b.shape) || (a.shape == b.shape && decide (a.order ≤ b.order)))

/-- A pending commit changed, or gone. -/
def State.commitMap (s : State) (c : Commit) (f : Commit → Commit) : State :=
  { s with stage := { s.stage with commits := s.stage.commits.map (fun x => if x.order = c.order then f x else x) } }
def State.dropCommit (s : State) (c : Commit) : State :=
  { s with stage := { s.stage with commits := s.stage.commits.filter (fun x => x.order != c.order) } }

/-- The commit stages an element. -/
def Commit.stages (c : Commit) (a : Nat) : Bool := c.items.any (fun p => p.1 == a)

/-- The islands that hold shadow banks of a commit: NW and PW their own, FB all others (Table: Prepare and flip). -/
def Commit.banks (c : Commit) : List Island :=
  let homes := c.items.filterMap (fun p => (rowOf p.1).map (fun e => e.home))
  .fb :: [Island.nw, Island.pw].filter homes.contains

/-! ### How a commit ends (R294, R297 to R299) -/

/-- The client number that stands for the keeper's mirrored commits (R771). -/
abbrev mirrorCid : Nat := 1024

def Phase.code : Phase → Nat
  | .pending => 1 | .prepared => 2 | .applied => 3 | .aborted => 4 | .failed => 5 | .withdrawn => 6

/-- The commit record (R299, R771). -/
def State.commitRecord (s : State) (c : Commit) (kind : Nat) : State :=
  if c.cid = mirrorCid then
    s.record
      { source := 43, cid := 0, kind := kind, detail := 0, stamp := s.now, flags := s.coarseFlag, hid := stationHid,
        route := 1, any := false, evid := false }
  else
    s.record
      { source := 43, cid := c.cid, kind := kind, detail := c.num, stamp := s.now, flags := s.coarseFlag, hid := c.hid,
        route := s.el (Reg.HOLDER_ROUTE c.hid), any := false, evid := false }

/-- An index that R297 names. -/
def logIndex (a : Nat) : Bool := a / 65536 == 0x1A || a / 65536 == 0x1E

/-- A commit of these elements needs an evidence entry (R297). -/
def needsLog (sa : Bool) (items : List (Nat × Nat)) : Bool := sa || items.any (fun p => logIndex p.1)

/-- The addresses staged, three to an entry. -/
def addrPayloads : List Nat → List Bytes
  | [] => []
  | [a] => [payload10 (numToBytes 3 a)]
  | [a, b] => [payload10 (numToBytes 3 a ++ numToBytes 3 b)]
  | a :: b :: c :: t => payload10 (numToBytes 3 a ++ numToBytes 3 b ++ numToBytes 3 c) :: addrPayloads t

/-- The evidence entry of a commit (R297, Table: Entry types, 0x03). -/
def State.commitEntry (s : State) (c : Commit) (ph : Phase) (st : Nat) : State :=
  let first := numToBytes 2 c.num ++ numToBytes 1 ph.code ++ numToBytes 1 st ++ numToBytes 1 c.items.length
  s.logEntry
    { chain := c.hid, stamp := s.now, typ := 0x03, flags := s.coarseFlag, cid := c.cid,
      payloads := payload10 first :: payload10 (numToBytes 8 c.shape) :: addrPayloads (c.items.map (fun p => p.1)),
      onStored := .nothing }

/-- The clients whose exchange a commit's key elements belong to. -/
def Commit.exchanges (c : Commit) : List Nat :=
  ((c.items.filter (fun p => rowAddr p.1 == 0x400096 || rowAddr p.1 == 0x400097)).map (fun p => cidOfAddr p.1)).eraseDups

/-- The outcome of a commit in its client's CM_LAST (R299). -/
def State.setLast (s : State) (c : Commit) (ph : Phase) (st detail rule : Nat) : State :=
  if c.cid = mirrorCid then s
  else
    let l : CmLast := ⟨c.cid, c.num, ph, st, detail, rule, c.items.length, c.shape⟩
    { s with stage := { s.stage with last := s.stage.last.filter (fun x => x.cid != c.cid) ++ [l] } }

/-- The end of a commit in a phase, with its status and the rule that failed. -/
def State.endCommit (s : State) (c : Commit) (ph : Phase) (st detail rule : Nat) : State :=
  let s1 := (s.dropCommit c).setLast c ph st detail rule
  let bad := ph == .aborted || ph == .failed
  let s2 := if bad then c.exchanges.foldl State.eraseKx (s1.inc 4 Reg.CM_ABORTS) else s1
  let kind := match ph with | .applied => 0x08 | .aborted => 0x09 | .withdrawn => 0x0B | _ => 0x0A
  let s3 := s2.commitRecord c kind
  if needsLog c.sa c.items ∧ c.cid ≠ mirrorCid then s3.commitEntry c ph st else s3

/-- The control core leaves by a reset (R42): commits that are not PREPARED fail with ABANDONED. -/
def State.failUnprepared (s : State) : State :=
  (s.commitOrder.filter (fun c => c.phase == .pending)).foldl (fun t c => t.endCommit c .failed 5 2 0) s

end Sys2Proof.Machine
end

