-- ==== Sys2Proof/Machine/Events.lean ====
section
/-! DEFINITION. Event inputs and capture (chapter 11): stamping, qualifying and recording edges, the AO latches, loop L4. -/
namespace Sys2Proof.Machine
open Host

/-- The pin mode of an input (Table: Pin modes). -/
def State.pinMode (s : State) (i : Nat) : Nat := s.el (Reg.EVT_PIN i)
def State.analogPin (s : State) (i : Nat) : Bool := s.pinMode i == 4 || s.pinMode i == 5

/-- The input is held for reference use (R412). -/
def State.isRefInput (s : State) (i : Nat) : Bool := s.refInputs.contains (i + 1)

/-- The I/O bank of an input has its supply (R790). -/
def State.bankGood (s : State) (i : Nat) : Bool := if i < 12 then s.boot.vddioA else s.boot.vddioB

/-- The client that senses an input: its lessee, unless the pin is off, its bank unpowered or the input a reference's
(R36, R386, R387, R413, R790). -/
def State.sensing (s : State) (i : Nat) : Option Nat :=
  if s.pinMode i = 0 ∨ s.isRefInput i ∨ !s.bankGood i then none else (s.lessee (i + 1)).map (fun b => b.cid)

/-- The detail of an edge record: the level, or on an analog pin the side and the threshold (Table: Record kinds). -/
def State.edgeDetail (s : State) (i : Nat) (rising upper : Bool) : Nat :=
  if s.analogPin i then
    let th := match s.evt.l4.find? (fun x => x.input == i) with | some l => l.th | none => 0
    (if upper then 0x4000 else 0x8000) + th % 4096
  else if rising then 1 else 0

/-- The polarity and the target mask in force for a client's input (R389). -/
def State.polarity (s : State) (c i : Nat) : Nat :=
  match s.edgeEntry c i with | some v => peMode v | none => s.evtSet c i 0
def State.evtTargets (s : State) (c i : Nat) : Nat :=
  match s.edgeEntry c i with | some v => peB v % 16 | none => s.evtSet c i 1 % 16

/-- The evidence flag of a client's input. -/
def State.evidFlag (s : State) (c i : Nat) : Bool := bitOf (s.evtSet c i 3) 0

/-- The filter time of a code, in units of 2⁻²⁸ s: FB codes act only while FB is in RUN (Table: Glitch filter codes, R392). -/
def State.filterTime (s : State) (code : Nat) : Nat :=
  if code = 0 then 0
  else if code < 0x10 then (if s.runs .fb then 2 ^ (code + 1) else 0)
  else 256 * 2 ^ (code - 0x10) * stSecond / s.aorcHz

/-- An edge whose raw transition is stamped now: it takes with it what is in force for its client (R43, R375, R387). -/
def State.edgeNow (s : State) (c i : Nat) (rising : Bool) (detail stamp : Nat) (coarse : Bool) : EvtWait :=
  { input := i, rising := rising, stamp := stamp, detail := detail, cid := c, hid := s.hidOf c, coarse := coarse,
    polarity := s.polarity c i, targets := s.evtTargets c i, evid := s.evidFlag c i, filter := s.evtSet c i 2 }

/-- The record of an edge (R387, R390): written when the polarity matches and it has targets or evidence; every
qualified edge is counted in EVT_COUNT while the client holds the lease. An edge whose CID was unbound or rebound leaves no
trace (R860). -/
def State.writeEdge (s : State) (e : EvtWait) (flags : Nat) : State :=
  if !s.inUse e.cid ∨ s.hidOf e.cid ≠ e.hid then s else
  let held := match s.lessee (e.input + 1) with | some b => b.cid == e.cid | none => false
  let s1 := if held then s.inc 4 (Reg.EVT_COUNT e.cid e.input) else s
  if !(if e.rising then bitOf e.polarity 0 else bitOf e.polarity 1) ∨ (e.targets = 0 ∧ !e.evid) then s1 else
  s1.record
    { source := e.input, cid := e.cid, kind := if e.rising then 1 else 2, detail := e.detail, stamp := e.stamp,
      flags := flags, hid := s1.hidOf e.cid, route := e.targets, any := false, evid := e.evid }

/-- A fine stamp in units of 2⁻²⁸ s, its path latency removed: within ±6 ns of the instant the pin crossed in the digital
modes, within ±25 ns in the analog ones (R394); which one is left open. -/
def State.fineStamp (s : State) (i : Nat) : Nat :=
  let reach := if s.analogPin i then 6 else 1
  s.now + s.free % (2 * reach + 1) - reach

/-- A stamp is lost on an input whose places are taken (R396, R399). -/
def State.loseStamp (s : State) (c i : Nat) : State :=
  let s1 := s.inc 4 (Reg.EVT_LOST c i)
  let k := (i, s1.hidOf c)
  if s1.dlv.overrun.contains k then s1
  else s1.dlvSet { s1.dlv with overrun := s1.dlv.overrun ++ [k] }

/-- The comparator of an analog input opens or closes at an instant: L4 takes no sample while it is open or held, and the
hold begins at a closing (R402, R403). -/
def State.comparator (s : State) (i c : Nat) (rising : Bool) (at_ : Nat) : State :=
  let turn : L4 → L4 := fun x =>
    if x.input ≠ i then x
    else if rising then { x with isOpen := true, quiet := x.quiet || (!x.isOpen && decide (x.holdEnd < at_)) }
    else { x with isOpen := false, holdEnd := at_ + s.evtSet c i 10 * stSecond }
  { s with evt := { s.evt with l4 := s.evt.l4.map turn } }

/-- EVT_RAW_TRANSITION (R387, R393, R394, R396): a raw transition with FB in RUN, at a station time, gets a fine stamp, or
BK's time with COARSE until FB has loaded (R127), and awaits its qualification. `upper` is the side of an analog excursion. -/
def execEvtRawTransition (input : Fin 24) (rising upper : Bool) (at_ : Nat) (s0 : State) :
    Outcome State Fault Refusal :=
  if !s0.runs .fb then .next s0 else
  let r := s0.reach at_
  match r.sensing input with
  | none => .next r
  | some c =>
    let s := r.comparator input c rising r.now
    let level := s.evt.levels.find? (fun p => p.1 == input.val)
    match level with
    | none => .next s
    | some _ =>
      if 4 ≤ (s.evt.waits.filter (fun w => w.input == input.val)).length then .next (s.loseStamp c input)
      else
        let detail := s.edgeDetail input rising upper
        if s.clk.loaded then
          let w := s.edgeNow c input rising detail (s.fineStamp input) false
          .next { s.drawn with evt := { s.evt with waits := s.evt.waits ++ [w] } }
        else .next { s with evt := { s.evt with waits := s.evt.waits ++ [s.edgeNow c input rising detail s.now true] } }

/-- The detector's level after an edge; a lessee whose detector has taken no level yet takes its own later (R388). -/
def State.levelAfter (s : State) (i : Nat) (rising : Bool) : List (Nat × Bool) :=
  s.evt.levels.map (fun p => if p.1 = i then (i, rising) else p)

/-- EVT_EDGE_QUALIFY (R391, R390): the oldest transition of the input has held for the filter time, or it was too short and
leaves no trace; without a filter every transition qualifies. -/
def execEvtEdgeQualify (input : Fin 24) (held : Bool) (s : State) : Outcome State Fault Refusal :=
  match s.evt.waits.find? (fun w => w.input == input.val) with
  | none => .next s
  | some w =>
    let time := s.filterTime w.filter
    let s0 := { s with evt := { s.evt with waits := s.evt.waits.erase w } }
    if !held ∧ time ≠ 0 then .next s0
    else
      let s1 := s0.reach (w.stamp + time)
      let l := s1.levelAfter input w.rising
      let s2 := { s1 with evt := { s1.evt with levels := l } }
      .next (s2.writeEdge w (if w.coarse then fCoarse else 0))

/-- The AO cycles for which the new level has to hold before a latch catches its edge: FB codes act as none (R392). -/
def aoFilter (code : Nat) : Nat := if code < 0x10 then 0 else 256 * 2 ^ (code - 0x10)

/-- LATCH_EDGE (R392, R397 to R399, R401): with FB stopped, an AO latch catches a qualified edge, asks BK for a stamp over CH00
and wakes FB. `cycles` are the AO cycles counted from the raw transition to the request; `answered`: BK answered the request,
which it never does on a channel that is not IDLE (R62, R63). A transition before the detector has its level makes no edge. -/
def execLatchEdge (input : Fin 24) (rising upper answered : Bool) (cycles : Nat) (s : State) :
    Outcome State Fault Refusal :=
  if s.runs .fb ∨ !s.mainPower then .next s else
  let wake : State → State := fun t => if t.isl_ .fb = islGated then t.over 2 State.wakeFb else t
  if s.isRefInput input then
    let t := wake s
    .next { t with evt := { t.evt with refAwake := true } }
  else match s.sensing input with
  | none => .next s
  | some c =>
    let s0 := s.comparator input c rising (s.now - cycles * stSecond / s.aorcHz)
    let s1 := wake s0
    if cycles < aoFilter (s.evtSet c input 2) then .next s0
    else if !(s.evt.levels.any (fun p => p.1 == input.val)) then .next s0
    else if 4 ≤ (s1.evt.latched.filter (fun l => l.edge.input == input.val)).length then .next (s1.loseStamp c input)
    else
      let hz := s1.aorcHz
      let stamped := answered && s.chan 0 == .idle
      let l : Latched :=
        { edge := s1.edgeNow c input rising (s1.edgeDetail input rising upper) 0 true,
          stamp := if stamped then some ((s1.clk.v - 2 - cycles * 32768 / hz) * 8192) else none,
          cycles := cycles, asked := s1.now }
      let s2 := if stamped then s1 else s1.inc 4 (Reg.CH_ABANDON 0)
      .next { s2 with evt := { s2.evt with latched := s2.evt.latched ++ [l] } }

/-- The station time of a latched edge: BK's, or from the hand-over less the AO cycles counted up to it (R401). -/
def State.latchStamp (s : State) (l : Latched) : Nat :=
  match l.stamp with
  | some t => t
  | none =>
    let counted := l.cycles + (s.now - l.asked) * s.aorcHz / stSecond
    (s.now - counted * stSecond / s.aorcHz) / 8192 * 8192

/-- LATCH_HANDOVER (R400, R401): FB takes the latched edges over CH02 and writes their records in stamp order, equal stamps in
ascending order of source. A channel in ORPHAN keeps them waiting, a STUCK one loses the hand-over (R62, R63, R89). -/
def execLatchHandover (s : State) : Outcome State Fault Refusal :=
  if !s.runs .fb ∨ s.chan 2 = .orphan then .next s
  else if s.chan 2 = .stuck then .next (s.inc 4 (Reg.CH_ABANDON 2))
  else
  let l := (s.evt.latched.map (fun x => (s.latchStamp x, x))).sortBy
    (fun a b => decide (a.1 < b.1) || (a.1 == b.1 && decide (a.2.edge.input ≤ b.2.edge.input)))
  let s1 := { s with evt := { s.evt with latched := [] } }
  .next (l.foldl (fun t p =>
    let e := p.2.edge
    let t1 := { t with evt := { t.evt with levels := t.levelAfter e.input e.rising } }
    t1.writeEdge { e with stamp := p.1 } (fCoarse + (if p.2.stamp.isNone then fIncomplete else 0))) s1)

/-- GRANT_LEVEL_TAKE (R388, R856): the filter time after a grant has passed and the detector takes the input's level; with
flag bit 1 set at a grant, a record of kind 0x03 stamped at the grant. `retake` is a change of EVT_PIN under R856. -/
def execGrantLevelTake (input : Fin 24) (level retake : Bool) (s : State) : Outcome State Fault Refusal :=
  match s.sensing input, s.lessee (input.val + 1) with
  | some c, some b =>
    if s.evt.levels.any (fun p => p.1 == input.val) then .next s else
    let s0 := if retake then s else s.reach (b.grantAt + s.filterTime (s.evtSet c input 2))
    let s1 := { s0 with evt := { s0.evt with levels := s0.evt.levels ++ [(input.val, level)] } }
    if bitOf (s1.evtSet c input 3) 1 ∧ !retake then
      .next (s1.record
        { source := input, cid := c, kind := 3, detail := if level then 1 else 0, stamp := b.grantAt,
          flags := if b.coarse then fCoarse else 0, hid := s1.hidOf c, route := s1.evtTargets c input, any := false, evid := false })
    else .next s1
  | _, _ => .next s

/-- The threshold of an input settles: EVT_NF reports it, and a fence newly reached is recorded (R404, R405); `want` is in
units of mV/65536. -/
def State.l4Settle (s : State) (c : Nat) (x : L4) (want th p nf : Nat) : State :=
  let i := x.input
  let lo := s.l4Lo i
  let hi := s.l4Hi i
  let fenced := decide (want < lo * 65536) || decide (hi * 65536 < want)
  let l := s.evt.l4.map (fun y => if y.input = i then { y with th := th, p := p, fenced := fenced, quiet := false } else y)
  let s1 := { s with evt := { s.evt with l4 := l } }
  let s2 := s1.put (Reg.EVT_NF c i) nf
  if fenced ∧ !x.fenced then
    (s2.record
      { source := i, cid := c, kind := 4, detail := (if hi * 65536 < want then 0x8000 else 0) + min (want / 65536) 4095,
        stamp := s2.now, flags := s2.coarseFlag, hid := s2.hidOf c, route := s2.evtTargets c i, any := false,
        evid := false }).inc 4 (Reg.LOOP_FENCED 3)
  else s2

/-- The bytes of EVT_NF: noise RMS, threshold and state. -/
def nfRec (rms th st : Nat) : Nat := ((rms * 65536 + th % 65536) * 256 + st) * 2 ^ 24

/-- A fixed threshold is that of EVT_SET, held within the fences (R405). -/
def State.l4Fixed (s : State) (c : Nat) (x : L4) : State :=
  let i := x.input
  let set := field (s.el (Reg.EVT_SET c i)) 64 16
  let th := s.l4Start c i
  s.l4Settle c x (set * 65536) th x.p (nfRec 0 th (if set = th then 0 else 3))

/-- A commit changed EVT_SET or L4_FENCE: a fixed threshold follows at the shape instant, L4's own at its next second (R405). -/
def State.l4Changed (s : State) (i : Nat) : State :=
  match s.evt.l4.find? (fun x => x.input == i), s.lessee (i + 1) with
  | some x, some b => if s.evtSet b.cid i 4 = 1 then s else s.l4Fixed b.cid x
  | _, _ => s

/-- L4_EVALUATE (R403 to R405): at a whole BK second the threshold moves toward k times the noise RMS; `p` is the noise
power the samples of the second leave, in mV²/65536, samples with the comparator open or held excluded: where none is left it
stays. The threshold wanted is rounded to whole mV, and a change stays within R403's whole mV. -/
def execL4Evaluate (input : Fin 8) (p : Nat) (s : State) : Outcome State Fault Refusal :=
  if s.loopHolds 4 then .next s else
  match s.evt.l4.find? (fun x => x.input == input.val), s.lessee (input.val + 1) with
  | some x, some b =>
    let c := b.cid
    let i := input.val
    let lo := s.l4Lo i
    let hi := s.l4Hi i
    if s.evtSet c i 4 ≠ 1 then .next (s.l4Fixed c x) else
    let frozen := x.isOpen || decide (s.now < x.holdEnd)
    let p1 := if frozen ∧ !x.quiet then x.p else p
    let want := s.evtSet c i 5 * Nat.sqrt (p1 * 65536) / 16
    let step := max 1 (x.th / 8)
    let t := max lo (min ((want + 32768) / 65536) hi)
    let th := max (x.th - step) (min t (x.th + step))
    let fenced := decide (want < lo * 65536) || decide (hi * 65536 < want)
    let rms := min (Nat.sqrt (p1 * 65536) * 100 / 65536) 65535
    .next (s.l4Settle c x want th p1 (nfRec rms th (if fenced then 3 else if frozen then 2 else 1)))
  | _, _ => .next s

/-- FB_REF_RUN_EXPIRY (R415, R420): 2 s without a pulse or a character, FB may stop again. -/
def execFbRefRunExpiry (s : State) : Outcome State Fault Refusal :=
  .next { s with evt := { s.evt with refAwake := false } }

/-- A commit changed EVT_PIN of an input (R856): transitions still filtering are dropped, and the level is retaken; L4 starts
where the new mode is analog. -/
def State.pinChanged (s : State) (i : Nat) : State :=
  { s with evt :=
    { s.evt with waits := s.evt.waits.filter (fun w => w.input != i)
                 levels := s.evt.levels.filter (fun p => p.1 != i)
                 l4 := match s.lessee (i + 1) with
                   | some b => s.l4Started b.cid i
                   | none => s.evt.l4 } }

end Sys2Proof.Machine
end

