-- ==== Sys2Proof/Machine/Delivery.lean ====
section
/-! DEFINITION. Event delivery (chapter 12): claims and completions, the aliases, hold-off groups, lost claims. -/
namespace Sys2Proof.Machine
open Host

/-! ### Records as bytes -/

/-- The four words of a record with a sequence in word 3 (Table: Event record). -/
def recBytes (stamp source cid kind flags seq detail : Nat) : Bytes :=
  numToBytes 8 stamp ++ numToBytes 4 (source * 2 ^ 23 + cid % 1024 * 2 ^ 13 + kind % 32 * 256 + flags % 256) ++
  numToBytes 2 seq ++ numToBytes 2 detail

/-- A spurious record (R437). -/
def spurious (seq reason : Nat) : Bytes := recBytes 0 511 0 0 0 seq reason

/-! ### Claim and completion (R436 to R439) -/

/-- An entry leaves the ring: it was claimed, or consumed as void; the room goes to a placement that waits. -/
def State.consume (s : State) (e : Entry) : State :=
  (s.dlvSet { s.dlv with entries := s.dlv.entries.erase e }).fillRoom e.target

/-- Every other entry of an ANY record turns void with reason 2 once a target has claimed it (R429). -/
def State.voidOthers (s : State) (r : Rec) (seq target : Nat) : State :=
  if r.any then
    let l := s.dlv.entries.map (fun e =>
      if e.rid = r.id ∧ e.void.isNone ∧ !(e.target == target && e.seq == seq) then { e with void := some 2 } else e)
    s.dlvSet { s.dlv with entries := l }
  else s

/-- CLAIM at a target (R436 to R438): the state after it and the 16 bytes it returns. -/
def State.claimAt (s : State) (t : Nat) : State × Bytes :=
  if 32 ≤ (s.dlv.claims.filter (fun c => c.target == t)).length then (s, spurious 0 5)
  else match (s.ring t).head? with
    | none => (s, spurious 0 0)
    | some e =>
      match e.void, s.recOf e.rid with
      | some reason, _ => (s.consume e, spurious e.seq reason)
      | none, none => (s.consume e, spurious e.seq 3)
      | none, some r =>
        let s1 := s.voidOthers r e.seq t
        let s2 := s1.dlvSet { s1.dlv with claims := s1.dlv.claims ++ [⟨t, e.seq, e.rid, s.now⟩] }
        (s2.consume e,
          recBytes r.stamp r.source r.cid r.kind (if e.replay then setBit r.flags 4 true else r.flags) e.seq r.detail)

/-- COMPLETE of a sequence at a target (R439): service ends, and the stream's next waiting record is placed (R432). -/
def State.completeClaim (s : State) (t seq : Nat) : State × Stat :=
  match s.dlv.claims.find? (fun c => c.target == t && c.seq == seq) with
  | none => (s, .conflict 3)
  | some c =>
    let s1 := s.dlvSet { s.dlv with claims := s.dlv.claims.erase c }
    match s1.recOf c.rid with
    | none => (s1, .ok)
    | some r => ((s1.completeAt r.id t).advanceStream r.source (r.streamTarget t) r.hid, .ok)

/-- The RING_STAT record of a target. -/
def State.ringStat (s : State) (t : Nat) : Nat :=
  let n := (s.ring t).length
  let c := (s.dlv.claims.filter (fun k => k.target == t)).length
  let w := (s.dlv.waiting.filter (fun x => x.why == .room && (x.target == t || (x.target == 4 &&
    match s.recOf x.rid with | some r => bitOf r.mask t | none => false)))).length
  (((n * 256 + c % 256) * 65536 + w) * 65536 + s.nextSeq t) * 65536 + s.el Reg.DLV_EPOCH

/-! ### Lost claims (R442, R443) -/

/-- A claim ended without a completion: its record is placed again with REPLAY set (R443, R454). -/
def State.returnClaim (s : State) (c : Claim) : State :=
  let s1 := (s.dlvSet { s.dlv with claims := s.dlv.claims.erase c }).inc 4 Reg.CLAIM_RETURNED
  match s1.recOf c.rid with
  | none => s1
  | some r => s1.place r.id (r.streamTarget c.target) true

/-- Every claim at a target is lost. -/
def State.returnClaims (s : State) (t : Nat) : State :=
  (s.dlv.claims.filter (fun c => c.target == t)).foldl State.returnClaim s

/-- CLAIM_TMO of T1 or T2, in ms. -/
def State.claimTmo (s : State) (t : Nat) : Nat :=
  if t = 1 then s.el Reg.CLAIM_TMO / 65536 else s.el Reg.CLAIM_TMO % 65536

/-- CLAIM_TIMEOUT (R442): a claim at T1 or T2 has been held for CLAIM_TMO. -/
def execClaimTimeout (target : Fin 3) (seq : Nat) (s : State) : Outcome State Fault Refusal :=
  match s.dlv.claims.find? (fun c => c.target == target.val && c.seq == seq) with
  | none => .next s
  | some c =>
    if target.val = 0 ∨ s.claimTmo target = 0 ∨ !s.runs .fb then .next s
    else .next ((s.reach (c.at_ + stMs (s.claimTmo target))).returnClaim c)

/-! ### Hold-off groups (R453) -/

/-- The end of a group's timer: its held records are placed in order of writing, each under R431; if one was placed the timer
starts again. -/
def State.endGroup (s : State) (g : Nat) : State :=
  let held := s.dlv.waiting.filter (fun w => w.why == .group g)
  let s1 := s.dlvSet
    { s.dlv with
      groups := s.dlv.groups.filter (fun p => p.1 != g)
      waiting := s.dlv.waiting.filter (fun w => !(w.why == .group g)) }
  let r := held.foldl (fun (a : State × Bool) w =>
    match a.1.recOf w.rid with
    | none => a
    | some x =>
      if a.1.enabled x.source && a.1.streamIdle x.source w.target x.hid then (a.1.place w.rid w.target false, true)
      else (a.1.addWait ⟨w.rid, w.target, .stream, false⟩, a.2)) (s1, false)
  if r.2 then r.1.startGroup g else r.1

/-- HOLDOFF_END (R32, R453): the group's timer ends, at its own instant. -/
def execHoldoffEnd (g : Fin 32) (s : State) : Outcome State Fault Refusal :=
  if !s.runs .fb then .next s else
  match s.dlv.groups.find? (fun p => p.1 == g.val) with
  | none => .next s
  | some p => .next (s.servedAt p.2 (fun t => t.endGroup g.val))

/-! ### Enable, pending and withdrawal (R446 to R450) -/

/-- Waiting records of an enabled source whose streams are idle are placed, in order of writing (R446). -/
def State.placeWaiting (s : State) (src : Nat) : State :=
  (s.dlv.waiting.filter (fun w => w.why == .stream &&
      match s.recOf w.rid with | some r => r.source == src | none => false)).foldl (fun t w =>
    match t.recOf w.rid with
    | none => t.dropWait w
    | some r =>
      let t1 := t.dropWait w
      if !t1.placed src w.target r.hid && !t1.streamActive src w.target r.hid &&
          !(t.dlv.waiting.takeWhile (fun x => x != w)).any (fun x => t.inStream x.rid x.target src w.target r.hid) then
        (t1.arrive w.rid w.target)
      else t) s

/-- The enable bit of a source set or cleared (R448). -/
def State.setEnable (s : State) (src : Nat) (b : Bool) : State :=
  let s1 := s.put (Reg.SRC_EN (src / 32)) (setBit (s.el (Reg.SRC_EN (src / 32))) (src % 32) b)
  if b then
    s1.dlv.waiting.foldl (fun t _ => [0, 1, 2, 3].foldl State.fillRoom t) (s1.placeWaiting src)
  else s1

/-- A withdrawal of a source's records for a holder (R449): unclaimed entries turn void with the reason, waiting and held
records are dropped, each complete at those targets; claims stay. -/
def State.withdraw (s : State) (src hid reason : Nat) : State :=
  let mine : Nat → Bool := fun id => match s.recOf id with | some r => r.source == src && r.hid == hid | none => false
  let claimed : Nat → Nat → Bool := fun id t => s.dlv.claims.any (fun c => c.rid == id && c.target == t)
  (s.dlvSet
    { s.dlv with
      entries := s.dlv.entries.map (fun e => if e.void.isNone ∧ mine e.rid then { e with void := some reason } else e)
      waiting := s.dlv.waiting.filter (fun w => !mine w.rid)
      recs := s.dlv.recs.map (fun r =>
        if mine r.id then
          { r with mask := (targetsOf r.mask).foldl (fun m t => if claimed r.id t then setBit m t true else m) 0 }
        else r) }).freeRecs

/-- R450: a write to an alias, DOORBELL, SRC_CFG or SRC_ROUTE that names source s passes. `cfg`: the element is EN_SET,
EN_CLR or SRC_CFG; `isCfg`: it is SRC_CFG. -/
def State.aliasPasses (s : State) (w : Who) (src : Nat) (cfg isCfg : Bool) : Bool :=
  match w with
  | .keeper => true
  | .bootstrap => false
  | .client c =>
    (decide (128 ≤ src ∧ src ≤ 510) && s.srcHolder src == s.hidOf c && (s.roleOf c == 1 || s.roleOf c == 2)) ||
    (decide (src < 128) && cfg && s.isSa w) ||
    (decide (128 ≤ src ∧ src ≤ 510) && isCfg && s.isSa w)

/-- The client that acts for a requester in a record. -/
def Who.cid : Who → Nat
  | .client c => c
  | _ => 0

/-- The effects of the alias writes and of DOORBELL (R423, R448). -/
def State.writeDoorbell (s : State) (w : Who) (src : Nat) : State × Stat :=
  if s.aliasPasses w src false false ∧ 128 ≤ src then (s.postSource src w.cid 1 0, .ok) else (s, .refused)
def State.writePendSet (s : State) (w : Who) (src : Nat) : State × Stat :=
  if s.aliasPasses w src false false ∧ 128 ≤ src then (s.postSource src w.cid 2 0, .ok) else (s, .refused)
def State.writeEnSet (s : State) (w : Who) (src : Nat) : State × Stat :=
  if s.aliasPasses w src true false ∧ src < 511 then (s.setEnable src true, .ok) else (s, .refused)
def State.writeEnClr (s : State) (w : Who) (src : Nat) : State × Stat :=
  if s.aliasPasses w src true false ∧ src < 511 then (s.setEnable src false, .ok) else (s, .refused)
def State.writePendClr (s : State) (w : Who) (src : Nat) : State × Stat :=
  if s.aliasPasses w src false false ∧ 128 ≤ src then (s.withdraw src (s.hidOf w.cid) 1, .ok) else (s, .refused)

/-! ### The bits of SRC_PEND and SRC_ACTIVE (R447) -/

/-- The requester sees streams of a holder: its own and the station's; the keeper sees all. -/
def State.seesHid (s : State) (w : Who) (h : Nat) : Bool :=
  match w with
  | .keeper => true
  | .bootstrap => true
  | .client c => h == stationHid || h == s.hidOf c

def State.srcPend (s : State) (w : Who) (src : Nat) : Bool :=
  let f : Nat → Bool := fun id => match s.recOf id with | some r => r.source == src && s.seesHid w r.hid | none => false
  s.dlv.entries.any (fun e => e.void.isNone && f e.rid) || s.dlv.waiting.any (fun x => f x.rid)

def State.srcActive (s : State) (w : Who) (src : Nat) : Bool :=
  s.dlv.claims.any (fun c => match s.recOf c.rid with | some r => r.source == src && s.seesHid w r.hid | none => false)

/-- A bit of a source that does not exist for the requester reads 0 (R447). -/
def State.srcExists (s : State) (w : Who) (src : Nat) : Bool :=
  decide (src < 128) || s.aliasPasses w src false true

/-- One 32-bit word of a source bit array as a requester reads it. -/
def State.srcWord (s : State) (w : Who) (n : Nat) (f : Nat → Bool) : Nat :=
  (List.range 32).foldl (fun a k => if n * 32 + k < 511 ∧ s.srcExists w (n * 32 + k) ∧ f (n * 32 + k) then a + 2 ^ k else a) 0

/-! ### Changes of ownership at a flip (chapter 12, Edges and failures; R455) -/

/-- T1 or T2 changes hands: entries of the former owner turn void with reason 4, its claims end. -/
def State.ownerChanged (s : State) (t old : Nat) : State :=
  let mine : Nat → Bool := fun id => match s.recOf id with | some r => r.hid == old | none => false
  let ids := ((s.ring t).filter (fun e => e.void.isNone && mine e.rid)).map (fun e => e.rid) ++
    ((s.dlv.claims.filter (fun c => c.target == t && mine c.rid)).map (fun c => c.rid))
  let s1 := s.dlvSet
    { s.dlv with
      entries := s.dlv.entries.map (fun e => if e.target = t ∧ e.void.isNone ∧ mine e.rid then { e with void := some 4 } else e)
      claims := s.dlv.claims.filter (fun c => !(c.target == t && mine c.rid)) }
  ids.foldl (fun u id => u.completeAt id t) s1

/-- Records that a group no longer holds are placed, each under R431 (R455). -/
def State.releaseHeld (s : State) (f : Rec → Nat → Bool) : State :=
  (s.dlv.waiting.filter (fun w => match w.why, s.recOf w.rid with
      | .group g, some r => f r g
      | _, _ => false)).foldl (fun t w => (t.dropWait w).arrive w.rid w.target) s

/-! ### T0 and T3 -/

/-- T0_CLAIM (R857), over CH07: with CR in RUN the keeper claims a T0 entry; a record with its evidence flag calls for an entry of
type 0x0A in its holder's chain (R407, R678), and the entry is completed once that work is done. -/
def execT0Claim (s : State) : Outcome State Fault Refusal :=
  if !s.runs .cr ∨ !s.runs .fb ∨ s.chan 7 = .orphan then .next s
  else if s.chan 7 = .stuck then .next (s.inc 4 (Reg.CH_ABANDON 7))
  else match (s.ring 0).head? with
  | none => .next s
  | some e =>
    let c := s.claimAt 0
    let s1 := (c.1.completeClaim 0 e.seq).1
    match e.void, c.1.recOf e.rid with
    | none, some r =>
      if r.evid then
        .next (s1.logEntry
          { chain := if r.hid = stationHid then 0 else r.hid, stamp := r.stamp, typ := 0x0A,
            flags := if bitOf r.flags 7 then 0x80 else 0, cid := r.cid,
            payloads := [payload10 (((recBytes r.stamp r.source r.cid r.kind r.flags 0 r.detail).drop 8).take 8)],
            onStored := .freeRec r.id })
      else .next s1
    | _, _ => .next s1

/-- A Source subscription takes a record of its source that carries a CID of the subscriber's holder; a message source's
subscription likewise (R275). -/
def State.subTakes (s : State) (x : Subscr) (r : Rec) : Bool :=
  x.kind == 1 && x.selector / 65536 == r.source && r.hid == s.hidOf x.cid && r.hid != stationHid

/-- The body of a NOTIFY (Table: NOTIFY body). -/
def notifyBody (slot kind seq : Nat) (payload : Bytes) : Bytes :=
  numToBytes 1 slot ++ numToBytes 1 kind ++ numToBytes 2 seq ++ payload

/-- A NOTIFY leaves to its subscriber with the subscription's sequence, once SC has made its tag over CH10 (R91, R276, R280,
R518, R533): one whose tag is abandoned is not sent, and its place in the sequence is lost. On CAN FD it takes a place in the
queue or is dropped (R470). -/
def State.notify (s : State) (x : Subscr) (kind : Nat) (payload : Bytes) : State :=
  let h := s.hidOf x.cid
  if s.el (Reg.KEY_STATE h) ≠ 1 ∨ s.usesLeft h < 3 then s else
  if x.port = .t1l ∧ s.t1lUp ∧ !s.hopKnown x.src then s.inc 4 Reg.T1L_DROPPED else
  let l := s.exch.subs.map (fun y =>
    if y.cid = x.cid ∧ y.slot = x.slot then { y with seq := (y.seq + 1) % 65536 } else y)
  let t : State := { s with exch := { s.exch with subs := l } }
  match t.crossing .sc 10 with
  | .shut _ => t.inc 4 (Reg.CH_ABANDON 10)
  | _ =>
    let u := t.wakeIsl .sc
    let body := notifyBody x.slot kind x.seq payload
    let g := u.el (Reg.KEY_GEN h)
    let k := u.tagged x.cid g (u.clientKey x.cid 1 g (u.el (Reg.KEY_ALG h)) (u.slotOf h).key)
      (replyHeader 0x40 x.cid x.slot body.length 0 0 ++ body)
    let o : Out := .notify x.port x.src x.udp x.cid x.slot kind x.seq payload k.2
    match x.port with
    | .canFd => k.1.canSend o (k.1.el Reg.CAN_NTF_PRIO) (payload.length + 52) true
    | _ => if k.1.t1lUp then k.1.emit o else k.1

/-- NOTIFIER_CLAIM (R441): over CH15 NW claims a T3 entry, notifies each subscription that takes its record, completes the entry. -/
def execNotifierClaim (s : State) : Outcome State Fault Refusal :=
  if !s.runs .nw ∨ !s.runs .fb ∨ s.chan 15 = .orphan then .next s
  else if s.chan 15 = .stuck then .next (s.inc 4 (Reg.CH_ABANDON 15))
  else match (s.ring 3).head? with
  | none => .next s
  | some e =>
    let c := s.claimAt 3
    match e.void, c.1.recOf e.rid with
    | none, some r =>
      let s1 := (c.1.exch.subs.filter (fun x => c.1.subTakes x r)).foldl (fun t x =>
        t.notify x 1 (recBytes r.stamp r.source r.cid r.kind (if e.replay then setBit r.flags 4 true else r.flags)
          (match t.exch.subs.find? (fun y => y.cid == x.cid && y.slot == x.slot) with | some y => y.seq | none => 0)
          r.detail)) c.1
      .next (s1.completeClaim 3 e.seq).1
    | _, _ => .next c.1

/-! ### The interrupt lines (R444, R445, R505, R793) -/

/-- The level that the device drives on HINT_A (t = 1) or HINT_B (t = 2), none while it drives none: before HINT_CFG is loaded,
without the supply of bank A, or, open-drain, where the line is high (R505, R790, R793). -/
def State.hintLine (s : State) (t : Nat) : Option Bool :=
  if !s.boot.hintOut ∨ !s.boot.vddioA then none
  else
    let cfg := s.el Reg.HINT_CFG / 4 ^ (t - 1)
    let high := s.hint t != bitOf cfg 0
    if high ∧ bitOf cfg 1 then none else some high

end Sys2Proof.Machine
end

