-- ==== Sys2Proof/Machine/Evidence.lean ====
section
/-! DEFINITION. The evidence log (chapter 18): appending and signing, sealing, archiving, reading. -/
namespace Sys2Proof.Machine
open Host

/-- The entries a chain retains, in ascending sequence. -/
def State.chain (s : State) (c : Nat) : List LogEntry := s.log.entries.filter (fun e => e.chain == c)

/-- The head's sequence and value: LOG_HEAD. -/
def State.headSeq (s : State) (c : Nat) : Nat := s.el (Reg.LOG_HEAD c) / 2 ^ 256
def State.headH (s : State) (c : Nat) : Nat := s.el (Reg.LOG_HEAD c) % 2 ^ 256

/-- The slots ordinary entries may use: the quota, eight fewer for the station chain (R680). -/
def State.logLimit (s : State) (c : Nat) : Nat := s.el (Reg.LOG_QUOTA c) - (if c = 0 then 8 else 0)

/-- Bytes 0 to 27 of an entry (Table: Evidence entry). -/
def entryHead (seq stamp typ flags chain cid : Nat) (payload : Bytes) : Bytes :=
  numToBytes 6 seq ++ numToBytes 8 stamp ++ numToBytes 1 typ ++ numToBytes 1 flags ++
  numToBytes 2 (chain * 1024 + cid % 1024) ++ payload10 payload

/-- The 32 bytes of a stored entry. -/
def entryBytes (e : LogEntry) : Bytes :=
  entryHead e.seq e.stamp e.typ e.flags e.chain e.cid e.payload ++ numToBytes 4 e.h

/-- One entry is stored at a chain's head. -/
def State.storeEntry (s : State) (c stamp typ flags cid : Nat) (payload : Bytes) (last : Bool) : State :=
  let seq := s.headSeq c + 1
  let h := chainNext (s.headH c) (entryHead seq stamp typ flags c cid payload) % 2 ^ 256
  let e : LogEntry := ⟨c, seq, stamp, typ, flags, cid, payload, last, h⟩
  let s1 := { s with log := { s.log with entries := s.log.entries ++ [e] } }
  (s1.put (Reg.LOG_HEAD c) (seq * 2 ^ 256 + h)).put (Reg.LOG_USED c) (s.el (Reg.LOG_USED c) + 1)

/-- A signature with K0 over the SHA-256 of some bytes, its per-message secret drawn afresh (R511); one use of K0. -/
def State.signK0 (s : State) (b : Bytes) : State × (Nat × Nat) :=
  let x := Config.ecdsaSign Config.identityKey (Config.sha256 b) s.free
  (s.drawn.inc 4 Reg.K0_USES, (x.1 % 2 ^ 256, x.2 % 2 ^ 256))

/-- What K0 signs of a point (c, s, h) of a chain (chapter 18, Chaining and signatures). -/
def State.pointSigned (s : State) (c seq h : Nat) : Bytes :=
  ascii "MALNAN-L" ++ s.devUid ++ numToBytes 1 c ++ numToBytes 6 seq ++ numToBytes 32 h

/-- The head is signed with K0 as a signed point (R679). -/
def State.signHead (s : State) (c : Nat) : State :=
  let x := s.signK0 (s.pointSigned c (s.headSeq c) (s.headH c))
  (x.1.put (Reg.LOG_HEAD_R c 0) x.2.1).put (Reg.LOG_HEAD_R c 1) x.2.2

/-- A record of source 53 for a chain (R683). -/
def State.logRecord (s : State) (kind c : Nat) : State :=
  if c = 0 then s.stationRecord 53 kind 0 false
  else s.record
    { source := 53, cid := s.adminOf c, kind := kind, detail := c, stamp := s.now, flags := s.coarseFlag, hid := c,
      route := s.el (Reg.HOLDER_ROUTE c), any := false, evid := false }

/-- A chain is sealed with a cause (R680). -/
def State.sealChain (s : State) (c cause : Nat) : State :=
  let s1 := s.storeEntry c s.now 0x0C (s.coarseFlag + 8) 0 (numToBytes 1 cause) true
  ((s1.put (Reg.LOG_STATE c) (0x100 + cause)).signHead c).logRecord 2 c

/-- A group's entries are stored, the first and then its CONT entries. -/
def State.storeGroup (s : State) (g : LogGroup) : State :=
  let n := g.payloads.length
  (g.payloads.zipIdx).foldl (fun t p =>
    t.storeEntry g.chain g.stamp g.typ (g.flags + (if p.2 = 0 then 0 else 0x40)) g.cid p.1 (p.2 + 1 == n)) s

/-- Free slots of a chain's quota. -/
def State.logFree (s : State) (c : Nat) : Nat := s.el (Reg.LOG_QUOTA c) - s.el (Reg.LOG_USED c)

/-- An evidence record of a sealed chain loses its entry (chapter 18): counted, and reported at most once an hour. -/
def State.loseEvidence (s : State) (c : Nat) : State :=
  let s1 := s.inc 4 (Reg.LOG_LOST c)
  let due := match s1.log.lostNoted.find? (fun p => p.1 == c) with
    | some p => decide (p.2 + 3600 * stSecond ≤ s1.now)
    | none => true
  if due then
    let l := s1.log.lostNoted.filter (fun p => p.1 != c) ++ [(c, s1.now)]
    ({ s1 with log := { s1.log with lostNoted := l } }).logRecord 5 c
  else s1

/-- The ring entry of a ring sequence is marked as logged (R163). -/
def markLogged (seq : Nat) (l : List RingEntry) : List RingEntry :=
  l.map (fun e => if e.seq = seq then { e with logged := true } else e)

/-- What follows the storing of a group, but for the answer to TMP_CLEAR. -/
def State.onStored (s : State) : OnStored → State
  | .nothing => s
  | .freeRec id => (s.recMap id (fun r => { r with evid := false })).freeRecs
  | .releaseRing seq => { s with bk := { s.bk with ring := markLogged seq s.bk.ring } }
  | .clearSticky mask _ =>
    let s1 := (s.put Reg.TMP_STICKY (s.el Reg.TMP_STICKY - (s.el Reg.TMP_STICKY &&& mask))).put Reg.ZEROIZE_DONE
      (s.el Reg.ZEROIZE_DONE - (s.el Reg.ZEROIZE_DONE &&& mask))
    { s1 with tmp := { s1.tmp with holds := s1.tmp.holds.filter (fun h => !bitOf mask h.1) } }
  | .openFac =>
    let s1 := (s.put Reg.FAC_STATE 2).inc 4 Reg.FAC_OPENS
    { s1 with tmp := { s1.tmp with lastFrame := s1.now } }

/-- The answer that waits for an entry: OK, or SEALED where the chain took none (R662). -/
def State.answerStored (s : State) (o : OnStored) (st : Stat) : State :=
  match o with
  | .clearSticky _ (some r) => (s.endProgress r.cid).answer r 2 st []
  | _ => s

/-- A ring entry whose append found the chain sealed stays in the ring (R669) and waits for the chain to reopen. -/
def State.keepRing (s : State) (o : OnStored) : State :=
  match o with
  | .releaseRing seq =>
    let l := s.bk.ring.map (fun x => if x.seq = seq then { x with queued := false } else x)
    { s with bk := { s.bk with ring := l } }
  | _ => s

/-- Appending one group (R678 to R680): ordinary entries while the chain stands at its limit − 2 or below, and so that the
group fits whole; the station chain's reserve takes entries of type 0x07 only. -/
def State.appendGroup (s : State) (g : LogGroup) : State :=
  let c := g.chain
  let used := s.el (Reg.LOG_USED c)
  let n := g.payloads.length
  let reserve := g.typ == 0x07 && c == 0 && decide (used + n ≤ s.el (Reg.LOG_QUOTA c))
  let fits := !s.sealed c && decide (used + n ≤ s.logLimit c - 1)
  if fits ∨ reserve then
    let free0 := s.logFree c
    let s1 := (s.storeGroup g).signHead c
    let s2 := if s1.el (Reg.LOG_WARN c) < free0 ∧ s1.logFree c ≤ s1.el (Reg.LOG_WARN c) then s1.logRecord 1 c else s1
    let s3 := if !s2.sealed c && s2.el (Reg.LOG_USED c) == s2.logLimit c - 1 then s2.sealChain c 1
      else if !s2.sealed c && s2.headSeq c == 2 ^ 48 - 2 then s2.sealChain c 2 else s2
    (s3.onStored g.onStored).answerStored g.onStored .ok
  else
    let s1 := if s.sealed c then s else s.sealChain c 1
    match g.onStored with
    | .freeRec id => (s1.onStored (.freeRec id)).loseEvidence c
    | o => (s1.keepRing o).answerStored o .sealed

/-- The oldest waiting group is signed by SC over CH09 and appended by NV over CH11 (R39, R91): with CR in RUN and K0 to sign
with (Table: Effects of ECC_LOST). An abandoned attempt is counted, and the firmware repeats it. -/
def State.appendOldest (s : State) : State :=
  if !s.runs .cr ∨ !s.boot.firmware ∨ s.el Reg.K0_USES = 2 ^ 32 - 1 ∨ 2 ≤ s.rep.lostCopies.getD 0 0 then s else
  match s.log.waiting with
  | [] => s
  | g :: t =>
    s.cross .sc 9 (fun u => u.cross .nv 11 (fun v =>
      State.appendGroup { v with log := { v.log with waiting := t } } g))

/-- The evidence entry of a ring entry (Table: Entry types, 0x04 and 0x05), when its source's reaction logs. -/
def State.ringLog (s : State) (e : RingEntry) : State :=
  let re := s.el (Reg.REACTION e.source)
  if bitOf re 56 then
    let l := s.bk.ring.map (fun x => if x.seq = e.seq then { x with queued := true } else x)
    let s1 : State := { s with bk := { s.bk with ring := l } }
    s1.logEntry
      { chain := 0, stamp := e.stamp, typ := if e.asserted then 0x04 else 0x05, flags := 0x88, cid := 0,
        payloads := [payload10 (numToBytes 1 e.source ++ numToBytes 1 e.seq ++ numToBytes 1 e.flags ++
          numToBytes 1 e.detail ++ numToBytes 1 (re / 2 ^ 56))],
        onStored := .releaseRing e.seq }
  else { s with bk := { s.bk with ring := markLogged e.seq s.bk.ring } }

/-- The waiting ring entries are put to the log, oldest first (R163, R668). -/
def State.ringLogAll (s : State) : State :=
  (s.bk.ring.filter (fun x => !x.logged && !x.queued)).foldl State.ringLog s

/-- LOG_ARCHIVE (R681): entries up to a sequence are freed, the base signed, an entry of type 0x0B joins the queue, and a
chain sealed with cause 0x01 reopens. -/
def State.archive (s : State) (c seq cid : Nat) (keeper : Bool) : State × Stat :=
  let l := s.chain c
  let cause := s.el (Reg.LOG_STATE c) % 256
  if s.sealed c ∧ cause = 2 then (s, .sealed)
  else if s.sealed c ∧ cause = 3 then (s, .exhausted 2)
  else match l.find? (fun e => e.seq == seq) with
    | none => (s, .range 2 0)
    | some e =>
      if !e.last then (s, .range 2 0)
      else
        let gone := (l.filter (fun x => decide (x.seq ≤ seq))).length
        let es := s.log.entries.filter (fun x => !(x.chain == c && decide (x.seq ≤ seq)))
        let s1 := { s with log := { s.log with entries := es } }
        let s2 := (s1.put (Reg.LOG_USED c) (s1.el (Reg.LOG_USED c) - gone)).put (Reg.LOG_BASE c) (seq * 2 ^ 256 + e.h)
        let x := s2.signK0 (s2.pointSigned c seq e.h)
        let s4 := (x.1.put (Reg.LOG_BASE_R c 0) x.2.1).put (Reg.LOG_BASE_R c 1) x.2.2
        let s5 : State := s4.logEntry
          { chain := c, stamp := s4.now, typ := 0x0B, flags := s4.coarseFlag + (if keeper then 8 else 0), cid := cid,
            payloads := [payload10 (numToBytes 6 seq ++ numToBytes 2 gone)], onStored := .nothing }
        if s5.sealed c ∧ s5.el (Reg.LOG_USED c) + 2 ≤ s5.logLimit c then
          let s6 : State := (s5.put (Reg.LOG_STATE c) 0).logRecord 3 c
          (if c = 0 then s6.ringLogAll else s6, .ok)
        else (s5, .ok)

/-- LOG_READ's body (R677): up to n entries from a sequence, in ascending order. -/
def State.logRead (s : State) (c start n : Nat) : Bytes :=
  let l := ((s.chain c).filter (fun e => decide (start ≤ e.seq))).take n
  let next := match l.getLast? with | some e => e.seq + 1 | none => max start 1
  numToBytes 1 l.length ++ numToBytes 6 next ++ (l.map entryBytes).flatten

end Sys2Proof.Machine
end

