-- ==== Sys2Proof/Machine/Operands.lean ====
section
/-! DEFINITION. The operand forms of requests: addresses, lengths and values in a body, the encoding check of each type
(R250, R251), ranges, and the way of a direct write (R245, R258, R260). -/
namespace Sys2Proof.Machine
open Host

/-- n bytes of a body from a place, as a number. -/
def bodyNum (b : Bytes) (at_ n : Nat) : Nat := bytesToNum ((b.drop at_).take n)

end Sys2Proof.Machine

namespace Sys2Proof
open Machine

/-- The address a READ or WRITE names: its first three bytes. -/
def Req.addr (r : Req) : Nat := bodyNum r.body 0 3

/-- The length byte and the value of a WRITE. -/
def Req.len (r : Req) : Nat := bodyNum r.body 3 1
def Req.value (r : Req) : Bytes := r.body.drop 4

/-- The body of a WRITE has its address, its length and as many value bytes as the length says. -/
def Req.writeFormed (r : Req) : Bool := decide (4 ≤ r.body.length) && r.body.length == 4 + r.len

end Sys2Proof

namespace Sys2Proof.Machine
open Host

/-- A continuation byte of UTF-8. -/
def utf8Cont (b : Byte) : Bool := b.toNat / 64 == 2

/-- Valid UTF-8 (Table: Types, STR). -/
def utf8Ok : Bytes → Bool
  | [] => true
  | [a] => decide (a.toNat < 128)
  | [a, b] =>
    if a.toNat < 128 then decide (b.toNat < 128)
    else decide (194 ≤ a.toNat ∧ a.toNat < 224) && utf8Cont b
  | [a, b, c] =>
    if a.toNat < 128 then utf8Ok [b, c]
    else if a.toNat < 224 then decide (194 ≤ a.toNat) && utf8Cont b && utf8Ok [c]
    else decide (a.toNat < 240) && utf8Cont b && utf8Cont c &&
      !(a.toNat == 224 && decide (b.toNat < 160)) && !(a.toNat == 237 && decide (160 ≤ b.toNat))
  | a :: b :: c :: d :: t =>
    if a.toNat < 128 then utf8Ok (b :: c :: d :: t)
    else if a.toNat < 224 then decide (194 ≤ a.toNat) && utf8Cont b && utf8Ok (c :: d :: t)
    else if a.toNat < 240 then utf8Cont b && utf8Cont c &&
      !(a.toNat == 224 && decide (b.toNat < 160)) && !(a.toNat == 237 && decide (160 ≤ b.toNat)) && utf8Ok (d :: t)
    else decide (a.toNat < 245) && utf8Cont b && utf8Cont c && utf8Cont d &&
      !(a.toNat == 240 && decide (b.toNat < 144)) && !(a.toNat == 244 && decide (144 ≤ b.toNat)) && utf8Ok t

/-- A value is well encoded under its type (Table: Types). -/
def wellEncoded (t : Ty) (v : Bytes) : Bool :=
  match t with
  | .u n => v.length == n
  | .s n => v.length == n
  | .bool => v.length == 1 && decide (bytesToNum v ≤ 1)
  | .oct n => v.length == n
  | .str n => decide (v.length ≤ n) && utf8Ok v

/-- A scalar lies in its element's range and set; 0, 0 states no limit but the type. -/
def inRange (w : Row) (v : Nat) : Bool :=
  if w.min = 0 ∧ w.max = 0 then true
  else
    let x : Int := match w.ty with
      | .s n => signed (8 * n) v
      | _ => (v : Int)
    decide (w.min ≤ x) && decide (x ≤ w.max) && (w.step == 0 || (x - w.min) % (w.step : Int) == 0)

/-- The dictionary lock of a tamper response is held (Table: Responses). -/
def State.locked (s : State) : Bool := s.tmp.holds.any (fun h => bitOf h.2.1 5)

/-- Elements whose writes the reduced service mode offers (R258). -/
def offeredWrite (a : Nat) : Bool := a == Reg.TIME_STEP || a == Reg.TIME_STEP_F || a == Reg.TIME_SET || a == Reg.SLEW_ADD

/-- The lock exempts TMP_CLEAR, LOG_ARCHIVE and, unprovisioned, the operations of R541 (R665). -/
def lockExempt (a : Nat) (w : Who) : Bool :=
  a == Reg.TMP_CLEAR || rowAddr a == 0x500069 || w == .bootstrap

/-- Where an address lies in a run of n elements. -/
def inRun (a first n : Nat) : Bool := decide (first ≤ a ∧ a < first + n)

/-- A holder has no holder admin (R840). -/
def State.orphaned (s : State) (h : Nat) : Bool :=
  !(List.range 1024).any (fun c => s.hidOf c == h && s.roleOf c == 1)

/-- The exception of R840: the elements .61 to .68 of a holder to read, LOG_ARCHIVE to write. -/
def State.orphanPasses (s : State) (w : Who) (read : Bool) (a : Nat) : Bool :=
  match ownerOf a with
  | .holder h =>
    s.isSa w && (if read then inRun (a % 256) 0x61 8 else a % 256 == 0x69) && s.orphaned h
  | _ => false

/-- Steps 5 to 7 of R258 for a WRITE of a D element, and the lock: the status it ends with, or none when it goes on. -/
def State.writeChecks (s : State) (r : Req) (w : Who) : Option Stat :=
  match rowOf r.addr with
  | none => some .refused
  | some e =>
    if !(s.passes w e.wr (ownerOf r.addr) || s.orphanPasses w false r.addr) then some .refused
    else if !s.full && !(offeredWrite r.addr && s.isSa w) then some s.reducedStat
    else if !r.writeFormed || !wellEncoded e.ty r.value then some (.range 1 0)
    else if s.locked && !lockExempt r.addr w then some (.conflict 3)
    else none

/-- The island an element lives in. -/
def homeOf (a : Nat) : Island := match rowOf a with | some e => e.home | none => .cr

/-- The channel by which a request reaches an island: the control core's, or CH16 on the fast path (R495). -/
def pathTo (fast : Bool) (i : Island) : Nat := if fast then 16 else chanTo i

/-- A write whose effect needs a signature of K0 goes on to SC over CH09: LOG_ARCHIVE (R681). -/
def signs (a : Nat) : Bool := rowAddr a == 0x500069

/-- What the effect of a write answers: a status now, or none when the answer waits for something. -/
abbrev Effect := State → Who → Nat → Nat → State × Option Stat

/-- The value of a WRITE is sound, so that it names what its element says it names. -/
def valueNamed (r : Req) : Bool :=
  match rowOf r.addr with
  | some e => r.writeFormed && wellEncoded e.ty r.value
  | none => false

/-- A WRITE of an element with its own behaviour (R245, R258), by the command `cmd`: `rights` are those to what the value names
(step 5), the effect takes the requester, the address and the value; `fast`: without the control core (R495). A request that
names another element is not this command and changes nothing. -/
def State.rightsWrite (s : State) (cmd : Instr) (r : Req) (mine : Nat → Bool) (fast boot : Bool)
    (rights : State → Who → Nat → Nat → Bool) (eff : Effect) : State :=
  if !mine r.addr then s else
  match s.accept r 2 .q fast false boot with
  | .done t => t
  | .wait t i ch w => t.holdRequest cmd r i ch w
  | .go t w =>
    if valueNamed r && !rights t w r.addr (bytesToNum r.value) then t.finish r 2 .q .refused [] else
    match t.writeChecks r w with
    | some st => t.finish r 2 .q st []
    | none =>
      let shut : State → Stat → State := fun u st => u.finish r 2 .q st []
      let go : State → State := fun u =>
        match eff u w r.addr (bytesToNum r.value) with
        | (v, some st) => v.finish r 2 .q st []
        | (v, none) => if v.exch.muted then v else v.beginProgress r.cid
      t.into (homeOf r.addr) (pathTo fast (homeOf r.addr)) cmd r.cid (some w) shut
        (fun u => if signs r.addr then u.into .sc 9 cmd r.cid (some w) shut go else go u)

/-- A WRITE whose value names nothing. -/
def State.ownWrite (s : State) (cmd : Instr) (r : Req) (mine : Nat → Bool) (boot : Bool) (eff : Effect) : State :=
  s.rightsWrite cmd r mine false boot (fun _ _ _ _ => true) eff

/-- An effect that answers at once. -/
def atOnce (f : State → Who → Nat → Nat → State × Stat) : Effect := fun s w a v =>
  let r := f s w a v
  (r.1, some r.2)

end Sys2Proof.Machine
end

