-- ==== Sys2Proof/Machine/Keys.lean ====
section
/-! DEFINITION. The keeper and its keys (chapter 14): slots, the key exchange, session state, zeroize. -/
namespace Sys2Proof.Machine
open Host

/-- The next generation of a slot (R513). -/
def nextGen (g : Nat) : Nat := if g = 0xFFFF then 1 else g + 1

/-- Every client of a holder starts again from counter 0 (R522). -/
def State.clearCtrIn (s : State) (h : Nat) : State :=
  s.dropEls (fun a => rowAddr a == 0x400033 && decide (0x400000 ≤ a ∧ a < 0x440000) && s.hidOf (cidOfAddr a) == h)

/-- Bit 0 of PROV_STATE shows that HID 0's slot is EMPTY (R541). -/
def State.setProv (s : State) : State :=
  s.put Reg.PROV_STATE (setBit (s.el Reg.PROV_STATE) 0 (s.el (Reg.KEY_STATE 0) == 0))

/-- A slot erased (R513, R515), without its record. -/
def State.emptySlot (s : State) (h : Nat) : State :=
  let s1 := ((((s.put (Reg.KEY_STATE h) 0).put (Reg.KEY_ALG h) 0).put (Reg.KEY_GEN h) (nextGen (s.el (Reg.KEY_GEN h)))).put
    (Reg.KEY_USES h) 0)
  s1.setSlot { s1.slotOf h with key := 0, reserve := 65536, blob := none, warned := false }

/-- The key of a holder's present generation is copied, for the answers to requests verified under it (R543, R544). -/
def State.copyKey (s : State) (h : Nat) : State :=
  if s.el (Reg.KEY_STATE h) = 0 then s else
  let g := s.el (Reg.KEY_GEN h)
  let l := s.key.copies.filter (fun k => !(k.1 == h && k.2.1 == g))
  { s with key := { s.key with copies := l ++ [(h, g, s.el (Reg.KEY_ALG h), (s.slotOf h).key)] } }

/-- A slot erased at a flip, with its record (R515, R522, R551); its blob stands until the flip is stored (R296). -/
def State.eraseSlot (s : State) (h : Nat) : State :=
  let old := s.slotOf h
  let s1 := (((s.copyKey h).emptySlot h).clearCtrIn h).setProv
  let s2 := s1.setSlot { s1.slotOf h with reserve := old.reserve, blob := old.blob }
  s2.keyRecord 2 h (s2.el (Reg.KEY_GEN h))

/-- The blobs of the array are those of the ACTIVE slots (R514), each new one with its reserve (R531). -/
def State.storeBlobs (s : State) : State :=
  { s with key := { s.key with slots := s.key.slots.map (fun x =>
      let g := s.el (Reg.KEY_GEN x.hid)
      if s.el (Reg.KEY_STATE x.hid) ≠ 1 then { x with blob := none }
      else if x.blob.map blobGen = some g then x
      else { x with
        blob := some (blobOf s.key.k3 x.hid g (s.el (Reg.KEY_ALG x.hid)) x.key)
        reserve := nextReserve (s.el (Reg.KEY_USES x.hid)) }) } }

/-- Session state is lost (R523), that of the bond link too: a pair re-keys after it (R754). -/
def State.sessionLoss (s : State) : State :=
  let s1 := s.dropEls (fun a => decide (0x400000 ≤ a ∧ a < 0x440000) && (a % 256 == 0x33 || a % 256 == 0x34))
  let s2 := (s1.put Reg.AUTH_EPOCH s1.now).put Reg.AUTH_EPOCH_N ((s1.el Reg.AUTH_EPOCH_N + 1) % 256)
  { s2 with key := { s2.key with fresh := [] }, twin := { s2.twin with key := none } }

/-- The elements that hold a slot's persistent state. -/
def isKeyReg (a : Nat) : Bool := rowAddr a == 0x500040 || rowAddr a == 0x500041 || rowAddr a == 0x500042

/-- Requests in progress end without an answer, whose keys are gone (R547): gathers, requests that wait admitted, writes that
the firmware repeats. -/
def State.dropRequests (s : State) : State :=
  let t := s.exch.gathers.foldl (fun t g => t.endProgress g.req.cid) { s with exch := { s.exch with gathers := [] } }
  let u := t.isl.retries.foldl (fun t x => t.endProgress x.2.1.cid) { t with isl := { t.isl with retries := [] } }
  u.dropHeld (fun h => h.who.isSome)

/-- Zeroize with a cause, for a tamper source or none, 0xFF (R546 to R549), by a client where the cause is a write: one step
of the model (log entry 15). What a flip not yet stored would bring back of a slot is gone with the slots. -/
def State.zeroize (s : State) (cause source cid : Nat) : State :=
  let open_ := s.key.kx.map (fun k => k.cid)
  let hit : Commit → Commit := fun k => { k with killed := k.killed || k.items.any (fun p => isKeyAct p.1) }
  let s0 : State := { s with stage := { s.stage with
    commits := s.stage.commits.map hit
    unstored := s.stage.unstored.map (fun l => l.filter (fun p => !isKeyReg p.1)) } }
  let s1 := open_.foldl State.eraseKx s0
  let s2 := ((List.range 64).foldl State.emptySlot s1).setProv
  let k := s2.free % 2 ^ 256
  let s3 : State := State.drawn { s2 with key := { s2.key with k3 := k, copies := [] } }
  let s4 : State := { s3.dropRequests with exch := { s3.dropRequests.exch with subs := [] } }
  let s5 : State := s4.sessionLoss
  let s6 : State := (s5.inc 4 Reg.ZEROIZE_COUNT).put Reg.ZEROIZE_LAST s5.now
  let s7 : State := if source < 16 then s6.put Reg.ZEROIZE_DONE (setBit (s6.el Reg.ZEROIZE_DONE) source true) else s6
  let s8 : State := s7.stationRecord 54 1 cause false
  let p := [payload10 (numToBytes 1 cause ++ numToBytes 1 source)]
  if cause = 3 then s8.logStation 0x06 cid p .nothing else s8.logKeeper 0x06 p .nothing

/-- R548: a zeroize for every source whose flag is set, whose reaction zeroizes and that ZEROIZE_DONE does not record; without
SC they stay owed until it starts. -/
def State.owedZeroizes (s : State) : State :=
  if s.isl_ .sc = islUnpowered then s else
  (List.range 16).foldl (fun t k =>
    if bitOf (t.el Reg.TMP_STICKY) k ∧ bitOf (t.el (Reg.REACTION k)) 58 ∧ !bitOf (t.el Reg.ZEROIZE_DONE) k then
      t.zeroize 1 k 0
    else t) s

/-- The open exchange of a client. -/
def State.kxOf (s : State) (c : Nat) : Option Kx := s.key.kx.find? (fun k => k.cid == c)

/-- The entropy source failed its health test (R550). -/
def State.entropyBad (s : State) : Bool := bitOf (s.el Reg.PROV_STATE) 7

/-- R535: who may start an exchange, for which holder and algorithm. -/
def State.kxMay (s : State) (w : Who) (v : Nat) : Bool :=
  let h := v / 256
  let alg := v % 256
  let mayHa : Bool := match w with | .client x => s.hidOf x == h && s.roleOf x == 1 | _ => true
  (s.isSa w || mayHa) && s.active h && (alg == 1 || alg == 2)

/-- KX_CTX as a number of 22 bytes (Table: Key and authentication elements). -/
def kxContext (h alg gen created ends : Nat) : Nat :=
  ((((h * 256 + alg) * 65536 + gen) * 2 ^ 64 + created) * 2 ^ 64 + ends) * 65536

/-- What K0 signs of an exchange: DEV_UID, the CID, KX_CTX and KX_DEV_EPH (R536). -/
def State.kxSigned (s : State) (c : Nat) : Bytes :=
  s.devUid ++ numToBytes 2 c ++ numToBytes 22 (s.el (Reg.KX_CTX c)) ++ numToBytes 33 (s.el (Reg.KX_DEV_EPH c))

/-- The effect of a write to KX_START (R535 to R537): HID and algorithm in the value. -/
def State.kxStart (s : State) (c v : Nat) : State × Stat :=
  let h := v / 256
  let alg := v % 256
  if s.entropyBad then (s, .conflict 3)
  else if s.key.lastKx ≠ 0 ∧ s.now < s.key.lastKx + stSecond then (s, .conflict 3)
  else if s.el Reg.K0_USES = 2 ^ 32 - 1 then (s, .exhausted 1)
  else if 2 ≤ s.rep.lostCopies.getD 0 0 then (s, .eccLost 7)
  else
    let s1 := s.eraseKx c
    let g := nextGen (s1.el (Reg.KEY_GEN h))
    let ends := s1.now + s1.el Reg.KX_LIFE * stSecond
    let e := s1.free % 2 ^ 256
    let k : Kx := ⟨c, h, alg, g, ends, e, false, 0, 0⟩
    let s2 : State := State.drawn { s1 with key := { s1.key with kx := s1.key.kx ++ [k], lastKx := s1.now } }
    let s3 := (s2.put (Reg.KX_CTX c) (kxContext h alg g s2.now ends)).put (Reg.KX_DEV_EPH c) (Config.p256Public e % 2 ^ 264)
    let x := s3.signK0 (s3.kxSigned c)
    ((x.1.put (Reg.KX_SIG_R c) x.2.1).put (Reg.KX_SIG_S c) x.2.2, .ok)

/-- W and M of an exchange from the shared x-coordinate (R538). -/
def State.kxKeys (s : State) (c z : Nat) : Bytes :=
  hkdf s.devUid (numToBytes 32 z) (ascii "MALNAN-K" ++ numToBytes 22 (s.el (Reg.KX_CTX c))) 64

/-- The effect of a write to KX_PEER (R538). -/
def State.kxPeer (s : State) (c v : Nat) : State × Stat :=
  match s.kxOf c with
  | none => (s, .refused)
  | some k =>
    if k.peerDone then (s, .conflict 3)
    else match Config.p256Shared k.eph v with
      | none => (s, .range 2 0)
      | some z =>
        let t := s.put (Reg.KX_PEER c) v
        let b := t.kxKeys c z
        let l := t.key.kx.map (fun x =>
          if x.cid = c then { x with peerDone := true, w := bytesToNum (b.take 32), m := bytesToNum (b.drop 32) } else x)
        ({ t with key := { t.key with kx := l } }, .ok)

/-- KX_TAG as it must be: AES-256-CMAC under M over KX_CTX, KX_PEER and KX_WRAP. -/
def State.kxTag (s : State) (c : Nat) (k : Kx) (wrap : Nat) : Nat :=
  bytesToNum (cmac (numToBytes 32 k.m)
    (numToBytes 22 (s.el (Reg.KX_CTX c)) ++ numToBytes 33 (s.el (Reg.KX_PEER c)) ++ numToBytes 32 wrap))

/-- R539: the exchange of a client carries the wrapped key staged. -/
def State.kxCheck (s : State) (c : Nat) (wrap tag : Option Nat) : Bool :=
  match wrap, tag with
  | none, none => true
  | some v, some g =>
    match s.kxOf c with
    | none => false
    | some k =>
      decide (s.now < k.expiry) && k.peerDone && g == s.kxTag c k v && k.gen == nextGen (s.el (Reg.KEY_GEN k.hid)) &&
      (k.alg == 2 || (v ^^^ k.w) % 2 ^ 128 == 0)
  | _, _ => false

/-- The flip of a key exchange (R540): the slot takes the key, the algorithm and the next generation. -/
def State.keyFlip (s : State) (c wrap : Nat) : State :=
  match s.kxOf c with
  | none => s
  | some k =>
    let h := k.hid
    let s0 := s.copyKey h
    let s1 := ((((s0.put (Reg.KEY_STATE h) 1).put (Reg.KEY_ALG h) k.alg).put (Reg.KEY_GEN h) k.gen).put (Reg.KEY_USES h) 0)
    let s2 := (((s1.setSlot ⟨h, wrap ^^^ k.w, (s1.slotOf h).reserve, (s1.slotOf h).blob, false⟩).clearCtrIn h).eraseKx c).setProv
    s2.keyRecord 2 h k.gen

/-! ### SC's start (R509, R514, R517, R523, R531) -/

/-- The value that an element had before the flips not yet stored. -/
def State.storedEl (s : State) (a : Nat) : Nat :=
  match s.stage.unstored.flatten.find? (fun p => p.1 == a) with | some p => p.2 | none => s.el a

/-- The slot of a holder as the array holds it comes back: its state, algorithm and generation as stored, its key from the
blob, KEY_USES from the reserve; a blob that does not open leaves the slot EMPTY, with its record. -/
def State.unwrapSlot (s : State) (x : Slot) : State :=
  let h := x.hid
  let t := s.putAll ([Reg.KEY_STATE h, Reg.KEY_ALG h, Reg.KEY_GEN h].map (fun a => (a, s.storedEl a)))
  if t.el (Reg.KEY_STATE h) ≠ 1 then t.setSlot { x with key := 0 }
  else match x.blob with
    | none => t.emptySlot h
    | some b => match openBlob t.key.k3 h b with
      | none => (t.emptySlot h).stationRecord 54 6 h false
      | some k => (t.put (Reg.KEY_USES h) (min x.reserve (2 ^ 32 - 1))).setSlot { x with key := k.2.2 }

/-- The keeper unwraps every blob. -/
def State.unwrapKeys (s : State) : State := (s.key.slots.foldl State.unwrapSlot s).setProv

/-- SC reaches RUN after it lost its session state: the dummy keys are drawn afresh, AUTH_EPOCH is the present (R517, R523). -/
def State.scStarts (s : State) : State :=
  if s.key.rebuilding then
    State.put { s with freeN := s.freeN + 2048, key := { s.key with dummy := s.freeN } } Reg.AUTH_EPOCH s.now
  else s

/-! ### Meanings -/

/-- KX_START_WRITE (R535 to R537). -/
def execKxStartWrite (r : Req) (s : State) : Outcome State Fault Refusal :=
  .next (s.rightsWrite (.kxStartWrite r) r (fun a => rowAddr a == 0x400090) false (r.addr == Reg.KX_START 0 && bodyNum r.body 4 1 == 0)
    (fun t w _ v => t.kxMay w v) (atOnce (fun t _ a v => t.kxStart (cidOfAddr a) v)))

/-- KX_PEER_WRITE (R538). -/
def execKxPeerWrite (r : Req) (s : State) : Outcome State Fault Refusal :=
  .next (s.rightsWrite (.kxPeerWrite r) r (fun a => rowAddr a == 0x400095) false (r.addr == Reg.KX_PEER 0)
    (fun t _ a _ => (t.kxOf (cidOfAddr a)).isSome) (atOnce (fun t _ a v => t.kxPeer (cidOfAddr a) v)))

/-- KX_EXPIRY (R536, R540): the exchange of a client reaches its expiry and is erased. -/
def execKxExpiry (cid : Nat) (s : State) : Outcome State Fault Refusal :=
  match s.kxOf cid with
  | none => .next s
  | some k => .next ((s.reach k.expiry).eraseKx cid)

/-- ZEROIZE_WRITE (R546): 0x5A zeroizes, any other value returns RANGE. The keys of the requester are then erased, so its answer
is not sent (R547). -/
def execZeroizeWrite (r : Req) (s : State) : Outcome State Fault Refusal :=
  .next (s.ownWrite (.zeroizeWrite r) r (fun a => a == Reg.ZEROIZE) false
    (atOnce (fun t w _ v => if v = 0x5A then (t.zeroize 3 0xFF w.cid, .ok) else (t, .range 2 0))))

/-- ENTROPY_FAULT (R550): bit 7 of PROV_STATE and one record of kind 0x05. -/
def execEntropyFault (s : State) : Outcome State Fault Refusal :=
  if !s.runs .sc ∨ s.entropyBad then .next s
  else .next ((s.put Reg.PROV_STATE (setBit (s.el Reg.PROV_STATE) 7 true)).stationRecord 54 5 0 false)

/-- KEY_TABLE_REBUILT (R517): SC, in RUN, answers frame authentication again. -/
def execKeyTableRebuilt (s : State) : Outcome State Fault Refusal :=
  if s.runs .sc then .next { s with key := { s.key with rebuilding := false } } else .next s

end Sys2Proof.Machine
end

