-- ==== Sys2Proof/Machine/Tamper.lean ====
section
/-! DEFINITION. Tamper (chapter 18): the capture ring, sources, responses, the built-in test, the field access port. -/
namespace Sys2Proof.Machine
open Host

/-- The ring holds an entry of the present tick edge at which p holds. -/
def State.ringAtEdge (s : State) (p : RingEntry → Bool) : Bool :=
  s.bk.ring.any (fun e => e.stamp == s.clk.v * 8192 && p e)

/-- The next tick edge. -/
def State.nextEdge (s : State) : State := s.reach (s.now + 8192)

/-- BK writes a ring entry (R160 to R162): the next free slot, or slot 8 with OVERWRITTEN. The entries of one tick edge stand in
order of source: what comes after an entry of a higher source is sensed at the next edge (R161; log entry 85). -/
def State.ringWrite (s0 : State) (src detail : Nat) (asserted : Bool) : State :=
  let s := if s0.ringAtEdge (fun e => decide (src < e.source)) then s0.nextEdge else s0
  let full := decide (8 ≤ s.bk.ring.length)
  let e : RingEntry :=
    { logged := false, queued := false, asserted := asserted, stamp := s.clk.v * 8192, source := src, seq := s.bk.ringSeq,
      flags := (if s.onVbk then 2 else 0) + (if full then 1 else 0), detail := detail % 256 }
  let l := if full then s.bk.ring.take 7 ++ [e] else s.bk.ring ++ [e]
  let s1 := { s with bk := { s.bk with ring := l, ringSeq := (s.bk.ringSeq + 1) % 256 } }
  if full then s1.inc 2 Reg.RING_OVER else s1

/-- The trickle charger as its settings and VBK now have it: on main, loaded, with a current, below TRICKLE_MV (R150, R151). -/
def State.trickleSet (s : State) : State :=
  { s with bk := { s.bk with trickle :=
    s.bk.settings && !s.onVbk && s.el Reg.TRICKLE_UA != 0 && decide (s.bk.vbk < s.el Reg.TRICKLE_MV) } }

/-- The record of a source: to T0, and to T1 and T2 with the interrupt response (R682). -/
def State.tamperRecord (s : State) (src kind detail : Nat) : State :=
  s.record
    { source := 24 + src, cid := 0, kind := kind, detail := detail, stamp := s.now, flags := s.coarseFlag,
      hid := stationHid, route := if bitOf (s.el (Reg.REACTION src)) 57 then 7 else 1, any := false, evid := false }

/-- The fields of a reaction entry (Table: REACTION entry). -/
def reResp (v : Nat) : Nat := field v 56 8
def reHosts (v : Nat) : Nat := field v 48 8
def reShed (v : Nat) : Nat := field v 32 16
def reHold (v : Nat) : Nat := field v 16 16

/-- Hold hosts, shed loads and lock of a source act, or act again with the hold time afresh (R664, R666). -/
def State.holdFor (s : State) (src : Nat) : State :=
  let v := s.el (Reg.REACTION src)
  let resp := reResp v
  if resp / 8 % 8 = 0 then s else
  let hosts := if bitOf resp 3 then reHosts v else 0
  let shed := if bitOf resp 4 then reShed v else 0
  let ends := if reHold v = 0 then 0 else s.now + reHold v * stSecond
  let l := s.tmp.holds.filter (fun h => h.1 != src) ++ [(src, resp, hosts, shed, ends)]
  { s with tmp := { s.tmp with holds := l } }

/-- Shed loads of a source (Table: Responses): leases on the named outputs end without notice, standing ones too, and queued
bundles that name one end as under R337. -/
def State.shedFor (s : State) (src : Nat) : State :=
  let v := s.el (Reg.REACTION src)
  if !bitOf (reResp v) 4 then s else
  let hit : Nat → Bool := fun o => powerOrd o && bitOf (reShed v) (o - 25)
  let s1 := (s.arb.bundles.filter (fun b => b.st != .ended && b.items.any (fun p => hit p.1))).foldl
    (fun t b => t.revokeNow b) s
  let st := s1.arb.standing.map (fun x => if hit x.ord then { x with granted := false } else x)
  ({ s1 with arb := { s1.arb with standing := st } }).pass

/-- The zeroize response (R546, R548, R667): at once with CR in RUN, else when CR returns, which it is woken to do; without SC it
is owed until SC starts. -/
def State.zeroizeFor (s : State) (src : Nat) : State :=
  if !bitOf (s.el (Reg.REACTION src)) 58 ∨ bitOf (s.el Reg.ZEROIZE_DONE) src then s
  else if !s.runs .cr then s.callCr
  else if s.isl_ .sc = islUnpowered then s
  else s.zeroize 1 src 0

/-- The responses of a source on main power (Table: Response timing on main power). -/
def State.respond (s : State) (src detail : Nat) : State :=
  let s1 := (s.holdFor src).shedFor src
  let s2 := s1.tamperRecord src 1 detail
  let s3 : State := match s2.bk.ring.getLast? with
    | some e => if s2.boot.firmware then s2.ringLog e else s2
    | none => s2
  s3.zeroizeFor src

/-- A source asserts (R653, R661, R664). Under a test of the source nothing of it shows but that it changed (R671, R672). -/
def State.tamperSet (s : State) (src detail : Nat) : State :=
  if s.tmp.testing = some src then { s with tmp := { s.tmp with testChanged := true } }
  else
    let s1 := ((s.ringWrite src detail true).put Reg.TMP_STICKY (setBit (s.el Reg.TMP_STICKY) src true)).put Reg.TMP_ACTIVE
      (setBit (s.el Reg.TMP_ACTIVE) src true)
    if s1.mainPower then (s1.respond src detail).wdSync s else s1

/-- The source is asserted. -/
def State.tamperIs (s : State) (src : Nat) : Bool := bitOf (s.el Reg.TMP_ACTIVE) src

/-- A source that is not asserted asserts; one asserted already stays so. -/
def State.tamperOn (s : State) (src detail : Nat) : State := if s.tamperIs src then s else s.tamperSet src detail

/-- A source releases (R653): its ring entry with detail 0, its record. -/
def State.tamperOff (s : State) (src : Nat) : State :=
  if s.tmp.testing = some src then { s with tmp := { s.tmp with testChanged := true } }
  else if !s.tamperIs src then s
  else
    let s1 := (s.ringWrite src 0 false).put Reg.TMP_ACTIVE (setBit (s.el Reg.TMP_ACTIVE) src false)
    if !s1.mainPower then s1
    else
      let s2 := s1.tamperRecord src 2 0
      match s2.bk.ring.getLast? with
      | some e => if s2.boot.firmware then s2.ringLog e else s2
      | none => s2

/-- A source is sensed in the present supply and configuration (Table: Tamper sources, R137, R656). -/
def State.tamperSensed (s : State) (src : Nat) : Bool :=
  s.runs .bk && (src < 4 || src == 6 || src == 7 || s.mainPower) &&
  (decide (4 ≤ src) || s.el (Reg.TMP_CFG src) / 256 != 0) && (src != 12 || field (s.el Reg.STRAPS) 2 2 != 0)

/-- Two copies of the backup counters are marked failed (R158). -/
def State.votedOut (s : State) : Bool :=
  decide (2 ≤ ([0, 1, 2].filter (fun k => bitOf (s.el Reg.BK_VOTE) k)).length)

/-- At a start of the firmware (R105, R548, R668): the responses of every source whose sticky flag is set, in order, and
the ring entries that wait, each with its record if it was sensed on VBK. -/
def State.tamperStart (s : State) : State :=
  let set := (List.range 16).filter (fun k => bitOf (s.el Reg.TMP_STICKY) k)
  let s1 := set.foldl State.holdFor s.owedZeroizes
  let s2 := set.foldl State.shedFor s1
  let waits := s2.bk.ring.filter (fun x => !x.logged && !x.queued)
  waits.foldl (fun t e =>
    let t1 := if bitOf e.flags 1 then t.tamperRecord e.source (if e.asserted then 1 else 2) e.detail else t
    t1.ringLog e) s2

/-! ### Meanings -/

/-- TAMPER_ASSERT (R653): a source's condition holds, after its debounce. -/
def execTamperAssert (src : Fin 13) (detail : Nat) (s : State) : Outcome State Fault Refusal :=
  if !s.tamperSensed src ∨ src.val = 8 then .next s else .next (s.tamperOn src detail)

/-- TAMPER_RELEASE (R653): a source's condition no longer holds. Source 9 stays for a failed vote (R158). -/
def execTamperRelease (src : Fin 13) (s : State) : Outcome State Fault Refusal :=
  if !s.tamperSensed src ∨ (src.val = 9 ∧ s.votedOut) then .next s else .next (s.tamperOff src)

/-- The effect of a TMP_CLEAR write (R662): it is answered when its entry is stored. -/
def State.tmpClear (s : State) (w : Who) (r : Option Req) (v : Nat) : State × Option Stat :=
  let m := v % 65536
  if s.el Reg.TMP_ACTIVE &&& m ≠ 0 then (s, some (.conflict 3))
  else if s.sealed 0 then (s, some .sealed)
  else (s.logStation 0x0D w.cid [payload10 (numToBytes 2 m)] (.clearSticky m r), none)

/-- TMP_CLEAR_WRITE (R662). -/
def execTmpClearWrite (r : Req) (s : State) : Outcome State Fault Refusal :=
  .next (s.ownWrite (.tmpClearWrite r) r (fun a => a == Reg.TMP_CLEAR) false (fun t w _ v => t.tmpClear w (if t.exch.muted then none else some r) v))

/-- TAMPER_HOLD_EXPIRY (R666): the hold time of a source's host hold has passed. -/
def execTamperHoldExpiry (src : Fin 16) (s : State) : Outcome State Fault Refusal :=
  match s.tmp.holds.find? (fun h => h.1 == src.val && h.2.2.1 != 0 && h.2.2.2.2 != 0) with
  | none => .next s
  | some h =>
    let s1 := s.reach h.2.2.2.2
    let l := s1.tmp.holds.map (fun x => if x.1 = src.val then (x.1, x.2.1, 0, x.2.2.2.1, 0) else x)
    let s2 : State := { s1 with tmp := { s1.tmp with holds := l } }
    .next (s2.wdSync s)

/-- SHADOW_MISMATCH (R670): source 9 asserts with the group; TMP_STICKY resolves toward set (`sticky`: the bits either copy
shows); with the firmware running the keeper reloads both copies and the source releases, but for group 2 (R158). -/
def execShadowMismatch (group : Fin 6) (sticky : Nat) (s : State) : Outcome State Fault Refusal :=
  if !s.mainPower ∨ group.val = 0 then .next s else
  let s1 := if group.val = 1 then s.put Reg.TMP_STICKY (s.el Reg.TMP_STICKY ||| sticky % 65536) else s
  let s2 := s1.tamperOn 9 group
  if s2.boot.firmware ∧ group.val ≠ 2 ∧ !s2.votedOut then .next (s2.tamperOff 9) else .next s2

/-- The sample period of a tamper pin: of its own rate code, or of TMPO_CFG's in dynamic mode (R657, R659). -/
def State.samplePeriod (s : State) (src : Nat) : Nat :=
  let c := s.el (Reg.TMP_CFG src)
  stSecond / 2 ^ (if c / 256 = 3 then s.el Reg.TMPO_CFG / 256 else c % 256)

/-- How long a test injects its condition: two sample periods or 10 ms, whichever is longer (R671; log entry 95). -/
def State.testSpan (s : State) (src : Nat) : Nat :=
  max (if src < 4 then 2 * s.samplePeriod src else 0) ((stSecond + 99) / 100)

/-- The effect of a write to TMP_TEST (R671, R672). -/
def State.tmpTest (s : State) (w : Who) (v : Nat) : State × Stat :=
  if 12 < v then (s, .range 2 0)
  else if s.tamperIs v ∨ s.tmp.testing.isSome then (s, .conflict 3)
  else
    ({ s with tmp :=
      { s.tmp with testing := some v, testChanged := false, testCid := w.cid, testEnds := s.now + s.testSpan v } }, .ok)

/-- TMP_TEST_WRITE (R671). -/
def execTmpTestWrite (r : Req) (s : State) : Outcome State Fault Refusal :=
  .next (s.ownWrite (.tmpTestWrite r) r (fun a => a == Reg.TMP_TEST) false (atOnce (fun t w _ v => t.tmpTest w v)))

/-- TMP_TEST_END (R671, R672): the test's window ends with the sensor's finding; the entry names the client that asked for it. -/
def execTmpTestEnd (detected : Bool) (s : State) : Outcome State Fault Refusal :=
  match s.tmp.testing with
  | none => .next s
  | some src =>
    let o := if !detected then 1 else if s.tmp.testChanged then 2 else 0
    let c := s.tmp.testCid
    let s0 := s.reach s.tmp.testEnds
    let s1 := { s0 with tmp := { s0.tmp with testing := none, testChanged := false, testCid := 0, testEnds := 0 } }
    let s2 := (s1.put Reg.TMP_TEST_RES ((src * 256 + o) * 2 ^ 64 + s1.now)).tamperRecord src 3 o
    .next (s2.logStation 0x0E c [payload10 (numToBytes 1 src ++ numToBytes 1 o)] .nothing)

/-- The field access port is enabled by its strap (R115). -/
def State.facEnabled (s : State) : Bool := bitOf (s.el Reg.STRAPS) 1

/-- FAC_OPEN_REQUEST (R673, R674, R550): source 8 asserts, and a challenge leaves, valid for 60 s. -/
def execFacOpenRequest (s : State) : Outcome State Fault Refusal :=
  if !s.mainPower ∨ !s.facEnabled ∨ s.el Reg.FAC_STATE = 2 ∨ s.now < s.tmp.lockoutUntil then .next s else
  let s1 := s.tamperSet 8 1
  if s1.entropyBad then .next (s1.emit (.frame "FAC conflict" [0x03, 3])) else
  let c := s1.free % 2 ^ 128
  let s2 := (s1.drawn.put Reg.FAC_STATE 1).emit (.frame "FAC challenge" [c, s1.el Reg.DEV_UID, s1.now])
  .next { s2 with tmp := { s2.tmp with challengeAt := some s2.now, challenge := c } }

/-- The challenge is void, and the port as it was. -/
def State.unchallenged (s : State) : State :=
  State.put { s with tmp := { s.tmp with challengeAt := none, challenge := 0 } } Reg.FAC_STATE 0

/-- The signer of a tool's signature over the challenge: 1 FAC_KEY while it is valid, 2 K1, 3 K2 (R673); none verifies. -/
def State.facSigner (s : State) (r x : Nat) : Option Nat :=
  let d := Config.sha256 (ascii "MALNAN-FAC" ++ s.devUid ++ numToBytes 16 s.tmp.challenge)
  if s.el Reg.FAC_KEY ≠ 0 ∧ s.now < s.el Reg.FAC_UNTIL ∧ Config.ecdsaVerify (s.el Reg.FAC_KEY) d r x = true then some 1
  else if s.rootVerifies 1 d r x then some 2
  else if s.rootVerifies 2 d r x then some 3
  else none

/-- FAC_SIGNATURE (R673, R674): the tool returns the two halves of its signature. -/
def execFacSignature (r x : Nat) (s : State) : Outcome State Fault Refusal :=
  match s.tmp.challengeAt with
  | none => .next s
  | some t =>
    let s2 := s.unchallenged
    if t + 60 * stSecond ≤ s.now then .next (s2.tamperOff 8)
    else match s.facSigner r x with
      | some k =>
        let s3 := (s2.zeroize 2 0xFF 0).logKeeper 0x07 [payload10 (numToBytes 1 3 ++ numToBytes 1 k)] .openFac
        .next (s3.tamperSet 8 3)
      | none =>
        let s3 := s2.tamperSet 8 2
        .next { s3 with tmp := { s3.tmp with lockoutUntil := s3.now + 10 * stSecond } }

/-- FAC_CHALLENGE_EXPIRY (R673): 60 s after it, the challenge is void; the request's source releases. -/
def execFacChallengeExpiry (s : State) : Outcome State Fault Refusal :=
  match s.tmp.challengeAt with
  | none => .next s
  | some t => .next ((s.reach (t + 60 * stSecond)).unchallenged.tamperOff 8)

/-- FAC_LOCKOUT_END (R674): open requests are accepted again; the failed response's source releases. -/
def execFacLockoutEnd (s : State) : Outcome State Fault Refusal :=
  if s.tmp.lockoutUntil = 0 then .next s else
  let s1 := s.reach s.tmp.lockoutUntil
  let s2 := { s1 with tmp := { s1.tmp with lockoutUntil := 0 } }
  .next (s2.tamperOff 8)

/-- FAC_IDLE_CLOSE (R675): 600 s without a frame close the port. -/
def execFacIdleClose (s : State) : Outcome State Fault Refusal :=
  if s.el Reg.FAC_STATE ≠ 2 then .next s else
  .next (((s.reach (s.tmp.lastFrame + 600 * stSecond)).put Reg.FAC_STATE 0).tamperOff 8)

/-- RING_ENTRY_RELEASE (R163, R164): the oldest entry, named by its ring sequence, once its log append is stored. At one clock
edge a release comes before an entry: after an entry of the present edge it acts at the next (log entry 85). -/
def execRingEntryRelease (seq : Fin 256) (s : State) : Outcome State Fault Refusal :=
  match s.bk.ring with
  | e :: t =>
    if e.seq = seq.val ∧ e.logged then
      let s1 := if s.ringAtEdge (fun _ => true) then s.nextEdge else s
      .next { s1 with bk := { s1.bk with ring := t } }
    else .next s
  | [] => .next s

/-- The effect of a write to LOG_ARCHIVE (R681): the new base needs K0 to sign it. -/
def State.logArchive (s : State) (w : Who) (a v : Nat) : State × Stat :=
  if s.el Reg.K0_USES = 2 ^ 32 - 1 then (s, .exhausted 1)
  else if 2 ≤ s.rep.lostCopies.getD 0 0 then (s, .eccLost 7)
  else s.archive (hidOfAddr a) v w.cid false

/-- LOG_ARCHIVE_WRITE (R681). -/
def execLogArchiveWrite (r : Req) (s : State) : Outcome State Fault Refusal :=
  .next (s.ownWrite (.logArchiveWrite r) r (fun a => rowAddr a == 0x500069) false (atOnce State.logArchive))

end Sys2Proof.Machine
end

