-- ==== Sys2Proof/Machine/Reset.lean ====
section
/-! DEFINITION. What a reset of an island loses, and what the five reset scopes keep (chapter 03, Table: State kept through
each scope). -/
namespace Sys2Proof.Machine
open Host

/-- A volatile element takes its default at a reset of its home island (R249); the island states and channel marks are the
wrappers' own, TIME_STATE lasts until the next backup-scope reset (R131), and BK_SUPPLY shows which source feeds the backup node,
which changes on its conditions alone (R139). -/
def State.loseDict (s : State) (i : Island) : State :=
  s.dropEls (fun a => !decide (0x1F8000 ≤ a ∧ a < 0x1F8500) && a != Reg.TIME_STATE && a != Reg.BK_SUPPLY &&
    match rowOf a with
    | some r => !r.persist && r.home == i
    | none => false)

/-- Persistent values of flipped commits not yet stored fall back (R296). -/
def State.unstore (s : State) : State :=
  let back := s.stage.unstored.reverse.flatten
  ({ s with stage := { s.stage with unstored := [] } }).applyItems back

/-- REF_STATE stands in HOLDOVER, or in a QUALIFYING that began there (R209). -/
def State.holding (s : State) : Bool :=
  s.el Reg.REF_STATE == 3 || (s.el Reg.REF_STATE == 1 && s.osc.refPrev == 3)

/-- HOLD_UNC from its accumulator, a part of a microsecond counting whole. -/
def State.showHold (s : State) : State :=
  if s.holding then s.put Reg.HOLD_UNC (min ((s.osc.holdAcc + 999999) / 1000000) (2 ^ 32 - 1)) else s

/-- The reference machinery at a start of FB (R193, R202): HOLDOVER if episodes were counted, else NONE; no class in use;
the crystal model as last stored. The bound goes on from the phase error at hand: the latest offset where the device was LOCKED,
else what a holdover had reached (R209). -/
def State.resetReference (s : State) : State :=
  let o := s.osc
  let t : State := { s with osc :=
    { o with
      pllLocked := false
      pulses := []
      refGood := 0
      refMissing := 0
      label := none
      techLast := none
      pulseWait := none
      ppsLast := none
      heldLabel := none
      ppsSeen := none
      ptpDelays := []
      accepted := false
      disagreed := false
      disc := 0
      discI := 0
      discAt := none
      holdAcc := if s.el Reg.REF_STATE = 2 then (s.elS 8 Reg.REF_OFFSET).natAbs * 1000 else o.holdAcc
      obs := none
      obsDue := []
      epStart := none
      epCounted := false
      theta := o.stored.theta
      cov := o.stored.cov
      epTemps := o.stored.temps
      epLastStart := o.stored.lastStart
      ageWaits := o.stored.ageWaits
      lfrcRun := false
      ppsUntil := none
      leapSeen := none
      gmUtc := none } }
  let u := t.putAll o.stored.regs
  ((u.put Reg.REF_STATE (if u.el Reg.EPISODES = 0 then 0 else 3)).put Reg.REF_ACTIVE 0xFF).showHold

/-- The bond link is lost with NW: the half follows no more, and HOLDOVER or its own reference goes on from what it has. -/
def State.followLost (s : State) : State :=
  if s.twin.follow then
    { s with
      twin := { s.twin with follow := false, offset := 0 }
      osc := { s.osc with obs := none, epStart := none, disc := 0, discI := 0, discAt := none, steps := 0 } }
  else s

/-- An island that lost its state holds no shadow bank any longer: a commit that it had prepared is not PREPARED, and the keeper
sends its banks again (log entry 82). -/
def Commit.bankLost (i : Island) (c : Commit) : Commit :=
  if (c.phase == .pending || c.phase == .prepared) && c.banks.contains i then { c with phase := .pending, shadowed := false } else c

/-- Each chapter's state that lives in an island and that no element shows. The holds of the keeper go with SC's state as at a
release: what they delayed acts (log entry 78). -/
def State.loseFields (s : State) : Island → State
  | .bk =>
    { s with
      clk := ⟨0, false, 0, 0⟩
      bk := { State.reset.bk with vbk := s.bk.vbk }
      tmp := { s.tmp with lfsr := 1 }
      osc := { s.osc with gap := none, outages := [], phase := 0, phaseRun := 0 } }.put Reg.X32_DRIVE 15
  | .ao =>
    { s with
      evt := { s.evt with latched := [] }
      isl := { s.isl with comparator := none }
      boot := { s.boot with hintA := false, hintB := false, hintOut := false }
      wd := State.reset.wd
      tmp := { s.tmp with holds := [], testing := none, testChanged := false, testCid := 0, testEnds := 0, challengeAt := none, challenge := 0, lockoutUntil := 0 } }
  | .fb =>
    let s : State := s.holdHints.fbStops
    { s with
      stage := { s.stage with commits := [], last := [], nextNum := [], order := 0 }
      arb := ⟨[], s.standingConfig, 0, [], [], [], 0, [], false⟩
      tmr := { s.tmr with timers := [], lost := true, loaded := false, planTimers := [], pendingFrom := s.now }
      evt := { s.evt with levels := [], waits := [], l4 := [], refAwake := false }
      dlv := ⟨[], s.dlv.nextRec, [], [], [], 0, 0, 0, 0, [], []⟩
      exch := { s.exch with gathers := [] }
      lehr :=
      { State.reset.lehr with
        vcore := s.lehr.vcore
        s2 := s.lehr.s2
        bands := s.lehr.bands
        aged := s.lehr.aged
        lost := s.lehr.lost.filter (fun p => decide (5 ≤ p.1))
        fenced := s.lehr.fenced.filter (fun l => decide (5 ≤ l))
        safety := s.lehr.safety.filter (fun p => decide (5 ≤ p.1)) }
      tim := ⟨none, false⟩ }.resetReference
  | .cr =>
    let s : State := s.failUnprepared
    { s with
      exch := { s.exch with answered := [], refused := [] }
      stage := { s.stage with parisons := [] }
      log := { s.log with waiting := [] }
      isl := { s.isl with holds := [], retries := [] }
      boot := { s.boot with firmware := false, chosen := false, tries := 0, portReady := false }
      bk := { s.bk with ring := s.bk.ring.map (fun x => { x with queued := false }) } }
  | .sc =>
    let s1 : State := { s with
      key := { s.key with kx := [], rebuilding := true, lastKx := 0 }
      isl := { s.isl with holds := [] } }
    let s2 : State := { s1 with key := { s1.key with copies := [] } }
    (s.key.kx.foldl (fun (t : State) k => t.zeroKxEls k.cid) s2).sessionLoss
  | .nw =>
    { s with
      exch := { s.exch with subs := [] }
      port := { State.reset.port with i2cAddr := s.port.i2cAddr }
      stage := { s.stage with commits := s.stage.commits.map (Commit.bankLost .nw) }
      twin := { State.reset.twin with follow := s.twin.follow, offset := s.twin.offset } }.followLost
  | .pw =>
    { s with
      rail := { State.reset.rail with outs := s.outsAnew, fltLow := s.rail.fltLow }
      stage := { s.stage with commits := s.stage.commits.map (Commit.bankLost .pw) }
      lehr :=
      { s.lehr with
        lost := s.lehr.lost.filter (fun p => decide (p.1 < 5))
        fenced := s.lehr.fenced.filter (fun l => decide (l < 5))
        safety := s.lehr.safety.filter (fun p => decide (p.1 < 5)) }
      pwr :=
      { State.reset.pwr with
        hours := s.pwr.hours
        days := s.pwr.days
        dayAcc := s.pwr.dayAcc
        hour := s.pwr.hour
        snowMed := s.pwr.snowMed
        socStored := s.pwr.socStored } }.put Reg.SOC s.pwr.socStored
  | .nv => s

/-- An island loses its state. -/
def State.loseIsland (s : State) (i : Island) : State :=
  let e := s.el Reg.DLV_EPOCH
  let u := if i = .cr ∨ i = .nv then s.endSession false else s
  let t : State := (u.loseDict i).loseFields i
  match i with
  | .fb => t.put Reg.DLV_EPOCH ((e + 1) % 65536)
  | _ => t

/-- The islands a main reset restarts. -/
def mainIslands : List Island := [.fb, .cr, .sc, .nw, .pw, .nv]

/-- The evidence entries waiting in CR (R107): those of the tamper ring wait in BK and are not counted. -/
def State.waitingEntries (s : State) : Nat :=
  ((s.log.waiting.filter (fun g => match g.onStored with | .releaseRing _ => false | _ => true)).map
    (fun g => g.payloads.length)).foldl (· + ·) 0

/-- The state of the islands and straps at a main or full reset: with the supplies good they start, else they have no
supply. -/
def State.restart (s : State) (l : List Island) (powered : Bool) : State :=
  l.foldl (fun t i => t.setIsl i (if powered then islStarting else islUnpowered)) s

/-- The widest scope wins, and in one scope the lowest code (R97, R98). -/
def causeMerge (old new : Nat) : Nat :=
  let w : Nat → Nat := fun c => if c = 0 then 4 else if c = 1 then 0 else if c ≤ 4 then 1 else if c ≤ 8 then 2 else 3
  if w new < w old then new else if w old < w new then old else min old new

/-- A channel after a main or full reset (Table: Requester channel states, R73, R850): STUCK is cleared where an end restarts;
the channels of an island that lost its state without a drain start in ORPHAN. -/
def chanAfter (sc : Scope) (drained : Bool) (n : Nat) (c : Chan) : Chan :=
  let back : Island → Bool := fun i => mainIslands.contains i || (sc == Scope.full && i == .ao)
  if back (chanEnds n).1 && !drained then .orphan
  else if c = .stuck then (if back (chanEnds n).1 || back (chanEnds n).2 then .idle else .stuck) else c

/-- BOOT_LOST of the start that follows (R107): the entries waiting, where the reset drained and no loss of a supply since the
latest start has made the number unknown. -/
def State.lostNow (s : State) (drained : Bool) : Nat :=
  let fresh := !s.boot.firmware && s.boot.cause != 0
  if !drained || (fresh && s.boot.lost == 0xFFFF) then 0xFFFF else min s.waitingEntries 0xFFFE

/-- A main or full reset with a cause (R97 to R107) acts: what the islands held is lost, the straps are taken anew, the cause of
the next firmware start is kept. -/
def State.scopeReset (s : State) (sc : Scope) (cause : Nat) (drained : Bool) : State :=
  let fresh := !s.boot.firmware && s.boot.cause != 0
  let s1 : State := mainIslands.foldl State.loseIsland s.unstore
  let s2 : State := if sc = Scope.full then s1.loseIsland .ao else s1
  let s3 : State := (s2.inc 4 Reg.RESET_COUNT).restart mainIslands s2.boot.vcore
  let chans := (s3.isl.chans.zipIdx).map (fun p => chanAfter sc drained p.2 p.1)
  let stuck := (chans.zipIdx).foldl (fun a p => if p.1 = Chan.stuck then setBit a p.2 true else a) 0
  let s4 : State := if sc = Scope.full then s3.dropEls (fun a => decide (0x1F8100 ≤ a ∧ a < 0x1F8500))
    else s3.dropEls (fun a => s3.isl.acting.any (fun x => a == Reg.ISL_REQ (islNum x.1)))
  let s5 : State := { s4 with
    boot := { s4.boot with
      cause := if fresh then causeMerge s4.boot.cause cause else cause
      lost := s.lostNow drained
      pendingReset := none
      draining := none
      straps := false
      fullReset := sc == Scope.full
      rstoA := s4.boot.rstoA || sc == Scope.full
      rstoB := s4.boot.rstoB || sc == Scope.full }
    isl := { s4.isl with
      chans := chans, drains := [], held := [], acting := [], holds := [], lostState := [], faulted := [],
      retries := [] }
    tmp := { s4.tmp with holds := [], challengeAt := none, challenge := 0 }
    bk := { s4.bk with trickle := false, settings := false }
    port := { s4.port with i2cAddr := none } }
  ((s5.put Reg.CH_STUCK stuck).put Reg.FAC_STATE 0).wdSync s

/-- Main power is lost (R92, R53): every island but BK loses its supply and its state. -/
def State.mainLoss (s : State) : State :=
  let s1 : State := (mainIslands ++ [Island.ao]).foldl State.loseIsland s.unstore
  let s2 : State := s1.restart (mainIslands ++ [Island.ao]) false
  let s3 : State := s2.dropEls (fun a => decide (0x1F8100 ≤ a ∧ a < 0x1F8500))
  { s3 with
    port := { s3.port with i2cAddr := none }
    boot := { s3.boot with
      vdd5 := false
      vcore := false
      vaux := false
      lost := 0xFFFF
      pendingReset := none
      draining := none
      straps := false
      cause := 0x02
      fullReset := true }
    isl := { s3.isl with
      chans := List.replicate 20 .idle, drains := [], held := [], acting := [], holds := [],
      lostState := mainIslands ++ [Island.ao], faulted := [], retries := [] }
    rail := { State.reset.rail with outs := s3.outsAnew }
    bk := { s3.bk with trickle := false, settings := false } }

/-- A backup-scope reset (R129, R132, R138, R854): BK starts with its counters, ring and flags lost and counts from 0. -/
def State.backupReset (s : State) : State :=
  let s1 : State := ((s.loseIsland .bk).setIsl .bk islRun).put Reg.TIME_STATE 0
  (State.ageUnknown { s1 with boot := { s1.boot with cause := 0x01, fullReset := true } }).repairCheck

end Sys2Proof.Machine
end

