-- ==== Sys2Proof/Machine/Islands.lean ====
section
/-! DEFINITION. Islands and handshakes (chapter 02): channels, island states, drains, holds and island requests. -/
namespace Sys2Proof.Machine
open Host

/-- A channel set, with its bit of CH_STUCK. -/
def State.setChan (s : State) (n : Nat) (c : Chan) : State :=
  let t : State := { s with isl := { s.isl with chans := s.isl.chans.set n c } }
  t.put Reg.CH_STUCK (setBit (t.el Reg.CH_STUCK) n (c == Chan.stuck))

/-- The channels at a reset of an island: those it responds on that were STUCK are IDLE; those it requests on are in ORPHAN
when it lost its state without a drain, else out of STUCK (Table: Requester channel states, R850). -/
def State.resetChans (s : State) (i : Island) (lost : Bool) : State :=
  (List.range 20).foldl (fun t n =>
    if (chanEnds n).1 = i then (if lost then t.setChan n .orphan else if t.chan n = .stuck then t.setChan n .idle else t)
    else if (chanEnds n).2 = i ∧ t.chan n = .stuck then t.setChan n .idle else t) s

/-- An island with a per-island reset. -/
def hasReset (i : Island) : Bool := onDemand i || i == .nw

/-- An island starts: with its outbound channels in ORPHAN if it lost its state without a drain (R850). -/
def State.startIsl (s : State) (i : Island) : State :=
  let t : State := if s.isl.lostState.contains i then s.resetChans i true else s
  ({ t with isl := { t.isl with lostState := t.isl.lostState.erase i } }).setIsl i islStarting

/-- Any port is enabled. -/
def State.anyPort (s : State) : Bool := s.el Reg.PORT_EN % 8 != 0

/-- The island is held (R75). -/
def State.isHeld (s : State) (i : Island) : Bool := s.isl.holds.any (fun h => h.1 == i)

/-- A fine-stamping lease is held: a client's, or the reference lease while the device qualifies or follows pulses (R414). -/
def State.fineHeld (s : State) : Bool :=
  s.arb.bundles.any (fun b => b.holds && !b.fine.isEmpty) ||
  ((s.el Reg.REF_STATE == 1 || s.el Reg.REF_STATE == 2) && (s.el Reg.REF_ACTIVE == 1 || s.el Reg.REF_ACTIVE == 4))

/-- The instants that FB has to serve (R31): timer alarms, plan entries and the exchange, lease expiries and request timeouts,
shape instants, a pending step, the ends of hold-offs. -/
def State.instants (s : State) : List Nat :=
  (s.tmr.timers.filter (fun t => t.state == 1)).map (fun t => t.inst) ++ s.tmr.planTimers.map (fun p => p.due) ++
  (s.arb.bundles.filter Bundle.holds).map (fun b => b.inst) ++
  (s.arb.bundles.filter (fun b => b.waits && b.timeoutAt != 0)).map (fun b => b.timeoutAt) ++
  (s.arb.standing.filter (fun x => x.granted && x.ends != 0)).map (fun x => x.ends) ++
  s.stage.commits.map (fun c => c.shape) ++ (match s.tim.step with | some x => [x.at_] | none => []) ++
  (if s.el Reg.PLAN_PENDING = 1 ∧ s.tmr.loaded then [s.exchangeAt] else []) ++ s.dlv.groups.map (fun p => p.2)

/-- The earliest of them, which the wake comparator takes. -/
def State.earliestDue (s : State) : Option Nat :=
  s.instants.foldl (fun a t => match a with | some x => some (min x t) | none => some t) none

/-- An instant of FB is due within a time; with PPS_MODE 0x01 each whole second is one (R211). -/
def State.dueWithin (s : State) (d : Nat) : Bool :=
  s.instants.any (fun t => decide (t ≤ s.now + d)) || s.el Reg.PPS_MODE == 1

/-- A harvest, heater or charge loop is active, or a power-output lease is held. -/
def State.pwBusy (s : State) : Bool :=
  (s.el Reg.CHG_STATE != 0 && s.el Reg.CHG_STATE != 1) || s.el Reg.HTR_DUTY != 0 ||
  s.arb.bundles.any (fun b => b.holds && b.items.any (fun p => powerOrd p.1)) ||
  s.arb.standing.any (fun x => x.granted && powerOrd x.ord)

/-- The idle rule of an island (Table: Wake latency from GATED and idle stop, R594, R795, R853), as far as the state decides
it. -/
def State.mayIdle (s : State) (i : Island) : Bool :=
  !s.isHeld i &&
  match i with
  | .fb => !s.fineHeld && !s.dueWithin (2 * stSecond) && !s.evt.refAwake && !s.boot.wakeN && !s.ptpRuns &&
    s.exch.gathers.isEmpty
  | .cr => !s.boot.wakeN && s.boot.firmware
  | .pw => !s.pwBusy && s.rail.outs.all (fun x => x.state == 0)
  | .nw => !s.anyPort
  | .sc | .nv => true
  | _ => false

/-! ### Island requests (R83 to R88) -/

/-- The island-change record of R86: island, request, final status. -/
def State.islRecord (s : State) (i : Island) (req st : Nat) : State :=
  s.stationRecord 46 0x0C ((islNum i + 1) * 4096 + req * 256 + st) false

/-- A request completes: the record, and the element clears where it still shows that request (R86, R852). -/
def State.islDone (s : State) (i : Island) (req st : Nat) : State :=
  let t : State := { s with isl := { s.isl with acting := s.isl.acting.filter (fun x => x.1 != i) } }
  let a := Reg.ISL_REQ (islNum i)
  (if t.el a = req then t.put a 0 else t).islRecord i req st

/-- A request acts on the island. -/
def State.acts (s : State) (i : Island) : Bool := s.isl.acting.any (fun x => x.1 == i)

/-- A request begins to act on the island. -/
def State.beginActing (s : State) (i : Island) (req : Nat) : State :=
  { s with isl := { s.isl with acting := s.isl.acting.filter (fun x => x.1 != i) ++ [(i, req)] } }

/-- The CONFLICT conditions of Table: Island requests accepted. -/
def State.islConflict (s : State) (i : Island) : Bool :=
  (i == .fb && (s.fineHeld || s.dueWithin (2 * stSecond))) || (i == .pw && s.pwBusy)

/-- A drain starts (R58, R71); where FB stops AO takes over its interrupt lines (R445). -/
def State.startDrain (s : State) (i : Island) (d : DrainTo) : State :=
  let u : State := if i = .fb then s.holdHints else s
  let t : State := { u with isl := { u.isl with drains := u.isl.drains.filter (fun p => p.1 != i) ++ [(i, d)] } }
  t.setIsl i islDraining

/-- FB loads the wake comparator with the earliest instant pending (R31). -/
def State.loadComparator (s : State) : State := { s with isl := { s.isl with comparator := s.earliestDue } }

/-- What a drain leads to for a request code. -/
def drainFor (req : Nat) : DrainTo := if req = 2 then .reset else .gate

/-- A per-island reset of an island that has drained; `lost`: of one that had no drain (R850). -/
def State.resetIsl (s : State) (i : Island) (lost : Bool) : State :=
  ((s.loseIsland i).resetChans i lost).setIsl i islStarting

/-- A request acts on its island (R60, R80, R84, R86). A GATED island is reset, or found gated, at once: there is nothing to
drain; a request that finds the island starting, or draining for another reason, waits (log entry 77). FB drains for a gate
once AO has taken the load of its comparator; if that load is abandoned FB stays in RUN and the request ends with ABANDONED. -/
def State.actRequest (s : State) (i : Island) (req : Nat) : State :=
  if s.islConflict i then s.islDone i req 3
  else if s.isl_ i = islRun then
    if i = .fb then
      match s.crossing .ao 3 with
      | .serve => (s.loadComparator.beginActing i req).startDrain i .gate
      | _ => (s.inc 4 (Reg.CH_ABANDON 3)).islDone i req 5
    else (s.beginActing i req).startDrain i (drainFor req)
  else if s.isl_ i = islUnpowered then (if s.isl.faulted.contains i then s else s.islDone i req 5)
  else if s.isl_ i = islGated then
    if req = 2 then (s.resetIsl i false).beginActing i 2 else s.islDone i req 0
  else s

/-- A pending request of an island that nothing holds acts: written while the island starts, or drains for an idle stop, it
stands until the next RUN (log entry 77). -/
def State.actPending (s : State) (i : Island) : State :=
  let q := s.el (Reg.ISL_REQ (islNum i))
  if q = 0 ∨ s.isHeld i ∨ s.acts i then s else s.actRequest i q

/-- Every request that no hold delays acts. -/
def State.actAll (s : State) : State := mainIslands.foldl State.actPending s

/-- The island whose request element an address is. -/
def islOfReq (a : Nat) : Option Island :=
  if a = Reg.ISL_REQ 2 then some .fb else if a = Reg.ISL_REQ 4 then some .sc else if a = Reg.ISL_REQ 5 then some .nw
  else if a = Reg.ISL_REQ 6 then some .pw else if a = Reg.ISL_REQ 7 then some .nv else none

/-- The effect of a write to ISL_REQ (R76, R83 to R87); a request that nothing delays acts once its reply has been sent (R88).
A RESET of an island that is UNPOWERED after R56 waits for the reset of R852. -/
def State.islReq (s : State) (i : Island) (v : Nat) : State × Stat :=
  let a := Reg.ISL_REQ (islNum i)
  let q := s.el a
  if 2 < v ∨ (v = 1 ∧ i = .nw) ∨ (v = 2 ∧ i = .fb) then (s, .range 2 0)
  else if v = 0 then (if q ≠ 0 ∧ !s.acts i then s.put a 0 else s, .ok)
  else if s.islConflict i then (s, .conflict 3)
  else if s.acts i then
    if v = 2 ∧ q = 1 then
      let l := s.isl.drains.map (fun p => if p.1 = i then (p.1, DrainTo.reset) else p)
      ((State.put { s with isl := { s.isl with drains := l } } a 2).beginActing i 2, .ok)
    else (s, .ok)
  else if q ≠ 0 then (if v = 2 then s.put a 2 else s, .deferred)
  else if s.isHeld i then (s.put a v, .deferred)
  else if s.isl_ i = islUnpowered ∧ !(v = 2 ∧ s.isl.faulted.contains i) then (s.islDone i v 5, .abandoned 2)
  else (s.put a v, .ok)

/-- The write of a value of ISL_REQ, for the values a row stands for. -/
def State.islWrite (s : State) (cmd : Instr) (r : Req) (f : Nat → Bool) : State :=
  if (islOfReq r.addr).isSome && f (bodyNum r.body 4 1) then
    (s.ownWrite cmd r (fun a => a == r.addr) false (atOnce (fun t _ a v =>
      match islOfReq a with
      | some i => t.islReq i v
      | none => (t, .refused)))).actAll
  else s

/-- The scope and cause that act where a main or full reset is already draining: the widest, with its lowest code (R97, R98). -/
def State.widest (s : State) (sc : Scope) (cause : Nat) : Scope × Nat :=
  match s.boot.draining with
  | none => (sc, cause)
  | some x => (if x.1 = .full then .full else sc, causeMerge x.2 cause)

/-- A main or full reset that drains (R100): every main island in RUN drains, in parallel, and the reset acts when the last of
them has; with none in RUN it acts at once. -/
def State.startScope (s : State) (sc : Scope) (cause : Nat) : State :=
  let l := mainIslands.filter (fun i => s.runs i || s.isl_ i == islDraining)
  let x := s.widest sc cause
  if l.isEmpty then s.scopeReset x.1 x.2 true
  else
    let t : State := { s with
      boot := { s.boot with draining := some x, pendingReset := none }
      isl := { s.isl with holds := [] } }
    (l.foldl (fun u i => u.startDrain i .scope) t).wdSync s

/-- A reset asked for through DEV_RESET acts once no hold remains (R101); it drains the islands first (R100). -/
def State.pendingResetActs (s : State) : State :=
  if !s.isl.holds.isEmpty then s else
  match s.boot.pendingReset with
  | some .main => s.startScope .main 0x07
  | some .full => s.startScope .full 0x04
  | none => s

/-- A hold ends, and what waited for it acts (R77, R80, R101). -/
def State.endHold (s : State) (i : Island) : State :=
  let t : State := { s with isl := { s.isl with holds := s.isl.holds.filter (fun h => h.1 != i) } }
  (t.actPending i).pendingResetActs

/-- Every hold ends: CR leaves RUN (R81), or SC has lost its state, and the holds with it (log entry 78). -/
def State.endHolds (s : State) : State :=
  let t : State := { s with isl := { s.isl with holds := [] } }
  t.actAll.pendingResetActs

/-- CR drains: every hold ends at that moment (R81). -/
def State.drainCr (s : State) (d : DrainTo) : State := ((s.startDrain .cr d).endHolds).wdSync s

/-- The island that raises a request on a channel; CR holds those that cross no channel yet. -/
def requesterOf (ch : Nat) : Island := if ch = noChan then .cr else (chanEnds ch).1

/-- Requests that an island made and that no reply has reached: it leaves through a drain, and each completes with ABANDONED,
is counted, and its channel goes to ORPHAN (R73). -/
def State.leaveRequests (s : State) (i : Island) : State :=
  (s.isl.held.filter (fun h => h.ch != noChan && requesterOf h.ch == i && s.chan h.ch == Chan.idle)).foldl
    (fun t h => ((t.unhold h).inc 4 (Reg.CH_ABANDON h.ch)).setChan h.ch .orphan) s

/-- An island lost its state without a drain: the requests it made are lost, those made to it run into their timeout, as its
acknowledge is clamped low (R69, R850); the gathers that waited for FB's strobe with them. -/
def State.cutOff (s : State) (i : Island) : State :=
  let hit := s.isl.held.filter (fun h => h.isl == some i && requesterOf h.ch != i && s.chan h.ch == Chan.idle)
  let t := s.dropHeld (fun h => requesterOf h.ch == i)
  let u := hit.foldl (fun x h => (x.abandon h 1).setChan h.ch .orphan) t
  if i = .fb then
    u.exch.gathers.foldl (fun x g => ((x.inc 4 (Reg.CH_ABANDON 8)).endProgress g.req.cid).finish g.req 3 .q (.abandoned 1) [])
      { u with exch := { u.exch with gathers := [] } }
  else u

/-- The requests queued for an island, and the depth of its queue (Table: Inbound queue depths). -/
def queueDepth : Island → Nat
  | .fb => 32 | .cr => 16 | .sc => 16 | .nw => 16 | .pw => 8 | .nv => 16 | .ao => 4 | .bk => 2
def State.waitsFor (s : State) (i : Island) : List Held := s.isl.held.filter (fun h => h.isl == some i)

/-- A request that stands on a channel when its timer runs out: one that found the queue full, else the oldest (R61, R70). What
the keeper has not begun, after the signal that its hold ends, stands on none (R79). -/
def State.victim (s : State) (ch : Nat) : Option Held :=
  let f : List Held → Option Held := fun l =>
    l.find? (fun h => h.ch == ch && match h.isl with | some i => !s.signalled i ch | none => false)
  match f ((s.waitsFor (chanEnds ch).2).drop (queueDepth (chanEnds ch).2)) with
  | some h => some h
  | none => f (s.isl.held.filter (fun h => h.isl.isSome))

/-- NW still has frames to send: its drain is not complete (R88). -/
def State.nwHolds (s : State) : Bool := !s.port.canTx.isEmpty || !s.port.canWait.isEmpty || !s.port.hostOut.isEmpty

/-- Every outbound channel of a draining island is in IDLE, STUCK or ORPHAN, and its queue is empty (step 5 of Table: Drain
sequence); PW runs on while an output is not OFF (R594). -/
def State.drained (s : State) (i : Island) : Bool :=
  !s.isl.held.any (fun h => h.ch != noChan && requesterOf h.ch == i && s.chan h.ch == Chan.idle) &&
  !(i == .nw && s.nwHolds) && !(i == .pw && s.rail.outs.any (fun x => x.state != 0))

/-- PW stops in NIGHT: AO takes the thresholds that it wakes PW at (R581). -/
def State.loadNight (s : State) : State :=
  match (if s.el Reg.CHG_STATE = 1 then s.profile else none) with
  | none => s
  | some p =>
    let l := (s.pwr.vsys + 1000, s.level Reg.BAT_LOW_MV p.low * p.cells, s.level Reg.BAT_CUT_MV p.cut * p.cells)
    { s with pwr := { s.pwr with night := some l } }

/-- A drain ends: the island goes where the drain leads (Table: Drain sequence, R71, R73, R86, R100). -/
def State.drainDone (s : State) (i : Island) : State :=
  match s.isl.drains.find? (fun p => p.1 == i) with
  | none => s
  | some p =>
    let t := s.leaveRequests i
    let s1 : State := { t with isl := { t.isl with drains := t.isl.drains.filter (fun q => q.1 != i) } }
    match p.2 with
    | .gate =>
      let s2 := s1.setIsl i islGated
      let s3 : State := if i = .fb then s2.fbStops else if i = .pw then s2.loadNight else s2
      if s3.acts i then s3.islDone i 1 0 else s3
    | .reset =>
      let lost := if i = .cr then s1.lostNow true else s1.boot.lost
      let s2 := (State.dropHeld { s1 with boot := { s1.boot with lost := lost } } (fun h => requesterOf h.ch == i)).resetIsl i false
      if i = .sc then s2.endHolds else s2
    | .powerDown => (s1.loseIsland i).setIsl i islUnpowered
    | .scope =>
      match s1.boot.draining with
      | some (sc, cause) => if s1.isl.drains.any (fun q => q.2 == .scope) then s1 else s1.scopeReset sc cause true
      | none => s1

/-- FB is back: with the firmware running the plans are loaded if FB lost them (R382, R123), and a pass is run. -/
def State.fbBack (s : State) : State :=
  if s.boot.firmware then (if s.full ∧ !s.tmr.loaded then s.planLoad else s).pass else s

/-! ### Meanings: island states -/

/-- The five codes of ISL_STATE (Table: Island states and their encodings). -/
def legalCode (c : Nat) : Bool := c == islUnpowered || c == islGated || c == islStarting || c == islRun || c == islDraining

/-- A state register and its shadow, as a wrapper finds them, are sound: a legal code, and the shadow its inverse (R55, R56). -/
def soundCodes (code shadow : Nat) : Bool := legalCode code && shadow == 255 - code

/-- ILLEGAL_STATE_ENCODING (R55 to R57): a wrapper finds a register and its shadow. Sound ones are no fault. Else source 10 with
the island; an island other than BK and AO counts as UNPOWERED until its reset, CR's holds end. BK and AO rewrite their
registers, and the source releases. -/
def execIllegalStateEncoding (i : Island) (code shadow : Nat) (s : State) : Outcome State Fault Refusal :=
  if !s.mainPower ∨ soundCodes code shadow then .next s
  else if hasReset i then
    let u : State := if i = .fb then s.holdHints else s
    let s1 : State := { u with isl := { u.isl with
      lostState := u.isl.lostState.erase i ++ [i], faulted := u.isl.faulted.erase i ++ [i],
      drains := u.isl.drains.filter (fun p => p.1 != i) } }
    let s2 := (s1.setIsl i islUnpowered).tamperOn 10 (islNum i + 1)
    .next ((if i = .cr then s2.endHolds else s2).wdSync s)
  else .next ((s.tamperOn 10 (islNum i + 1)).tamperOff 10)

/-- The holds that a loss of an island's supply or state ends: its own, every one where CR leaves or SC loses them (R81, R852). -/
def State.holdsLost (s : State) (i : Island) : State :=
  if i = .cr ∨ i = .sc then s.endHolds else if s.isHeld i then s.endHold i else s

/-- FB's state is lost, and with it every lease: PW turns the outputs off (R34, R53, R104). -/
def State.leasesGone (s : State) (i : Island) : State := if i = .fb then s.settleWoken else s

/-- ISLAND_SELF_RESET (R852): the reset after an encoding fault, as a failure of the supply and a start. It satisfies a pending
RESET; its record follows in RUN. BOOT_LOST after a reset of CR that did not drain counts what was waiting (log entry 79). -/
def execIslandSelfReset (i : Island) (s : State) : Outcome State Fault Refusal :=
  if !hasReset i ∨ s.isl_ i ≠ islUnpowered ∨ !s.isl.faulted.contains i ∨ !s.boot.vcore then .next s
  else
    let s1 := ((((s.cutOff i).loseIsland i).resetChans i true).startIsl i).beginActing i 2
    let s2 : State := { s1 with isl := { s1.isl with faulted := s1.isl.faulted.erase i } }
    let s3 : State := if i = .cr then
        { s2 with boot := { s2.boot with cause := 0x0B, lost := min s.waitingEntries 0xFFFE } }
      else s2
    .next ((((s3.holdsLost i).leasesGone i).tamperOff 10).wdSync s)

/-- ISLAND_WAKE (R59, R68): a request of the device itself reaches a GATED island on a channel and wakes it; it is held. -/
def execIslandWake (i : Island) (ch : Fin 20) (s : State) : Outcome State Fault Refusal :=
  if s.isl_ i ≠ islGated ∨ !onDemand i ∨ (chanEnds ch).2 ≠ i then .next s
  else .next ((s.wakeIsl i).hold ⟨some i, ch.val, none, 0, none⟩)

/-- ISLAND_IDLE_STOP (R58, R60, R81, R853): the idle rule is met. FB first loads the wake comparator; if that load is abandoned
(`loaded` false) it stays in RUN. -/
def execIslandIdleStop (i : Island) (loaded : Bool) (s : State) : Outcome State Fault Refusal :=
  if s.isl_ i ≠ islRun ∨ !s.mayIdle i then .next s
  else if i = .fb then
    if loaded then .next ((s.loadComparator.startDrain i .gate).wdSync s) else .next (s.inc 4 (Reg.CH_ABANDON 3))
  else if i = .cr then .next ((s.drainCr .gate).wdSync s)
  else .next ((s.startDrain i .gate).wdSync s)

/-- ISLAND_SUPPLY_FAIL (R69, R86, R850): UNPOWERED at once, its state and its outbound requests lost; an acting request
completes with ABANDONED. -/
def execIslandSupplyFail (i : Island) (s : State) : Outcome State Fault Refusal :=
  if !hasReset i ∨ s.isl_ i = islUnpowered then .next s
  else
    let s1 := ((s.cutOff i).loseIsland i).setIsl i islUnpowered
    let s2 : State := { s1 with isl := { s1.isl with
      drains := s1.isl.drains.filter (fun p => p.1 != i), lostState := s1.isl.lostState.erase i ++ [i] } }
    let s3 : State := match s2.isl.acting.find? (fun x => x.1 == i) with
      | some x => s2.islDone i x.2 5
      | none => s2
    .next (((s3.holdsLost i).leasesGone i).wdSync s)

/-- ISL_REQ_GATE (R83 to R86): a write of GATE, or of a value that ISL_REQ does not take. -/
def execIslReqGate (r : Req) (s : State) : Outcome State Fault Refusal :=
  .next (s.islWrite (.islReqGate r) r (fun v => v != 0 && v != 2))

/-- ISL_REQ_RESET (R83 to R88). -/
def execIslReqReset (r : Req) (s : State) : Outcome State Fault Refusal := .next (s.islWrite (.islReqReset r) r (fun v => v == 2))

/-- ISL_REQ_WITHDRAW (R87). -/
def execIslReqWithdraw (r : Req) (s : State) : Outcome State Fault Refusal := .next (s.islWrite (.islReqWithdraw r) r (fun v => v == 0))

/-- ISLAND_HOLD_TAKE (R75, R78): at most 10 s, by the keeper, on an island without a pending request. -/
def execIslandHoldTake (i : Island) (ms : Nat) (s : State) : Outcome State Fault Refusal :=
  let may : Bool := i == .sc || i == .fb || i == .nw || i == .pw || i == .nv
  if !may ∨ !s.runs .cr ∨ !s.boot.firmware ∨ ms = 0 ∨ 10000 < ms ∨ s.el (Reg.ISL_REQ (islNum i)) ≠ 0 then .next s
  else
    let l := s.isl.holds.filter (fun h => h.1 != i) ++ [(i, s.now + stMs ms, false)]
    .next { s with isl := { s.isl with holds := l } }

/-- HOLD_EXPIRY_SIGNAL (R79): 250 ms before a hold's end the keeper is told. -/
def execHoldExpirySignal (i : Island) (s : State) : Outcome State Fault Refusal :=
  match s.isl.holds.find? (fun h => h.1 == i) with
  | some h =>
    let s1 := s.reach (h.2.1 - stMs 250)
    let l := s1.isl.holds.map (fun x => if x.1 = i then (x.1, x.2.1, true) else x)
    .next { s1 with isl := { s1.isl with holds := l } }
  | none => .next s

/-- WAKE_COMPARATOR_WAKE (R31): AO wakes FB over CH02 when BK reaches the whole second that lies one second before the instant that FB
loaded when it stopped. -/
def execWakeComparatorWake (s : State) : Outcome State Fault Refusal :=
  if !s.mainPower ∨ s.isl_ .fb ≠ islGated then .next s else
  match s.isl.comparator with
  | none => .next s
  | some e =>
    let t := s.reach ((e / stSecond - 1) * stSecond)
    .next (t.over 2 (fun u => State.setIsl { u with isl := { u.isl with comparator := none } } .fb islStarting))

end Sys2Proof.Machine
end

