-- ==== Sys2Proof/Machine/Firmware.lean ====
section
/-! DEFINITION. The firmware images (chapter 21): loading, activation, confirmation, the anti-rollback floor, the choice of the
value set, and the boot ROM's choice of the image (R116 to R120). -/
namespace Sys2Proof.Machine
open Host

/-! ### Slots and images -/

/-- What slot A, 0, or B, 1, holds. -/
def State.imageOf (s : State) (i : Nat) : ImageSlot := if i = 0 then s.fw.slotA else s.fw.slotB

def State.setImage (s : State) (i : Nat) (x : ImageSlot) : State :=
  { s with fw := if i = 0 then { s.fw with slotA := x } else { s.fw with slotB := x } }

/-- The header in a slot, if it has one. -/
def State.hdrOf (s : State) (i : Nat) : Option Image := (s.imageOf i).hdr

/-- The running image's slot: 0 A, 1 B; none under the recovery loader. -/
def State.running (s : State) : Option Nat :=
  if s.el Reg.BOOT_SLOT = 1 then some 0 else if s.el Reg.BOOT_SLOT = 2 then some 1 else none

/-- The running image's header. -/
def State.runningImage (s : State) : Option Image := match s.running with | some i => s.hdrOf i | none => none

/-- The header that the first 64 bytes of block 0 spell (Table: Image header). -/
def parseHeader (b : Bytes) : Image :=
  { layout := bodyNum b 0 4 == 0x4D4C4E46 && bodyNum b 4 1 == 1 && bodyNum b 5 3 == 0 && bodyNum b 36 28 == 0,
    len := bodyNum b 8 4, version := bodyNum b 12 4, security := bodyNum b 16 2, stepLo := bodyNum b 18 1,
    stepHi := bodyNum b 19 1, features := bodyNum b 20 4, capability := bodyNum b 24 4, twinMin := bodyNum b 28 4,
    schema := bodyNum b 32 2, migrates := bodyNum b 34 2 }

/-- Layout-sound (R733). -/
def Image.sound (h : Image) : Bool :=
  h.layout && decide (128 ≤ h.len ∧ h.len ≤ 782336) && decide (h.stepLo ≤ h.stepHi) && decide (h.security ≤ 64) &&
  decide (h.migrates ≤ h.schema)

/-- The compatibility record admits this silicon (R119, R734). -/
def State.compatible (s : State) (h : Image) : Bool :=
  let st := s.el Reg.FW_STEPPING
  decide (h.stepLo ≤ st ∧ st ≤ h.stepHi) && h.features &&& s.el Reg.FW_FEATURES == h.features

/-- The blocks an image of length L has (R738). -/
def Image.blocks (h : Image) : Nat := (h.len + 511) / 512

/-- Block n of a slot: as it was stored last, or as delivered. -/
def ImageSlot.block (x : ImageSlot) (n : Nat) : Bytes :=
  match x.blocks.find? (fun p => p.1 == n) with | some p => p.2 | none => Config.deliveredBlock n

/-- The bytes of a slot's image. -/
def ImageSlot.bytes (x : ImageSlot) (h : Image) : Bytes := ((List.range h.blocks).flatMap x.block).take h.len

/-- The digest of an image: SHA-256 over header bytes 0 to 63 and bytes 128 to L − 1 (R734). -/
def imageDigest (b : Bytes) : Bytes := Config.sha256 (b.take 64 ++ b.drop 128)

/-- A slot's image verifies: its signature, header bytes 64 to 127, under K1 or K2 (R734). -/
def State.verifies (s : State) (i : Nat) (h : Image) : Bool :=
  let b := (s.imageOf i).bytes h
  let d := imageDigest b
  s.rootVerifies 1 d (bodyNum b 64 32) (bodyNum b 96 32) || s.rootVerifies 2 d (bodyNum b 64 32) (bodyNum b 96 32)

/-- A record of source 57 (R747). -/
def State.fwRecord (s : State) (kind detail : Nat) : State := s.stationRecord 57 kind detail true

/-! ### The boot ROM (R116 to R120) -/

/-- The slot the boot ROM tries next: BOOT_PREF's, then the other. -/
def State.bootTry (s : State) : Nat :=
  let pref := if s.el Reg.BOOT_PREF = 2 then 1 else 0
  if s.boot.tries = 0 then pref else 1 - pref

/-- The slot holds an image that may start: its state stands for a usable image, its header is sound, its security version
reaches the floor, in trial state it has starts left, and it verifies (R116, R118, R734, R735; log entry 18). -/
def State.mayStart (s : State) (i : Nat) : Bool :=
  let st := s.slotState i
  (st == slConfirmed || ((st == slVerified || st == slTrial) && decide (s.slotTrials i < 3))) &&
  !s.rep.badSlots.contains i &&
  match s.hdrOf i with
  | some h => h.sound && decide (s.el Reg.FW_FLOOR ≤ h.security) && s.verifies i h
  | none => false

/-- The boot ROM's choice: which image starts, in which service mode. -/
def State.chooseImage (s : State) (slot mode : Nat) : State :=
  let s1 := (s.put Reg.BOOT_SLOT slot).put Reg.SERVICE_MODE mode
  { s1 with boot := { s1.boot with chosen := true } }

/-- BOOT_SLOT_TRY (R117 to R120): one slot is tried. After both the recovery loader starts. -/
def execBootSlotTry (s : State) : Outcome State Fault Refusal :=
  if !s.runs .cr ∨ s.boot.firmware ∨ s.boot.chosen then .next s else
  let i := s.bootTry
  match s.hdrOf i with
  | some h =>
    if s.mayStart i then
      let trial := s.slotState i != slConfirmed
      let s1 := if trial then s.setSlotTrials i (s.slotTrials i + 1) else s
      .next ((s1.chooseImage (i + 1) (if s1.compatible h then 0 else 1)).wdSync s)
    else if s.boot.tries = 0 then .next { s with boot := { s.boot with tries := 1 } }
    else .next ((s.chooseImage 3 2).wdSync s)
  | none =>
    if s.boot.tries = 0 then .next { s with boot := { s.boot with tries := 1 } }
    else .next ((s.chooseImage 3 2).wdSync s)

/-! ### Value sets (R726, R744 to R746) -/

/-- An element that is configuration: persistent, its write class not keeper (R726). -/
def isConfig (a : Nat) : Bool := match rowOf a with | some r => r.persist && r.wr != .k | none => false

def State.setOf (s : State) (x : Nat) : ValueSet := if x = 1 then s.fw.setA else s.fw.setB
def State.putSet (s : State) (x : Nat) (v : ValueSet) : State :=
  { s with fw := if x = 1 then { s.fw with setA := v } else { s.fw with setB := v } }

/-- The dictionary's configuration goes back into the set it belongs to. -/
def State.saveSet (s : State) : State :=
  if s.fw.active = 0 then s
  else
    let v := s.setOf s.fw.active
    s.putSet s.fw.active { v with values := s.dict.filter (fun p => isConfig p.1), bankA := s.tmr.bankA, bankB := s.tmr.bankB }

/-- The configuration of a set, none for every default, becomes the dictionary's. -/
def State.loadSet (s : State) (x : Nat) : State :=
  let v := if x = 0 then ⟨0, [], [], []⟩ else s.setOf x
  let t : State := (s.dropEls isConfig).putAll v.values
  { t with
    fw := { t.fw with active := x }
    tmr := { t.tmr with bankA := v.bankA, bankB := v.bankB } }

/-- The row of Table: Choice of value set for an image of schema n that migrates from m on, in slot set x: 0 for the first
row, else the entry's kind. -/
def State.setChoice (s : State) (x n m : Nat) : Nat :=
  let last := s.fw.lastSet
  let have_ := (s.setOf last).schema
  if last = x ∧ have_ = n then 0
  else if last ≠ x ∧ have_ = n then 2
  else if m ≤ have_ ∧ have_ < n then 1
  else if (s.setOf x).schema = n then 3
  else 4

/-- The entry of a choice (R746) and its record (R747). -/
def State.setEntry (s : State) (x from_ into kind : Nat) : State :=
  (s.logKeeper 0x17 [payload10 (numToBytes 1 x ++ numToBytes 2 from_ ++ numToBytes 2 into ++ numToBytes 1 kind)] .nothing).fwRecord
    7 kind

/-- The set is complete and last in use (R745). -/
def State.useSet (s : State) (x n : Nat) : State :=
  let t := s.putSet x { s.setOf x with schema := n }
  { t with fw := { t.fw with lastSet := x } }

/-- The choice of R744, made on the set that was last in use. A migration keeps every value (log entry 19). Where the
persistent region takes no writes, a copy or migration fails and the image runs on defaults in reduced service. -/
def State.chooseSet (s0 : State) (x : Nat) (h : Image) : State :=
  let s := s0.saveSet
  let last := s.fw.lastSet
  let was := (s.setOf last).schema
  let k := s.setChoice x h.schema h.migrates
  if k = 0 then s.loadSet x
  else if k = 3 then ((s.useSet x h.schema).loadSet x).setEntry x was h.schema 3
  else if k = 4 then
    let t : State := (s.putSet x ⟨h.schema, [], [], []⟩).useSet x h.schema
    ((t.loadSet x).put Reg.SERVICE_MODE 1).setEntry x was h.schema 4
  else if s.isReadOnly 11 then ((s.loadSet 0).put Reg.SERVICE_MODE 1)
  else (((s.putSet x (s.setOf last)).useSet x h.schema).loadSet x).setEntry x was h.schema k

/-! ### The anti-rollback floor (R731) -/

/-- A pending advance is completed: fuses are blown up to the version. -/
def State.advanceFloor (s : State) : State :=
  match s.fw.pendingFloor with
  | none => s
  | some v =>
    let old := s.el Reg.FW_FLOOR
    let s1 : State := { s with fw := { s.fw with pendingFloor := none } }
    if old < v then
      ((s1.put Reg.FW_FLOOR v).logKeeper 0x16 [payload10 (numToBytes 1 old ++ numToBytes 1 v)] .nothing).fwRecord 6 v
    else s1

/-- The other slot is BELOW_FLOOR if it holds an image whose version lies below the floor (R742; log entry 18). -/
def State.lowerOther (s : State) (i : Nat) : State :=
  let o := 1 - i
  match s.hdrOf o with
  | some h => if slVerified ≤ s.slotState o ∧ h.security < s.el Reg.FW_FLOOR then s.setSlotState o slBelow else s
  | none => s

/-- The running image is confirmed (R742). -/
def State.confirm (s : State) (i : Nat) (h : Image) (cid : Option Nat) : State :=
  let p := [payload10 (numToBytes 1 (i + 1) ++ numToBytes 4 h.version ++ numToBytes 2 h.security)]
  let s1 := s.setSlotState i slConfirmed
  let s2 := match cid with | some c => s1.logStation 0x14 c p .nothing | none => s1.logKeeper 0x14 p .nothing
  let s3 := s2.fwRecord 4 (i + 1)
  let s4 : State := if s3.el Reg.FW_FLOOR < h.security then { s3 with fw := { s3.fw with pendingFloor := some h.security } } else s3
  s4.advanceFloor.lowerOther i

/-! ### What a start of the firmware does with its image (R731, R743, R744) -/

/-- The image starts while BOOT_PREF names the other slot (R743). -/
def State.trialReject (s : State) (i : Nat) : State :=
  if s.el Reg.BOOT_PREF = i + 1 then s
  else
    let o := 1 - i
    let n := s.slotTrials o
    let s1 := if s.slotState o = slTrial then (s.setSlotState o slRejected).setSlotTrials o 3 else s
    ((s1.put Reg.BOOT_PREF (i + 1)).logKeeper 0x15 [payload10 (numToBytes 1 (o + 1) ++ numToBytes 1 n)] .nothing).fwRecord 5
      (o + 1)

/-- Elements lost to an uncorrectable error take their defaults at a start (Table: Effects of ECC_LOST, 0x0B). -/
def State.restoreLost (s : State) : State :=
  let l := s.rep.lostEls
  let t : State := { s with rep := { s.rep with lostEls := [] } }
  l.foldl (fun t a => (t.dropEls (fun x => x == a)).repairEvent 0x12 11 0) t

/-- The start of an image or of the recovery loader, before anything else is restored. -/
def State.startImage (s : State) : State :=
  match s.running with
  | none => s.restoreLost
  | some i =>
    match s.hdrOf i with
    | none => s.restoreLost
    | some h =>
      let s1 := ((s.advanceFloor.trialReject i).chooseSet (i + 1) h).restoreLost
      let s2 := s1.put Reg.SCHEMA_VER h.schema
      { s2 with fw := { s2.fw with since := if s2.full then some s2.now else none } }

/-! ### IMAGE (R736 to R741) -/

/-- The slot byte, the block number, the length and the data of an IMAGE. -/
def imSlot (r : Req) : Nat := bodyNum r.body 0 1
def imBlock (r : Req) : Nat := bodyNum r.body 1 2
def imLen (r : Req) : Nat := bodyNum r.body 3 2
def imData (r : Req) : Bytes := r.body.drop 5
def imFormed (r : Req) : Bool :=
  decide (6 ≤ r.body.length) && r.body.length == 5 + imLen r && decide (1 ≤ imLen r ∧ imLen r ≤ 512)

/-- The slot, the block and a control operation's byte are among those of R736. -/
def imInRange (r : Req) : Bool :=
  (imSlot r == 1 || imSlot r == 2) &&
  (decide (imBlock r ≤ 1527) || (decide (0xFFF0 ≤ imBlock r ∧ imBlock r ≤ 0xFFF4) && imLen r == 1 &&
    (if imBlock r = 0xFFF3 then decide (bodyNum r.body 5 1 ≤ 1) else bodyNum r.body 5 1 == 0)))

/-- A block that IMAGE stores, and no control operation (R736). -/
def imIsBlock (r : Req) : Bool := decide (imBlock r < 0xFFF0)

/-- An IMAGE of one kind of block, by the command `cmd` (R258, R736): the session takes the time of its owner's request (R739), the
effect takes the client and the slot, 0 A, 1 B, and `after` follows an answer of OK. A block write that CH11 abandons is
repeated by the firmware (R90); a control operation is not. -/
def State.imageWay (s : State) (cmd : Instr) (r : Req) (mine : Nat → Bool) (eff : State → Nat → Nat → State × Stat)
    (after : State → State) : State :=
  if !mine (imBlock r) then s else
  match s.accept r 0x0D .c false false false with
  | .done t => t
  | .wait t i ch w => t.holdRequest cmd r i ch w
  | .go t w =>
    if !t.isSa w then t.finish r 0x0D .c .refused []
    else if !imFormed r then t.finish r 0x0D .c (.range 1 0) []
    else if !imInRange r then t.finish r 0x0D .c (.range 2 0) []
    else
      t.into .nv 11 cmd r.cid (some w)
        (fun u st => if imIsBlock r then u.retryLater r 0x0D else u.finish r 0x0D .c st [])
        (fun u =>
          let owner := u.sessSlot != 0 && u.sessOwner == r.cid
          let t1 := if owner then u.put Reg.FW_SESSION (setField (u.el Reg.FW_SESSION) 0 64 u.now) else u
          let e := eff t1 r.cid (imSlot r - 1)
          if e.2.code = 0 then after (e.1.finish r 0x0D .c e.2 []) else e.1.finish r 0x0D .c e.2 [])

/-- The session is the client's, for the slot. -/
def State.ownsSession (s : State) (c i : Nat) : Bool := s.sessSlot == i + 1 && s.sessOwner == c

/-- BEGIN (R737). -/
def State.imageBegin (s : State) (c i : Nat) : State × Stat :=
  if s.running = some i ∨ (s.sessSlot ≠ 0 ∧ s.sessOwner ≠ c) then (s, .conflict 3)
  else if s.isReadOnly (8 + i) then (s, .exhausted 2)
  else if s.sealed 0 then (s, .sealed)
  else
    let s1 := ((s.endSession false).setSlotState i slWriting).setImage i ⟨none, []⟩
    let s2 : State := { s1 with rep := { s1.rep with badSlots := s1.rep.badSlots.erase i } }
    let s3 := s2.put Reg.FW_SESSION ((i + 1) * 2 ^ 120 + c * 2 ^ 96 + s2.now)
    (s3.logStation 0x10 c [payload10 (numToBytes 1 (i + 1) ++ numToBytes 2 c)] .nothing, .ok)

/-- The length that block n of an image must have (R738). -/
def Image.blockLen (h : Image) (n : Nat) : Nat := if n + 1 = h.blocks ∧ n ≠ 0 then h.len - 512 * n else 512

/-- A data block (R738). -/
def State.imageData (s : State) (c i n : Nat) (d : Bytes) : State × Stat :=
  let x := s.imageOf i
  if !s.ownsSession c i then (s, .conflict 3)
  else if s.isReadOnly (8 + i) then (s, .exhausted 2)
  else
    let hdr := if n = 0 then some (parseHeader d) else x.hdr
    match hdr with
    | none => (s, .conflict 3)
    | some h =>
      if n ≠ 0 ∧ h.blocks ≤ n ∨ d.length ≠ h.blockLen n then (s, .range 2 0)
      else
        let l := x.blocks.filter (fun p => p.1 != n) ++ [(n, d)]
        let s1 := ((s.setImage i ⟨some h, l⟩).programmed (8 + i) (n / 8)).cycle
        let v := setField (setField (s1.el Reg.FW_SESSION) 80 16 h.blocks) 64 16 l.length
        (s1.put Reg.FW_SESSION v, .ok)

/-- Every block of the image is stored. -/
def ImageSlot.complete (x : ImageSlot) : Bool :=
  match x.hdr with
  | some h => (List.range (min h.blocks 1528)).all (fun n => x.blocks.any (fun p => p.1 == n)) && decide (h.blocks ≤ 1528)
  | none => false

/-- FINISH fails: the slot is INVALID, an entry and a record say so (R740). -/
def State.imageRefused (s : State) (c i : Nat) (st : Stat) : State × Stat :=
  let p := [payload10 (numToBytes 1 (i + 1) ++ numToBytes 1 st.code ++ numToBytes 1 st.detail)]
  (((s.endSession false).logStation 0x12 c p .nothing).fwRecord 2 (st.code * 256 + (i + 1)), st)

/-- FINISH (R740). -/
def State.imageFinish (s : State) (c i : Nat) : State × Stat :=
  if !s.ownsSession c i ∨ !(s.imageOf i).complete then (s, .conflict 3)
  else if s.sealed 0 then (s, .sealed)
  else match s.hdrOf i with
    | none => (s, .conflict 3)
    | some h =>
      if 64 < h.security then s.imageRefused c i (.exhausted 4)
      else if !h.sound ∨ !s.verifies i h ∨ s.rep.badSlots.contains i ∨ h.security < s.el Reg.FW_FLOOR then
        s.imageRefused c i (.conflict 3)
      else
        let ok := if s.compatible h then 1 else 0
        let info := slVerified * 2 ^ 184 + ok * 2 ^ 168 + h.version * 2 ^ 128 + h.security * 2 ^ 112 + h.schema * 2 ^ 96 +
          h.capability * 2 ^ 64 + s.now
        let s1 := (s.endSession true).put (Reg.FW_SLOT_INFO i) info
        let p := [payload10 (numToBytes 1 (i + 1) ++ numToBytes 4 h.version ++ numToBytes 2 h.security ++
          numToBytes 2 h.schema ++ numToBytes 1 ok)]
        ((s1.logStation 0x11 c p .nothing).fwRecord 1 (i + 1), .ok)

/-- ABORT (R739). -/
def State.imageAbort (s : State) (c i : Nat) : State × Stat :=
  if s.ownsSession c i then (s.endSession false, .ok) else (s, .conflict 3)

/-- ACTIVATE, but for the reset of CR (R741). -/
def State.imageActivate (s : State) (c i : Nat) (force : Bool) : State × Stat :=
  let st := s.slotState i
  match s.hdrOf i with
  | none => (s, .conflict 3)
  | some h =>
    if s.running = some i ∨ !(st == slVerified || st == slConfirmed) then (s, .conflict 3)
    else if !force ∧ (!s.slotCompat i ∨ s.setChoice (i + 1) h.schema h.migrates = 4) then (s, .conflict 3)
    else if s.sealed 0 then (s, .sealed)
    else
      let p := [payload10 (numToBytes 1 (i + 1) ++ numToBytes 1 (if force then 1 else 0) ++ numToBytes 4 h.version)]
      let s1 := (s.logStation 0x13 c p .nothing).fwRecord 3 (i + 1)
      let s2 := if st = slVerified then (s1.setSlotState i slTrial).setSlotTrials i 0 else s1
      (s2.put Reg.BOOT_PREF (i + 1), .ok)

/-- CONFIRM (R742): in any service mode. -/
def State.imageConfirm (s : State) (c : Nat) : State × Stat :=
  match s.running with
  | none => (s, .conflict 3)
  | some k =>
    match s.hdrOf k with
    | none => (s, .conflict 3)
    | some h =>
      if s.slotState k ≠ slTrial then (s, .conflict 3)
      else if s.sealed 0 then (s, .sealed)
      else (s.confirm k h (some c), .ok)

/-- IMAGE_BEGIN (R737). -/
def execImageBegin (r : Req) (s : State) : Outcome State Fault Refusal :=
  .next (s.imageWay (.imageBegin r) r (fun b => b == 0xFFF0) (fun t c i => t.imageBegin c i) id)

/-- IMAGE_DATA (R738), and every block number that IMAGE does not have (R736). -/
def execImageData (r : Req) (s : State) : Outcome State Fault Refusal :=
  .next (s.imageWay (.imageData r) r (fun b => decide (b < 0xFFF0 ∨ 0xFFF4 < b))
    (fun t c i => t.imageData c i (imBlock r) (imData r)) id)

/-- IMAGE_FINISH (R740). -/
def execImageFinish (r : Req) (s : State) : Outcome State Fault Refusal :=
  .next (s.imageWay (.imageFinish r) r (fun b => b == 0xFFF1) (fun t c i => t.imageFinish c i) id)

/-- IMAGE_ABORT (R739). -/
def execImageAbort (r : Req) (s : State) : Outcome State Fault Refusal :=
  .next (s.imageWay (.imageAbort r) r (fun b => b == 0xFFF2) (fun t c i => t.imageAbort c i) id)

/-- After the reply to ACTIVATE CR is reset with cause 0x0A, under its drain (R74, R741). -/
def State.activated (s : State) : State :=
  State.drainCr { s with boot := { s.boot with cause := 0x0A } } .reset

/-- IMAGE_ACTIVATE (R741). -/
def execImageActivate (r : Req) (s : State) : Outcome State Fault Refusal :=
  .next ((s.imageWay (.imageActivate r) r (fun b => b == 0xFFF3) (fun t c i => t.imageActivate c i (bodyNum r.body 5 1 == 1))
    State.activated).wdSync s)

/-- IMAGE_CONFIRM (R742). -/
def execImageConfirm (r : Req) (s : State) : Outcome State Fault Refusal :=
  .next (s.imageWay (.imageConfirm r) r (fun b => b == 0xFFF4) (fun t c _ => t.imageConfirm c) id)

/-- FW_AUTO_CONFIRM (R742, R748): the running trial image has run FW_TRIAL_S in full service. -/
def execFwAutoConfirm (s : State) : Outcome State Fault Refusal :=
  if !s.runs .cr ∨ !s.boot.firmware ∨ !s.full ∨ s.sealed 0 then .next s else
  match s.running, s.fw.since with
  | some k, some t0 =>
    match s.hdrOf k with
    | some h =>
      if s.slotState k = slTrial then
        .next ((s.reach (t0 + s.el Reg.FW_TRIAL_S * stSecond)).confirm k h none)
      else .next s
    | none => .next s
  | _, _ => .next s

/-- FW_SESSION_TIMEOUT (R739): 3,600 s with no IMAGE from the owner. -/
def execFwSessionTimeout (s : State) : Outcome State Fault Refusal :=
  if s.sessSlot = 0 ∨ !s.runs .cr then .next s else
  .next ((s.reach (field (s.el Reg.FW_SESSION) 0 64 + 3600 * stSecond)).endSession false)

end Sys2Proof.Machine
end

