-- ==== Sys2Proof/Machine/Flags.lean ====
section
/-! DEFINITION. Every flag computation of the spec that is made from the state: ST_QUAL, the flags of calendar records, the
UTC view and the calendar (chapter 06), TMP_HOLDING, the reset outputs. -/
namespace Sys2Proof.Machine
open Host

/-! ### The leap table and the UTC view (R217, R218) -/

/-- The entries in force: instant and TAI−UTC from it. -/
def State.leapTable (s : State) : List (Nat × Int) :=
  (List.range (min (s.el Reg.LEAP_COUNT) 48)).map (fun i =>
    let v := s.el (Reg.LEAP_ENTRY i)
    (v / 65536, signed 16 v))

/-- TAI−UTC at a station time (R217). -/
def State.taiUtc (s : State) (t : Nat) : Int :=
  s.leapTable.foldl (fun a p => if p.1 ≤ t then p.2 else a) 32

/-- The station time lies in the second before an entry that raises TAI−UTC by 1 s (R218). -/
def State.inLeapSecond (s : State) (t : Nat) : Bool :=
  s.leapTable.any (fun p => decide (t < p.1 ∧ p.1 ≤ t + stSecond) && p.2 == s.taiUtc t + 1)

/-- The UTC view: whole UTC seconds since 2000-01-01, and whether the second is shown as 60 of the minute that ends at it. -/
def State.utcView (s : State) (t : Nat) : Int × Bool :=
  let u : Int := (t / stSecond : Nat) - s.taiUtc t
  if s.inLeapSecond t then (u - 1, true) else (u, false)

/-! ### The calendar (R224, R225) -/

/-- Year, month, day of a count of days since 2000-01-01 in the proleptic Gregorian calendar. -/
def civil (d : Int) : Int × Int × Int :=
  let z := d + 730425
  let era := z / 146097
  let doe := z - era * 146097
  let yoe := (doe - doe / 1460 + doe / 36524 - doe / 146096) / 365
  let doy := doe - (365 * yoe + yoe / 4 - yoe / 100)
  let mp := (5 * doy + 2) / 153
  let m := if mp < 10 then mp + 3 else mp - 9
  (yoe + era * 400 + (if m ≤ 2 then 1 else 0), m, doy - (153 * mp + 2) / 5 + 1)

/-- The count of days since 2000-01-01 of a date. -/
def days (y m d : Int) : Int :=
  let y1 := if m ≤ 2 then y - 1 else y
  let era := y1 / 400
  let yoe := y1 - era * 400
  let doy := (153 * (if 2 < m then m - 3 else m + 9) + 2) / 5 + d - 1
  era * 146097 + yoe * 365 + yoe / 4 - yoe / 100 + doy - 730425

/-- TABLE_EXPIRED (R221). -/
def State.tableExpired (s : State) (t : Nat) : Bool := decide (s.el Reg.LEAP_EXPIRES ≤ t)

/-- TIME_STATE reads UNSET. -/
def State.unset (s : State) : Bool := s.el Reg.TIME_STATE == 0

/-- The flags of a calendar record. -/
def State.calFlags (s : State) (t : Nat) : Nat :=
  (if s.clk.loaded then 0 else 1) + (if s.unset then 2 else 0) + (if s.tableExpired t then 4 else 0)

/-- A calendar record of a station time at an offset in quarter hours (Table: Calendar record). -/
def State.calendar (s : State) (t : Nat) (ofs : Int) : Bytes :=
  let v := s.utcView t
  let x := v.1 + ofs * 900
  let d := x / 86400
  let r := x - d * 86400
  let c := civil d
  let sec := if v.2 then 60 else r % 60
  let n : Int → Nat := Int.toNat
  numToBytes 2 (n c.1) ++ numToBytes 1 (n c.2.1) ++ numToBytes 1 (n c.2.2) ++ numToBytes 1 (n (r / 3600)) ++
  numToBytes 1 (n (r / 60 % 60)) ++ numToBytes 1 (n sec) ++ numToBytes 1 (n ((d + 5) % 7 + 1)) ++
  numToBytes 4 (t % stSecond) ++ numToBytes 1 (unsigned 8 ofs) ++ numToBytes 1 (s.calFlags t) ++
  numToBytes 2 (n (d - days c.1 1 1 + 1))

/-! ### ST_QUAL (Table: ST_QUAL bit map) -/

/-- LEAP_PENDING: an entry's instant lies within the next 2,678,400 s. -/
def State.leapPending (s : State) (t : Nat) : Bool :=
  s.leapTable.any (fun p => decide (t < p.1 ∧ p.1 ≤ t + 2678400 * stSecond))

/-- REF_STATE, REF_ACTIVE and HOLD_UNC as they read: on the follower of a pair the leader's state, the twin's class, and the
leader's uncertainty plus 1 µs (R762). -/
def State.refShown (s : State) : Nat := if s.twin.follow then s.twin.leadState else s.el Reg.REF_STATE
def State.activeShown (s : State) : Nat := if s.twin.follow then 5 else s.el Reg.REF_ACTIVE
def State.holdShown (s : State) : Nat :=
  if s.twin.follow then min (s.twin.leadUnc + 1) (2 ^ 32 - 1) else s.el Reg.HOLD_UNC

def State.stQual (s : State) : Nat :=
  let b : Bool → Nat → Nat := fun x n => if x then n else 0
  b (!s.clk.loaded) 1 + b s.unset 2 + b (s.el Reg.SLEW_REM != 0 || s.el Reg.OUTAGE_CORR != 0) 4 +
  b s.tim.step.isSome 8 + b (s.leapPending s.now) 16 + b (s.tableExpired s.now) 32 +
  b (s.refShown == 3) 64 + b (s.refShown == 2) 128 + b s.tim.rangeEnd 256

/-! ### Tamper holds and reset outputs -/

/-- TMP_HOLDING. -/
def State.tmpHolding (s : State) : Nat :=
  (if s.locked then 1 else 0) + s.hostsHeld * 2 + (if s.shedMask != 0 then 8 else 0)

end Sys2Proof.Machine
end

