-- ==== Sys2Proof/Machine/Time.lean ====
section
/-! DEFINITION. Station time (chapter 06): slews, step requests, the end of range; what a step does to the objects of other
chapters stands in Steps.lean. -/
namespace Sys2Proof.Machine
open Host

/-- A station record of source 45 (Table: Fixed sources). -/
def State.refRecord (s : State) (kind : Nat) : State := s.stationRecord 45 kind 0 false

/-- LEAP_DISAGREE (R223): with the port in SLAVE and a valid offset, an event where they differ, once per change of either value. -/
def State.leapCheck (s : State) : State :=
  match s.osc.gmUtc with
  | none => s
  | some o =>
    let tai := s.taiUtc s.now
    if s.el Reg.PTP_STATE ≠ 9 ∨ s.osc.leapSeen = some (o, tai) then s
    else
      let t : State := { s with osc := { s.osc with leapSeen := some (o, tai) } }
      if o = tai then t else t.refRecord 2

/-! ### UTC labels (R222) -/

/-- TAI−UTC at a count of UTC seconds: the latest entry's that applies there. -/
def State.taiOfUtc (s : State) (u : Nat) : Int :=
  s.leapTable.foldl (fun a p => if ((p.1 / stSecond : Nat) : Int) - p.2 ≤ u then p.2 else a) 32

/-- The station time of a label: UTC minutes since 2000-01-01 and the second. A second 60 stands only where an entry raises TAI−UTC
at the end of that minute. -/
def State.labelTime (s : State) (minute sec : Nat) : Option Nat :=
  let u := minute * 60 + sec
  if sec < 60 then some (((u : Int) + s.taiOfUtc u).toNat * stSecond)
  else if sec = 60 then
    (s.leapTable.find? (fun p => ((p.1 / stSecond : Nat) : Int) - p.2 == (u : Int) && p.2 == s.taiUtc (p.1 - 1) + 1)).map
      (fun p => p.1 - stSecond)
  else none

/-! ### Slew (R227 to R229) -/

/-- The bound of SLEW_REM, in ns. -/
abbrev slewMax : Int := 1000000000000

/-- An amount is added to SLEW_REM; the slew term follows it (R227, R228). -/
def State.slewMore (s : State) (ns : Int) : State :=
  let r := s.elS 8 Reg.SLEW_REM
  let keep := decide (0 < r ∧ 0 < r + ns) || decide (r < 0 ∧ r + ns < 0)
  let t : State := { s with osc := { s.osc with slewPart := if keep then s.osc.slewPart else 0 } }
  (t.putS 8 Reg.SLEW_REM (r + ns)).steer

/-- The device adds to SLEW_REM of itself, as far as its 64 bits go: R227 bounds the writes of SLEW_ADD alone (R195). -/
def State.slewBy (s : State) (ns : Int) : State := s.slewMore (clampS 8 (s.elS 8 Reg.SLEW_REM + ns) - s.elS 8 Reg.SLEW_REM)

/-- The device's own reference is LOCKED; REF_STATE reads LOCKED. -/
def State.ownLocked (s : State) : Bool := s.el Reg.REF_STATE == 2
def State.refLocked (s : State) : Bool := s.refShown == 2

/-- The half of a pair that follows the other's time (R762). -/
def State.follows (s : State) : Bool := s.twin.follow

/-- The effect of a write to SLEW_ADD (R227, R231, R762). -/
def State.slewAdd (s : State) (v : Nat) : State × Stat :=
  let x := signed 64 v
  let sum := s.elS 8 Reg.SLEW_REM + x
  if x ≠ 0 ∧ (s.refLocked ∨ s.follows) then (s, .conflict 3)
  else if sum < -slewMax ∨ slewMax < sum then (s, .range 2 0)
  else (s.slewMore x, .ok)

/-! ### Steps: the request (R232 to R238) -/

/-- One 1/64 s in units of station time. -/
abbrev st64 : Nat := 2 ^ 22

/-- The first 1/64 s boundary strictly after t, or at least d after it. -/
def nextBoundary (t : Nat) : Nat := (t / st64 + 1) * st64
def boundaryFrom (t : Nat) : Nat := (t + st64 - 1) / st64 * st64

/-- The pair is in JOINED or DISCORD: a step acts on both halves (R766). -/
def State.twinTied (s : State) : Bool := s.el Reg.TWIN_STATE == 3 || s.el Reg.TWIN_STATE == 4

/-- The application instant of a step accepted now (R234; R766 in JOINED and DISCORD). -/
def State.stepInstant (s : State) : Nat :=
  if s.tim.rangeEnd then s.now
  else if s.twinTied then boundaryFrom (s.now + stMsUp 10)
  else nextBoundary s.now

/-- An instant lies in the crossed interval of a step of Δ at a (R236). -/
def crosses (a : Nat) (d : Int) (t : Nat) : Bool :=
  if 0 ≤ d then decide (a < t) && decide ((t : Int) ≤ a + d) else decide ((a : Int) + d ≤ t) && decide (t < a)

/-- The instants that block a step that is not forced (R236): the grants and the ends of the leases held, standing ones too, and
the shape instants. -/
def State.blockers (s : State) (a : Nat) (d : Int) : List Nat :=
  (((s.arb.bundles.filter Bundle.holds).map (fun b => b.inst)) ++
    ((s.arb.bundles.filter Bundle.holds).map (fun b => b.grantAt)) ++
    ((s.arb.standing.filter (fun x => x.granted)).map (fun x => x.grantAt)) ++
    ((s.arb.standing.filter (fun x => x.granted && x.ends != 0)).map (fun x => x.ends)) ++
    s.stage.commits.map (fun c => c.shape)).filter (crosses a d)

/-- The earliest of a list of instants. -/
def earliest : List Nat → Option Nat
  | [] => none
  | t :: l => match earliest l with
    | none => some t
    | some u => some (min t u)

/-- The step would leave the range of station time (R233). -/
def stepRangeBad (a : Nat) (d : Int) : Bool := decide ((a : Int) + d < 0) || decide ((stMax : Int) < a + d)

/-- A STEP frame carries a request to the peer: Δ, a, forced, and whether this half's own check passed (R766). -/
def State.sendStep (s : State) (d : Int) (a : Nat) (forced ok : Bool) : State :=
  let n : Bool → Nat := fun b => if b then 1 else 0
  if s.twin.key.isSome then
    State.emit { s with twin := { s.twin with tx := (s.twin.tx + 1) % 2 ^ 32 } }
      (.frame "TWIN STEP" [s.twin.tx, unsigned 64 d, a, n forced, n ok])
  else s

/-- A step request of Δ (R231, R233 to R238), SEALED before a conflict (log entry 92); in JOINED and DISCORD it goes to the peer too, which answers with the earliest
instant that blocks it there, if one does (R766). -/
def State.requestStep (s0 : State) (d : Int) (forced set : Bool) (cid : Nat) (keeper : Bool) (peer : Option Nat) :
    State × Stat :=
  let a := s0.stepInstant
  let tied := s0.twinTied
  if !keeper ∧ s0.refLocked then (s0, .conflict 3)
  else if s0.tim.step.isSome then (s0, .conflict 2)
  else if (set ∧ d = 0) ∨ stepRangeBad a d ∨ (s0.tim.rangeEnd ∧ 0 < d) then (s0, .range 2 0)
  else if s0.sealed 0 then (s0, .sealed)
  else
    let own := if forced ∨ s0.unset then none else earliest (s0.blockers a d)
    let s := if tied then s0.sendStep d a forced own.isNone else s0
    match earliest (own.toList ++ if tied ∧ !forced then peer.toList else []) with
    | some b => (s.put Reg.STEP_BLOCK b, .conflict 2)
    | none => ({ s with tim := { s.tim with step := some ⟨d, forced, a, cid, keeper, tied⟩ } }, .ok)

/-- The effect of a write to TIME_STEP or TIME_STEP_F (R232, R235). -/
def State.timeStep (s : State) (w : Who) (v : Nat) (forced : Bool) (peer : Option Nat) : State × Stat :=
  if v = 0 then ({ s with tim := { s.tim with step := none } }, .ok)
  else s.requestStep (signed 64 v) forced false w.cid false peer

/-- The effect of a write to TIME_SET (R232): Δ against the station time at which the write reaches FB. -/
def State.timeSet (s : State) (w : Who) (v : Nat) (peer : Option Nat) : State × Stat :=
  s.requestStep ((v : Int) - (s.now : Int)) false true w.cid false peer

/-! ### Meanings -/

/-- SLEW_ADD_WRITE (R227). -/
def execSlewAddWrite (r : Req) (s : State) : Outcome State Fault Refusal :=
  .next (s.ownWrite (.slewAddWrite r) r (fun a => a == Reg.SLEW_ADD) false (atOnce (fun t _ _ v => t.slewAdd v)))

/-- The station time at which an amount in ns is slewed, from the present on. -/
def State.slewEnd (s : State) (x : Rat) : Nat :=
  s.now + (absRat x * 1000000 / (s.el Reg.SLEW_PPM : Rat) * 2 ^ 28 / 1000000000 * (1 + s.rate)).ceil.toNat

/-- SLEW_COMPLETE (R228, R229): the outage correction reaches 0, or SLEW_REM after it; the slew term ends. -/
def execSlewComplete (s : State) : Outcome State Fault Refusal :=
  if !s.runs .fb ∨ !s.clk.loaded then .next s
  else if s.el Reg.OUTAGE_CORR ≠ 0 then .next ((s.reach (s.slewEnd s.corrLeft)).setCorr 0).steer
  else .next ((s.reach (s.slewEnd s.slewLeft)).setSlew 0).steer

/-- TIME_STEP_WRITE (R232); `peer`: the earliest instant that blocks it on the other half (R766). -/
def execTimeStepWrite (r : Req) (peer : Option Nat) (s : State) : Outcome State Fault Refusal :=
  .next (s.ownWrite (.timeStepWrite r peer) r (fun a => a == Reg.TIME_STEP && bodyNum r.body 4 8 != 0) false
    (atOnce (fun t w _ v => t.timeStep w v false peer)))

/-- TIME_STEP_F_WRITE (R232, R238, R239). -/
def execTimeStepFWrite (r : Req) (peer : Option Nat) (s : State) : Outcome State Fault Refusal :=
  .next (s.ownWrite (.timeStepFWrite r peer) r (fun a => a == Reg.TIME_STEP_F && bodyNum r.body 4 8 != 0) false
    (atOnce (fun t w _ v => t.timeStep w v true peer)))

/-- TIME_SET_WRITE (R232, R233). -/
def execTimeSetWrite (r : Req) (peer : Option Nat) (s : State) : Outcome State Fault Refusal :=
  .next (s.ownWrite (.timeSetWrite r peer) r (fun a => a == Reg.TIME_SET) false (atOnce (fun t w _ v => t.timeSet w v peer)))

/-- STEP_WITHDRAW (R235): a write of 0 to TIME_STEP or TIME_STEP_F. -/
def execStepWithdraw (r : Req) (s : State) : Outcome State Fault Refusal :=
  .next (s.ownWrite (.stepWithdraw r) r (fun a => (a == Reg.TIME_STEP || a == Reg.TIME_STEP_F) && bodyNum r.body 4 8 == 0) false
    (atOnce (fun t w _ v => t.timeStep w v false none)))

/-- RANGE_END_REACHED (R216): station time holds its greatest value; the event. -/
def execRangeEndReached (s : State) : Outcome State Fault Refusal :=
  if !s.runs .fb ∨ s.tim.rangeEnd then .next s else
  let s1 := s.setTime stMax
  .next ({ s1 with tim := { s1.tim with rangeEnd := true } }.refRecord 5)

/-- LEAP_TABLE_EXPIRED (R221): station time reaches LEAP_EXPIRES; TABLE_EXPIRED is shown from then on. -/
def execLeapTableExpired (s : State) : Outcome State Fault Refusal :=
  .next (s.reach (s.el Reg.LEAP_EXPIRES))

end Sys2Proof.Machine
end

