-- ==== Sys2Proof/Machine/Power.lean ====
section
/-! DEFINITION. Harvest, battery and heater (chapter 15): the charger, loops L5 to L7, the state of charge, the hours. -/
namespace Sys2Proof.Machine
open Host

/-- A station record of source 49 to T0, T1 and T2 (R583). -/
def State.powerRecord (s : State) (kind detail : Nat) : State := s.powerEvent 49 kind detail

abbrev chgOff : Nat := 0
abbrev chgNight : Nat := 1
abbrev chgCold : Nat := 2
abbrev chgHot : Nat := 3
abbrev chgPre : Nat := 4
abbrev chgBulk : Nat := 5
abbrev chgAbsorb : Nat := 6
abbrev chgFloat : Nat := 7
abbrev chgRest : Nat := 8
abbrev chgFault : Nat := 9

def State.chg (s : State) : Nat := s.el Reg.CHG_STATE

/-- Converter and heater may run: main power, and PW in RUN, loaded by the firmware (R29, R553). -/
def State.pwLoaded (s : State) : Bool := s.mainPower && s.runs .pw && s.pwr.loaded

/-- The states in which the converter runs (Table: Charge states). -/
def convState (c : Nat) : Bool := decide (chgCold ≤ c ∧ c ≤ chgRest)

/-- The states that charge the battery. -/
def chargeState (c : Nat) : Bool := decide (chgPre ≤ c ∧ c ≤ chgFloat)

/-! ### The converter (R552, R555, R556) -/

/-- A stop of the converter under R552 or R556: S6 is in force over L5 (R693). -/
def State.stopConverter (s : State) : State :=
  let t : State := { s with pwr := { s.pwr with on := false, follow := false } }
  (((t.ruleShown 6 true).safety 5 [6])).reshow 5 false false

/-- The converter may switch at VIN and VSYS: 5 V to 62 V, VIN above VSYS by 1.0 V, below 60 V after a stop above 62 V. -/
def State.mayConvert (s : State) (vin vsys : Nat) : Bool :=
  convState s.chg && s.pwLoaded && decide (5000 ≤ vin ∧ vin ≤ 62000 ∧ vsys + 1000 ≤ vin) &&
  (!s.pwr.high || decide (vin < 60000))

/-- The average current limit in mA (R555). -/
def State.avgLimit (s : State) : Nat :=
  min (min (s.el Reg.CHG_IMAX) s.pwr.l7) (50000000 / max (s.el Reg.CSH_UOHM) 1)

/-- VIN and VSYS as read: VIN_MV, BAT_V, and the monitors 0 and 1 (R684). -/
def State.readVin (s : State) (vin : Nat) : State :=
  let t : State := { s with pwr := { s.pwr with vin := vin } }
  (t.put Reg.VIN_MV (min vin 65535)).put (Reg.VMON_MV 0) (min vin (2 ^ 32 - 1))
def State.readVsys (s : State) (vsys : Nat) : State :=
  let t : State := { s with pwr := { s.pwr with vsys := vsys } }
  (t.put Reg.BAT_V vsys).put (Reg.VMON_MV 1) (min vsys (2 ^ 32 - 1))
def State.readBus (s : State) (vin vsys : Nat) : State := (s.readVin vin).readVsys vsys

/-! ### The charge state machine (R562) -/

/-- The charger enters a state, with its records (R583). The converter stops where the state stops it. -/
def State.chgGo (s : State) (c cause : Nat) : State :=
  let old := s.chg
  if old = c then s else
  let t := (((s.put Reg.CHG_STATE c).put Reg.CHG_FAULT (if c = chgFault then cause else 0))).powerRecord 1 (old * 256 + c)
  let u := if c = chgFault then t.powerRecord 2 cause else t
  let v : State := if convState c then u else { u with pwr := { u.pwr with on := false, follow := false } }
  let w : State := if c = chgOff then v.put Reg.HTR_DUTY 0 else v
  if c = chgFault then { w with pwr := { w.pwr with dark := false } } else w

/-- T_lo and T_hi in force. -/
def State.tLo (s : State) : Int := match s.profile with | some p => s.tLevel Reg.CHG_T_LO p.tLo | none => 0
def State.tHi (s : State) : Int := match s.profile with | some p => s.tLevel Reg.CHG_T_HI p.tHi | none => 0

/-- A lead-acid voltage per cell at the battery's temperature (R560). -/
def State.compensated (s : State) (mv : Nat) : Nat :=
  if s.lead then ((mv : Int) - 3 * (clampInt s.batTemp 0 5000 - 2500) / 100).toNat else mv

/-- CV, float and recharge voltages per cell in force. -/
def State.cvMv (s : State) : Nat := match s.profile with | some p => s.compensated (s.level Reg.CV_MV p.cv) | none => 0
def State.floatMv (s : State) : Nat := match s.profile with | some p => s.compensated (s.level Reg.FLOAT_MV p.flt) | none => 0
def State.rechMv (s : State) : Nat := match s.profile with | some p => s.level Reg.RECH_MV p.rech | none => 0
def State.preMv (s : State) : Nat := match s.profile with | some p => p.pre | none => 0

/-- "Evaluate" (R562). -/
def State.evaluateChg (s : State) : Nat :=
  if s.batTemp < s.tLo then chgCold
  else if s.tHi < s.batTemp then chgHot
  else if s.cellMv < s.preMv then chgPre
  else if 980 ≤ s.el Reg.SOC ∧ s.rechMv < s.cellMv then (if s.lead then chgFloat else chgRest)
  else chgBulk

/-- The charger is evaluated from a FAULT or a stop. -/
def State.evaluate (s : State) : State := s.chgGo s.evaluateChg 0

/-- The charger is switched off or has no profile. -/
def State.chgDisabled (s : State) : Bool := s.profile.isNone || s.el Reg.CHG_EN == 0

/-- The row of Table: Charge transitions that applies first, its times having passed: the state after it. `ibat` in mA,
positive while charging; `longAbsorb`: ABSORB_MAX has passed in ABSORB. -/
def State.chgStep (s : State) (ntcFault : Bool) (ibat : Int) (longAbsorb : Bool) : State :=
  let c := s.chg
  let vin := s.pwr.vin
  let vsys := s.pwr.vsys
  let t := s.batTemp
  let cap : Int := s.el Reg.BAT_CAP_AH
  let above : Bool := match s.profile with | some p => decide (p.above * p.cells < vsys) | none => false
  if s.chgDisabled then s.chgGo chgOff 0
  else if c ≠ chgOff ∧ c ≠ chgFault ∧ above then s.stopConverter.chgGo chgFault 1
  else if c ≠ chgOff ∧ c ≠ chgFault ∧ ntcFault ∧ !s.lead then s.chgGo chgFault 2
  else if c ≠ chgOff ∧ c ≠ chgFault ∧ 62000 < vin then s.stopConverter.chgGo chgFault 4
  else if s.pwr.fresh then { s with pwr := { s.pwr with fresh := false } }.evaluate
  else if c = chgFault then
    let cause := s.el Reg.CHG_FAULT
    if (cause = 1 ∧ !above) ∨ (cause = 2 ∧ (!ntcFault || s.lead)) ∨ (cause = 4 ∧ vin < 60000) then s.evaluate
    else if cause = 3 ∧ !s.pwr.dark ∧ vin < vsys + 500 then { s with pwr := { s.pwr with dark := true } }
    else if cause = 3 ∧ s.pwr.dark ∧ vsys + 1000 < vin ∧ s.pwr.tries < 3 then
      ({ s with pwr := { s.pwr with tries := s.pwr.tries + 1, dark := false } }).evaluate
    else s
  else if convState c ∧ c ≠ chgRest ∧ vin < vsys + 500 then s.chgGo chgNight 0
  else if (c = chgNight ∨ c = chgOff) then (if vsys + 1000 < vin then s.evaluate else s)
  else if (chargeState c ∨ c = chgRest) ∧ t < s.tLo then s.chgGo chgCold 0
  else if (chargeState c ∨ c = chgRest) ∧ s.tHi < t then s.chgGo chgHot 0
  else if c = chgCold then (if s.tLo + 100 ≤ t then s.evaluate else s)
  else if c = chgHot then (if t ≤ s.tHi - 200 then s.evaluate else s)
  else if c = chgPre then
    if s.preMv + 100 ≤ s.cellMv then ({ s with pwr := { s.pwr with tries := 0 } }).chgGo chgBulk 0 else s
  else if c = chgBulk then
    (match s.profile with
    | some p => if s.cvMv * p.cells ≤ vsys then s.chgGo chgAbsorb 0 else s
    | none => s)
  else if c = chgAbsorb then
    if ibat < 20 * cap ∨ longAbsorb then s.chgGo (if s.lead then chgFloat else chgRest) 0 else s
  else if s.cellMv < s.rechMv then s.chgGo chgBulk 0
  else s

/-- A thermistor fault, found or by a reading outside −60 °C to +100 °C. -/
def ntcBad (temp : Int) (ntcFault : Bool) : Bool := ntcFault || decide (temp < -6000) || decide (10000 < temp)

/-- The thermistor's reading: BAT_T, or unknown on a fault (R561). -/
def State.readTemp (s : State) (temp : Int) (ntcFault : Bool) : State :=
  if ntcBad temp ntcFault then s.put Reg.BAT_T 0x7FFF else s.putS 2 Reg.BAT_T temp

/-- CHARGE_TRANSITION (R562): a condition of the table has held for its time, with the readings of that instant. -/
def execChargeTransition (vin vsys : Nat) (temp : Int) (ntcFault : Bool) (ibat : Int) (longAbsorb : Bool) (s : State) :
    Outcome State Fault Refusal :=
  if !s.pwLoaded then .next s else
  .next ((((s.readBus vin vsys).readTemp temp ntcFault).putS 4 Reg.BAT_I ibat).chgStep (ntcBad temp ntcFault) ibat longAbsorb)

/-- VIN_OVERVOLTAGE (R552, R562): above 62 V the converter stops; the charger enters FAULT with cause 0x04. -/
def execVinOvervoltage (vin : Nat) (s : State) : Outcome State Fault Refusal :=
  if !s.pwLoaded ∨ vin ≤ 62000 then .next s else
  let t := s.readVin vin
  let u : State := { t with pwr := { t.pwr with high := true } }
  if u.chg = chgOff then .next u
  else if u.chg = chgFault then .next u.stopConverter
  else .next (u.stopConverter.chgGo chgFault 4)

/-- VSYS_OVERVOLTAGE (R556): the converter stops, FAULT with cause 0x01. -/
def execVsysOvervoltage (vsys : Nat) (s : State) : Outcome State Fault Refusal :=
  match s.profile with
  | none => .next s
  | some p =>
    if !s.pwLoaded ∨ vsys ≤ p.above * p.cells ∨ s.chg = chgOff then .next s else
    let u := s.readVsys vsys
    if u.chg = chgFault then .next u.stopConverter else .next (u.stopConverter.chgGo chgFault 1)

/-- CONVERTER_VIN_LOW_STOP (R552): VIN below VSYS + 0.5 V. -/
def execConverterVinLowStop (vin vsys : Nat) (s : State) : Outcome State Fault Refusal :=
  if !s.pwLoaded ∨ vsys + 500 ≤ vin then .next s else
  let t := s.readBus vin vsys
  if t.pwr.on then .next t.stopConverter else .next t

/-- PRECHARGE_TIMEOUT (R562). -/
def execPrechargeTimeout (s : State) : Outcome State Fault Refusal :=
  if s.pwLoaded ∧ s.chg = chgPre then .next (s.chgGo chgFault 3) else .next s

/-- The effect of a write to CHG_CLEAR (R562). -/
def State.chgClear (s : State) (v : Nat) : State × Stat :=
  if v ≠ 1 then (s, .range 2 0)
  else if s.chg = chgFault ∧ s.el Reg.CHG_FAULT = 3 then
    (({ s with pwr := { s.pwr with tries := 0 } }).evaluate, .ok)
  else (s, .ok)

/-- CHG_CLEAR_WRITE (R562). -/
def execChgClearWrite (r : Req) (s : State) : Outcome State Fault Refusal :=
  .next (s.ownWrite (.chgClearWrite r) r (fun a => a == Reg.CHG_CLEAR) false (atOnce (fun t _ _ v => t.chgClear v)))

/-! ### Loop L5 (R569 to R571) -/

/-- V_ref held in L5's window: H 5–60 V and the fences MPPT_VMIN, MPPT_VMAX. -/
def State.l5Window (s : State) : Int × Int :=
  loopWindow (5000, 60000) (5000, 60000)
    (if s.pwr.loaded then ((s.el Reg.MPPT_VMIN : Int), (s.el Reg.MPPT_VMAX : Int)) else (5000, 60000))

/-- S6 ends once the converter runs again. -/
def State.converterRuns (s : State) : State :=
  if s.pwr.on then s
  else
    let t : State := { s with pwr := { s.pwr with on := true, high := false } }
    (t.ruleShown 6 false).safety 5 []

/-- The current limit in force in mA: that of R555, and in PRECHARGE 0.05 C (Table: Charge states). -/
def State.curLimit (s : State) : Nat :=
  if s.chg = chgPre then min s.avgLimit (50 * s.el Reg.BAT_CAP_AH) else s.avgLimit

/-- L5_EVALUATE (R555, R569): every 50 ms, with VIN, VSYS and the charger current; `full`: a voltage is reached, or the battery
current is zero where it has to be, and the heater can take no more. At the current limit L5 follows demand too. -/
def execL5Evaluate (vin vsys ichg : Nat) (full : Bool) (s : State) : Outcome State Fault Refusal :=
  if !s.runs .pw then .next s else
  let s0 := s.readBus vin vsys
  let s1 := s0.put Reg.PV_MW (if s0.pwr.on then min (vsys * ichg / 1000) (2 ^ 32 - 1) else 0)
  if s1.loopHolds 5 then .next (s1.reshow 5 false false)
  else if !convState s1.chg then .next (s1.showLoop 5 true false s1.pwr.vRef s1.pwr.vRef)
  else if !s1.pwr.on ∧ !s1.mayConvert vin vsys then .next (s1.reshow 5 false false)
  else
    let s2 := s1.converterRuns
    let limited := full || decide (s2.curLimit ≤ ichg)
    let p := vsys * ichg / 1000
    let w := s2.l5Window
    let step : Int := (vin / 200 : Nat)
    let turn := !limited && decide (p < s2.pwr.pLast)
    let up := if turn then !s2.pwr.up else s2.pwr.up
    let want : Int := if limited then min ((s2.pwr.vRef : Int) + step) (s2.el Reg.MPPT_VMAX : Nat)
      else if up then (s2.pwr.vRef : Int) + step else (s2.pwr.vRef : Int) - step
    let v := (clampInt want w.1 w.2).toNat
    let s3 := if turn then s2.put Reg.VMPP_MV (min s2.pwr.vRefLast 65535) else s2
    let s4 : State := { s3 with pwr :=
      { s3.pwr with vRef := v, vRefLast := s2.pwr.vRef, pLast := p, up := up, follow := limited } }
    .next (s4.showLoop 5 false limited v want)

/-- MPPT_SWEEP (R570, R571): V_oc and the best point of the ramp, in mV. FENCED when it lies at a fence. -/
def execMpptSweep (voc best : Nat) (s : State) : Outcome State Fault Refusal :=
  if !s.pwLoaded ∨ !s.pwr.on ∨ s.pwr.follow ∨ s.loopHolds 5 then .next s else
  let w := s.l5Window
  let v := (clampInt (min best (voc * 19 / 20) : Nat) w.1 w.2).toNat
  let hit := v == s.el Reg.MPPT_VMIN || v == s.el Reg.MPPT_VMAX
  let was := s.lehr.fenced.contains 5
  let t : State := { s with pwr := { s.pwr with vRef := v, vRefLast := v, pLast := 0 } }
  let u := (t.put Reg.VMPP_MV (min v 65535)).fence 5 hit false
  let x := if hit && !was then u.powerRecord 3 5 else u
  .next (x.showLoop 5 false false v best)

/-! ### Loop L6 (R572, R573) and the charge counted (R574) -/

/-- One step of SOC in mA·s × 100: a thousandth of the capacity. -/
def State.socStep (s : State) : Int := (s.el Reg.BAT_CAP_AH : Int) * 3600 * 100

/-- Charge of q mA·s is counted into SOC, at the efficiency of the chemistry while it charges (R574). -/
def State.countCharge (s : State) (q : Int) : State :=
  let eff : Int := if s.lead then 90 else 99
  let x := s.pwr.charge + (if 0 ≤ q then q * eff else q * 100)
  let n := if s.socStep = 0 then 0 else x / s.socStep
  let t : State := { s with pwr := { s.pwr with charge := x - n * s.socStep } }
  t.put Reg.SOC (clampInt ((s.el Reg.SOC : Int) + n) 0 1000).toNat

/-- S5: no heater under CUT or a thermistor fault (R693). -/
def State.s5 (s : State) : Bool := s.el Reg.BAT_ALARM == 2 || (s.chg == chgFault && s.el Reg.CHG_FAULT == 2)

/-- The duty L6 wants, from the mean battery current in mA (procedure of L6). -/
def State.l6Want (s : State) (ib : Int) : Int :=
  let d : Int := s.el Reg.HTR_DUTY
  let mode := s.el Reg.HTR_MODE
  let warm := decide (s.elS 2 Reg.HTR_T_SET + 100 ≤ s.batTemp)
  if mode = 0 ∨ warm then max (d - 10) 0
  else if ib < -(s.el Reg.HTR_BAT_TOL : Int) ∧ !(mode = 2 ∧ s.el Reg.HTR_SOC_MIN * 10 ≤ s.el Reg.SOC) then max (d - 10) 0
  else if s.pwr.follow then min (d + 5) (s.el Reg.HTR_DUTY_MAX : Nat)
  else d

/-- L6_EVALUATE (R572 to R574): every 10 s, with the mean battery current of those 10 s and the device's own draw. The charge
and the net harvest of the 10 s are counted here (log entry 52). -/
def execL6Evaluate (ib : Int) (devMw : Nat) (s : State) : Outcome State Fault Refusal :=
  if !s.runs .pw then .next s else
  let s1 := ((s.putS 4 Reg.BAT_I ib).put Reg.DEV_MW (min devMw 65535)).countCharge (ib * 10)
  let heat : Nat := s1.el Reg.HTR_W * 10 * s1.el Reg.HTR_DUTY
  let net : Int := ((s1.el Reg.PV_MW : Int) - heat - devMw) * 10
  let s2 : State := { s1 with pwr := { s1.pwr with acc := s1.pwr.acc + net } }
  let rules := if s2.s5 then [5] else []
  let s3 := (s2.ruleShown 5 s2.s5).safety 6 rules
  let off := s3.chg == chgOff || !s3.pwLoaded
  if s3.loopHolds 6 then .next (s3.reshow 6 off false)
  else
    let want := s3.l6Want ib
    let w := loopWindow (0, 100) (if s3.s5 then (0, 0) else (0, 100)) (0, (s3.el Reg.HTR_DUTY_MAX : Nat))
    let d := if off then 0 else clampInt want w.1 w.2
    let max_ := s3.el Reg.HTR_DUTY_MAX
    let cold := decide (s3.batTemp < s3.elS 2 Reg.HTR_T_SET) && s3.pwr.follow && d == (max_ : Int) && !off
    let n := if cold then s3.pwr.full + 1 else 0
    let s4 : State := { (s3.put Reg.HTR_DUTY d.toNat) with pwr := { s3.pwr with full := min n 62 } }
    let hit := decide (61 ≤ n)
    let was := s4.lehr.fenced.contains 6
    let s5 := s4.fence 6 hit false
    let s6 := if hit && !was then s5.powerRecord 3 6 else s5
    .next (s6.showLoop 6 off false d want)

/-! ### Loop L7 (R565 to R568) -/

/-- I₇ in mA: f(T) × CHG_CRATE × BAT_CAP_AH, less the heater's share (R565, R566). -/
def State.i7 (s : State) : Int :=
  let t := s.batTemp
  let full : Int := (s.el Reg.BAT_CAP_AH * s.el Reg.CHG_CRATE * 10 : Nat)
  let f : Int := if t < s.tLo ∨ s.tHi < t then 0
    else if 1000 ≤ t ∧ t ≤ s.tHi - 1000 then 10 else if s.lead then 5 else 2
  let heat : Int := if t < s.elS 2 Reg.HTR_T_SET ∧ s.el Reg.HTR_MODE ≠ 0 then
    (s.el Reg.HTR_W * s.el Reg.HTR_DUTY_MAX * 10000 / max s.pwr.vsys 1 : Nat) else 0
  max (full * f / 10 - heat) 0

/-- L7_EVALUATE (R561, R565 to R568): every second, with the battery temperature's 60 s mean or a thermistor fault. -/
def execL7Evaluate (temp : Int) (ntcFault : Bool) (s : State) : Outcome State Fault Refusal :=
  if !s.runs .pw then .next s else
  let s1 := s.readTemp temp ntcFault
  let off := s1.chg == chgOff || !s1.pwLoaded
  if s1.loopHolds 7 then .next (s1.reshow 7 off false)
  else
    let want := min s1.i7 (s1.el Reg.CHG_IMAX : Nat)
    let step : Int := (s1.el Reg.CHG_IMAX / 20 : Nat)
    let v := clampInt want ((s1.pwr.l7 : Int) - step) ((s1.pwr.l7 : Int) + step)
    let t := s1.batTemp
    let hard := match s1.profile with | some p => decide (p.tLoHard ≤ t ∧ t ≤ p.tHiHard) | none => false
    let hit := hard && (decide (t < s1.tLo) || decide (s1.tHi < t)) && (convState s1.chg && s1.chg != chgRest)
    let was := s1.lehr.fenced.contains 7
    let s2 : State := { s1 with pwr := { s1.pwr with l7 := v.toNat } }
    let s3 := s2.fence 7 hit false
    let s4 := if hit && !was then s3.powerRecord 3 7 else s3
    .next (s4.showLoop 7 off false v s1.i7)

/-! ### The state of charge (R575, R576) -/

/-- The points of Table: Rest voltage, in mV at 0, 20, 50, 80 and 100 %. -/
def restTable (chem : Nat) : List (Nat × Nat) :=
  if isLead chem then [(1970, 0), (2010, 200), (2050, 500), (2090, 800), (2120, 1000)]
  else if isLife chem then [(2900, 0), (3200, 200), (3260, 500), (3300, 800), (3400, 1000)]
  else [(3300, 0), (3600, 200), (3750, 500), (3950, 800), (4100, 1000)]

/-- SOC in thousandths from a rest voltage per cell in mV, interpolated; none beyond the table's ends. -/
def restSoc (mv : Nat) : List (Nat × Nat) → Option Nat
  | (a, x) :: (b, y) :: l =>
    if a ≤ mv ∧ mv ≤ b then some (x + (y - x) * (mv - a) / max (b - a) 1) else restSoc mv ((b, y) :: l)
  | _ => none

/-- SOC_REST_CORRECTION (R575): 3,600 s at rest have passed. LiFePO₄ is corrected outside 20–80 % only; beyond the table's
ends the manual gives no value. -/
def execSocRestCorrection (vsys : Nat) (s : State) : Outcome State Fault Refusal :=
  match s.profile with
  | none => .next s
  | some p =>
    if !s.runs .pw then .next s else
    let s2 := s.readVsys vsys
    match restSoc (vsys / p.cells) (restTable (s2.el Reg.BAT_CHEM)) with
    | some x =>
      if isLife (s2.el Reg.BAT_CHEM) ∧ 200 ≤ x ∧ x ≤ 800 then .next s2
      else .next ({ (s2.put Reg.SOC x).put Reg.SOC_STALE 0 with pwr := { s2.pwr with charge := 0 } })
    | none => .next ({ ((s2.put Reg.SOC (s2.free % 1001)).put Reg.SOC_STALE 0).drawn with pwr := { s2.pwr with charge := 0 } })

/-! ### Hours and days (R576, R578, R582) -/

/-- The hours up to the present one are closed: the one under way with its harvest, those skipped as zero; days with them. -/
def State.closeHours (s : State) : State :=
  let h := s.now / (3600 * stSecond)
  if h ≤ s.pwr.hour then s else
  let q := s.pwr
  let val := q.acc / 3600
  let skipped := min (h - q.hour - 1) 168
  let hours := (List.replicate skipped (0 : Int) ++ val :: q.hours).take 168
  let crossed := h / 24 - q.hour / 24
  let day := q.dayAcc + val
  let days := if crossed = 0 then q.days else (List.replicate (min (crossed - 1) 9) (0 : Int) ++ day :: q.days).take 9
  let t : State := { s with pwr :=
    { q with hours := hours, days := days, acc := 0, dayAcc := if crossed = 0 then day else 0, hour := h } }
  if crossed = 0 then t
  else t.put Reg.HARV_DAY (match days with | d :: _ => min (d.toNat / 1000) (2 ^ 32 - 1) | [] => 0)

/-- The device has main power, and its firmware has loaded PW, be it stopped. -/
def State.pwKept (s : State) : Bool := s.mainPower && s.pwr.loaded

/-- HOUR_BOUNDARY (R576 to R578): the hour's harvest enters, the keeper stores SOC, and the budget is computed; PW, stopped for
the night, wakes for it. -/
def execHourBoundary (s : State) : Outcome State Fault Refusal :=
  if !s.pwKept then .next s else
  let s1 := (s.reach ((s.pwr.hour + 1) * 3600 * stSecond)).closeHours
  let s2 : State := if s1.runs .cr ∧ s1.boot.firmware then { s1 with pwr := { s1.pwr with socStored := s1.el Reg.SOC } } else s1
  .next (s2.cross .pw 17 (fun t => (t.budget false).pass))

/-- BUDGET_COMPUTE (R577): every 60 s, and at the other occasions of the rule. -/
def execBudgetCompute (s : State) : Outcome State Fault Refusal :=
  if s.pwLoaded then .next (s.budget false).pass else .next s

/-- BAT_ALARM as VSYS per cell gives it, the times having passed (R579). -/
def State.alarmAt (s : State) (p : Profile) (mv : Nat) : Nat :=
  let low := s.level Reg.BAT_LOW_MV p.low
  let cut := s.level Reg.BAT_CUT_MV p.cut
  let old := s.el Reg.BAT_ALARM
  if mv < cut then 2
  else if old = 2 ∧ mv < cut + 50 then 2
  else if mv < low then 1
  else if old ≠ 0 ∧ mv < low + 50 then 1
  else 0

/-- BAT_ALARM_CHANGE (R579, R580, R583). -/
def execBatAlarmChange (vsys : Nat) (s : State) : Outcome State Fault Refusal :=
  match s.profile with
  | none => .next s
  | some p =>
    if !s.pwLoaded then .next s else
    let s2 := s.readVsys vsys
    let a := s2.alarmAt p (vsys / p.cells)
    if a = s2.el Reg.BAT_ALARM then .next s2
    else .next (((s2.put Reg.BAT_ALARM a).powerRecord 5 a).budget (a != 0)).pass

/-- The median of seven days. -/
def median7 (l : List Int) : Int := (l.sortBy (· ≤ ·)).getD 3 0

/-- SNOW_CHECK (R582): at midnight, from the completed days; PW wakes for its record. -/
def execSnowCheck (s : State) : Outcome State Fault Refusal :=
  if !s.pwKept then .next s else
  match s.pwr.days with
  | d1 :: d2 :: l =>
    if s.el Reg.SNOW_SUSPECT = 1 then
      if s.pwr.snowMed ≤ 2 * d1 then .next (((s.wakeIsl .pw).put Reg.SNOW_SUSPECT 0).powerRecord 6 0) else .next s
    else if l.length < 7 then .next s
    else
      let m := median7 l
      if 10 * d1 < m ∧ 10 * d2 < m then
        let t : State := { s with pwr := { s.pwr with snowMed := m } }
        .next (((t.wakeIsl .pw).put Reg.SNOW_SUSPECT 1).powerRecord 6 1)
      else .next s
  | _ => .next s

/-- PW_NIGHT_WAKE (R574, R581): AO finds VIN above or VSYS below a threshold that PW left, and wakes PW over CH06; `charge` is
what AO counted meanwhile, in mA·s. -/
def execPwNightWake (charge : Int) (vin vsys : Nat) (s : State) : Outcome State Fault Refusal :=
  match s.pwr.night with
  | none => .next s
  | some p =>
    if s.isl_ .pw ≠ islGated ∨ !(decide (p.1 < vin) || decide (vsys < p.2.1) || decide (vsys < p.2.2)) then .next s
    else .next (s.over 6 (fun t =>
      (State.setIsl { t with pwr := { t.pwr with night := none } } .pw islStarting).countCharge charge))

/-- A commit changed the battery's profile (Edges): while it charges the charger is evaluated, and L7 starts from 0; without a
profile or switched off it is OFF. -/
def State.profileChanged (s : State) : State :=
  let t : State := { s with pwr := { s.pwr with l7 := 0 } }
  if t.chgDisabled then t.chgGo chgOff 0
  else if convState t.chg then t.evaluate
  else t

end Sys2Proof.Machine
end

