-- ==== Sys2Proof/Machine/Bringup.lean ====
section
/-! DEFINITION. Bring-up, reset scopes and boot (chapter 03), but for the choice of the image, which chapter 21's slots
decide (Firmware.lean), and the crystal (Oscillator.lean). -/
namespace Sys2Proof.Machine
open Host

/-! ### Supplies -/

/-- MAIN_POWER_UP (R92, R854): VSYS is above 5.7 V; a BK that lost its state starts with a backup-scope reset. -/
def execMainPowerUp (s : State) : Outcome State Fault Refusal :=
  if s.boot.vsys then .next s else
  let s1 : State := { s with boot := { s.boot with vsys := true } }
  .next (if s1.bk.lost then s1.backupReset else s1)

/-- VDD5_GOOD (R93, R94, R97, R109): AO leaves reset in RUN, with its channels in ORPHAN if it lost its state (R850), VAUX rises,
the reset outputs are asserted, the start is a full-scope reset. -/
def execVdd5Good (s : State) : Outcome State Fault Refusal :=
  if !s.boot.vsys ∨ s.boot.vdd5 then .next s else
  let s1 : State := { s with boot := { s.boot with
    vdd5 := true, vaux := true, cause := causeMerge s.boot.cause 0x02, rstoA := true, rstoB := true, straps := false,
    fullReset := true } }
  .next (((s1.startIsl .ao).setIsl .ao islRun).inc 4 Reg.RESET_COUNT)

/-- VCORE_GOOD (R95): the main islands' supply is good and they start, those that lost their state with their channels in
ORPHAN (R850). -/
def execVcoreGood (s : State) : Outcome State Fault Refusal :=
  if !s.boot.vdd5 ∨ s.boot.vcore then .next s else
  let s1 : State := { s with boot := { s.boot with vcore := true }, lehr := { s.lehr with vcore := 1000 } }
  .next ((mainIslands.filter (fun i => s1.isl_ i == islUnpowered)).foldl State.startIsl s1)

/-- RST_N_LOW (R99, R100, R102): low for 1 µs: a main reset, which drains first; held in reset until the pin rises. -/
def execRstNLow (s : State) : Outcome State Fault Refusal :=
  if s.boot.rstLow ∨ !s.mainPower then .next s else
  .next (State.startScope { s with boot := { s.boot with rstLow := true, rstWide := false } } .main 0x05)

/-- RST_N_WIDEN (R99): still low 10 ms after it fell, the reset is full: one reset, whether it still drains or has acted. -/
def execRstNWiden (s : State) : Outcome State Fault Refusal :=
  if !s.boot.rstLow ∨ s.boot.rstWide ∨ !s.mainPower then .next s
  else if s.boot.draining.isSome then
    .next { s with boot := { s.boot with rstWide := true, draining := some (s.widest .full 0x03) } }
  else
    let s1 := (s.scopeReset .full 0x03 true).put Reg.RESET_COUNT (s.el Reg.RESET_COUNT)
    .next { s1 with boot := { s1.boot with rstWide := true, lost := s.boot.lost } }

/-- RST_N_RELEASE (R99): the device leaves reset; its islands may reach RUN. -/
def execRstNRelease (s : State) : Outcome State Fault Refusal :=
  .next { s with boot := { s.boot with rstLow := false, rstWide := false } }

/-- VCORE_BROWNOUT (R97, R100, R102, R107): a main reset at once, no drain; BOOT_LOST is unknown. -/
def execVcoreBrownout (s : State) : Outcome State Fault Refusal :=
  if !s.boot.vcore then .next s else
  let s1 : State := { s with boot := { s.boot with vcore := false } }
  let x := s1.widest .main 0x06
  let s2 := s1.scopeReset x.1 x.2 false
  .next { s2 with isl := { s2.isl with lostState := mainIslands } }

/-- KEEPER_MAIN_RESET (R97): the keeper asks for a main reset after an unrecoverable firmware fault; it drains as R58 has it (log
entry 81). -/
def execKeeperMainReset (s : State) : Outcome State Fault Refusal :=
  if s.boot.firmware ∧ s.runs .cr then .next (s.startScope .main 0x08) else .next s

/-- BACKUP_POWER_ON (R854): the backup node rises after a loss of BK's state: a backup-scope reset. -/
def execBackupPowerOn (s : State) : Outcome State Fault Refusal :=
  if s.bk.lost then .next s.backupReset else .next s

/-- BANK_SUPPLY_CHANGE (R110, R790): an I/O bank's supply is good or is lost. -/
def execBankSupplyChange (bankB good : Bool) (s : State) : Outcome State Fault Refusal :=
  if bankB then .next { s with boot := { s.boot with vddioB := good } }
  else .next { s with boot := { s.boot with vddioA := good } }

/-! ### DEV_RESET (R101) -/

/-- The effect of DEV_RESET: deferred under a hold, a second write joining or widening the first; else the reset acts after
the reply. -/
def State.devReset (s : State) (sc : Scope) : State × Stat :=
  let both : Option Scope := match s.boot.pendingReset with
    | some .full => some .full
    | _ => some sc
  ({ s with boot := { s.boot with pendingReset := both } },
    if s.isl.holds.isEmpty ∧ s.boot.pendingReset.isNone then .ok else .deferred)

/-- The write, and after the reply the reset if no hold remains. -/
def State.devResetWrite (s : State) (cmd : Instr) (r : Req) (f : Nat → Bool) : State :=
  (s.ownWrite cmd r (fun a => a == Reg.DEV_RESET && f (bodyNum r.body 4 1)) false (atOnce (fun t _ _ v =>
    if v = 1 then t.devReset .main else if v = 2 then t.devReset .full else (t, .range 2 0)))).pendingResetActs

/-- DEV_RESET_MAIN (R101): a write of 0x01, or of a value DEV_RESET does not take. -/
def execDevResetMain (r : Req) (s : State) : Outcome State Fault Refusal := .next (s.devResetWrite (.devResetMain r) r (fun v => v != 2))

/-- DEV_RESET_FULL (R101): a write of 0x02. -/
def execDevResetFull (r : Req) (s : State) : Outcome State Fault Refusal := .next (s.devResetWrite (.devResetFull r) r (fun v => v == 2))

/-! ### Straps (R110 to R114) -/

/-- The bit map of STRAPS from the samples; TWIN_ROLE from its two samples, with the pull-up and the pull-down (R111, R113). -/
def strapWord (hostsel facEn up down : Bool) : Nat :=
  (if hostsel then 1 else 0) + (if facEn then 2 else 0) +
  (if up && down then 8 else if !up && !down then 4 else if up && !down then 0 else 16)

/-- STRAP_SAMPLE (R110): VDDIO_A is good and AO samples, once in each full or main reset. -/
def execStrapSample (hostsel facEn twinUp twinDown : Bool) (s : State) : Outcome State Fault Refusal :=
  if s.boot.straps ∨ !s.mainPower then .next s else
  let s1 : State := { s with boot := { s.boot with vddioA := true, straps := true } }
  .next (s1.put Reg.STRAPS (strapWord hostsel facEn twinUp twinDown)).twinStart

/-- STRAP_DEFAULT_TIMEOUT (R114): VDDIO_A is late; the default values and STRAP_DEFAULTED. -/
def execStrapDefaultTimeout (s : State) : Outcome State Fault Refusal :=
  if s.boot.straps ∨ !s.boot.vcore ∨ s.boot.vddioA then .next s else
  let s1 : State := { s with boot := { s.boot with straps := true } }
  .next (s1.put Reg.STRAPS 32)

/-! ### Station time (R125 to R128) -/

/-- STATION_TIME_LOAD (R125, R188): at the tick after the pair arrives FB loads BK's count; n ticks passed since the latch. The
sub-tick phase that FB left is removed from here on. -/
def execStationTimeLoad (n : Nat) (s : State) : Outcome State Fault Refusal :=
  if !s.runs .fb ∨ s.clk.loaded ∨ !s.osc.pllLocked then .next s else
  let s1 := s.countTo (min (s.clk.v + n + 1) (stMax / 8192))
  .next { s1 with clk := ⟨s1.clk.v * 8192, true, s1.clk.v, 0⟩
                  osc := { s1.osc with phaseRun := if s1.osc.phase = 0 then 0 else 2048 } }

/-! ### The firmware's start -/

/-- The settings that BK, AO and the charger take from the keeper at a start (R147, R150, R167, R658). -/
def State.loadSettings (s : State) : State :=
  let l := s.free % 2 ^ 15
  let t : State := s.drawn
  { t with
    bk := { t.bk with
      vbkLow := t.el Reg.VBK_LOW_MV
      driveMax := t.el Reg.X32_DRIVE_MAX
      s4 := false
      settings := true }
    tmp := { t.tmp with lfsr := if l = 0 then 1 else l } }.trickleSet

/-- The start entry of R106 (Table: Entry types, 0x01). -/
def State.startEntry (s : State) (cause : Nat) : State :=
  s.logKeeper 0x01
    [payload10 (numToBytes 1 cause ++ numToBytes 1 (s.el Reg.BOOT_SLOT) ++ numToBytes 1 (s.el Reg.SERVICE_MODE) ++
        numToBytes 2 s.boot.lost ++ numToBytes 2 (s.el Reg.TMP_STICKY) ++ numToBytes 2 (s.el Reg.RING_OVER)),
      payload10 (numToBytes 8 (s.el Reg.SWO_LAST)), payload10 (numToBytes 8 (s.el Reg.SWO_RETURN))] .nothing

/-- A torn entry of a chain (R617): it keeps its slot with its bytes as read, the next sequence and INCOMPLETE; the next
signature covers it (R683). -/
def State.repairTorn (s : State) (c : Nat) : State :=
  let v := s.free
  let t : State := (s.drawn.storeEntry c (v % 2 ^ 64) (v / 2 ^ 64 % 256) 0x20 (v / 2 ^ 72 % 1024)
    (numToBytes 10 (v / 2 ^ 82)) true).signHead c
  t.logRecord 4 c

/-- A start after a power-on (R617, R618): the torn entry, the collapse's count and stamp, and its record. -/
def State.afterCollapse (s : State) (cause : Nat) (torn : Option (Fin 64)) : State :=
  if cause = 1 ∨ cause = 2 then
    let t : State := match torn with
      | some c => s.repairTorn c
      | none => s
    ((t.inc 4 Reg.COLLAPSE_COUNT).put Reg.COLLAPSE_LAST (if cause = 2 then t.el Reg.SWO_LAST else 0)).railRecord 7
      (if torn.isSome then 1 else 0)
  else s

/-- The process banks as measured at the start (R686): PROC_AGE, and a record the first time a bank reads −3.00 % or less. -/
def State.measureBanks (s : State) (ages : List Int) : State :=
  ((ages.take 12).zipIdx).foldl (fun t p =>
    let u := t.putS 2 (Reg.PROC_AGE p.2) (clampInt p.1 (-32768) 32767)
    if p.1 ≤ -300 ∧ !t.lehr.aged.contains p.2 then
      State.loopRecord { u with lehr := { u.lehr with aged := u.lehr.aged ++ [p.2] } } 8 p.2
    else u) s

/-- The keeper gives SC its keys back after a start of SC: the zeroizes it owes, then every blob unwrapped (R517, R548). -/
def State.keysBack (s : State) : State :=
  if s.key.rebuilding ∧ s.runs .sc ∧ s.boot.firmware then s.owedZeroizes.unwrapKeys else s

/-- The keeper loads PW where it runs (step 8 of Table: Power-up from VSYS). -/
def State.loadPw (s : State) : State :=
  if s.boot.firmware ∧ s.runs .pw then { s with pwr := { s.pwr with loaded := true } } else s

/-- The firmware's start (R98, R105, R106, R123, R340, R517, R548, R617, R618, R668, R731, R743, R744, R753; steps 8 and 9 of
Table: Power-up from VSYS). `torn`: the chain whose latest entry's programming did not complete; `ages`: the process banks'
changes, in 0.01 %. Without the host port nothing else is waited for: the port counts as ready (log entry 80). -/
def State.firmwareStart (s : State) (torn : Option (Fin 64)) (ages : List Int) : State :=
  let c := s.boot.cause
  let s1 : State := { s with boot := { s.boot with firmware := true, cause := 0, hintOut := true } }
  let s2 := (((s1.put Reg.RESET_CAUSE c).put Reg.BOOT_ST s1.now).put Reg.BOOT_LOST s1.boot.lost).startImage
  let s3 := ((((s2.afterCollapse c torn).loadSettings).startEntry c).tamperStart).keysBack
  let up := !bitOf (s3.el Reg.PORT_EN) 2 || s3.runs .nw
  let s4 := ((((if up then s3.takeI2c.hostUp else s3.takeI2c).loadPw).closeHours)).measureBanks ages
  let s5 : State := if s4.full ∧ s4.runs .fb ∧ !s4.tmr.loaded then s4.planLoad else s4.storeAnchors
  let s6 : State := if s5.anyPort ∧ s5.isl_ .nw = islUnpowered then s5.startIsl .nw else s5
  let fresh := s6.arb.standing.isEmpty
  let s7 : State := if fresh then { s6 with arb := { s6.arb with standing := s6.standingConfig } } else s6
  let s8 : State := { s7.twinStart with twin := { s7.twinStart.twin with helloing := s7.twinRole != 0 } }
  s8.wdStart.pass.wdSync s

/-- RSTO_RELEASE (R109): RSTO_EXT milliseconds after the host port is ready the reset outputs are released. -/
def execRstoRelease (s0 : State) : Outcome State Fault Refusal :=
  if s0.boot.firmware ∧ s0.boot.portReady then
    let s := s0.reach (s0.boot.readyAt + stMsUp (s0.el Reg.RSTO_EXT))
    let t : State := { s with boot := { s.boot with rstoA := false, rstoB := false } }
    .next (t.wdSync s)
  else .next s0

/-! ### WAKE_N (R795) -/

/-- WAKE_N_LOW (R795): FB and CR wake if they are stopped, and no idle rule stops them while the pin is low. -/
def execWakeNLow (s : State) : Outcome State Fault Refusal :=
  if !s.mainPower then .next s else
  let s1 : State := { s with boot := { s.boot with wakeN := true } }
  .next s1.wakeFb.wakeCr

/-- WAKE_N_HIGH (R795): the idle rules apply again. -/
def execWakeNHigh (s : State) : Outcome State Fault Refusal := .next { s with boot := { s.boot with wakeN := false } }

end Sys2Proof.Machine
end

