-- ==== Sys2Proof/Machine/Backup.lean ====
section
/-! DEFINITION. The backup domain (chapter 04): switch-over, VBK, the trickle charger, the voted counters and the tick. -/
namespace Sys2Proof.Machine
open Host

/-- BK's coarse station time (R144, R160). -/
def State.coarse (s : State) : Nat := s.clk.v * 8192

/-! ### The voted counters (R156 to R159, R186) -/

/-- Copy c is not marked failed. -/
def State.copyLive (s : State) (c : Nat) : Bool := !bitOf (s.el Reg.BK_VOTE) c

/-- The value that at least two of the live copies hold. -/
def majority (l : List Nat) : Option Nat := l.find? (fun x => decide (2 ≤ l.count x))

/-- A live copy after the vote: reloaded and counted where it differs from V, at the 16th time in a row marked failed; else its
count of misses starts afresh. -/
def State.copyVoted (s : State) (c : Nat) : State :=
  if !s.copyLive c then s
  else if s.bk.copies.getD c 0 = s.clk.v then
    { s with bk := { s.bk with misses := s.bk.misses.set c 0 } }
  else
    let n := s.bk.misses.getD c 0 + 1
    let t : State := { s with bk := { s.bk with copies := s.bk.copies.set c s.clk.v, misses := s.bk.misses.set c n } }
    let u := t.inc 2 Reg.BK_RESYNC
    if n = 16 then u.put Reg.BK_VOTE (setBit (u.el Reg.BK_VOTE) c true) else u

/-- A second copy is marked failed (R158): source 9 with group 2, on VBK when main returns. -/
def State.voteChecked (s b : State) : State :=
  if s.votedOut ∧ !b.votedOut then
    if s.onVbk then { s with bk := { s.bk with voteDeferred := true } }.repairCheck else (s.tamperOn 9 2).repairCheck
  else if s.el Reg.BK_VOTE % 8 = b.el Reg.BK_VOTE % 8 then s else s.repairCheck

/-- One tick edge (chapter 04, Voted backup counters): every copy counts; V takes what at least two live copies hold, else the
prediction; the copies that differ are reloaded. On VBK a whole second is counted (R145). -/
def State.tickEdge (s0 : State) : State :=
  let s := s0.pulsesTo (s0.clk.v + 1)
  let next : Nat → Nat := fun x => min (x + 1) (stMax / 8192)
  let p := next s.clk.v
  let cs := s.bk.copies.map next
  let m := majority ((cs.zipIdx.filter (fun x => s.copyLive x.2)).map (fun x => x.1))
  let v := m.getD p
  let t : State := { s with clk := { s.clk with v := v }, bk := { s.bk with copies := cs } }
  let u := t.put Reg.BK_VOTE (setBit (t.el Reg.BK_VOTE) 3 m.isNone)
  let w := if u.onVbk && v % 32768 == 0 then u.inc 4 Reg.BK_ON_VBK_S else u
  (([0, 1, 2].foldl State.copyVoted w)).voteChecked s

/-- One cycle of BK's tick source (R186): the compensation setting is added to the accumulator; a carry gives one more tick edge,
a borrow swallows the one there is. -/
def State.bkCycle (s : State) : State :=
  let a : Int := s.bk.acc + s.bk.comp
  let t : State := { s with bk := { s.bk with acc := (a % 2 ^ 30).toNat } }
  if a < 0 then t else if (2 ^ 30 : Int) ≤ a then t.tickEdge.tickEdge else t.tickEdge

/-- What upsets leave in a copy, and in V itself where one struck it (R159). -/
def State.upset (s : State) (c held : Nat) (voted : Option Nat) : State :=
  { s with clk := { s.clk with v := voted.getD s.clk.v % 2 ^ 51 }, bk := { s.bk with copies := s.bk.copies.set c (held % 2 ^ 51) } }

/-- BK_COPY_RELOAD (R156, R159): at this tick edge a live copy differs from the voted value and is reloaded. `held`: what an upset
left in it; `voted`: what one left in V. -/
def execBkCopyReload (copy : Fin 3) (held : Nat) (voted : Option Nat) (s : State) : Outcome State Fault Refusal :=
  if !s.runs .bk ∨ !s.copyLive copy ∨ 15 ≤ s.bk.misses.getD copy 0 then .next s
  else .next (s.upset copy held voted).tickEdge

/-- BK_COPY_FAILED (R157, R158): the copy is reloaded at the 16th tick edge in a row, and marked failed. -/
def execBkCopyFailed (copy : Fin 3) (held : Nat) (s : State) : Outcome State Fault Refusal :=
  if !s.runs .bk ∨ !s.copyLive copy ∨ s.bk.misses.getD copy 0 < 15 then .next s
  else .next (s.upset copy held none).tickEdge

/-! ### Switch-over -/

/-- SWITCHOVER_TO_VBK (R92, R139, R144, R53, R614): the backup node moves to VBK and main power is lost; on VBK already, a start of
main power fails. -/
def execSwitchoverToVbk (s : State) : Outcome State Fault Refusal :=
  if s.onVbk then
    if s.boot.vsys then .next { s.mainLoss with boot := { s.mainLoss.boot with vsys := false } } else .next s
  else
    let t := if s.runs .bk then (s.ageOut.inc 4 Reg.SWO_COUNT).put Reg.SWO_LAST s.coarse else s.ageOut
    let s1 : State := (t.put Reg.BK_SUPPLY 1).mainLoss
    .next { (s1.put Reg.VBK_MV 0) with boot := { s1.boot with vsys := false }, osc := { s1.osc with gap := none } }

/-- SWITCHOVER_TO_MAIN (R139, R144, R151, R158, R854): the return levels have held for 16 ticks; a vote failure on VBK is raised
now; a BK that lost its state starts. -/
def execSwitchoverToMain (s : State) : Outcome State Fault Refusal :=
  if !s.onVbk ∨ !s.boot.vdd5 then .next s
  else if s.bk.lost then .next (s.put Reg.BK_SUPPLY 0).backupReset
  else
    let s0 := ((s.put Reg.BK_SUPPLY 0).put Reg.SWO_RETURN s.coarse).trickleSet
    let x := (s0.el Reg.SWO_LAST, s0.el Reg.SWO_RETURN)
    let s1 : State := if x.1 + stSecond ≤ x.2 then { s0 with osc := { s0.osc with outages := s0.osc.outages ++ [x] } } else s0
    if s1.bk.voteDeferred then
      .next (State.tamperOn { s1 with bk := { s1.bk with voteDeferred := false } } 9 2)
    else .next s1

/-- BK_STATE_LOSS (R138): the backup node, fed from VBK, falls below 1.50 V and BK's state is lost. -/
def execBkStateLoss (s : State) : Outcome State Fault Refusal :=
  if !s.runs .bk ∨ !s.onVbk then .next s else
  let s1 := (s.loseIsland .bk).setIsl .bk islUnpowered
  .next { s1 with bk := { s1.bk with lost := true } }

/-! ### VBK -/

/-- VBK at the charger is sensed: it stops at TRICKLE_MV and starts again 50 mV below it (R151). -/
def State.vbkSensed (s : State) (mv : Nat) : State :=
  let t : State := { s with bk := { s.bk with vbk := mv } }
  if t.el Reg.TRICKLE_MV ≤ mv then { t with bk := { t.bk with trickle := false } }
  else if mv + 50 ≤ t.el Reg.TRICKLE_MV then t.trickleSet
  else t

/-- On main AO's reading of VBK shows in VBK_MV and as monitor 2 (R684). -/
def State.readVbk (s : State) (mv : Nat) : State :=
  if s.onVbk then s else (s.put Reg.VBK_MV (mv % 65536)).put (Reg.VMON_MV 2) (min mv (2 ^ 32 - 1))

/-- VBK_LOW_CHECK (R146): once a BK second, with VBK in mV. -/
def execVbkLowCheck (mv : Nat) (s : State) : Outcome State Fault Refusal :=
  if !s.runs .bk then .next s else
  let s1 := (s.readVbk mv).vbkSensed mv
  if mv < s1.bk.vbkLow then .next (s1.tamperOn 6 0)
  else if s1.bk.vbkLow + 100 < mv then .next (s1.tamperOff 6)
  else .next s1

/-- TRICKLE_STOP (R151): VBK reaches TRICKLE_MV. -/
def execTrickleStop (s : State) : Outcome State Fault Refusal := .next (s.vbkSensed (s.el Reg.TRICKLE_MV))

/-- TRICKLE_RESTART (R150, R151): VBK falls 50 mV below TRICKLE_MV; only on main, with its settings loaded and a current set. -/
def execTrickleRestart (s : State) : Outcome State Fault Refusal := .next (s.vbkSensed (s.el Reg.TRICKLE_MV - 50))

end Sys2Proof.Machine
end

