-- ==== Sys2Proof/Machine/Lehr.lean ====
section
/-! DEFINITION. Loops L1, L2 and L3, the voltage monitors, lost inputs (chapters 05 and 19). -/
namespace Sys2Proof.Machine
open Host

/-! ### L1: core voltage (R688, R691 to R694, R700, R701) -/

/-- The fences of L1 and L2 in force: H until the firmware has loaded them (R700). -/
def State.l1Fence (s : State) : Int × Int :=
  if s.boot.firmware then ((s.el Reg.L1_FENCE / 65536 : Nat), (s.el Reg.L1_FENCE % 65536 : Nat)) else (750, 1000)
def State.l2Fence (s : State) : Int × Int :=
  if s.boot.firmware then ((s.el Reg.L2_FENCE / 256 : Nat), (s.el Reg.L2_FENCE % 256 : Nat)) else (10, 60)

/-- S1 is in force: the firmware has not started, or reduced service (R693). -/
def State.s1 (s : State) : Bool := !s.boot.firmware || !s.full

/-- S and W of L1. With S3 in force the fence no longer holds L1 down, as Table: Keeper safety rules' note says (log entry
53). -/
def State.l1Safe (s : State) : Int × Int :=
  let a : Int := max (if s.s1 then 1000 else 750) (max (if s.lehr.s2 then 850 else 750)
    (if s.lehr.s3.isSome then s.lehr.s3Top else 750))
  (a, 1000)
def State.l1Window (s : State) : Int × Int :=
  loopWindow (750, 1000) s.l1Safe (if s.lehr.s3.isSome then (750, 1000) else s.l1Fence)

/-- The island a process bank lies in. -/
def bankIsland (i : Nat) : Island :=
  if i < 4 then .fb else if i < 7 then .cr else if i < 9 then .sc else if i = 9 then .nw else if i = 10 then .pw else .nv

/-- Some bank of an island in RUN has a margin below m %, or every one above it. -/
def State.marginBelow (s : State) (f : List Nat) (m : Nat) : Bool :=
  (f.zipIdx).any (fun p => s.runs (bankIsland p.2) && decide (p.1 * 100 < Config.bankReq p.2 * (100 + m)))
def State.marginAbove (s : State) (f : List Nat) (m : Nat) : Bool :=
  (f.zipIdx).all (fun p => !s.runs (bankIsland p.2) || decide (Config.bankReq p.2 * (100 + m) < p.1 * 100))

/-- The lowest of TS1 to TS8 that are not lost, in 0.01 °C. -/
def State.tsLow (s : State) : Int :=
  ((List.range 8).filter (fun i => !s.lehr.lost.contains (1, 0x11 + i))).foldl
    (fun a i => min a (s.elS 2 (Reg.TS_T (i + 1)))) 32767

/-- S2 and S3 as they stand at this evaluation (R693): S2 between its levels keeps, S3 ends 10 s, 1,000 evaluations, after
the latest canary error. -/
def State.l1Rules (s : State) (canary : Bool) : State :=
  let top := s.l1Window.2
  let low := s.tsLow
  let s2 := if low < -4000 then true else if -3800 < low then false else s.lehr.s2
  let s3 := if canary ∧ (s.lehr.s3.isSome ∨ top ≤ s.lehr.vcore) then some 0
    else match s.lehr.s3 with
      | some n => if n + 1 < 1000 then some (n + 1) else none
      | none => none
  let t : State := { s with lehr :=
    { s.lehr with s2 := s2, s3 := s3, s3Top := if s.lehr.s3.isNone then top.toNat else s.lehr.s3Top } }
  ((t.ruleShown 1 t.s1).ruleShown 2 s2).ruleShown 3 s3.isSome

/-- The rules in force that make L1's window narrower than its fences do. -/
def State.l1Narrow (s : State) : List Nat :=
  let f := s.l1Fence
  (if s.s1 ∧ f.1 < 1000 then [1] else []) ++ (if s.lehr.s2 ∧ f.1 < 850 then [2] else []) ++
  (if s.lehr.s3.isSome ∧ f.1 < (s.lehr.s3Top : Int) then [3] else [])

/-- L1_EVALUATE (R688, R689): every 10 ms while FB runs, with the frequencies of the process banks in kHz, the temperatures
TS0 to TS8 and the canary errors since the last evaluation. -/
def execL1Evaluate (freqs : List Nat) (ts : List Int) (canary : Nat) (s : State) : Outcome State Fault Refusal :=
  if !s.runs .fb then .next s else
  let s1 := ((freqs.take 12).zipIdx).foldl (fun t p => t.put (Reg.PROC_F p.2) (min p.1 (2 ^ 32 - 1))) (s.readTs ts)
  let s2 := (s1.add 4 Reg.CANARY canary).l1Rules (canary != 0)
  let s3 := s2.safety 1 s2.l1Narrow
  if s3.loopHolds 1 then .next (s3.reshow 1 false false)
  else
    let v : Int := s3.lehr.vcore
    let m := s3.el Reg.L1_MARGIN
    let w := s3.l1Window
    let low := canary != 0 || s3.marginBelow freqs m
    let high := s3.marginAbove freqs (m + 4)
    let calm := if low ∨ !high then 0 else s3.lehr.calm + 1
    let want : Int := if low then v + 10 else if high ∧ 100 ≤ calm then v - 5 else v
    let x := clampInt (clampInt want w.1 w.2) (v - 5) (v + 10)
    let s4 : State := { s3 with lehr := { s3.lehr with vcore := x.toNat, calm := if 100 ≤ calm then 0 else calm } }
    let f := s4.l1Fence
    let hi := decide (f.2 < want) && x == w.2
    let lo := decide (want < f.1) && x == w.1
    .next ((s4.fence 1 (hi || lo) hi).showLoop 1 false false x want)

/-! ### L2: clock droop (R690) -/

/-- L2_EVALUATE (R690): every 1 ms while FB runs: a canary error in it, and how many of its edges were stretched. -/
def execL2Evaluate (canary : Bool) (stretched edges : Nat) (s : State) : Outcome State Fault Refusal :=
  if !s.runs .fb then .next s
  else if s.loopHolds 2 then .next (s.reshow 2 false false)
  else
    let th : Int := s.lehr.th
    let quiet := if canary then 0 else s.lehr.quiet + 1
    let rise := !canary && decide (64 ≤ quiet) && decide (edges < stretched * 256)
    let want : Int := if canary then th - 4 else if rise then th + 1 else th
    let f := s.l2Fence
    let w := loopWindow (10, 60) (10, 60) f
    let x := clampInt (clampInt want w.1 w.2) (th - 4) (th + 1)
    let t : State := { s with lehr := { s.lehr with th := x.toNat, quiet := if rise then 0 else quiet } }
    let hi := decide (f.2 < want) && x == w.2
    let lo := decide (want < f.1) && x == w.1
    .next ((t.fence 2 (hi || lo) hi).showLoop 2 false false x want)

/-! ### L3: crystal drive (R166, R167, R168) -/

/-- L3_EVALUATE (R166 to R168): each BK second, with the swing in mVpp. After each lowering the 64 s start anew (log entry
98). -/
def execL3Evaluate (swing : Nat) (s : State) : Outcome State Fault Refusal :=
  if !s.runs .bk then .next s
  else if s.loopHolds 3 then .next (s.reshow 3 false false)
  else
    let d := s.el Reg.X32_DRIVE
    let n := if 350 < swing then s.bk.highSwing + 1 else 0
    let lower := decide (64 ≤ n)
    let want : Int := if swing < 180 then (d : Int) + 1 else if lower then (d : Int) - 1 else d
    let f : Int × Int := (0, (s.bk.driveMax : Nat))
    let w := loopWindow (0, 15) (if s.bk.s4 then (15, 15) else (0, 15)) f
    let x := clampInt want w.1 w.2
    let t : State := { s with bk := { s.bk with highSwing := if lower then 0 else n } }
    let u := ((t.put Reg.X32_DRIVE x.toNat).ruleShown 4 s.bk.s4).safety 3 (if s.bk.s4 then [4] else [])
    .next ((u.fence 3 (decide (f.2 < want) && x == w.2) true).showLoop 3 false false x want)

/-! ### Monitors (R685) -/

/-- VMON_BAND_CROSS (R685): two readings of a monitor lie beyond a level, or 1 % back inside it. -/
def execVmonBandCross (mon : Fin 8) (high entered : Bool) (mv : Nat) (s : State) : Outcome State Fault Refusal :=
  if !s.mainPower then .next s else
  let t := s.put (Reg.VMON_MV mon) (min mv (2 ^ 32 - 1))
  let lim := t.el (Reg.VMON_LIM mon)
  let lo := lim / 2 ^ 32
  let hi := lim % 2 ^ 32
  let inBand := t.lehr.bands.contains (mon.val, high)
  let beyond := if high then decide (hi < mv) else decide (mv < lo)
  let inside := if high then decide (mv * 100 ≤ hi * 99) else decide (lo * 101 ≤ mv * 100)
  if lo = 0 ∨ hi = 0 then .next t
  else if (entered ∧ !inBand ∧ beyond) ∨ (!entered ∧ inBand ∧ inside) then
    let l := if entered then t.lehr.bands ++ [(mon.val, high)] else t.lehr.bands.erase (mon.val, high)
    let u : State := { t with lehr := { t.lehr with bands := l } }
    .next (u.loopRecord 7 (mon * 256 + (if high then 2 else 0) + (if entered then 1 else 0)))
  else .next t

/-! ### Lost inputs (R698, R699) -/

/-- LOOP_INPUT_LOST (R698): the loop holds its output; its state is STALE. -/
def execLoopInputLost (loop : Fin 7) (monitor : Nat) (s : State) : Outcome State Fault Refusal :=
  let n := loop.val + 1
  if s.lehr.lost.contains (n, monitor) then .next s else
  let was := s.loopHolds n
  let t : State := { s with lehr := { s.lehr with lost := s.lehr.lost ++ [(n, monitor)] } }
  let u := t.loopRecord 5 (n * 256 + monitor % 256)
  let x := if t.loopHolds n ∧ !was then u.inc 4 (Reg.LOOP_STALE loop) else u
  .next (x.reshow n false false)

/-- LOOP_INPUT_RETURN (R698): two good readings. -/
def execLoopInputReturn (loop : Fin 7) (monitor : Nat) (s : State) : Outcome State Fault Refusal :=
  let n := loop.val + 1
  if !s.lehr.lost.contains (n, monitor) then .next s else
  let t : State := { s with lehr := { s.lehr with lost := s.lehr.lost.erase (n, monitor) } }
  .next ((t.loopRecord 6 (n * 256 + monitor % 256)).reshow n false (n == 5 && t.pwr.follow))

end Sys2Proof.Machine
end

