-- ==== Sys2Proof/Machine/Repair.lean ====
section
/-! DEFINITION. Redundancy and self-repair (chapter 20): scrubbing, seeds, row repair, uncorrectable errors, retirement. -/
namespace Sys2Proof.Machine
open Host

/-- The island of a memory (Table: Protected memories). -/
def memIsland (m : Nat) : Island :=
  if 1 ≤ m ∧ m ≤ 3 then .fb else if m = 4 then .cr else if m = 5 ∨ m = 7 then .sc else if m = 6 then .nw else .nv

/-- The memory is powered and served: an SRAM memory while its island runs, the array while main power is present (R705). -/
def State.memThere (s : State) (m : Nat) : Bool :=
  if 8 ≤ m then s.mainPower else s.runs (memIsland m) || s.isl_ (memIsland m) == islDraining

/-! ### ECC_STAT -/

/-- The ECC_STAT record of a memory with one of its fields, at bit lo and n bits wide, raised by x; it saturates. -/
def State.eccAdd (s : State) (m lo n x : Nat) : State :=
  let v := s.el (Reg.ECC_STAT (m - 1))
  s.put (Reg.ECC_STAT (m - 1)) (setField v lo n (min (field v lo n + x) (2 ^ n - 1)))

def State.eccCorrected (s : State) (m x : Nat) : State := s.eccAdd m 128 32 x
def State.eccLost_ (s : State) (m : Nat) : State := s.eccAdd m 96 32 1
def State.eccSeeds (s : State) (m x : Nat) : State := s.eccAdd m 80 16 x
def State.eccUnrepaired (s : State) (m : Nat) : State := s.eccAdd m 64 16 1

/-! ### Seeds (R706 to R709) -/

/-- The latest passes of a memory, newest first, at most four. -/
def State.passesOf (s : State) (m : Nat) : List (List Nat) := (s.rep.passes.filter (fun p => p.1 == m)).map (fun p => p.2)

/-- This pass kept beside the three before it. -/
def State.keepPass (s : State) (m : Nat) (rows : List Nat) : State :=
  let old := (s.rep.passes.filter (fun p => p.1 == m)).take 3
  { s with rep := { s.rep with passes := (m, rows) :: old ++ s.rep.passes.filter (fun p => p.1 != m) } }

/-- Rows joined to the seeds that await repair, in ascending order of row. -/
def seedInsert (l : List (Nat × Nat)) (m r : Nat) : List (Nat × Nat) :=
  if l.contains (m, r) then l
  else l.filter (fun p => p.1 != m) ++
    ((l.filter (fun p => p.1 == m && decide (p.2 < r))) ++ (m, r) :: (l.filter (fun p => p.1 == m && decide (r < p.2))))

/-- A row is a seed (R706); a seed that found no spare stays in use (R709). -/
def State.seed (s : State) (m r : Nat) : State :=
  if s.rep.seeds.contains (m, r) ∨ s.rep.unrepaired.contains (m, r) then s
  else State.eccSeeds { s with rep := { s.rep with seeds := seedInsert s.rep.seeds m r } } m 1

/-- An array block is due for retirement (R712). -/
def State.dueBlock (s : State) (m b : Nat) : State :=
  if s.rep.due.contains (m, b) then s else { s with rep := { s.rep with due := s.rep.due ++ [(m, b)] } }

/-- Rows or blocks with an error in this pass and in one of the three before it (R706, R712). -/
def State.twice (s : State) (m : Nat) (rows : List Nat) : List Nat :=
  rows.filter (fun r => ((s.passesOf m).take 3).any (fun p => p.contains r))

/-- The blocks of a memory whose equivalent age has reached 10 years, or all of them after an outage of unknown length, are
rewritten in place (R723, R724). -/
def State.refresh (s : State) (m : Nat) : State :=
  let old := (List.range (memBlocks m)).filter (fun b =>
    s.rep.ageAll.contains m || decide (10 * Config.arrayYear ≤ s.blockAge m b))
  let s1 := old.foldl (fun t b => ((t.programmed m b).cycle).inc 4 Reg.NV_REFRESHES) s
  { s1 with rep := { s1.rep with ageAll := s1.rep.ageAll.filter (fun x => x != m) } }

/-- SCRUB_PASS_END (R704 to R706, R712, R723): a pass over a memory ends; the rows or blocks in which it found a correctable
error, the corrections since the pass before, and the array blocks programmed since then. -/
def execScrubPassEnd (mem : Fin 12) (rows programmed : List Nat) (corrected : Nat) (s : State) :
    Outcome State Fault Refusal :=
  let m := mem.val
  if m = 0 ∨ !s.memThere m then .next s else
  let s1 := s.eccCorrected m (max corrected rows.length)
  let v := s1.el (Reg.ECC_STAT (m - 1))
  let s2 := s1.put (Reg.ECC_STAT (m - 1)) (setField v 0 64 s1.now)
  let bad := s2.twice m rows
  let s3 := s2.keepPass m rows
  if m ≤ 6 then .next (bad.foldl (fun t r => t.seed m r) s3)
  else if m = 7 then .next s3
  else
    let s4 := (programmed.filter (fun b => decide (b < memBlocks m))).foldl (fun t b => t.programmed m b) s3.ageTo
    .next ((bad.foldl (fun t b => t.dueBlock m b) s4).refresh m)

/-- SEED_REPAIR (R707, R709): the lowest seed row of a memory takes a spare row, or stays in use where none is free. -/
def execSeedRepair (mem : Fin 7) (s : State) : Outcome State Fault Refusal :=
  let m := mem.val
  match s.rep.seeds.find? (fun p => p.1 == m) with
  | none => .next s
  | some p =>
    if !s.memThere m then .next s else
    let rest := s.rep.seeds.erase p
    if s.repFree m = 0 then
      let s1 : State := { s with rep := { s.rep with seeds := rest, unrepaired := s.rep.unrepaired ++ [p] } }
      .next ((s1.eccUnrepaired m).repairEvent 0x11 m 0)
    else
      let s1 : State := { s with rep := { s.rep with
        seeds := rest
        fresh := s.rep.fresh ++ [p]
        passes := s.rep.passes.map (fun q => if q.1 = m then (q.1, q.2.filter (fun r => r != p.2)) else q) } }
      .next (s1.repairEvent 0x10 m (s1.repPct m)).repairCheck

/-- FIELD_REPAIR_STORE (R708): the oldest field repair not yet stored goes into the persistent region. -/
def execFieldRepairStore (s : State) : Outcome State Fault Refusal :=
  if !s.runs .cr ∨ !s.boot.firmware ∨ s.isReadOnly 11 then .next s else
  match s.rep.fresh with
  | [] => .next s
  | p :: l => .next (s.cross .nv 11 (fun t => { t with rep := { t.rep with fresh := l, stored := t.rep.stored ++ [p] } }))

/-! ### Retirement (R712 to R714) -/

/-- A region with neither own nor shared blocks left becomes read-only; the log seals its chains (R714). -/
def State.regionFull (s : State) (m : Nat) : State :=
  if s.isReadOnly m ∨ s.repFree m ≠ 0 then s
  else
    let s1 : State := { s with rep := { s.rep with readOnly := s.rep.readOnly ++ [m] } }
    let s2 := (s1.logKeeper 0x18 [payload10 (numToBytes 1 m)] .nothing).fwRecord 8 m
    if m = 10 then
      (List.range 64).foldl (fun t c => if t.el (Reg.LOG_QUOTA c) ≠ 0 ∧ !t.sealed c then t.sealChain c 3 else t) s2
    else s2

/-- BLOCK_RETIRE (R712, R713): a block of slot A or B, the log or the persistent region moves to a spare block. -/
def execBlockRetire (mem : Fin 4) (block : Nat) (s : State) : Outcome State Fault Refusal :=
  let m := mem.val + 8
  if !s.mainPower ∨ memBlocks m ≤ block ∨ s.repFree m = 0 then .next s else
  let s1 : State := { s with rep := { s.rep with
    due := s.rep.due.erase (m, block)
    passes := s.rep.passes.map (fun q => if q.1 = m then (q.1, q.2.filter (fun r => r != block)) else q)
    retired := s.rep.retired.set mem (s.rep.retired.getD mem 0 + 1) } }
  let s2 := ((s1.programmed m block).cycle).repairEvent 0x13 m (s1.repPct m)
  .next ([8, 9, 10, 11].foldl State.regionFull s2.repairCheck)

/-! ### Uncorrectable errors (R710, R711) -/

/-- The memory an object lies in. -/
def EccMem : EccObj → Nat
  | .record _ => 1 | .timer _ _ => 2 | .plan _ _ => 2 | .bundle _ _ => 3 | .entry _ _ => 3 | .stream _ _ _ => 3
  | .core => 4 | .security => 5 | .frame _ _ => 6 | .keeperCopy _ => 7 | .image i => 8 + i.val | .log _ _ => 10
  | .element _ => 11

/-- A record is lost and its slot freed: unclaimed entries turn void with reason 3, claims on it end as by a completion, and
its streams go on (R410; chapter 12, Edges and failures). -/
def State.loseRec (s : State) (id : Nat) : State :=
  match s.recOf id with
  | none => s
  | some r =>
    let s1 := s.dlvSet
      { s.dlv with
        recs := s.dlv.recs.filter (fun x => x.id != id)
        entries := s.dlv.entries.map (fun e => if e.rid = id ∧ e.void.isNone then { e with void := some 3 } else e)
        claims := s.dlv.claims.filter (fun c => c.rid != id)
        waiting := s.dlv.waiting.filter (fun w => w.rid != id) }
    (if r.any then [4] else targetsOf r.mask).foldl (fun t k =>
      if t.placed r.source k r.hid || t.streamActive r.source k r.hid then t else t.advanceStream r.source k r.hid) s1

/-- A stream returns to IDLE: its entries and claims are gone, and its waiting records are placed afresh. -/
def State.freshStream (s : State) (src target hid : Nat) : State :=
  let mine : Nat → Nat → Bool := fun id t => s.inStream id t src target hid
  let s1 := s.dlvSet
    { s.dlv with
      entries := s.dlv.entries.filter (fun e => !mine e.rid e.target)
      claims := s.dlv.claims.filter (fun c => !mine c.rid c.target) }
  let ids := (s.dlv.entries.filter (fun e => mine e.rid e.target)).map (fun e => (e.rid, e.target)) ++
    (s.dlv.claims.filter (fun c => mine c.rid c.target)).map (fun c => (c.rid, c.target))
  (ids.foldl (fun t p => t.completeAt p.1 p.2) s1).placeWaiting src

/-- Frames the port drops are counted as it counts its other drops (chapter 13): a frame received, or one to be sent. -/
def State.dropFrame (s : State) (p : Port) (received : Bool) : State :=
  match p, received with
  | .canFd, true => (s.inc 4 Reg.CAN_SEG_DROP).inc 4 Reg.MSG_DROPPED
  | .canFd, false => (State.inc { s with port := { s.port with canTx := s.port.canTx.drop 1 } } 4 Reg.CAN_NTF_DROP)
  | .t1l, _ => s.inc 4 Reg.T1L_DROPPED
  | .host, true =>
    let t : State := { s with port := { s.port with hostErr := true, hostIn := s.port.hostIn - 1 } }
    (t.inc 4 Reg.HP_DROPPED).inc 4 Reg.MSG_DROPPED
  | .host, false => (State.inc { s with port := { s.port with hostOut := s.port.hostOut.drop 1 } } 4 Reg.HP_DROPPED)
  | .fac, _ => s.inc 4 Reg.MSG_DROPPED

/-- The further effect of an uncorrectable error (Table: Effects of ECC_LOST). -/
def State.eccEffect (s : State) : EccObj → State
  | .record id => s.loseRec id
  | .timer c h =>
    match s.timerOf c h with
    | some t => if t.state = 1 then s.setTimer { t with state := 4, ovf := false } else s
    | none => s
  | .plan h tag =>
    match planEntry s.liveBank h tag 1 with
    | some v =>
      let l := s.tmr.planTimers.map (fun p =>
        if p.hid = h ∧ p.tag = tag then { p with due := chainFrom p.anchor (periodOf v) s.now } else p)
      { s with tmr := { s.tmr with planTimers := l } }
    | none => s
  | .bundle c n =>
    match s.bundleOf c n with
    | some b =>
      if b.st = .ended then s
      else
        let s1 := s.bundleMap c n (fun x => { x with st := .ended, reason := 3, inst := s.now })
        (if b.holds then s1.loseItems b else s1).pass
    | none => s
  | .entry t q =>
    match s.dlv.entries.find? (fun e => e.target == t && e.seq == q && e.void.isNone) with
    | some e =>
      let s1 := s.dlvSet { s.dlv with entries := s.dlv.entries.map (fun x => if x = e then { x with void := some 3 } else x) }
      s1.completeAt e.rid t
    | none => s
  | .stream src t h => s.freshStream src t h
  | .core => s.startScope .main 0x08
  | .security =>
    let s1 := (s.key.kx.map (fun k => k.cid)).foldl State.eraseKx s
    if s1.runs .sc then s1.startDrain .sc .reset else s1
  | .frame p b => s.dropFrame p b
  | .keeperCopy k =>
    let l := s.rep.lostCopies.set k (min (s.rep.lostCopies.getD k 0 + 1) 3)
    (State.repairCheck { s with rep := { s.rep with lostCopies := l } })
  | .image i =>
    if s.rep.badSlots.contains i then s else { s with rep := { s.rep with badSlots := s.rep.badSlots ++ [i.val] } }
  | .log c q => { s with rep := { s.rep with lostLog := s.rep.lostLog ++ [(c, q)] } }
  | .element a => if s.rep.lostEls.contains a then s else { s with rep := { s.rep with lostEls := s.rep.lostEls ++ [a] } }

/-- ECC_UNCORRECTABLE (R706, R711): the operation that meets it ends with ECC_LOST and the memory's number, the memory's
effect follows, and in an SRAM memory the row is a seed at once; the scrubber's find (`scrub`) writes a record. -/
def execEccUncorrectable (obj : EccObj) (row : Nat) (scrub : Bool) (victim : Option Req) (op : Nat) (s : State) :
    Outcome State Fault Refusal :=
  let m := EccMem obj
  if !s.memThere m then .next s else
  let s1 := (s.eccLost_ m).eccEffect obj
  let s2 := if m ≤ 6 then s1.seed m row else s1
  let s3 := if scrub then s2.repairEvent 0x12 m 0 else s2
  let s4 : State := match victim with
    | none => s3
    | some r =>
      match s3.accept r op (if op = 5 ∨ op = 0x0D then .c else .q) false false false with
      | .done t => t
      | .wait t _ _ _ => t
      | .go t _ => t.finish r op .q (.eccLost m) []
  .next (s4.wdSync s)

end Sys2Proof.Machine
end

