-- ==== Sys2Proof/Machine/Oscillator.lean ====
section
/-! DEFINITION. Oscillators, references and drift learning (chapter 05), with the reference inputs of chapter 11. -/
namespace Sys2Proof.Machine
open Host

/-! ### Numbers -/

/-- A span of station time in ns, and ns in units of station time. -/
def stToNs (d : Int) : Int := d * 1000000000 / (2 ^ 28 : Int)
def nsToSt (n : Int) : Int := n * (2 ^ 28 : Int) / 1000000000

/-- The inner product and the matrix operations of the update rule. -/
def dot (a b : List Rat) : Rat := (List.zipWith (· * ·) a b).foldl (· + ·) 0
def matVec (m : List (List Rat)) (v : List Rat) : List Rat := m.map (fun r => dot r v)

/-! ### The crystal model (Temperature compensation) -/

/-- u = T − 25 °C of a temperature in 0.01 °C. -/
def uOf (t : Int) : Rat := (t - 2500 : Int) / (100 : Rat)

/-- L(t) of the aging term. -/
def State.agingL (s : State) (t : Nat) : Rat := (Config.ageLog (t - s.el Reg.AGE_ORIGIN) : Rat) / 2 ^ 32

/-- φ = (1, u, u², u³, L) at a temperature and a time. -/
def State.phiOf (s : State) (temp : Int) (t : Nat) : List Rat :=
  let u := uOf temp
  [1, u, u * u, u * u * u, s.agingL t]

/-- y(T, t) of the crystal, in ppt. -/
def State.yCrystal (s : State) (temp : Int) (t : Nat) : Rat := dot s.osc.theta (s.phiOf temp t)

/-- The sums of the least squares of R174 over the records: Σ tᵏ for k ≤ 4, Σ e tᵏ for k ≤ 2. -/
def momT (l : List (Int × Int)) (k : Nat) : Rat := l.foldl (fun a p => a + (p.2 : Rat) ^ k) 0
def momE (l : List (Int × Int)) (k : Nat) : Rat := l.foldl (fun a p => a + (p.1 : Rat) * (p.2 : Rat) ^ k) 0

/-- A 3 by 3 determinant. -/
def det3 (a b c d e f g h i : Rat) : Rat := a * (e * i - f * h) - b * (d * i - f * g) + c * (d * h - e * g)

/-- The offset, linear and quadratic terms of the LFRC's error in ppb over temperature in 0.01 °C (R174). Records at one or two
temperatures determine their residuals, not every term: the terms they leave open are 0 (log entry 86). -/
def lfrcFit (l : List (Int × Int)) : Option (Rat × Rat × Rat) :=
  let m := momT l
  let e := momE l
  let d := det3 (m 0) (m 1) (m 2) (m 1) (m 2) (m 3) (m 2) (m 3) (m 4)
  let d1 := m 0 * m 2 - m 1 * m 1
  if l.isEmpty then none
  else if d ≠ 0 then
    some (det3 (e 0) (m 1) (m 2) (e 1) (m 2) (m 3) (e 2) (m 3) (m 4) / d,
      det3 (m 0) (e 0) (m 2) (m 1) (e 1) (m 3) (m 2) (e 2) (m 4) / d,
      det3 (m 0) (m 1) (e 0) (m 1) (m 2) (e 1) (m 2) (m 3) (e 2) / d)
  else if d1 ≠ 0 then some ((e 0 * m 2 - e 1 * m 1) / d1, (m 0 * e 1 - m 1 * e 0) / d1, 0)
  else some (e 0 / m 0, 0, 0)

/-- The fitted error at a temperature, in ppb. -/
def fitAt (f : Rat × Rat × Rat) (t : Int) : Rat := f.1 + f.2.1 * t + f.2.2 * t * t

/-- BK runs on the crystal. -/
def State.onCrystal (s : State) : Bool := s.el Reg.X32_STATE == 1 && !s.bk.qualified

/-- The LFRC's error by its model at a temperature, with the trim step k of 250 ppm, in ppt (R174, R175; log entry 86). -/
def State.yLfrc (s : State) (temp k : Int) : Rat :=
  (match lfrcFit s.osc.lfrcCal with
    | some f => fitAt f temp * 1000
    | none => 0) + k * 250000000

/-- y as FB steers with: the crystal model, or the LFRC model while BK runs on the LFRC (R175). -/
def State.ySteer (s : State) (temp : Int) (t : Nat) : Rat :=
  if s.onCrystal then s.yCrystal temp t else s.yLfrc temp (s.elS 1 Reg.LFRC_TRIM)

/-- BK_COMP before its limits, from y in ppt and d (Temperature compensation). -/
def bkWord (y d : Rat) : Int := roundRat ((-(y / 1000000000000) + d) * 2 ^ 30)

/-- LFRC_TRIM as the model has it: kept while BK_COMP stays in its range, else the nearest step to what the LFRC is off (R175). -/
def State.trimFor (s : State) (temp : Int) : Int :=
  let k := s.elS 1 Reg.LFRC_TRIM
  if (bkWord (s.yLfrc temp k) s.osc.disc).natAbs ≤ 2 ^ 20 then k
  else clampS 1 (roundRat ((s.osc.disc * 1000000000000 - s.yLfrc temp 0) / 250000000))

/-! ### Holdover's bound (R206, R207 to R209) -/

/-- β = PRIOR_BETA in ppt/°C². -/
def State.betaPpt (s : State) : Rat := (s.el Reg.PRIOR_BETA : Rat) * 100

/-- y_b at a temperature, in ppt: y_g while BANDED, else y_raw with ε_T of R820; on the LFRC R176 adds its own bound. -/
def State.yBound (s : State) (temp : Int) : Rat :=
  let lo := s.elS 2 Reg.LEARN_LO
  let hi := s.elS 2 Reg.LEARN_HI
  let d : Rat := (if temp < lo then lo - temp else if hi < temp then temp - hi else 0 : Int) / (100 : Rat)
  let e : Rat := if -4000 ≤ temp ∧ temp ≤ 12500 then 6 / 10 else 16 / 10
  let w : Rat := absRat ((temp - s.elS 2 Reg.PRIOR_T0 : Int) / (100 : Rat))
  let base : Rat := if s.el Reg.LEARN_STATE = 2 then 500000 + s.betaPpt / 10 * d * d
    else (s.el Reg.PRIOR_TOL : Rat) * 1000000 + s.betaPpt / 10 * w * w + s.betaPpt * (2 * w * e + e * e)
  let l := s.osc.lfrcCal
  let known := decide (8 ≤ l.length) && l.any (fun p => decide (p.2 ≤ temp)) && l.any (fun p => decide (temp ≤ p.2))
  if s.onCrystal then base
  else if known then base + (s.el Reg.LFRC_RESID : Rat) * 1000 + 50000000
  else base + 15000000000

/-- The bound grows by an integral in ppt × units of 2⁻²⁸ s. -/
def State.growHold (s : State) (y : Rat) : State :=
  if s.holding then
    State.showHold { s with osc := { s.osc with holdAcc := s.osc.holdAcc + (y / 2 ^ 28).ceil.toNat } }
  else s

/-- The mean over an outage of y less its value at the first temperature, the temperature running linearly from a to b, as u
(R207), and the residue of R208, both in ppt. -/
def State.outageMean (s : State) (a b : Rat) : Rat :=
  let c := fun k => s.osc.theta.getD k 0
  c 1 * (a + b) / 2 + c 2 * (a * a + a * b + b * b) / 3 + c 3 * (a + b) * (a * a + b * b) / 4 -
    (c 1 * a + c 2 * a * a + c 3 * a * a * a)
def State.outageResidue (s : State) (a b : Rat) : Rat :=
  let c1 := s.osc.theta.getD 1 0
  let c2 := s.osc.theta.getD 2 0
  let turn : Rat := if c2 = 0 then 0 else -(c1 / (2 * c2))
  let dev := 5 + absRat (b - a) / 2
  absRat c2 * (2 * absRat ((a + b) / 2 - turn) * dev + dev * dev)

/-- The bound since the latest load (R209): y_b at the temperature of each span; over an outage the mean of the two ends', which is
no less than the mean of y_b between them, and the residue (log entry 87). -/
def State.boundSince (s : State) (temp : Int) : Rat :=
  let t0 := s.osc.lastLoadT.getD temp
  let y0 := s.yBound t0
  let y1 := s.yBound temp
  let r := s.osc.outages.foldl (fun (a : Nat × Rat) o =>
    (o.2, a.2 + y0 * ((o.1 - a.1 : Nat) : Rat) +
      ((y0 + y1) / 2 + s.outageResidue (uOf t0) (uOf temp)) * ((o.2 - o.1 : Nat) : Rat))) (s.osc.lastLoadAt, 0)
  r.2 + y1 * ((s.now - r.1 : Nat) : Rat)

/-- The correction of the outages since the latest load, in ns (R207): what station time has gained over them. -/
def State.outageGain (s : State) (temp : Int) : Rat :=
  match s.osc.lastLoadT with
  | none => 0
  | some t0 => (s.osc.outages.foldl (fun a o => a + ((o.2 - o.1 : Nat) : Rat)) 0) *
      s.outageMean (uOf t0) (uOf temp) / 2 ^ 28 / 1000

/-- The correction is to be removed by slew; what an earlier one still owed when FB lost its state is owed again (R207; chapter 06,
Edges). The bound of an outage takes the mean of y_b at its two ends (log entry 87). -/
def State.outageCorrection (s : State) (temp : Int) : State :=
  let t := s.setCorr (s.osc.corr + s.outageGain temp)
  { t with osc := { t.osc with outages := [] } }

/-! ### Episodes (R204, R205) -/

/-- The mean temperature of the episode under way. -/
def State.epMean (s : State) : Int := if s.osc.epN = 0 then 0 else s.osc.epSumT / (s.osc.epN : Int)

/-- The learned band from the counted episodes (R205). -/
def State.learnBand (s : State) : State :=
  match s.osc.epTemps with
  | [] => s
  | t :: l =>
    if s.el Reg.EPISODES < 3 then s
    else ((s.put Reg.LEARN_STATE 2).putS 2 Reg.LEARN_LO (clampS 2 (l.foldl min t - 1000))).putS 2 Reg.LEARN_HI
      (clampS 2 (l.foldl max t + 1000))

/-- An episode closes: a counted one's mean temperature is final, and the keeper stores the model (R202). -/
def State.closeEpisode (s : State) : State :=
  let o := s.osc
  let temps := if o.epCounted then o.epTemps.dropLast ++ [s.epMean] else o.epTemps
  ({ s with osc := { o with epStart := none, epCounted := false, epTemps := temps } }).learnBand

/-- An episode begins. -/
def State.openEpisode (s : State) : State :=
  { s with osc := { s.osc with epStart := some s.now, epCounted := false, epSumT := 0, epN := 0 } }

/-- The registers stored beside θ and P (R202). -/
def modelRegs : List Nat :=
  [Reg.THETA_C0, Reg.THETA_C1, Reg.THETA_C2, Reg.THETA_C3, Reg.THETA_A, Reg.LEARN_STATE, Reg.EPISODES, Reg.LEARN_LO,
    Reg.LEARN_HI, Reg.AGE_ORIGIN]

/-- The keeper stores the model (R202). -/
def State.storeModel (s : State) : State :=
  let o := s.osc
  { s with osc :=
    { o with stored := ⟨o.theta, o.cov, modelRegs.map (fun a => (a, s.el a)), o.epTemps, o.epLastStart, o.ageWaits⟩ } }

/-! ### The estimator (R200, R201) -/

/-- The elements that show θ. -/
def State.showTheta (s : State) : State :=
  (s.osc.theta.zipIdx).foldl (fun t p => t.putS 4 (Reg.THETA_C0 + p.2) (clampS 4 (roundRat p.1))) s

/-- θ and P from the priors (R201). -/
def State.resetModel (s : State) : State :=
  let b := s.betaPpt
  let w := uOf (s.elS 2 Reg.PRIOR_T0)
  let t : State := { s with osc :=
    { s.osc with
      theta := [-(b * w * w), 2 * b * w, -b, 0, 0]
      cov := priorCov (s.el Reg.PRIOR_BETA : Rat) (s.el Reg.PRIOR_TOL : Rat)
      ageWaits := true
      gap := none
      obsDue := []
      epTemps := []
      epLastStart := none } }
  ((t.showTheta.put Reg.EPISODES 0).put Reg.LEARN_STATE 0)

/-- The update rule on one observation (R200): z and r in ppt, φ as FB integrated it. -/
def State.estimate (s : State) (o : Obs) (rbar : Rat) (phi : List Rat) : State :=
  let dt : Rat := ((o.t2 - o.t1 : Nat) : Rat) / 2 ^ 28
  if dt ≤ 0 then s else
  let z := ((o.e2 - o.e1 - o.steps : Int) : Rat) * 1000 / dt + rbar
  let q := 1000000 * dt / 86400
  let p0 := s.osc.cov.zipIdx.map (fun r => if r.2 = 0 then r.1.zipIdx.map (fun c => if c.2 = 0 then c.1 + q else c.1) else r.1)
  let sg : Rat := (o.sigma : Rat) * 1000 / dt
  let r := 2 * sg * sg + 250000
  let pv := matVec p0 phi
  let sv := r + dot phi pv
  let e := z - dot phi s.osc.theta
  if 16 * sv < e * e then ({ s with osc := { s.osc with cov := p0 } }).inc 4 Reg.REF_REJECT
  else
    let k := pv.map (· / sv)
    let t : State := { s with osc :=
      { s.osc with
        theta := List.zipWith (fun a b => a + b * e) s.osc.theta k
        cov := List.zipWith (fun row ki => List.zipWith (fun a b => a - ki * b) row pv) p0 k } }
    if t.el Reg.LEARN_STATE = 0 then t.showTheta.put Reg.LEARN_STATE 1 else t.showTheta

/-! ### The reference states (R193 to R197) -/

/-- σ_ref of a class, in ns (Table: Reference classes). -/
def State.refSigma (s : State) (cls : Nat) : Nat :=
  if cls = 3 then 20000000
  else if cls = 2 then
    match s.osc.ptpDelays with
    | [] => 100
    | d :: l => max 100 ((l.foldl max d - l.foldl min d).toNat / 2)
  else 50

/-- A class whose spans in LOCKED are episodes. -/
def epClass (cls : Nat) : Bool := cls == 1 || cls == 2 || cls == 4

/-- The order of preference under automatic selection. -/
def refRank (cls : Nat) : Nat := if cls = 4 then 4 else if cls = 1 then 3 else if cls = 2 then 2 else if cls = 3 then 1 else 0

/-- LOCKED ends (R197, R198, R204, R209): the closing observation is due, and d is 0 once the estimator has taken it; the episode
closes. A gap begins that R199 may use, with BK on the crystal. -/
def State.leaveLocked (s : State) : State :=
  if s.twin.follow then s else
  let o := s.osc
  let eps := s.elS 8 Reg.REF_OFFSET
  let due : List Obs := match o.obs with
    | some (t1, e1, sg) => o.obsDue ++ [⟨t1, e1, s.now, eps, o.steps, sg⟩]
    | none => o.obsDue
  let t : State := { s with osc :=
    { o with obs := none, obsDue := due, disc := if due.isEmpty then 0 else o.disc, discI := 0, discAt := none, steps := 0,
             gap := if s.onCrystal then some (s.now, eps) else none, refGood := 0, refMissing := 0 } }
  if t.osc.epStart.isSome then t.closeEpisode.storeModel else t

/-- The reference is lost (R193): HOLDOVER begins with the phase error at hand. -/
def State.toHoldover (s : State) : State :=
  let t := (((s.leaveLocked).put Reg.REF_STATE 3).put Reg.REF_ACTIVE 0xFF).put Reg.HOLD_START s.now
  ({ t with osc := { t.osc with holdAcc := (s.elS 8 Reg.REF_OFFSET).natAbs * 1000 } }).showHold

/-- Qualification of a class begins, with so many good inputs already (R193). The state it returns to is the one before any
qualification. -/
def State.toQualifying (s : State) (cls good : Nat) : State :=
  let prev := s.el Reg.REF_STATE
  let t := if prev = 2 then s.leaveLocked else s
  let back := if prev = 1 then (s.osc.refPrev, s.osc.refPrevCls) else (prev, s.el Reg.REF_ACTIVE)
  let u : State := { t with osc :=
    { t.osc with refPrev := back.1, refPrevCls := back.2, refGood := good, refMissing := 0, accepted := false,
                 disagreed := false } }
  (u.put Reg.REF_STATE 1).put Reg.REF_ACTIVE cls

/-- HOLD_UNC while LOCKED: the magnitude of the latest offset plus 2 σ_ref (R209). -/
def State.lockedUnc (s : State) (cls : Nat) (eps : Int) : State :=
  s.put Reg.HOLD_UNC (min ((eps.natAbs + 2 * s.refSigma cls + 999) / 1000) (2 ^ 32 - 1))

/-- An observation starts at an offset, with BK on the crystal (R198). -/
def State.startObs (s : State) (cls : Nat) (eps : Int) : State :=
  if s.onCrystal ∧ s.osc.obs.isNone then
    { s with osc := { s.osc with obs := some (s.now, eps, s.refSigma cls), steps := 0 } }
  else s

/-- LOCKED begins (R195, R198, R199, R204, R209): the observation and the episode start, the offset is stepped or slewed; a step
refused is a slew (R239). -/
def State.toLocked (s : State) (cls : Nat) (eps : Int) : State :=
  if s.twin.follow then s.put Reg.REF_STATE 2 else
  let o := s.osc
  let due : List Obs := match o.gap with
    | some (t1, e1) => if s.onCrystal then o.obsDue ++ [⟨t1, e1, s.now, eps, o.steps, s.refSigma cls⟩] else o.obsDue
    | none => o.obsDue
  let t : State := { s with osc :=
    { o with obs := none, obsDue := due, gap := none, steps := 0, refMissing := 0, disc := 0, discI := 0, discAt := none } }
  let u0 := ((t.startObs cls eps).put Reg.REF_STATE 2).lockedUnc cls eps
  let u := if cls = 2 ∧ u0.el Reg.PTP_STATE = ptpUncalibrated then u0.ptpGo ptpSlave else u0
  let v := if epClass cls then u.openEpisode else u
  if (s.el Reg.STEP_THR : Int) * 1000 < eps.natAbs then
    let r := v.requestStep (-(nsToSt eps)) false false 0 true none
    if r.2.code = 0 then r.1 else r.1.slewBy (-eps)
  else v.slewBy (-eps)

/-- R193 and R194: LOCKED once 16 consecutive inputs are good and, from HOLDOVER, the reference agrees or is accepted. The
disagreement is reported once in a qualification (log entry 88). -/
def State.tryLock (s : State) (cls : Nat) (eps : Int) : State :=
  if s.el Reg.REF_STATE ≠ 1 ∨ s.osc.refGood < 16 then s
  else if s.osc.refPrev = 3 ∧ !s.osc.accepted ∧ 2 * s.el Reg.HOLD_UNC * 1000 + 1000000 < eps.natAbs then
    if s.osc.disagreed then s else ({ s with osc := { s.osc with disagreed := true } }).refRecord 1
  else s.toLocked cls eps

/-- The discipline loop at an input (R195, R196, R761): of second order, damping 1, time constant τ in s. With e the offset in
seconds that no slew is about to remove, d = −(2 e / τ + ∫ e dt / τ²). -/
def State.disciplineBy (s : State) (tau : Rat) (eps : Int) : State :=
  let e := ((eps : Rat) + s.slewLeft - s.corrLeft) / 1000000000
  let dt : Rat := match s.osc.discAt with
    | some t => ((s.now - t : Nat) : Rat) / 2 ^ 28
    | none => 0
  let i := s.osc.discI + e * dt / (tau * tau)
  { s with osc := { s.osc with disc := -(2 * e / tau + i), discI := i, discAt := some s.now } }

/-- The loop of the device's own reference: its time constant is DISC_TAU (R196). -/
def State.discipline (s : State) (eps : Int) : State := s.disciplineBy (max (s.el Reg.DISC_TAU) 1 : Nat) eps

/-- REF_SEL lets a class be taken. -/
def State.selects (s : State) (cls : Nat) : Bool := s.el Reg.REF_SEL == 0 || s.el Reg.REF_SEL == cls

/-- A good input of the class in use, with its offset. -/
def State.goodInput (s : State) (cls : Nat) (eps : Int) : State :=
  let t : State := { s with osc := { s.osc with refGood := s.osc.refGood + 1, refMissing := 0 } }
  if t.twin.follow then t.tryLock cls eps
  else
    let u := t.putS 8 Reg.REF_OFFSET eps
    if u.ownLocked then ((u.discipline eps).startObs cls eps).lockedUnc cls eps else u.tryLock cls eps

/-- An input of a class, good or not, with its offset ε in ns (R190 to R196, R209). -/
def State.refInput (s : State) (cls : Nat) (good : Bool) (eps : Int) : State :=
  let act := s.el Reg.REF_ACTIVE
  if !s.selects cls then s
  else if act = cls then
    if good then s.goodInput cls eps
    else
      let t : State := { s with osc := { s.osc with refGood := 0, refMissing := s.osc.refMissing + 1 } }
      if t.ownLocked ∧ 4 ≤ t.osc.refMissing then t.toHoldover else t
  else if good ∧ (act = 0xFF ∨ refRank act < refRank cls) then (s.toQualifying cls 1).putS 8 Reg.REF_OFFSET eps
  else s

/-! ### Pulses and sentences (R190, R192, R414 to R420) -/

/-- The intervals between successive stamps, the stamps newest last. -/
def intervals : List Nat → List Int
  | a :: b :: l => ((b : Int) - a) :: intervals (b :: l)
  | _ => []

/-- The median of a list: of an even number, the mean of the middle two. -/
def median (l : List Int) : Int :=
  let s := l.sortBy (· ≤ ·)
  let n := s.length
  if n % 2 = 1 then s.getD (n / 2) 0 else (s.getD (n / 2 - 1) 0 + s.getD (n / 2) 0) / 2

/-- The interval of a new pulse is good against the earlier stamps (R190). -/
def State.intervalGood (s : State) (t : Nat) : Bool :=
  match s.osc.pulses.getLast? with
  | none => false
  | some p =>
    let iv : Int := (t : Int) - p
    let old := intervals s.osc.pulses
    decide ((iv - (stSecond : Nat)).natAbs ≤ stMs 1) &&
    (old.isEmpty || decide ((iv - median old).natAbs ≤ (nsToSt (s.el Reg.PPS_TOL)).toNat))

/-- A PPS_IN stamp less PPS_DELAY. -/
def State.ppsStamp (s : State) (t : Nat) : Nat :=
  ((t : Int) - s.elS 4 Reg.PPS_DELAY * (2 ^ 28 : Int) / 1000000000000).toNat

/-- A pulse that its sentence has labelled (R190, R418), good but for a second sentence that labels it differently. -/
def State.labelledPulse (s : State) (stamp at_ label : Nat) (iv : Bool) : State :=
  let cont : Bool := match s.osc.ppsLast with | some l => l + stSecond == label | none => true
  let t : State := { s with osc := { s.osc with ppsLast := some label, pulseWait := none, heldLabel := none,
                                                ppsSeen := some (at_, label) } }
  t.refInput 1 (iv && cont) (stToNs ((stamp : Int) - label))

/-- A pulse came within the last four seconds: PPS is there (log entry 88). -/
def State.pulsesCome (s : State) : Bool :=
  match s.osc.pulses.getLast? with
  | some t => decide (s.now ≤ t + 4 * stSecond)
  | none => false

/-- PPS_PULSE (R190, R192, R414, R415): a pulse with FB in RUN, at a station time. -/
def execPpsPulse (stamp : Nat) (s0 : State) : Outcome State Fault Refusal :=
  if !s0.runs .fb ∨ !s0.refInputs.contains 24 then .next s0 else
  let s := (s0.reach stamp).inc 4 Reg.PPS_COUNT
  let c := s.ppsStamp stamp
  let iv := s.intervalGood c
  let ps := (s.osc.pulses ++ [c]).drop (s.osc.pulses.length - 8)
  let s1 : State := { s with osc := { s.osc with pulses := ps }, evt := { s.evt with refAwake := true } }
  let sel := s.el Reg.REF_SEL
  if (sel = 0 ∨ sel = 4) ∧ (s.osc.label.isSome ∨ s.osc.techLast.isSome) then
    let l : Nat := match s.osc.label, s.osc.techLast with
      | some x, _ => x
      | none, some x => x + stSecond
      | none, none => 0
    if s.osc.label.isSome ∧ !iv then .next (s1.refInput 4 false 0)
    else
      let s2 : State := { s1 with osc := { s1.osc with label := none, techLast := some l } }
      .next (s2.refInput 4 iv (stToNs ((c : Int) - l)))
  else if sel = 0 ∨ sel = 1 then
    match s.osc.heldLabel with
    | some (l, until_) =>
      let s2 : State := { s1 with osc := { s1.osc with heldLabel := none } }
      if stamp ≤ until_ then
        match l with
        | some x => .next (s2.labelledPulse c stamp x iv)
        | none => .next (s2.refInput 1 false 0)
      else .next { s2 with osc := { s2.osc with pulseWait := some (c, stamp, iv) } }
    | none => .next { s1 with osc := { s1.osc with pulseWait := some (c, stamp, iv) } }
  else .next s1

/-- A good sentence pairs with its pulse (R418): the latest stamped in the second before its start, or the first in the second
after its end. A pulse that two sentences label differently is not good. -/
def State.pairSentence (s : State) (start stop label : Nat) : State :=
  if s.el Reg.NMEA_PAIR = 0 then
    match s.osc.pulseWait with
    | some (c, at_, iv) =>
      if at_ ≤ start ∧ start ≤ at_ + stSecond then s.labelledPulse c at_ label iv else s
    | none =>
      match s.osc.ppsSeen with
      | some (at_, l) =>
        if at_ ≤ start ∧ start ≤ at_ + stSecond ∧ l ≠ label then s.refInput 1 false 0 else s
      | none => s
  else
    let clash : Bool := match s.osc.heldLabel with
      | some (l, until_) => decide (start ≤ until_) && l != some label
      | none => false
    { s with osc := { s.osc with heldLabel := some (if clash then none else some label, stop + stSecond) } }

/-- NMEA_SENTENCE (R222, R417 to R419): a ZDA or RMC sentence, with the stamps of its start bit and its end and the UTC minute since
2000-01-01 and second that it labels. A second 60 that the leap table does not hold makes it bad. -/
def execNmeaSentence (good : Bool) (start stop minute sec : Nat) (s0 : State) : Outcome State Fault Refusal :=
  if !s0.runs .fb ∨ !s0.refInputs.contains 23 then .next s0 else
  let s1 := s0.reach stop
  let s : State := { s1 with evt := { s1.evt with refAwake := true } }
  let act := s.el Reg.REF_ACTIVE
  match (if good then s.labelTime minute sec else none) with
  | none =>
    let t := s.inc 4 Reg.NMEA_BAD
    .next (if act = 3 ∨ act = 1 then t.refInput act false 0 else t)
  | some label =>
    let t := (s.inc 4 Reg.NMEA_GOOD).put Reg.NMEA_LAST (label % 2 ^ 64)
    let sel := t.el Reg.REF_SEL
    let u := if sel = 3 ∨ (sel = 0 ∧ (act = 3 ∨ (act = 0xFF ∧ !t.pulsesCome))) then
        t.refInput 3 true (stToNs ((start : Int) - label) - t.elS 4 Reg.NMEA_DELAY * 1000)
      else t
    .next (if sel = 0 ∨ sel = 1 then u.pairSentence start stop label else u)

/-- The fleet offset (R782, R783): the median of the latest eight, station time less the master's; raised above FLEET_T_THR,
cleared below half of it; without SLAVE or UNCALIBRATED, or unset, FLEET_STATE reads 0. -/
def State.fleetExchange (s : State) (offset : Int) (gmClass : Nat) : State :=
  let p := s.el Reg.PTP_STATE
  if (p ≠ ptpSlave ∧ p ≠ ptpUncalibrated) ∨ s.unset then
    State.put { s with twin := { s.twin with fleet := [] } } Reg.FLEET_STATE 0
  else
    let l := (s.twin.fleet ++ [offset]).drop (s.twin.fleet.length - 7)
    let m := median l
    let t := State.putS { s with twin := { s.twin with fleet := l } } 8 Reg.FLEET_OFFSET (clampS 8 m)
    let thr := s.el Reg.FLEET_T_THR
    if t.el Reg.FLEET_STATE = 2 then
      if 2 * m.natAbs < thr then (t.put Reg.FLEET_STATE 1).stationRecord 56 8 0 true else t
    else if thr < m.natAbs then
      ((t.put Reg.FLEET_STATE 2).stationRecord 56 7 (min (m.natAbs / 1000) 0xFFFF) true).logKeeper 0x27
        [payload10 (numToBytes 8 (unsigned 64 m) ++ numToBytes 1 gmClass)] .nothing
    else t.put Reg.FLEET_STATE 1

/-- PTP_EXCHANGE (R191, R485, R490, R491): an exchange as SLAVE or UNCALIBRATED, with the offset and the mean path delay in ns, the grandmaster's clockClass
and timescale. -/
def execPtpExchange (offset delay : Int) (gmClass : Nat) (ptpScale : Bool) (s : State) : Outcome State Fault Refusal :=
  if !s.runs .fb ∨ s.chan 15 ≠ .idle ∨ !s.ptpServed ∨
      (s.el Reg.PTP_STATE ≠ ptpSlave ∧ s.el Reg.PTP_STATE ≠ ptpUncalibrated) then .next s else
  let l := (s.osc.ptpDelays ++ [delay]).drop (s.osc.ptpDelays.length - 15)
  let s1 : State := { s with osc := { s.osc with ptpDelays := l } }
  let s2 := s1.putS 8 Reg.PTP_MPD (clampS 8 delay)
  let spread := (l.foldl max delay - l.foldl min delay).toNat
  let good : Bool := (gmClass == 6 || gmClass == 7) && ptpScale && decide (spread ≤ s.el Reg.PTP_DLY_TOL)
  .next ((s2.refInput 2 good offset).leapCheck.fleetExchange offset gmClass)

/-- REF_INPUT_MISSING (R193): four consecutive expected inputs are missing or bad. -/
def execRefInputMissing (s : State) : Outcome State Fault Refusal :=
  if s.runs .fb ∧ s.ownLocked then .next s.toHoldover else .next s

/-- REF_QUALIFY_TIMEOUT (R193): no good input for 10 s: the state before the qualification is back; a LOCKED that a preferred class
had ended begins its observation and its episode anew. -/
def execRefQualifyTimeout (s : State) : Outcome State Fault Refusal :=
  if s.runs .fb ∧ s.el Reg.REF_STATE = 1 then
    let t := (s.put Reg.REF_STATE s.osc.refPrev).put Reg.REF_ACTIVE s.osc.refPrevCls
    .next (if s.osc.refPrev = 2 ∧ epClass s.osc.refPrevCls then t.openEpisode else t)
  else .next s

/-- A commit changed REF_SEL (Table: Reference states): disabled; or LOCKED goes to QUALIFYING, on the class selected, and under
automatic selection on the class in use. -/
def State.refSelChanged (s : State) : State :=
  let sel := s.el Reg.REF_SEL
  let act := s.el Reg.REF_ACTIVE
  if sel = 0xFF then
    ((if s.ownLocked then s.leaveLocked else s).put Reg.REF_STATE 0).put Reg.REF_ACTIVE 0xFF
  else if s.ownLocked then
    let t := s.toQualifying (if sel = 0 then act else sel) 0
    if sel = 0 ∨ sel = act then t else { t with osc := { t.osc with refPrev := 3, refPrevCls := 0xFF } }
  else if act ≠ 0xFF ∧ sel ≠ 0 ∧ sel ≠ act then
    { (s.put Reg.REF_ACTIVE sel) with osc := { s.osc with refGood := 0 } }
  else s

/-- A logged write whose entry type no table gives (chapter 05, Elements): its type and payload are left open. -/
def State.logWrite (s : State) (c : Nat) : State :=
  let v := s.free
  s.drawn.logStation (v % 256) c [payload10 (numToBytes 10 (v / 256))] .nothing

/-- The effects of writes to REF_LABEL (R192), REF_ACCEPT (R194) and LEARN_RESET (R201, R715). -/
def State.refLabel (s : State) (w : Who) (v : Nat) : State × Stat :=
  if v % stSecond ≠ 0 then (s, .range 2 0)
  else
    let u := (s.put Reg.REF_LABEL v).logWrite w.cid
    ({ u with osc := { u.osc with label := some v } }, .ok)
def State.refAccept (s : State) (w : Who) (v : Nat) : State × Stat :=
  if v ≠ 1 then (s, .range 2 0)
  else
    let u : State := s.logWrite w.cid
    let x : State := { u with osc := { u.osc with accepted := true } }
    (x.tryLock (x.el Reg.REF_ACTIVE) (x.elS 8 Reg.REF_OFFSET), .ok)
def State.learnReset (s : State) (w : Who) (v : Nat) : State × Stat :=
  if v ≠ 1 then (s, .range 2 0)
  else
    let u := (s.logWrite w.cid).resetModel
    (State.repairCheck { u with rep := { u.rep with restarted := false } }, .ok)

/-- REF_LABEL_WRITE (R192). -/
def execRefLabelWrite (r : Req) (s : State) : Outcome State Fault Refusal :=
  .next (s.ownWrite (.refLabelWrite r) r (fun a => a == Reg.REF_LABEL) false (atOnce (fun t w _ v => t.refLabel w v)))

/-- REF_ACCEPT_WRITE (R194). -/
def execRefAcceptWrite (r : Req) (s : State) : Outcome State Fault Refusal :=
  .next (s.ownWrite (.refAcceptWrite r) r (fun a => a == Reg.REF_ACCEPT) false (atOnce (fun t w _ v => t.refAccept w v)))

/-- LEARN_RESET_WRITE (R201, R715). -/
def execLearnResetWrite (r : Req) (s : State) : Outcome State Fault Refusal :=
  .next (s.ownWrite (.learnResetWrite r) r (fun a => a == Reg.LEARN_RESET) false (atOnce (fun t w _ v => t.learnReset w v)))

/-! ### Learning -/

/-- DRIFT_OBSERVATION (R197 to R200): an observation that ended, oldest first, else the one that has run 1,024 s; with r̄ in
ppt and the means of u, u², u³ and L over it in 10⁻⁶, as FB integrated them. -/
def execDriftObservation (rbar u1 u2 u3 l : Int) (s : State) : Outcome State Fault Refusal :=
  if !s.runs .fb ∨ !s.onCrystal then .next s else
  let m : Int → Rat := fun x => (x : Rat) / 1000000
  let phi : List Rat := [1, m u1, m u2, m u3, m l]
  match s.osc.obsDue with
  | o :: t =>
    let s1 : State := { s with osc := { s.osc with obsDue := t } }
    let s2 := s1.estimate o rbar phi
    .next (if t.isEmpty ∧ !s2.ownLocked ∧ !s2.twin.follow then { s2 with osc := { s2.osc with disc := 0 } } else s2)
  | [] =>
    match s.osc.obs with
    | none => .next s
    | some (t1, e1, sg) =>
      let s1 := s.reach (t1 + 1024 * stSecond)
      let e2 := s1.elS 8 Reg.REF_OFFSET
      let o : Obs := ⟨t1, e1, s1.now, e2, s1.osc.steps, sg⟩
      let s2 : State := { s1 with osc := { s1.osc with obs := some (s1.now, e2, sg), steps := 0 } }
      .next (s2.estimate o rbar phi)

/-- MODEL_STORE (R202). -/
def execModelStore (s : State) : Outcome State Fault Refusal :=
  if s.runs .cr ∧ s.boot.firmware then .next (s.cross .nv 11 State.storeModel) else .next s

/-- EPISODE_COUNTED (R204, R205): 3,600 s into an episode that starts 20 h or more after the last counted one. -/
def execEpisodeCounted (s : State) : Outcome State Fault Refusal :=
  match s.osc.epStart with
  | none => .next s
  | some t =>
    let far : Bool := match s.osc.epLastStart with | some u => decide (u + 72000 * stSecond ≤ t) | none => true
    if s.osc.epCounted ∨ !far then .next s
    else
      let s1 := (s.reach (t + 3600 * stSecond)).inc 2 Reg.EPISODES
      let s2 : State := { s1 with osc :=
        { s1.osc with epCounted := true, epLastStart := some t, epTemps := s1.osc.epTemps ++ [s1.epMean] } }
      .next s2.learnBand

/-- EPISODE_ROLLOVER (R204): an episode reaches 86,400 s, closes, and the next begins. -/
def execEpisodeRollover (s : State) : Outcome State Fault Refusal :=
  match s.osc.epStart with
  | none => .next s
  | some t => .next ((s.reach (t + 86400 * stSecond)).closeEpisode.storeModel).openEpisode

/-! ### Compensation (R184 to R188, R207, R209) -/

/-- COMP_LOAD (R184): with TS0 in 0.01 °C FB integrates the bound, takes up the corrections of R207, sets the LFRC's trim, computes
y and loads both words. -/
def execCompLoad (ts0 : Int) (s0 : State) : Outcome State Fault Refusal :=
  if !s0.runs .fb ∨ !s0.clk.loaded then .next s0 else
  let r0 := s0.readTs [ts0]
  let temp := clampS 2 (ts0 + r0.elS 2 Reg.XTAL_T_OFS)
  let s1 := (r0.growHold (r0.boundSince temp)).outageCorrection temp
  let s := if s1.onCrystal then s1 else s1.putS 1 Reg.LFRC_TRIM (s1.trimFor temp)
  let y := s.ySteer temp s.now
  let bw := bkWord y s.osc.disc
  let bc := clampInt bw (-(2 ^ 20)) (2 ^ 20)
  let p := s.phiOf temp s.now
  let var := dot p (matVec s.osc.cov p)
  let ep := s.osc.epStart.isSome
  let t : State := { s with
    osc := { s.osc with
      lastLoadT := some temp, lastLoadAt := s.now, base := -(y / 1000000000000) + s.osc.disc
      epSumT := if ep then s.osc.epSumT + temp else s.osc.epSumT
      epN := if ep then s.osc.epN + 1 else s.osc.epN }
    bk := { s.bk with comp := bc } }
  let u := ((t.putS 2 Reg.XTAL_T temp).steer).putS 4 Reg.BK_COMP bc
  let v := u.put Reg.LEARN_SIGMA (min (Nat.sqrt var.floor.toNat) (2 ^ 32 - 1))
  .next (if bw = bc then v else v.refRecord 4)

/-- COMP_TEMP_WAKE (R184): AO finds TS0 outside the window and wakes FB. -/
def execCompTempWake (ts0 : Int) (s : State) : Outcome State Fault Refusal :=
  let temp := ts0 + s.elS 2 Reg.XTAL_T_OFS
  if !s.mainPower then .next s else
  let s := s.readTs [ts0]
  match s.osc.lastLoadT with
  | none => .next s
  | some t => if s.el Reg.COMP_DT < (temp - t).natAbs then .next s.wakeFb else .next s

/-! ### The crystal and the LFRC (R132 to R136, R171 to R174) -/

/-- A crystal passes its qualification (R133): 65,536 consecutive cycles, no gap longer than four LFRC periods, a count within ±2 % of
what the LFRC predicts for the interval. -/
def x32Good (cycles gap predicted : Nat) : Bool :=
  decide (65536 ≤ cycles) && decide (gap ≤ 4) && decide (50 * cycles ≤ 51 * predicted) && decide (49 * predicted ≤ 50 * cycles)

/-- X32_QUALIFIED (R132, R133, R201): the crystal reads as qualified, the change-over follows at a whole second. `gap`: the longest,
in whole LFRC periods begun. At the first qualification of a new model θ and P are the priors' (log entry 89). -/
def execX32Qualified (cycles gap predicted : Nat) (s : State) : Outcome State Fault Refusal :=
  if !s.runs .bk ∨ s.el Reg.X32_STATE = 1 ∨ !x32Good cycles gap predicted then .next s else
  let back := s.rep.restarted || s.el Reg.X32_STATE == 2
  let s1 : State := { s with bk := { s.bk with qualified := true }, rep := { s.rep with restarted := back } }
  let s2 := ((s1.put Reg.X32_STATE 1).tamperOff 7).repairCheck
  if s2.osc.ageWaits then
    let s3 := if s2.el Reg.LEARN_STATE = 0 then s2.resetModel else s2
    .next ({ s3 with osc := { s3.osc with ageWaits := false } }.put Reg.AGE_ORIGIN s3.now)
  else .next s2

/-- X32_CHANGEOVER (R134): at a whole-second boundary BK counts the crystal. -/
def execX32Changeover (s : State) : Outcome State Fault Refusal :=
  if !s.bk.qualified ∨ !s.runs .bk then .next s else
  let b := (s.clk.v + 32767) / 32768 * 32768
  let s1 := s.reach (s.now + (b - s.clk.v) * 8192)
  .next { s1 with bk := { s1.bk with qualified := false } }

/-- X32_QUAL_TIMEOUT (R136). -/
def execX32QualTimeout (s : State) : Outcome State Fault Refusal :=
  if s.runs .bk ∧ s.el Reg.X32_STATE = 0 then .next (s.tamperOn 7 2) else .next s

/-- X32_RESTART_ATTEMPT (R136, R173): at the fence's drive step. -/
def execX32RestartAttempt (s : State) : Outcome State Fault Refusal :=
  if s.runs .bk ∧ s.el Reg.X32_STATE ≠ 1 then .next (s.put Reg.X32_DRIVE s.bk.driveMax) else .next s

/-- X32_STOPPED (R171, R198, R199): the LFRC takes over, the four ticks of the gap are credited where BK counted the crystal, source
7 asserts; the observation is dropped. -/
def execX32Stopped (s : State) : Outcome State Fault Refusal :=
  if !s.runs .bk ∨ s.el Reg.X32_STATE ≠ 1 then .next s else
  let s0 := if s.onCrystal then s.reach (s.now + 4 * 8192) else s
  let s1 : State := { s0 with
    bk := { s0.bk with qualified := false }
    osc := { s0.osc with gap := none, obs := none, obsDue := [], disc := if s0.ownLocked then s0.osc.disc else 0 } }
  .next ((s1.put Reg.X32_STATE 2).tamperOn 7 1).repairCheck

/-- LFRC_CAL_START (R174). -/
def execLfrcCalStart (s : State) : Outcome State Fault Refusal :=
  if s.runs .fb ∧ s.onCrystal then .next { s with osc := { s.osc with lfrcRun := true } } else .next s

/-- LFRC_CAL_END (R174): the mean error in ppb at the mean crystal temperature; the fit's largest residual. -/
def execLfrcCalEnd (err temp : Int) (s : State) : Outcome State Fault Refusal :=
  if !s.osc.lfrcRun ∨ !s.runs .fb ∨ !s.onCrystal then .next s else
  let l := (s.osc.lfrcCal ++ [(err, temp)]).drop (s.osc.lfrcCal.length - 31)
  let s1 : State := { s with osc := { s.osc with lfrcRun := false, lfrcCal := l } }
  match lfrcFit l with
  | some f =>
    let m := l.foldl (fun a p => max a (roundRat (absRat (p.1 - fitAt f p.2))).toNat) 0
    .next (s1.put Reg.LFRC_RESID (min m (2 ^ 32 - 1)))
  | none => .next s1

/-- AORC_MEASURE (R177). -/
def execAorcMeasure (hz : Nat) (s : State) : Outcome State Fault Refusal :=
  if s.runs .fb then .next (s.put Reg.AORC_HZ (hz % 2 ^ 32)) else .next s

/-- XH_MEASURE (R178): the error of XH; the event when it goes beyond 50 ppm. -/
def execXhMeasure (ppb : Int) (s : State) : Outcome State Fault Refusal :=
  if !s.runs .fb ∨ !s.runs .nw then .next s else
  let s1 := s.putS 4 Reg.XH_PPB (clampS 4 ppb)
  if 50000 < ppb.natAbs ∧ (s.elS 4 Reg.XH_PPB).natAbs ≤ 50000 then .next (s1.refRecord 3) else .next s1

/-! ### The PLL (R183) and PPS_OUT (R211 to R214) -/

/-- PLL_LOCK_LOSS (R183): stamps come from BK. -/
def execPllLockLoss (s : State) : Outcome State Fault Refusal :=
  if !s.runs .fb then .next s else
  let t := s.fbStops
  .next { t with osc := { t.osc with pllLocked := false } }

/-- PLL_RELOCK (R183): FB may rebuild station time. -/
def execPllRelock (s : State) : Outcome State Fault Refusal :=
  if s.runs .fb then .next { s with osc := { s.osc with pllLocked := true } } else .next s

/-- PPS_GATE is open (R214). -/
def State.ppsGate (s : State) : Bool :=
  let g := s.el Reg.PPS_GATE
  g == 0 || s.refLocked || (g == 2 && decide (s.holdShown * 1000 ≤ s.el Reg.PPS_UNC_MAX))

/-- The level of PPS_OUT: a pulse under way, while the gate is open (R211, R214; log entry 90). -/
def State.ppsPin (s : State) : Bool := s.osc.ppsUntil.isSome && s.ppsGate

/-- PPS_OUT_PULSE (R211 to R214): advancing station time crosses a whole second; at the end of its range it crosses none. -/
def execPpsOutPulse (s : State) : Outcome State Fault Refusal :=
  let m := s.el Reg.PPS_MODE
  let n := (s.now / stSecond + 1) * stSecond
  if ((m = 1 ∧ s.runs .fb) ∨ (m = 2 ∧ s.mainPower)) ∧ n ≤ stMax then
    let s1 := s.reach n
    if s1.ppsGate then
      .next (State.emit { s1 with osc := { s1.osc with ppsUntil := some (n + stUs (s1.el Reg.PPS_W)) } } (.frame "PPS_OUT" [n]))
    else .next s1
  else .next s

/-- PPS_OUT_PULSE_END (R211, R213): PPS_W after its rise it falls. -/
def execPpsOutPulseEnd (s : State) : Outcome State Fault Refusal :=
  match s.osc.ppsUntil with
  | none => .next s
  | some t =>
    let s1 := s.reach t
    .next { s1 with osc := { s1.osc with ppsUntil := none } }

end Sys2Proof.Machine
end

