-- ==== Sys2Proof/Machine/Ports.lean ====
section
/-! DEFINITION. The field ports (chapter 13): CAN FD's segments and errors, the link, IPv6, PTP, the host port. -/
namespace Sys2Proof.Machine
open Host

/-! ### CAN FD -/

/-- The port takes frames in: enabled, NW in RUN, not off, in bus-off or recovering. -/
def State.canTakes (s : State) : Bool :=
  bitOf (s.el Reg.PORT_EN) 0 && s.runs .nw && (s.el Reg.CAN_STATE == 1 || s.el Reg.CAN_STATE == 2)

/-- A message under reassembly is dropped, or never begun (R469). -/
def State.segDrop (s : State) : State := (s.inc 4 Reg.CAN_SEG_DROP).inc 4 Reg.MSG_DROPPED

/-- The smallest data length of CAN FD that holds n bytes. -/
def canDlc (n : Nat) : Nat :=
  if n ≤ 8 then n else if n ≤ 12 then 12 else if n ≤ 16 then 16 else if n ≤ 20 then 20 else if n ≤ 24 then 24
  else if n ≤ 32 then 32 else if n ≤ 48 then 48 else 64

/-- The reassemblies but that of a key. -/
def State.dropKey (s : State) (cid tag : Nat) : State :=
  { s with port := { s.port with reasm := s.port.reasm.filter (fun x => !(x.cid == cid && x.tag == tag)) } }

/-- A frame continues or ends the reassembly x (R468, R469): `head` bytes stand before its message bytes. -/
def State.segTake (s : State) (x : Reasm) (last : Bool) (index len head : Nat) : State :=
  let room := x.total - x.got
  let t := s.dropKey x.cid x.tag
  if index ≠ x.next ∨ x.total = 0 ∨ 1200 < x.total then t.segDrop
  else if last then
    if 64 - head < room ∨ len ≠ canDlc (room + head) then t.segDrop else t
  else if len ≠ 64 ∨ room ≤ 64 - head then t.segDrop
  else
    let y : Reasm := { x with got := x.got + (64 - head), next := index + 1 }
    { t with port := { t.port with reasm := t.port.reasm ++ [y] } }

/-- CAN_SEGMENT_RECEIVED (R462, R465, R468, R469): a frame, an FD data frame with an extended identifier or one that is ignored, with its identifier's fields, its control byte, the message length a
first frame carries, and its data length. A message that ends here arrives as the command of its own request. -/
def execCanSegmentReceived (fd : Bool) (dir node cid tag reserved : Nat) (first last : Bool) (index total len : Nat) (s : State) :
    Outcome State Fault Refusal :=
  if !fd ∨ !s.canTakes ∨ dir ≠ 0 ∨ node ≠ s.el Reg.CAN_NODE ∨ reserved ≠ 0 then .next s else
  match s.port.reasm.find? (fun x => x.cid == cid && x.tag == tag) with
  | some x =>
    if first then .next (((s.dropKey cid tag).segDrop).segTake ⟨cid, tag, total, 0, 0⟩ last index len 3)
    else .next (s.segTake x last index len 1)
  | none =>
    if !first then .next s.segDrop
    else if !last ∧ 16 ≤ s.port.reasm.length then .next s.segDrop
    else .next (s.segTake ⟨cid, tag, total, 0, 0⟩ last index len 3)

/-- CAN_SEG_TIMEOUT (R469): CAN_SEG_TMO passes between two frames of a message. -/
def execCanSegTimeout (cid tag : Nat) (s : State) : Outcome State Fault Refusal :=
  if s.port.reasm.any (fun x => x.cid == cid && x.tag == tag) then .next (s.dropKey cid tag).segDrop else .next s

/-- CAN_FRAME_TRANSMITTED (R470): the frame at the head was sent; with its last frame a message leaves. -/
def execCanFrameTransmitted (s : State) : Outcome State Fault Refusal :=
  if !s.canSends then .next s else
  match s.port.canTx with
  | [] => .next s
  | m :: l =>
    if m.frames ≤ m.sent + 1 then
      let t : State := { s with port := { s.port with canTx := l } }
      .next (t.emit m.out).canRefill
    else .next { s with port := { s.port with canTx := { m with sent := m.sent + 1 } :: l } }

/-- CAN_TX_TIMEOUT (R471): the rest of the message at the head is abandoned. -/
def execCanTxTimeout (s : State) : Outcome State Fault Refusal :=
  match s.port.canTx with
  | [] => .next s
  | _ :: l =>
    let t : State := { s with port := { s.port with canTx := l } }
    .next t.canRefill

/-- CAN_BUS_ERROR (R472): ISO 11898-1's counting leaves the error counts at tec and rec. -/
def execCanBusError (tec rec_ : Nat) (s : State) : Outcome State Fault Refusal :=
  if !s.canTakes ∨ s.el Reg.CAN_MODE = 1 then .next s else .next (s.canCounts tec rec_)

/-- CAN_BOFF_HOLD_EXPIRY (R472): recovery begins. -/
def execCanBoffHoldExpiry (s : State) : Outcome State Fault Refusal :=
  if s.el Reg.CAN_STATE = 3 then .next (s.put Reg.CAN_STATE 4) else .next s

/-- CAN_RECOVERY_COMPLETE (R472): back to error active. -/
def execCanRecoveryComplete (s : State) : Outcome State Fault Refusal :=
  if s.el Reg.CAN_STATE = 4 then .next (((s.put Reg.CAN_STATE 1).put Reg.CAN_ERRCNT 0).portRecord 3 0) else .next s

/-- CAN_STB is high (R473). -/
def State.canStb (s : State) : Bool := !bitOf (s.el Reg.PORT_EN) 0 || !s.runs .nw

/-! ### 10BASE-T1L and IPv6 -/

/-- T1L_LINK_UP (R478, R484): the link is up at an amplitude and in a role; detection of duplicate addresses starts, PTP
passes through INITIALIZING to LISTENING. -/
def execT1lLinkUp (amp24 master : Bool) (s : State) : Outcome State Fault Refusal :=
  if !s.runs .nw ∨ !bitOf (s.el Reg.PORT_EN) 1 ∨ s.el Reg.T1L_LINK / 2 ^ 24 = 3 then .next s else
  let amp := if amp24 then 2 else 1
  let role := if master then 1 else 0
  let t := (s.put Reg.T1L_LINK (((3 * 256 + amp) * 256 + role) * 256)).portRecord 4 (role * 256 + amp)
  let u := t.startDad
  if u.el Reg.PTP_ROLE = 0 then .next u else .next ((u.ptpGo ptpInitializing).ptpGo ptpListening)

/-- T1L_LINK_DOWN (R476, R484). -/
def execT1lLinkDown (s : State) : Outcome State Fault Refusal := .next s.linkDown

/-- An echo request is answered, up to 10 in a second (R480). -/
def State.answerEcho (s : State) (source ident seq : Nat) : State :=
  let sec := s.now / stSecond
  let n := if s.port.echoSec = sec then s.port.echoes else 0
  if 10 ≤ n then s else
  let t : State := { s with port := { s.port with echoes := n + 1, echoSec := sec } }
  t.emit (.frame "ICMPv6 echo reply" [source, ident, seq, s.el Reg.IP6_HOPS])

/-- ICMPV6_ECHO (R475, R480): an echo request, of the frames the port takes in. -/
def execIcmpv6Echo (f : Eth) (source ident seq : Nat) (s : State) : Outcome State Fault Refusal :=
  .next (s.onFrame f (fun s => s.answerEcho source ident seq))

/-- The neighbour cache with an entry learned: 16 entries, the oldest leaving first (R482). -/
def State.learnHop (s : State) (a mac : Nat) : State :=
  let l := s.port.neighbours.filter (fun p => p.1 != a) ++ [(a, mac)]
  { s with port := { s.port with neighbours := l.drop (l.length - 16) } }

/-- A solicitation or an advertisement for a target (R478, R479), which is the address `own` of the device, or none. In detection,
one from another node for an address of the device finds it duplicated; else a solicitation is answered, and what it tells is
cached. -/
def State.neighbourOf (s : State) (own : Option (Nat × Nat)) (advert : Bool) (target source mac : Nat) : State :=
  match own with
  | some p =>
    if bitOf (s.el Reg.IP6_DAD) p.1 then s
    else if decide (s.now < s.port.dadUntil) && (advert || source == 0) then
      (s.put Reg.IP6_DAD (setBit (s.el Reg.IP6_DAD) p.1 true)).portRecord 6 p.1
    else if advert then s
    else
      let t := if source = 0 then s else s.learnHop source mac
      t.emit (.frame "neighbour advertisement" [target, s.el Reg.T1L_MAC, source, 255])
  | none => if advert then s.learnHop target mac else s

/-- A solicitation or an advertisement for a target. -/
def State.neighbour (s : State) (advert : Bool) (target source mac : Nat) : State :=
  s.neighbourOf (s.ownAddrs.find? (fun p => p.2 == target)) advert target source mac

/-- NEIGHBOUR_DISCOVERY_FRAME (R475, R478, R479), of the frames the port takes in. -/
def execNeighbourDiscoveryFrame (f : Eth) (advert : Bool) (target source mac : Nat) (s : State) :
    Outcome State Fault Refusal :=
  .next (s.onFrame f (fun s => s.neighbour advert target source mac))

/-! ### PTP (R483 to R491) -/

/-- A PTP timestamp of a station time: seconds and nanoseconds (R489). -/
def ptpTime (t : Nat) : Nat × Nat :=
  (t / stSecond + 946684800, (t % stSecond * 1000000000 + 2 ^ 27) / 2 ^ 28)

/-- A stamp of the port: a multiple of 5 ns within ±15 ns of station time (R488); which one is left open. -/
def State.ptpStamp (s : State) : Nat × Nat :=
  let ns := (ptpTime s.now).1 * 1000000000 + (ptpTime s.now).2
  let low := (ns - 11) / 5
  let t := (low + s.free % ((ns + 15) / 5 + 1 - low)) * 5
  (t / 1000000000, t % 1000000000)

/-- The clockClass announced (R487). -/
def State.ptpClass (s : State) : Nat :=
  let st := s.refShown
  let act := s.el Reg.REF_ACTIVE
  if s.unset then 248
  else if st = 2 ∧ (act = 1 ∨ act = 4) then 6
  else if st = 3 then (if s.holdShown * 1000 ≤ s.el Reg.PTP_HOLD_SPEC then 7 else 52)
  else 248

/-- The clockAccuracy values of IEEE 1588-2019 with their bounds in ps. -/
def ptpAccuracies : List (Nat × Nat) :=
  [(0x17, 1), (0x18, 2), (0x19, 10), (0x1A, 25), (0x1B, 100), (0x1C, 250), (0x1D, 1000), (0x1E, 2500), (0x1F, 10000),
   (0x20, 25000), (0x21, 100000), (0x22, 250000), (0x23, 1000000), (0x24, 2500000), (0x25, 10000000), (0x26, 25000000),
   (0x27, 100000000), (0x28, 250000000), (0x29, 1000000000), (0x2A, 2500000000), (0x2B, 10000000000), (0x2C, 25000000000),
   (0x2D, 100000000000), (0x2E, 250000000000), (0x2F, 1000000000000), (0x30, 10000000000000)]

/-- The clockAccuracy announced (R487). -/
def State.ptpAccuracy (s : State) : Nat :=
  if s.ptpClass = 248 then 0xFE
  else match ptpAccuracies.find? (fun p => decide (s.holdShown * 1000000 ≤ p.2)) with
    | some p => p.1
    | none => 0x31

/-- timeSource: 0x20 on PPS, 0x90 on TECH, else 0xA0 (R487). -/
def State.ptpSource (s : State) : Nat :=
  let act := s.el Reg.REF_ACTIVE
  if act = 1 then 0x20 else if act = 4 then 0x90 else 0xA0

/-- The UTC day under way ends at a table entry that changes TAI−UTC by d (R487: leap61 for 1, leap59 for −1). -/
def State.leapToday (s : State) (d : Int) : Bool :=
  let u := (s.utcView s.now).1
  s.leapTable.any (fun p => decide (s.now < p.1) && p.2 == s.taiUtc s.now + d &&
    ((p.1 / stSecond : Nat) - p.2) / 86400 == u / 86400 + 1)

/-- NW's copy of station time was realigned less than 2 ms ago: FB does so over CH15 every 1 ms (R490). -/
def State.nwAligned (s : State) : Bool := s.runs .fb && s.chan 15 == .idle

/-- The port may send as master. -/
def State.ptpMasters (s : State) : Bool := s.ptpServed && s.t1lUp && s.el Reg.PTP_STATE == ptpMaster

/-- PTP_ANNOUNCE_SEND (R487). -/
def execPtpAnnounceSend (s : State) : Outcome State Fault Refusal :=
  if !s.ptpMasters then .next s else
  let t := s.put Reg.PTP_CLASS s.ptpClass
  let b : Bool → Nat := fun x => if x then 1 else 0
  .next (t.emit (.frame "PTP Announce" [t.el Reg.PTP_DOMAIN, t.el Reg.PTP_CLOCK_ID, t.el Reg.PTP_PRIO, t.ptpClass,
    t.ptpAccuracy, t.ptpSource, unsigned 16 (t.taiUtc t.now), b (!t.unset && !t.tableExpired t.now), b (t.leapToday 1),
    b (t.leapToday (-1)), 1]))

/-- PTP_SYNC_SEND (R488 to R490): a Sync and the Follow_Up with its stamp, where the stamp is not discarded. -/
def execPtpSyncSend (s : State) : Outcome State Fault Refusal :=
  if !s.ptpMasters then .next s
  else if !s.nwAligned then .next (s.emit (.frame "PTP Sync" [s.el Reg.PTP_DOMAIN]))
  else
  let p := s.ptpStamp
  .next ((s.drawn.emit (.frame "PTP Sync" [s.el Reg.PTP_DOMAIN])).emit (.frame "PTP Follow_Up" [s.el Reg.PTP_DOMAIN, p.1, p.2]))

/-- PTP_DELAY_REQ_RECEIVED (R488), at the event port: stamped and answered. -/
def execPtpDelayReqReceived (f : Eth) (requester : Nat) (s : State) : Outcome State Fault Refusal :=
  .next (s.onFrame f (fun s =>
    if !s.ptpMasters ∨ !s.nwAligned ∨ f.port ≠ 319 then s else
    let p := s.ptpStamp
    s.drawn.emit (.frame "PTP Delay_Resp" [s.el Reg.PTP_DOMAIN, p.1, p.2, requester])))

/-- The port takes the part that the best master clock algorithm of IEEE 1588-2019 gives, as far as PTP_ROLE lets it (R483):
0 slave of a parent, 1 master, 2 passive. -/
def State.ptpPart (s : State) (part parent : Nat) : State :=
  let role := s.el Reg.PTP_ROLE
  let own := s.el Reg.PTP_CLOCK_ID * 65536
  if role = 3 then (s.put Reg.PTP_PARENT own).ptpGo ptpMaster
  else if part = 0 then
    let same := s.el Reg.PTP_PARENT == parent && (s.el Reg.PTP_STATE == ptpSlave || s.el Reg.PTP_STATE == ptpUncalibrated)
    if same then s else (s.put Reg.PTP_PARENT parent).ptpGo ptpUncalibrated
  else if role = 1 then (s.put Reg.PTP_PARENT own).ptpGo ptpListening
  else if part = 1 then (s.put Reg.PTP_PARENT own).ptpGo ptpMaster
  else s.ptpGo ptpPassive

/-- PTP_ANNOUNCE_RECEIVED (R223, R483), at the general port: the algorithm's finding on an Announce, its sender, and the currentUtcOffset where it
is marked valid. -/
def execPtpAnnounceReceived (f : Eth) (part : Fin 3) (parent : Nat) (utc : Option Int) (s : State) :
    Outcome State Fault Refusal :=
  .next (s.onFrame f (fun s =>
    if !s.ptpServed ∨ !s.ptpRuns ∨ f.port ≠ 320 ∨ (s.el Reg.PTP_ROLE = 3 ∧ s.el Reg.PTP_STATE = ptpListening) then s
    else
      let t := s.ptpPart part parent
      State.leapCheck { t with osc := { t.osc with gmUtc := utc } }))

/-- ANNOUNCE_RECEIPT_TIMEOUT (R483): no Announce in time; with no other clock the algorithm gives master, where the role
lets it. -/
def execAnnounceReceiptTimeout (s : State) : Outcome State Fault Refusal :=
  if !s.ptpServed ∨ !s.t1lUp ∨ !s.ptpRuns then .next s else .next (s.ptpPart 1 0)

/-! ### The host port (R492 to R503) -/

/-- READY: the host port is ready, enabled, and NW in RUN (R96, NW reset). -/
def State.hostReady (s : State) : Bool := s.boot.portReady && s.runs .nw && bitOf (s.el Reg.PORT_EN) 2

/-- The port's master fetches what is queued, also while NW drains it (R88). -/
def State.hostFetches (s : State) : Bool := s.boot.portReady && s.nwSends && bitOf (s.el Reg.PORT_EN) 2

/-- The port is I²C. -/
def State.hostI2c (s : State) : Bool := s.el Reg.HP_MODE == 1

/-- ERR is set. -/
def State.hostError (s : State) : State := { s with port := { s.port with hostErr := true } }

/-- A frame is discarded: counted, and ERR set (R493, R496). -/
def State.hostDrop (s : State) : State := (s.inc 4 Reg.HP_DROPPED).hostError

/-- What a transaction at the port meets: on I²C the host names an address, and the device answers at its own only, with a NACK
while it is not READY (R501, R503); on SPI a port that is not READY takes nothing. -/
def State.hostTurn (s : State) (addr : Nat) (go : State → State) : State :=
  if s.hostI2c ∧ s.port.i2cAddr ≠ some addr then s
  else if !s.hostReady then (if s.hostI2c then s.emit (.frame "I2C NACK" []) else s)
  else go s

/-- HOST_SEND (R492, R493, R496, R503): a frame of a type, sound or not; its message or ring operation is then served as
the command of its own. -/
def execHostSend (addr typ : Nat) (sound : Bool) (s : State) : Outcome State Fault Refusal :=
  .next (s.hostTurn addr (fun s =>
    if s.hostI2c ∧ 4 ≤ s.port.hostIn then s.emit (.frame "I2C NACK" [])
    else if 4 ≤ s.port.hostIn then s.hostDrop
    else if !sound ∨ (typ ≠ 1 ∧ typ ≠ 2) then s.hostDrop.inc 4 Reg.MSG_DROPPED
    else { s with port := { s.port with hostIn := s.port.hostIn + 1 } }))

/-- The oldest fetchable frame; read whole, through its last CRC byte, it leaves the queue (R497). -/
def State.fetchFrame (s : State) (whole : Bool) : State :=
  match s.port.hostOut with
  | [] => s.emit (.frame "no frame" [0, 0, 0])
  | o :: l =>
    if whole then
      let t : State := { s with port := { s.port with hostOut := l } }
      t.emit o
    else s

/-- HOST_FETCH (R497, R500), also while NW drains what is queued (R88). -/
def execHostFetch (addr : Nat) (whole : Bool) (s : State) : Outcome State Fault Refusal :=
  if s.hostFetches ∧ (!s.hostI2c ∨ s.port.i2cAddr = some addr) then .next (s.fetchFrame whole)
  else .next (s.hostTurn addr id)

/-- The port status byte. -/
def State.hostFlags (s : State) : Nat :=
  (if s.hostReady then 128 else 0) + (if s.port.hostOut.isEmpty then 0 else 64) + (if 4 ≤ s.port.hostIn then 32 else 0) +
  (if s.port.hostErr then 16 else 0)

/-- HOST_STATUS (R500): the status byte, the free inbound places, the fetchable frames, at most 8 (R496); ERR clears. -/
def execHostStatus (addr : Nat) (s : State) : Outcome State Fault Refusal :=
  if s.hostI2c ∧ (s.port.i2cAddr ≠ some addr ∨ !s.hostReady) then .next (s.hostTurn addr id) else
  let t := s.emit (.hostStatus s.hostFlags (4 - s.port.hostIn) (min s.port.hostOut.length 8))
  .next { t with port := { t.port with hostErr := false } }

/-- HOST_UNKNOWN_COMMAND (R500, R503). -/
def execHostUnknownCommand (addr : Nat) (s : State) : Outcome State Fault Refusal :=
  .next (s.hostTurn addr (fun s =>
    if s.hostI2c then s.hostError.emit (.frame "I2C NACK" []) else s.hostError))

end Sys2Proof.Machine
end

