-- ==== Sys2Proof/Machine/Twin.lean ====
section
/-! DEFINITION. The twin pair (chapter 22): the bond link, pairing, leadership, shared time and rails, the digests, the split;
mirrored commits, steps and values stand in Steps.lean and Mirror.lean. -/
namespace Sys2Proof.Machine
open Host

/-! ### Roles and states -/

/-- The pair is in JOINED or DISCORD. -/
def State.twinTogether (s : State) : Bool := s.twinIs 3 || s.twinIs 4

/-- The bond link works: a half of a pair whose NW runs (R749, R752). -/
def State.bondRuns (s : State) : Bool := s.twinRole != 0 && s.runs .nw

/-- The firmware serves HELLO, DIGEST, COMMIT, STEP and VALUES frames, which wait without it (chapter 22, Edges). -/
def State.bondServed (s : State) : Bool := s.bondRuns && s.runs .cr && s.boot.firmware

/-- A record of source 56 (R784). -/
def State.twinRecord (s : State) (kind detail : Nat) : State := s.stationRecord 56 kind detail true

/-- A frame leaves by the bond link, with the next counter. -/
def State.bondSend (s : State) (name : String) (l : List Nat) : State :=
  State.emit { s with twin := { s.twin with tx := (s.twin.tx + 1) % 2 ^ 32 } } (.frame name (s.twin.tx :: l))

/-- A frame is accepted (R751), or dropped and counted. -/
def State.bondTakes (s : State) (f : Bond) : Bool := f.sound && s.twin.key.isSome && decide (s.twin.rx < f.counter)
def State.bondTook (s : State) (f : Bond) : State := { s with twin := { s.twin with rx := f.counter } }
def State.bondDrop (s : State) : State := s.inc 4 Reg.TWIN_LINK_ERR

/-- This half's own reference is ready to lead: of class PPS, PTP or TECH, and LOCKED (R759). -/
def State.twinReady (s : State) : Bool := s.ownLocked && epClass (s.el Reg.REF_ACTIVE)

/-! ### Twin-shared elements (R767, R768) -/

/-- The address is that of a twin-shared element (Table: Twin-shared elements), as the live RES_CFG marks the rails. -/
def State.twinElement (s : State) (a : Nat) : Bool :=
  a == Reg.SLEW_PPM || a == Reg.LEAP_COUNT || a == Reg.LEAP_EXPIRES || a == Reg.FLT_CFG || a == Reg.TWIN_T_THR ||
  a == Reg.TWIN_JOIN_T || decide (Reg.LEAP_ENTRY 0 ≤ a ∧ a ≤ Reg.LEAP_ENTRY 47) ||
  decide (Reg.RES_CFG 24 ≤ a ∧ a ≤ Reg.RES_CFG 31) ||
  (List.range 8).any (fun r => (a == Reg.RAIL_CFG r || a == Reg.RAIL_LVL r) && s.twinShared (25 + r)) ||
  (List.range 64).any (fun h => a == Reg.HOLDER_STATE h || a == Reg.LOCAL_OFS h)

/-- The elements that the digest takes, in ascending order of address. -/
def twinAddrs : List Nat :=
  ([Reg.SLEW_PPM, Reg.LEAP_COUNT, Reg.LEAP_EXPIRES, Reg.FLT_CFG, Reg.TWIN_T_THR, Reg.TWIN_JOIN_T] ++
    (List.range 48).map Reg.LEAP_ENTRY ++ (List.range 8).map (fun r => Reg.RES_CFG (24 + r)) ++
    (List.range 8).map Reg.RAIL_CFG ++ (List.range 8).map Reg.RAIL_LVL ++ (List.range 64).map Reg.HOLDER_STATE ++
    (List.range 64).map Reg.LOCAL_OFS).sortBy (· ≤ ·)

/-- Of RES_CFG without its bit 1 only the flags byte is shared. -/
def State.flagsOnly (s : State) (a : Nat) : Bool := decide (Reg.RES_CFG 24 ≤ a ∧ a ≤ Reg.RES_CFG 31) && !bitOf (s.el a) 73

/-- The part of an element that is shared; and as the digest takes it, encoded under R250. -/
def State.twinPart (s : State) (a : Nat) : Nat := if s.flagsOnly a then field (s.el a) 72 8 else s.el a
def State.twinBytes (s : State) (a : Nat) : Bytes :=
  if s.flagsOnly a then numToBytes 1 (s.twinPart a)
  else match rowOf a with
    | some r => typeBytes r.ty (s.el a)
    | none => []

/-- The configuration digest of the values in force: SHA-256 of each element's address and part (R768). -/
def State.twinDigest (s : State) : Nat :=
  bytesToNum (Config.sha256 ((twinAddrs.filter s.twinElement).flatMap (fun a => numToBytes 3 a ++ s.twinBytes a))) % 2 ^ 256

/-! ### Shared rails (R774 to R778) -/

/-- The rails that are twin-shared. -/
def State.sharedRails (s : State) : List Nat :=
  if s.twinRole = 0 then [] else (List.range 8).filter (fun r => s.twinShared (25 + r))

/-- A's shared-rail word: bit n from WAIT_UP until FALL or FAULT (R776). -/
def State.railWord (s : State) : Nat :=
  s.sharedRails.foldl (fun a r =>
    let st := (s.outp r).state
    if st = oWaitUp ∨ st = oRamp ∨ st = oOn ∨ st = oWaitDown then a + 2 ^ r else a) 0

/-- The enables that B drives: those of A's latest word, in JOINED and DISCORD (R776). -/
def State.lendRails (s : State) : State :=
  let n := if s.twinRole = 2 ∧ s.twinTogether then s.sharedRails.foldl (fun a r => if bitOf s.twin.word r then a + 2 ^ r else a) 0
    else 0
  { s with twin := { s.twin with lent := n } }

/-- Outside JOINED and DISCORD the shared rails are off (R778): B releases its enables; A's go to FALL at once, and the
clients of held bundles receive kind 0x0B. -/
def State.dropShared (s : State) : State :=
  if s.twinRole = 1 then
    (s.sharedRails.foldl (fun t r =>
      let st := (t.outp r).state
      if st = oWaitUp ∨ st = oRamp ∨ st = oOn ∨ st = oWaitDown then
        (t.outGo r oFall 0 (fun y => { y with turn := false, below := false })).outClientRecords r 0x0B
      else t) s).settle
  else s.lendRails

/-! ### Changes of state -/

/-- TWIN_STATE changes, with its record; the shared rails follow. -/
def State.twinGo (s : State) (v : Nat) : State :=
  let old := s.el Reg.TWIN_STATE
  if old = v then s
  else
    let t := (s.put Reg.TWIN_STATE v).twinRecord 1 (old * 256 + v)
    if v = 3 ∨ v = 4 then t.lendRails.outputsChanged else t.dropShared

/-- A commit has set TWIN_PEER_ID (R755), or cleared it. -/
def State.peerIdChanged (s : State) : State :=
  if s.twinIs 1 ∧ s.el Reg.TWIN_PEER_ID ≠ 0 then s.twinGo 2 else s

/-- The follower begins to follow: its own discipline closes (R761 to R763). -/
def State.startFollow (s : State) : State :=
  if s.twin.follow then s
  else
    let t := if s.ownLocked then s.leaveLocked else s
    { t with twin := { t.twin with follow := true } }

/-- The observation of the link ends, with the offset at hand; the episode closes (R763). -/
def State.closeFollow (s : State) : State :=
  let due : List Obs := match s.osc.obs with
    | some (t1, e1, sg) => s.osc.obsDue ++ [⟨t1, e1, s.now, s.elS 8 Reg.REF_OFFSET, s.osc.steps, sg⟩]
    | none => s.osc.obsDue
  let t : State := { s with osc := { s.osc with obs := none, obsDue := due, steps := 0 } }
  if t.osc.epStart.isSome then t.closeEpisode.storeModel else t

/-- It follows no more: its discipline closes under R197, and it runs on its own reference if that is reference-ready, in HOLDOVER
otherwise (R780). -/
def State.endFollow (s : State) : State :=
  if !s.twin.follow then s
  else
    let x := s.closeFollow
    let t : State := { x with
      twin := { x.twin with follow := false }
      osc := { x.osc with disc := if x.osc.obsDue.isEmpty then 0 else x.osc.disc, discI := 0, discAt := none } }
    if t.twinReady then t.toLocked (t.el Reg.REF_ACTIVE) (t.elS 8 Reg.REF_OFFSET) else t.toHoldover

/-- The pair splits (R780). -/
def State.twinSplit (s : State) : State :=
  let leader := s.el Reg.TWIN_LEADER
  let t := (((s.endFollow.inc 4 Reg.TWIN_SPLITS).put Reg.TWIN_LAST_SPLIT s.now).put Reg.TWIN_LEADER 0).twinGo 5
  (t.tamperOn 12 0).logKeeper 0x21 [payload10 (numToBytes 2 s.twin.hbIn ++ numToBytes 1 leader)] .nothing

/-- The link is lost (R752): a joined, discordant or linked half splits; the session is over and HELLOs go out again. -/
def State.linkLost (s : State) : State :=
  let t : State := { s with twin := { s.twin with key := none, eph := none, helloing := true, misses := 0, ownDigest := false,
                                                  peerDigest := none } }
  if s.twinIs 2 ∨ s.twinIs 3 ∨ s.twinIs 4 then t.twinSplit else t

/-- Both digests are there, and whether they agree. -/
def State.digestsAgree (s : State) : Option Bool :=
  match s.twin.ownDigest, s.twin.peerDigest with
  | true, some d => some (s.el Reg.TWIN_DIGEST == d)
  | _, _ => none

/-- Discord begins (R769). -/
def State.enterDiscord (s : State) : State :=
  let own := numToBytes 5 (s.el Reg.TWIN_DIGEST / 2 ^ 216)
  let peer := numToBytes 5 (s.el Reg.TWIN_PEER_DIGEST / 2 ^ 216)
  ((s.twinGo 4).twinRecord 5 0).logKeeper 0x22 [payload10 (own ++ peer)] .nothing

/-- Discord ends: the digests agree (R773). -/
def State.leaveDiscord (s : State) : State :=
  let t := (s.twinGo 3).twinRecord 6 s.twin.adopt
  let p := [payload10 (numToBytes 1 s.twin.adopt ++ numToBytes 2 s.twin.adoptCid ++ numToBytes 2 s.twin.adopted)]
  let u := if s.twin.adopt = 0 then t.logKeeper 0x23 p .nothing else t.logStation 0x23 s.twin.adoptCid p .nothing
  { u with twin := { u.twin with adopt := 0, adopted := 0 } }

/-- LINKING ends in JOINED or DISCORD once the offset lies within TWIN_JOIN_T and the digests are compared (Table: Twin
transitions); source 12 releases (R656). -/
def State.tryJoin (s : State) : State :=
  if !s.twinIs 2 ∨ s.el Reg.TWIN_JOIN_T * 1000 < s.twin.offset.natAbs then s
  else match s.digestsAgree with
    | none => s
    | some same =>
      let t := (s.put Reg.TWIN_REASON 0).tamperOff 12
      if same then
        let p := payload10 (numToBytes 4 (t.el Reg.TWIN_PEER_CAP / 2 ^ 64) ++ numToBytes 1 (t.el Reg.TWIN_LEADER) ++
          numToBytes 4 (unsigned 32 t.twin.offset))
        (t.twinGo 3).logKeeper 0x20 [p] .nothing
      else t.enterDiscord

/-! ### HELLO (R753 to R758) -/

/-- The bytes of a HELLO before its signature, in the order of R753 (log entry 97), and what the signature covers. -/
def helloHead (h : Hello) : Bytes :=
  numToBytes 1 h.role ++ numToBytes 4 h.cap ++ numToBytes 4 h.least ++ numToBytes 16 h.uid ++ numToBytes 64 h.identity ++
  numToBytes 64 h.eph ++ numToBytes 1 (if h.ready then 1 else 0)
def helloSigned (h : Hello) : Bytes := ascii "MALNAN-T" ++ helloHead h

/-- The capability word and the twin minimum of the running image. -/
def State.ownCap (s : State) : Nat := match s.runningImage with | some x => x.capability | none => 0
def State.ownLeast (s : State) : Nat := match s.runningImage with | some x => x.twinMin | none => 0

/-- K0 signs: a sound copy and a use of it are left. -/
def State.k0Signs (s : State) : Bool := s.el Reg.K0_USES != 2 ^ 32 - 1 && decide (s.rep.lostCopies.getD 0 0 < 2)

/-- The HELLO of this half, signed with K0 (R753): its ephemeral key is drawn afresh; its frames count from 0. -/
def State.sendHello (s : State) : State :=
  let e := s.free % 2 ^ 256
  let t : State := { s.drawn with twin := { s.twin with tx := 0, eph := some e } }
  let h : Hello := ⟨t.twinRole, t.ownCap, t.ownLeast, t.el Reg.DEV_UID, Config.p256Point Config.identityKey, Config.p256Point e,
    t.twinReady, 0, 0⟩
  let x := t.signK0 (helloSigned h)
  x.1.bondSend "TWIN HELLO"
    [h.role, h.cap, h.least, h.uid, h.identity, h.eph, if h.ready then 1 else 0, x.2.1, x.2.2]

/-- TWIN_HELLO_SEND (R753). -/
def execTwinHelloSend (s : State) : Outcome State Fault Refusal :=
  if s.bondServed ∧ s.twin.helloing ∧ s.k0Signs then .next (s.cross .sc 9 State.sendHello) else .next s

/-- A HELLO is of the peer that TWIN_PEER_ID names, and its signature verifies under its identity key (R754). -/
def State.knows (s : State) (h : Hello) : Bool :=
  s.el Reg.TWIN_PEER_ID != 0 && bytesToNum (Config.sha256 (numToBytes 64 h.identity)) == s.el Reg.TWIN_PEER_ID &&
  Config.ecdsaVerify (Config.p256Compress h.identity) (Config.sha256 (helloSigned h)) h.sigR h.sigS

/-- The session key that a HELLO and this half's latest one give (R754); none without one of its own, or for a point that lies
not on the curve. -/
def State.sessionKey (s : State) (h : Hello) : Option Nat :=
  let u := numToBytes 16 h.uid
  let salt := if s.twinRole = 1 then s.devUid ++ u else u ++ s.devUid
  match s.twin.eph with
  | none => none
  | some e => (Config.p256Shared e (Config.p256Compress h.eph)).map (fun x =>
    bytesToNum (hkdf salt (numToBytes 32 x) (ascii "MALNAN-T") 32))

/-- R756 and R757: the reason not to join the half that sent a HELLO, 0 for none. -/
def State.aloneReason (s : State) (h : Hello) : Nat :=
  if h.role = s.twinRole then 1 else if s.ownCap < h.least then 2 else if h.cap < s.ownLeast then 3 else 0

/-- A HELLO is accepted with a session key (R754 to R758, R768): LINKING, with the digest of the values in force on its way; or
ALONE. -/
def State.helloAccepted (s : State) (f : Bond) (h : Hello) (key : Nat) : State :=
  let s1 : State := { s with twin :=
    { s.twin with key := some key, rx := f.counter, helloing := false, hbAt := s.now, misses := 0, peerReady := h.ready,
                  peerDigest := none, ownDigest := true } }
  let s2 := (s1.put Reg.TWIN_PEER_CAP ((h.cap * 2 ^ 32 + h.least) * 2 ^ 32 + h.role * 2 ^ 24)).twinGo 2
  let d := s2.twinDigest
  let s3 := ((s2.put Reg.TWIN_DIGEST d).put Reg.TWIN_DIGEST_AT s2.now).bondSend "TWIN DIGEST" [s2.now, d]
  let reason := s.aloneReason h
  let s4 := s3.put Reg.TWIN_REASON reason
  if reason = 0 then s4
  else s4.twinGo 6 |>.logKeeper 0x26 [payload10 (numToBytes 1 reason ++ numToBytes 4 h.cap ++ numToBytes 4 h.least)] .nothing

/-- TWIN_HELLO (R751, R754 to R758): a half that sends none of its own, or has sent none yet, answers with one. -/
def execTwinHello (f : Bond) (h : Hello) (s : State) : Outcome State Fault Refusal :=
  if !s.bondRuns then .next s
  else if !f.sound then .next s.bondDrop
  else if !s.bondServed then .next s
  else if s.crossing .sc 9 ≠ .serve then .next (s.cross .sc 9 id)
  else if !s.knows h then .next s
  else
    let t := if (!s.twin.helloing || s.twin.eph.isNone) && s.k0Signs then s.sendHello else s
    match t.sessionKey h with
    | none => .next t
    | some k => .next (t.helloAccepted f h k)

/-! ### Heartbeats (R752, R759, R776) -/

/-- TWIN_HEARTBEAT_SEND (R752, R776). -/
def execTwinHeartbeatSend (s : State) : Outcome State Fault Refusal :=
  if !s.bondRuns ∨ s.twin.key.isNone then .next s
  else
    let t : State := { s with twin := { s.twin with hbOut := (s.twin.hbOut + 1) % 65536 } }
    .next (t.bondSend "TWIN HEARTBEAT" [t.twinRole, t.el Reg.TWIN_STATE, if t.twinReady then 1 else 0,
      if t.twinRole = 1 then t.railWord else 0, t.twin.lent, t.twin.hbOut])

/-- B's echo shows rails that A holds in WAIT_UP with UP_DLY over: they ramp (R776). -/
def State.echoed (s : State) : State :=
  let l := s.sharedRails.filter (fun r => (s.outp r).state == oWaitUp && (s.outp r).upPassed && bitOf s.twin.echo r)
  if s.twinRole = 1 ∧ s.runs .pw ∧ l ≠ [] then
    (l.foldl (fun t r => t.outGo r oRamp 0 (fun y => { y with below := false })) s).settle
  else s

/-- TWIN_HEARTBEAT (R752, R759, R776): role, TWIN_STATE, reference-ready flag, shared-rail word, echo and count. -/
def execTwinHeartbeat (f : Bond) (state word echo count : Nat) (ready : Bool) (s : State) : Outcome State Fault Refusal :=
  if !s.bondRuns then .next s
  else if !s.bondTakes f then .next s.bondDrop
  else
    let me := s.twinRole
    let lead := if s.twinReady && !ready then me else if ready && !s.twinReady then 3 - me else 1
    let s1 := s.bondTook f
    .next (State.echoed (State.lendRails { s1 with twin :=
      { s1.twin with hbAt := s1.now, misses := 0, hbIn := count % 65536, peerState := state, peerReady := ready,
                     nextLeader := lead, word := word % 256, echo := echo % 256 } }))

/-- TWIN_HEARTBEAT_MISS (R752): 1.5 ms, 2.75 ms, 4.0 ms after the last heartbeat accepted; the link is lost at the third. -/
def execTwinHeartbeatMiss (s : State) : Outcome State Fault Refusal :=
  if !s.bondRuns ∨ s.twin.helloing then .next s
  else
    let n := s.twin.misses + 1
    let s1 := s.reach (s.twin.hbAt + stUs (250 + 1250 * n))
    let s2 : State := { s1 with twin := { s1.twin with misses := n } }
    .next (if 3 ≤ n then s2.linkLost else s2)

/-! ### Shared time (R760 to R765) -/

/-- TWIN_SYNC_SEND (R760). -/
def execTwinSyncSend (s : State) : Outcome State Fault Refusal :=
  if s.bondRuns ∧ s.twin.key.isSome ∧ (s.twinIs 2 ∨ s.twinTogether) then .next (s.bondSend "TWIN SYNC" [s.now]) else .next s

/-- The leader that the latest heartbeat gave takes over (R759). -/
def State.applyLeader (s : State) : State :=
  let old := s.el Reg.TWIN_LEADER
  let new := s.twin.nextLeader
  if new = 0 ∨ old = new then s
  else ((s.put Reg.TWIN_LEADER new).twinRecord 4 new).logKeeper 0x25 [payload10 (numToBytes 1 old ++ numToBytes 1 new)] .nothing

/-- The follower's observations from the link while the leader is LOCKED on an episode class, BK being on the crystal (R763). -/
def State.followObs (s : State) (locked : Bool) (offset : Int) (sigma : Nat) : State :=
  let s1 := s.putS 8 Reg.REF_OFFSET offset
  if locked then
    let s2 := if s1.osc.epStart.isNone then s1.openEpisode else s1
    if s2.onCrystal ∧ s2.osc.obs.isNone then
      { s2 with osc := { s2.osc with obs := some (s2.now, offset, 20 + sigma), steps := 0 } }
    else s2
  else if s1.osc.obs.isSome ∨ s1.osc.epStart.isSome then s1.closeFollow
  else s1

/-- R764: a time disagreement in JOINED, after three exchanges in a row. -/
def State.timeDisagree (s : State) (offset : Int) : State :=
  let thr := s.el Reg.TWIN_T_THR
  let above := if thr < offset.natAbs then min (s.twin.above + 1) 3 else 0
  let under := if 2 * offset.natAbs < thr then min (s.twin.under + 1) 3 else 0
  let t : State := { s with twin := { s.twin with above := above, under := under } }
  if !t.twin.disagree ∧ above = 3 then
    (State.twinRecord { t with twin := { t.twin with disagree := true } } 2 (min (offset.natAbs / 10) 0xFFFF)).logKeeper 0x24
      [payload10 (numToBytes 8 (unsigned 64 offset))] .nothing
  else if t.twin.disagree ∧ under = 3 then State.twinRecord { t with twin := { t.twin with disagree := false } } 3 0
  else t

/-- R765: in LINKING the follower removes an offset above TWIN_JOIN_T by a step, or by slew. -/
def State.joinOffset (s : State) (offset : Int) : State :=
  if offset.natAbs ≤ s.el Reg.TWIN_JOIN_T * 1000 then s
  else
    let t := s.put Reg.TWIN_REASON 4
    let slew : State → State := fun u => u.slewMore (clampS 8 (-offset) - u.elS 8 Reg.SLEW_REM)
    if t.tim.step.isSome then t
    else if t.el Reg.STEP_THR * 1000 < offset.natAbs then
      let q := t.requestStep (-(nsToSt offset)) false false 0 true none
      if q.2.code = 0 then q.1 else slew q.1
    else slew t

/-- TWIN_SYNC (R760 to R765): the four stamps of an exchange in ns, the leader's REF_STATE, HOLD_UNC and σ_ref, and whether it
is LOCKED on a PPS, PTP or TECH reference. -/
def execTwinSync (f : Bond) (t1 t2 t3 t4 : Int) (leadState leadUnc leadSigma : Nat) (leadLocked : Bool) (s0 : State) :
    Outcome State Fault Refusal :=
  if !s0.bondRuns then .next s0
  else if !s0.bondTakes f then .next s0.bondDrop
  else if !s0.runs .fb ∨ !(s0.twinIs 2 ∨ s0.twinTogether) then .next (s0.bondTook f)
  else
    let s := (s0.bondTook f).applyLeader
    let offset := ((t2 - t1) - (t4 - t3)) / 2
    let s1 : State := { s with twin := { s.twin with offset := offset } }
    if s1.el Reg.TWIN_LEADER = 3 - s1.twinRole then
      let x : State := s1.startFollow
      let s2 : State := { x with twin := { x.twin with leadState := leadState, leadUnc := leadUnc } }
      let s3 := ((s2.disciplineBy 8 offset).putS 4 Reg.TWIN_OFFSET (clampS 4 offset)).followObs leadLocked offset leadSigma
      if s3.twinIs 2 then .next (s3.joinOffset offset).tryJoin
      else if s3.twinIs 3 then .next (s3.timeDisagree offset) else .next s3
    else
      let s2 := s1.endFollow.put Reg.TWIN_OFFSET 0
      .next (if s2.twinIs 2 then s2.tryJoin else if s2.twinIs 3 then s2.timeDisagree 0 else s2)

/-! ### Digests (R768, R769) -/

/-- The digests of one instant are compared (R769, Table: Twin transitions). -/
def State.compareDigests (s : State) : State :=
  match s.digestsAgree with
  | none => s
  | some same =>
    if s.twinIs 3 ∧ !same then s.enterDiscord
    else if s.twinIs 4 ∧ same then s.leaveDiscord
    else s.tryJoin

/-- TWIN_DIGEST_COMPUTE (R768): at a whole multiple of 10 s, after any flip at that instant. -/
def execTwinDigestCompute (s0 : State) : Outcome State Fault Refusal :=
  if !s0.bondServed then .next s0
  else
    let ten := 10 * stSecond
    let s := s0.reach ((s0.now + ten - 1) / ten * ten)
    let d := s.twinDigest
    let s1 := (s.put Reg.TWIN_DIGEST d).put Reg.TWIN_DIGEST_AT s.now
    let fresh := s1.twin.digestFor == s1.now
    let s2 : State := { s1 with twin :=
      { s1.twin with ownDigest := true, peerDigest := if fresh || s1.twinIs 2 then s1.twin.peerDigest else none, digestFor := s1.now } }
    let s3 := if s2.twin.key.isSome then s2.bondSend "TWIN DIGEST" [s2.now, d] else s2
    .next (if fresh then s3.compareDigests else s3)

/-- TWIN_DIGEST (R769): the peer's digest for an instant; the first after a HELLO is compared whatever its instant. -/
def execTwinDigest (f : Bond) (instant digest : Nat) (s : State) : Outcome State Fault Refusal :=
  if !s.bondRuns then .next s
  else if !s.bondTakes f then .next s.bondDrop
  else if !s.bondServed then .next s
  else
    let s1 := (s.bondTook f).put Reg.TWIN_PEER_DIGEST (digest % 2 ^ 256)
    let same := instant == s1.el Reg.TWIN_DIGEST_AT || s1.twinIs 2
    let s2 : State := { s1 with twin :=
      { s1.twin with peerDigest := some (digest % 2 ^ 256), digestFor := max s1.twin.digestFor instant } }
    .next (if same then s2.compareDigests else s2)

/-! ### Records across the pair (R779) -/

/-- TWIN_RECORD (R779): a station record of the peer is written with its stamp, CID 0 and REMOTE. -/
def execTwinRecord (f : Bond) (stamp source kind flags detail : Nat) (s : State) : Outcome State Fault Refusal :=
  if !s.bondRuns then .next s
  else if !s.bondTakes f then .next s.bondDrop
  else if !s.twinTogether then .next (s.bondTook f)
  else .next ((s.bondTook f).record
    { source := source, cid := 0, kind := kind, detail := detail, stamp := stamp,
      flags := setBit (flags % 256) 5 true, hid := stationHid, route := 7, any := false, evid := false })

end Sys2Proof.Machine
end

