-- ==== Sys2Proof/Machine/Watchdog.lean ====
section
/-! DEFINITION. The watchdogs (chapter 17): services, violations, trips. -/
namespace Sys2Proof.Machine
open Host

/-- A channel counts: it is in RUN or WARNED and not frozen; WD0 while CR is in RUN (R642, R643). -/
def State.wdCounts (s : State) (w : Nat) : Bool :=
  let x := s.wdOf w
  (x.st == wdRun || x.st == wdWarned) && s.mainPower && (if w = 0 then s.runs .cr else !s.wdFrozen w)

/-- CR is reset by its watchdog (R74, R81, R652): it drains from RUN; a drain under way for another end leads to the reset; from
GATED and from STARTING there is nothing to drain, and a start begun anew loses its state (R850). -/
def State.resetCr (s : State) : State :=
  if s.isl_ .cr = islRun then s.drainCr .reset
  else if s.isl_ .cr = islDraining then
    (if s.isl.drains.any (fun p => p.1 == .cr && p.2 == .scope) then s else s.startDrain .cr .reset)
  else if s.isl_ .cr = islUnpowered then s
  else s.resetIsl .cr (s.isl_ .cr == islStarting)

/-- A trip (R636, R638, R652): the target is reset. WD0 resets CR, drained, with cause 0x09; WD1 and WD2 assert their reset
output, end the claims of their host and call for an evidence entry. -/
def State.wdTrip (s : State) (w cause : Nat) : State :=
  let t := (s.setWd w (fun x => { x with st := wdTripped, armed := false, grace := false, held := false, cause := cause }))
  let u := ((t.inc 4 (Reg.WD_TRIPS w)).put (Reg.WD_LAST_TRIP w) (t.now * 2 ^ 64 + cause * 2 ^ 56)).wdRecord w 2 cause
  if w = 0 then
    let v : State := { u with boot := { u.boot with cause := 0x09 } }
    v.resetCr
  else
    let v := (u.setWd w (fun x => { x with rsto := true })).returnClaims w
    v.logKeeper 0x09 [payload10 (numToBytes 1 w ++ numToBytes 1 cause)] .nothing

/-- A violation (R634, R636, R637): a warning from RUN, a trip from WARNED. -/
def State.wdViolation (s : State) (w cause : Nat) : State :=
  if !s.wdCounts w then s
  else if (s.wdOf w).st = wdWarned ∨ cause = 4 ∨ cause = 6 then s.wdTrip w cause
  else
    let t := ((s.newPeriod w).setWd w (fun x => { x with st := wdWarned, cause := cause })).inc 4 (Reg.WD_WARNS w)
    let u := if w = 0 then t.callCr else t
    u.wdRecord w 1 cause

/-- A service that counts (R627, R635, R639): a period of the given length starts. -/
def State.wdServed (s : State) (w ms : Nat) : State :=
  let warned := (s.wdOf w).st == wdWarned
  let t := (s.startPeriod w ms).setWd w (fun x => { x with st := wdRun })
  if warned then t.wdRecord w 3 0 else t

/-- A write to WD_KEY (R628, R629, R632). -/
def State.wdKey (s : State) (w v : Nat) : State × Stat :=
  if s.el (Reg.WD_MODE w) ≠ 1 then (s, .conflict 3)
  else if !s.wdCounts w then (s, .ok)
  else if v = 0x5C3A then (s.setWd w (fun x => { x with armed := true }), .ok)
  else if v = 0xA3C5 ∧ (s.wdOf w).armed then
    (if (s.wdOf w).isOpen then s.wdServed w (s.el (Reg.WD_PERIOD w)) else s.wdViolation w 2, .ok)
  else (s.wdViolation w 3, .ok)

/-- A write to WD_CHECKIN (R630 to R632). -/
def State.wdCheckin (s : State) (w v : Nat) : State × Stat :=
  let tasks := s.el (Reg.WD_TASKS w)
  if s.el (Reg.WD_MODE w) ≠ 2 then (s, .conflict 3)
  else if 31 < v ∨ !bitOf tasks v then (s, .range 2 0)
  else if !s.wdCounts w then (s, .ok)
  else
    let slots := setBit (s.wdOf w).slots v true
    let t := s.setWd w (fun x => { x with slots := slots })
    if slots &&& tasks ≠ tasks then (t, .ok)
    else if (t.wdOf w).isOpen then (t.wdServed w (t.el (Reg.WD_PERIOD w)), .ok)
    else (t.setWd w (fun x => { x with held := true }), .ok)

/-- A write to WD_NAP (R633). -/
def State.wdNap (s : State) (w v : Nat) : State × Stat :=
  if s.el (Reg.WD_MODE w) ≠ 1 then (s, .conflict 3)
  else if v = 0 ∨ s.el (Reg.WD_NAP_MAX w) < v then (s, .range 2 0)
  else if !s.wdCounts w then (s, .ok)
  else if !(s.wdOf w).armed then (s.wdViolation w 3, .ok)
  else if !(s.wdOf w).isOpen then (s.wdViolation w 2, .ok)
  else (s.wdServed w (v * 1000), .ok)

/-- R622: a client may service WD1 as holder admin or client of the owner of T1, or as a station admin while T1 has no
owner; the same for WD2 and T2. -/
def State.mayService (s : State) (who : Who) (w : Nat) : Bool :=
  let o := s.targetOwner w
  match who with
  | .client c => (s.hidOf c == o && (s.roleOf c == 1 || s.roleOf c == 2)) || (o == 0xFF && s.isSa who)
  | _ => true

/-- The channel of a watchdog element's address. -/
def wdOfAddr (a : Nat) : Nat := a / 256 - 0x1D01

/-- A service write (R622, R623): refused to others, else with the effect given. -/
def State.wdWrite (s : State) (cmd : Instr) (r : Req) (elem : Nat) (f : Nat → Bool)
    (eff : State → Nat → Nat → State × Stat) : State :=
  s.rightsWrite cmd r (fun a => decide (0x1D0100 ≤ a ∧ a < 0x1D0400) && a % 256 == elem && f (bytesToNum r.value)) false false
    (fun t who a _ => t.mayService who (wdOfAddr a)) (atOnce (fun t _ a v => eff t (wdOfAddr a) v))

/-! ### Meanings; a request of none is the keeper's own service of WD0 (R621) -/

/-- WD_KEY_ARM (R628): a write of 0x5C3A. -/
def execWdKeyArm (r : Option Req) (s : State) : Outcome State Fault Refusal :=
  match r with
  | none => if s.runs .cr then .next (s.wdKey 0 0x5C3A).1 else .next s
  | some q => .next (s.wdWrite (.wdKeyArm r) q 8 (fun v => v == 0x5C3A) State.wdKey)

/-- WD_KEY_SERVICE (R628, R635): a write of 0xA3C5. -/
def execWdKeyService (r : Option Req) (s : State) : Outcome State Fault Refusal :=
  match r with
  | none => if s.runs .cr then .next (s.wdKey 0 0xA3C5).1 else .next s
  | some q => .next (s.wdWrite (.wdKeyService r) q 8 (fun v => v == 0xA3C5) State.wdKey)

/-- WD_KEY_BAD (R629): any other value. -/
def execWdKeyBad (r : Req) (s : State) : Outcome State Fault Refusal :=
  .next (s.wdWrite (.wdKeyBad r) r 8 (fun v => v != 0x5C3A && v != 0xA3C5) State.wdKey)

/-- WD_CHECKIN (R630 to R632). -/
def execWdCheckin (r : Req) (s : State) : Outcome State Fault Refusal :=
  .next (s.wdWrite (.wdCheckin r) r 9 (fun _ => true) State.wdCheckin)

/-- WD_NAP (R633). -/
def execWdNap (r : Req) (s : State) : Outcome State Fault Refusal :=
  .next (s.wdWrite (.wdNap r) r 10 (fun _ => true) State.wdNap)

/-- The clock reaches the end of a channel's period, or k/8 of it, where the channel counts. -/
def State.wdReach (s : State) (w k : Nat) : State :=
  if s.wdCounts w then s.reach ((s.wdOf w).began + k * (s.wdOf w).span / 8) else s

/-- WD_PERIOD_END (R625, R634, R636): a period ends without a service that counts. -/
def execWdPeriodEnd (w : Fin 3) (s : State) : Outcome State Fault Refusal :=
  if (s.wdOf w).grace then .next s else .next ((s.wdReach w 8).wdViolation w 1)

/-- WD_WINDOW_OPEN (R626, R631): n/8 of the period has passed; a held completion counts. -/
def execWdWindowOpen (w : Fin 3) (s : State) : Outcome State Fault Refusal :=
  if !s.wdCounts w ∨ (s.wdOf w).isOpen then .next s else
  let t := (s.wdReach w (s.el (Reg.WD_WIN w) % 8)).setWd w (fun x => { x with isOpen := true })
  if (t.wdOf w).held then .next (t.wdServed w (t.el (Reg.WD_PERIOD w))) else .next t

/-- WD_GRACE_EXPIRY (R639): the grace ends without service. -/
def execWdGraceExpiry (w : Fin 3) (s : State) : Outcome State Fault Refusal :=
  if (s.wdOf w).grace then .next ((s.wdReach w 8).wdViolation w 5) else .next s

/-- WD_CLOCK_STOP (R640, R641): a trip at once; the channel counts on the other clock. -/
def execWdClockStop (w : Fin 3) (s : State) : Outcome State Fault Refusal :=
  if !s.wdCounts w then .next s
  else .next ((s.wdViolation w 4).setWd w (fun x => { x with other := !x.other }))

/-- The inverted shadow copy of a channel's state register (R624): it is always the inverse of the state that the channel
holds, but where the register or the copy is upset. -/
def Wd.shadow (x : Wd) : Nat := 255 - x.st

/-- A state register and its shadow copy are sound. -/
def wdSound (code shadow : Nat) : Bool :=
  (code == wdOff || code == wdRun || code == wdWarned || code == wdTripped) && shadow == 255 - code

/-- WD_STATE_ILLEGAL (R624): a channel finds its register and the shadow. Sound ones are no fault. Else source 10 with the
channel, and a trip with cause 0x06; the register then holds TRIPPED, and the source releases. -/
def execWdStateIllegal (w : Fin 3) (code shadow : Nat) (s : State) : Outcome State Fault Refusal :=
  if !s.mainPower ∨ wdSound code shadow ∨ (s.wdOf w).st = wdTripped then .next s
  else .next (((s.tamperOn 10 (0x11 + w)).wdTrip w 6).tamperOff 10)

/-- WD_RSTO_END (R638, R639, R644): WD_RSTO has passed since the trip; the output is released if nothing else holds it. -/
def execWdRstoEnd (w : Fin 3) (s : State) : Outcome State Fault Refusal :=
  if !(s.wdOf w).rsto then .next s else
  let s := s.reach (s.el (Reg.WD_LAST_TRIP w) / 2 ^ 64 + stMs (s.el (Reg.WD_RSTO w)))
  .next ((s.setWd w (fun x => { x with rsto := false })).wdSync s)

/-- WD_STATE of a channel: the time left of the period, and to its window, in ms. -/
def State.wdState (s : State) (w : Nat) : Nat :=
  let x := s.wdOf w
  let gone := (s.now - x.began) * 1000 / stSecond
  let toWin := x.len * (s.el (Reg.WD_WIN w) % 8) / 8
  let b : Bool → Nat → Nat := fun c n => if c then n else 0
  let flags := b x.armed 1 + b x.grace 2 + b x.frozen 4 + b x.other 8
  let on := x.st == wdRun || x.st == wdWarned
  ((((x.st * 256 + flags) * 65536) * 2 ^ 32 + x.slots) * 2 ^ 32 + (if on then x.len - gone else 0)) * 2 ^ 32 +
    (if on ∧ !x.isOpen then toWin - gone else 0)

/-- A commit changed a host channel's configuration (R645): off, on, or a fresh period in the state it has, without the
check-ins of slots no longer enabled. A change of WD_CLOCK ends the use of the other clock (R641). -/
def State.wdChanged (s : State) (w oldMode : Nat) (clock : Bool) : State :=
  let t := if clock then s.setWd w (fun x => { x with other := false }) else s
  if t.el (Reg.WD_MODE w) = 0 then t.setWd w (fun _ => { Wd.off with rsto := (t.wdOf w).rsto })
  else if oldMode = 0 then
    (t.newPeriod w).setWd w (fun x => { x with st := wdRun, frozen := t.wdFrozen w })
  else
    let slots := (t.wdOf w).slots &&& t.el (Reg.WD_TASKS w)
    (t.newPeriod w).setWd w (fun x => { x with slots := slots })

end Sys2Proof.Machine
end

