-- ==== Sys2Proof/Machine/Writes.lean ====
section
/-! DEFINITION. Requests with a body of their own that stage nothing: the lease family, the ring operations, DOORBELL, LOG_READ,
ECHO, opcodes that are none; and the writes of the lease, timer, delivery, sequencer and margin elements. -/
namespace Sys2Proof.Machine
open Host

/-- A request that is no WRITE (R258), by the command `cmd`: the rights to what it names (step 5), whether the reduced service
mode offers it (step 6), the check of its body (step 7), the island it needs, and its effect (step 8). -/
def State.request (s : State) (cmd : Instr) (r : Req) (op : Nat) (cls : Cls) (boot : Bool) (rights : State → Who → Bool)
    (offered : Bool) (bad : Option Stat) (home : Island) (eff : State → Who → State × Stat × Bytes) : State :=
  match s.accept r op cls false false boot with
  | .done t => t
  | .wait t i ch w => t.holdRequest cmd r i ch w
  | .go t w =>
    if !rights t w then t.finish r op cls .refused []
    else if !t.full && !offered then t.finish r op cls t.reducedStat []
    else match bad with
    | some st => t.finish r op cls st []
    | none =>
      t.into home (chanTo home) cmd r.cid (some w) (fun u st => u.finish r op cls st []) (fun u =>
        let e := eff u w
        e.1.finish r op cls e.2.1 e.2.2)

/-- The body has a length; RANGE with reason 1 if not. -/
def wantLen (r : Req) (n : Nat) : Option Stat := if r.body.length = n then none else some (.range 1 0)

/-! ### The lease family (R305 to R326, R335) -/

/-- The bundle a LEASE asks for: its items are as many as its body has whole. -/
def askOf (r : Req) : LeaseAsk :=
  ⟨bodyNum r.body 0 2, bodyNum r.body 2 2,
    (List.range ((r.body.length - 5) / 4)).map (fun i => (bodyNum r.body (5 + 4 * i) 2, bodyNum r.body (7 + 4 * i) 2))⟩

/-- The count and the length of a LEASE's body. -/
def leaseBad (r : Req) : Option Stat :=
  let n := bodyNum r.body 4 1
  if r.body.length < 5 then some (.range 1 0)
  else if n = 0 ∨ 8 < n then some (.range 3 0)
  else wantLen r (5 + 4 * n)

/-- A client that may lease asks. -/
def State.leaser (s : State) : Who → Bool
  | .client c => s.mayLease c
  | _ => false

/-- What a LEASE answers (R316): OK with grant instant and expiry, or QUEUED with the number alone. -/
def State.leaseAnswer (s : State) (c n : Nat) : Stat × Bytes :=
  match s.bundleOf c n with
  | some b =>
    if b.holds then (.ok, numToBytes 2 n ++ numToBytes 8 b.grantAt ++ numToBytes 8 b.inst)
    else (.queued, numToBytes 2 n)
  | none => (.queued, numToBytes 2 n)

/-- The effect of a LEASE (R35, R307 to R316). -/
def State.askLease (s : State) (c : Nat) (a : LeaseAsk) : State × Stat × Bytes :=
  let t := if a.items.any (fun p => powerOrd (ordOf p.1)) then s.obtainBudget else s
  match t.leaseCheck c a with
  | some st => (t, st, [])
  | none =>
    let q := t.queueBundle c a
    (q.1, q.1.leaseAnswer c q.2)

/-- LEASE (R316). -/
def execLease (r : Req) (s : State) : Outcome State Fault Refusal :=
  .next (s.request (.lease r) r 7 .q false
    (fun t w => t.leaser w && (askOf r).items.all (fun p => t.resOpen p.1 (t.hidOf r.cid))) false (leaseBad r) .fb
    (fun t _ => t.askLease r.cid (askOf r)))

/-- RELEASE (R321). -/
def execRelease (r : Req) (s : State) : Outcome State Fault Refusal :=
  .next (s.request (.release r) r 8 .q false State.leaser false (wantLen r 2) .fb
    (fun t _ => let e := t.release r.cid (bodyNum r.body 0 2); (e.1, e.2, [])))

/-- LS_RENEW_WRITE (R305, R319, R320): for its own CID. -/
def execLsRenewWrite (r : Req) (s : State) : Outcome State Fault Refusal :=
  .next (s.rightsWrite (.lsRenewWrite r) r (fun a => rowAddr a == 0x400048) false false
    (fun t w a _ => t.leaser w && w.cid == cidOfAddr a)
    (atOnce (fun t _ a v => t.renew (cidOfAddr a) (v / 65536) (v % 65536))))

/-- LS_DROP_WRITE (R305, R321): a holder admin, for a bundle of a client of its holder. -/
def execLsDropWrite (r : Req) (s : State) : Outcome State Fault Refusal :=
  .next (s.rightsWrite (.lsDropWrite r) r (fun a => rowAddr a == 0x400049) false false
    (fun t w _ _ => t.leaser w && t.roleOf w.cid == 1)
    (atOnce (fun t _ a v => t.release (cidOfAddr a) v)))

/-- REVOKE_ANY of a bundle (R324, R335, R336): a held one gets notice, one under notice stays so, a queued one ends at once; one
that has ended stays in its slot for its own client. -/
def State.revokeAny (s : State) (c n : Nat) : State × Stat :=
  if !s.arb.known.contains c then (s, .leaseLost 3)
  else match s.bundleOf c n with
    | none => (s, ⟨0x02, 0x40⟩)
    | some b =>
      if b.st = .ended then (s, if b.reason = 5 then .timeout 1 else .leaseLost b.reason)
      else if b.waits then (((s.endBundle b 2 0x12).inc 4 Reg.ARB_REVOKES).pass, .ok)
      else (s.giveNotice b, .ok)

/-- REVOKE_ANY_WRITE (R335). -/
def execRevokeAnyWrite (r : Req) (s : State) : Outcome State Fault Refusal :=
  .next (s.ownWrite (.revokeAnyWrite r) r (fun a => a == Reg.REVOKE_ANY) false
    (atOnce (fun t _ _ v => t.revokeAny (v / 65536 % 1024) (v % 65536))))

/-! ### Client timers -/

/-- A write of a TMR handle (R350 to R355), by its written mode. -/
def State.tmrWrite (s : State) (cmd : Instr) (r : Req) (f : Nat → Bool) : State :=
  s.rightsWrite cmd r (fun a => decide (0x400070 ≤ rowAddr a ∧ rowAddr a ≤ 0x40008F) && f (bodyNum r.body 4 1)) false
    false
    (fun t _ a v => t.tmrMay (cidOfAddr a) v)
    (atOnce (fun t _ a v => t.writeTmr (cidOfAddr a) (a % 256 - 0x70) v))

/-- TIMER_ARM (R350): any mode but 0x00. -/
def execTimerArm (r : Req) (s : State) : Outcome State Fault Refusal := .next (s.tmrWrite (.timerArm r) r (fun m => m != 0))

/-- TIMER_DISARM (R354): mode 0x00. -/
def execTimerDisarm (r : Req) (s : State) : Outcome State Fault Refusal := .next (s.tmrWrite (.timerDisarm r) r (fun m => m == 0))

/-! ### Ring operations (R436 to R440, R494); the body is the payload's bytes 1 and 8 onward: target, and for COMPLETE the
sequence -/

/-- One ring operation, by the command `cmd`: admission without the control core, the rights of R440, the service mode (R258),
and over CH16 the effect. -/
def State.ringOp (s : State) (cmd : Instr) (r : Req) (op : Nat) (eff : State → Nat → State × Stat × Bytes) : State :=
  if r.port ≠ .host then s else
  match s.accept r op .q true true false with
  | .done t => t
  | .wait t i ch w => t.holdRequest cmd r i ch w
  | .go t w =>
    let k := (r.body.headD 0).toNat
    if !(k == 1 || k == 2) || !t.mayService w k then t.refuseAs r op .q true
    else if !t.full then t.replyAs r op true t.reducedStat []
    else t.into .fb 16 cmd r.cid (some w) (fun u st => u.replyAs r op true st []) (fun u =>
      let e := eff u k
      e.1.replyAs r op true e.2.1 e.2.2)

/-- CLAIM (R436). -/
def execClaim (r : Req) (s : State) : Outcome State Fault Refusal :=
  .next (s.ringOp (.claim r) r 1 (fun t k => let c := t.claimAt k; (c.1, .ok, c.2)))

/-- COMPLETE (R439). -/
def execComplete (r : Req) (s : State) : Outcome State Fault Refusal :=
  .next (s.ringOp (.complete r) r 2 (fun t k => let c := t.completeClaim k (bodyNum r.body 1 2); (c.1, c.2, [])))

/-- RING_STATUS (R440). -/
def execRingStatus (r : Req) (s : State) : Outcome State Fault Refusal :=
  .next (s.ringOp (.ringStatus r) r 3 (fun t k => (t, .ok, numToBytes 9 (t.ringStat k))))

/-! ### Posts and aliases (R423, R448 to R450) -/

/-- The requester may post a source. -/
def State.mayPost (s : State) (w : Who) (src : Nat) : Bool := decide (128 ≤ src) && s.aliasPasses w src false false

/-- DOORBELL (R423). -/
def execDoorbell (r : Req) (s : State) : Outcome State Fault Refusal :=
  let src := bodyNum r.body 0 2
  .next (s.request (.doorbell r) r 0x0C .q false (fun t w => r.body.length != 2 || t.mayPost w src) false (wantLen r 2) .fb
    (fun t w => let e := t.writeDoorbell w src; (e.1, e.2, [])))

/-- DOORBELL_WRITE (R423, R495): on the host port without the control core. -/
def execDoorbellWrite (r : Req) (s : State) : Outcome State Fault Refusal :=
  .next (s.rightsWrite (.doorbellWrite r) r (fun a => a == Reg.DOORBELL) (r.port == .host) false (fun t w _ v => t.mayPost w v)
    (atOnce (fun t w _ v => t.writeDoorbell w v)))

/-- EN_SET_WRITE (R448). -/
def execEnSetWrite (r : Req) (s : State) : Outcome State Fault Refusal :=
  .next (s.rightsWrite (.enSetWrite r) r (fun a => a == Reg.EN_SET) false false (fun t w _ v => decide (v < 511) && t.aliasPasses w v true false)
    (atOnce (fun t w _ v => t.writeEnSet w v)))

/-- EN_CLR_WRITE (R448). -/
def execEnClrWrite (r : Req) (s : State) : Outcome State Fault Refusal :=
  .next (s.rightsWrite (.enClrWrite r) r (fun a => a == Reg.EN_CLR) false false (fun t w _ v => decide (v < 511) && t.aliasPasses w v true false)
    (atOnce (fun t w _ v => t.writeEnClr w v)))

/-- PEND_SET_WRITE (R448). -/
def execPendSetWrite (r : Req) (s : State) : Outcome State Fault Refusal :=
  .next (s.rightsWrite (.pendSetWrite r) r (fun a => a == Reg.PEND_SET) false false (fun t w _ v => t.mayPost w v)
    (atOnce (fun t w _ v => t.writePendSet w v)))

/-- PEND_CLR_WRITE (R448, R449). -/
def execPendClrWrite (r : Req) (s : State) : Outcome State Fault Refusal :=
  .next (s.rightsWrite (.pendClrWrite r) r (fun a => a == Reg.PEND_CLR) false false (fun t w _ v => t.mayPost w v)
    (atOnce (fun t w _ v => t.writePendClr w v)))

/-! ### Reading the log, ECHO, no opcode -/

/-- LOG_READ's answer: entries up to a lost one; starting at it, ECC_LOST (Table: Effects of ECC_LOST). -/
def State.logReadAt (s : State) (c start n : Nat) : State × Stat × Bytes :=
  let first := match s.chain c with | e :: _ => max start e.seq | [] => start
  let lost := ((s.rep.lostLog.filter (fun p => p.1 == c && decide (first ≤ p.2))).map (fun p => p.2)).sortBy (· ≤ ·)
  match lost with
  | [] => (s, .ok, s.logRead c first n)
  | k :: _ => if k = first then (s, .eccLost 0x0A, []) else (s, .ok, s.logRead c first (min n (k - first)))

/-- LOG_READ (R677): a holder admin, of its own chain. -/
def execLogRead (r : Req) (s : State) : Outcome State Fault Refusal :=
  let n := bodyNum r.body 6 1
  let bad := if r.body.length ≠ 7 then some (Stat.range 1 0) else if n = 0 ∨ 16 < n then some (Stat.range 3 0) else none
  .next (s.request (.logRead r) r 0x0B .q false (fun t w => t.leaser w && t.roleOf w.cid == 1) true bad .nv
    (fun t _ => t.logReadAt (t.hidOf r.cid) (bodyNum r.body 0 6) n))

/-- ECHO (R520). -/
def execEcho (r : Req) (s : State) : Outcome State Fault Refusal :=
  .next (s.request (.echo r) r 0x0E .q true (fun _ _ => true) true (wantLen r 0) .cr
    (fun t _ => (t, .ok, numToBytes 8 t.now ++ numToBytes 1 (t.el Reg.SERVICE_MODE))))

/-- UNKNOWN_OPCODE (R253): refused at step 3 of R258, before the limit of step 4. -/
def execUnknownOpcode (r : Req) (op : Nat) (s : State) : Outcome State Fault Refusal :=
  if knownOpcode op then .next s else
  match s.accept r op .q false false false with
  | .done t => .next t
  | .wait t i ch w => .next (t.holdRequest (.unknownOpcode r op) r i ch w)
  | .go t _ => .next (t.finish r op .q .refused [])

/-! ### The sequencer and the margin outputs -/

/-- SEQ_CLEAR_WRITE (R605). -/
def execSeqClearWrite (r : Req) (s : State) : Outcome State Fault Refusal :=
  .next (s.ownWrite (.seqClearWrite r) r (fun a => a == Reg.SEQ_CLEAR) false
    (atOnce (fun t _ _ v => if v = 1 then (t.seqClear, .ok) else (t, .range 2 0))))

/-- MARG_REQ_WRITE (R613). -/
def execMargReqWrite (r : Req) (s : State) : Outcome State Fault Refusal :=
  .next (s.ownWrite (.margReqWrite r) r (fun a => decide (0x4000F0 ≤ rowAddr a ∧ rowAddr a ≤ 0x4000F3)) false
    (atOnce (fun t _ a v => t.writeMargReq (cidOfAddr a) (a % 256 - 0xF0) v)))

end Sys2Proof.Machine
end

