-- ==== Sys2Proof/Machine/Values.lean ====
section
/-! DEFINITION. What an element reads (chapter 07): registers as they stand, and the elements that show state of another kind. -/
namespace Sys2Proof.Machine
open Host

/-! ### Records of objects -/

/-- The port number of SUB (chapter 07, Exchange elements). -/
def portCode : Port → Nat
  | .canFd => 1 | .t1l => 2 | _ => 0

/-- SUB of a subscription, 24 bytes. -/
def Subscr.record (x : Subscr) : Nat :=
  (((x.kind * 256 + portCode x.port) * 65536 + x.seq % 65536) * 2 ^ 32 + x.selector % 2 ^ 32) * 2 ^ 128 +
  x.interval % 65536 * 2 ^ 112 + x.expiry % 2 ^ 64 * 2 ^ 48

/-- The subscription in a client's slot. -/
def State.subOf (s : State) (c i : Nat) : Option Subscr := s.exch.subs.find? (fun x => x.cid == c && x.slot == i)

/-- CM_PEND of a pending commit and CM_LAST, 16 bytes (Table: Commit state record). -/
def commitBytes (num phase status detail rule count shape : Nat) : Nat :=
  (((num * 256 + phase) * 256 + status) * 256 + detail) * 2 ^ 88 + rule * 2 ^ 80 + count * 2 ^ 72 + shape % 2 ^ 64

def State.cmPend (s : State) (c i : Nat) : Nat :=
  match s.stage.commits.find? (fun x => x.cid == c && x.slot == i) with
  | some x => commitBytes x.num x.phase.code 0 0 0 x.items.length x.shape
  | none => 0

def State.cmLast (s : State) (c : Nat) : Nat :=
  match s.stage.last.find? (fun x => x.cid == c) with
  | some x => commitBytes x.num x.phase.code x.status x.detail x.rule x.count x.shape
  | none => 0

/-- The parison of a client. -/
def State.parison (s : State) (c : Nat) : List (Nat × Nat) :=
  match s.stage.parisons.find? (fun p => p.cid == c) with | some p => p.items | none => []

def BState.code : BState → Nat
  | .queued => 1 | .reserved => 2 | .held => 3 | .revoking => 4 | .ended => 5

/-- LS_SLOT of a bundle, 32 bytes; the implicit energy item is no item of the request. -/
def State.bundleRecord (s : State) (b : Bundle) : Nat :=
  let items := (b.items.filter (fun p => p.1 != 43)).length
  let inst := if b.waits then s.boundOf b else b.inst
  (((((b.num * 256 + b.st.code) * 256 + (if b.st = .ended then b.reason else 0)) * 256 + items) * 256 + b.bypass) * 65536 +
    b.pb) * 2 ^ 192 + b.age % 2 ^ 64 * 2 ^ 128 + b.grantAt % 2 ^ 64 * 2 ^ 64 + inst % 2 ^ 64

/-- LS_SLOT of a client; after a start of FB it reads unused until the client's next LEASE (R324). -/
def State.lsSlot (s : State) (c i : Nat) : Nat :=
  match s.arb.bundles.find? (fun b => b.cid == c && b.slot == i) with
  | some b => s.bundleRecord b
  | none => 0

/-- RES_LIVE of an ordinal, 8 bytes. -/
def State.resLive (s : State) (o : Nat) : Nat :=
  let n : (Bundle → Bool) → Nat := fun f => (s.arb.bundles.filter (fun b => f b && b.items.any (fun p => p.1 == o))).length
  (((s.resCap o * 65536 + s.held o) * 65536 + s.standingGranted o) * 256 + min (n (fun b => b.st == .queued)) 255) * 256 +
    min (n (fun b => b.st == .reserved)) 255

/-- TMR of a handle, 24 bytes; a handle not written since FB started reads state 0x04 (R360). -/
def State.tmrRecord (s : State) (c h : Nat) : Nat :=
  match s.timerOf c h with
  | some t =>
    (((t.mode * 256 + t.state) * 65536 + t.post) * 2 ^ 64 + t.inst % 2 ^ 64) * 2 ^ 96 + t.interval % 2 ^ 32 * 2 ^ 64 +
      t.fires % 2 ^ 32 * 2 ^ 32
  | none => if s.tmr.lost then 4 * 2 ^ 176 else 0

/-- RING_SLOT of an entry, 12 bytes (Table: Ring entry layout). -/
def RingEntry.record (e : RingEntry) : Nat :=
  e.stamp % 2 ^ 64 * 2 ^ 32 + e.seq % 256 * 2 ^ 24 + e.source % 16 * 2 ^ 20 + (if e.asserted then 1 else 2) * 2 ^ 16 +
  e.flags % 4 * 256 + e.detail % 256

/-- OUT_STATE of an output, 4 bytes; on role B a twin-shared rail shows whether B drives its enable (R777). -/
def State.outRecord (s : State) (o : Nat) : Nat :=
  if s.twinRole = 2 ∧ s.sharedRails.contains o then (if bitOf s.twin.lent o then oRamp else oOff) * 2 ^ 24
  else
    let x := s.outp o
    ((x.state * 256 + x.cause) * 256 + x.retries) * 256

/-- FLT_STATUS, 16 bytes. -/
def State.fltRecord (s : State) : Nat :=
  let b : Bool → Nat := fun x => if x then 1 else 0
  let r := s.rail
  ((((b (!r.fltLow) * 256 + b r.driving) * 256 + b r.originator) * 256 + r.fltOut) * 256 + r.fltCause) * 2 ^ 88 + r.fltAt % 2 ^ 64

/-- LOOP_STATE of L4: that of the lowest input sensed, OFF while none is. -/
def State.l4Record (s : State) : Nat :=
  match (s.evt.l4.map (fun x => x.input)).sortBy (fun a b => decide (a ≤ b)) with
  | [] => 0
  | i :: _ =>
    match s.evt.l4.find? (fun x => x.input == i) with
    | none => 0
    | some x =>
      let st : Nat := if x.fenced then 2 else if s.now < x.holdEnd then 3 else 1
      let status : Nat := if x.fenced then 0x0D else if s.now < x.holdEnd then 0x10 else 0
      ((st * 256 + status) * 65536 * 2 ^ 32 + x.th) * 2 ^ 32 + x.th

/-! ### The array -/

/-- The bytes that the values of a list of configuration elements occupy in a value set (R727, log entry 60). -/
def valueBytes (l : List (Nat × Nat)) : Nat :=
  l.foldl (fun a p => match rowOf p.1 with | some r => if r.persist && r.wr != .k then a + r.ty.size else a | none => a) 0

/-- The bytes in use of the set whose values the dictionary holds, the plan banks' entries with them. -/
def State.liveSetBytes (s : State) : Nat := valueBytes s.dict + 24 * (s.tmr.bankA.length + s.tmr.bankB.length)

/-- The bytes in use of set A, 1, or B, 2. -/
def State.setBytes (s : State) (x : Nat) : Nat :=
  if s.fw.active = x then s.liveSetBytes
  else valueBytes (s.setOf x).values + 24 * ((s.setOf x).bankA.length + (s.setOf x).bankB.length)

/-- The blocks in use of a region; how the persistent region and the pool lay out what they hold is the part's. -/
def State.regionUse (s : State) (i : Nat) : Nat :=
  if i < 2 then 1 + (match s.hdrOf i with | some h => (h.len + 4095) / 4096 | none => 0)
  else if i = 2 then (s.log.entries.length + 127) / 128
  else Config.regionUse i s.liveSetBytes % 257

/-- NV_REGION of slot A, slot B, log, persistent, spare pool, 8 bytes. -/
def State.regionRecord (s : State) (i : Nat) : Nat :=
  let blocks := if i < 4 then memBlocks (8 + i) else 256
  let retired := if i < 4 then s.rep.retired.getD i 0 else s.rep.retired.foldl (· + ·) 0
  ((blocks * 65536 + s.regionUse i) * 65536 + retired) * 65536 + (if i < 4 ∧ s.isReadOnly (8 + i) then 256 else 0)

/-- FW_TRIAL_LEFT, in s. -/
def State.trialLeft (s : State) : Nat :=
  match s.running, s.fw.since with
  | some k, some t0 =>
    if s.slotState k = slTrial then s.el Reg.FW_TRIAL_S - (s.now - t0) / stSecond else 0
  | some k, none => if s.slotState k = slTrial then s.el Reg.FW_TRIAL_S else 0
  | _, _ => 0

/-! ### Reading an element -/

/-- Station-scoped elements that show state of another kind. -/
def State.stationValue (s : State) (w : Who) (a : Nat) : Option Nat :=
  if a = Reg.ST_NOW then some s.now
  else if a = Reg.ST_QUAL then some s.stQual
  else if a = Reg.TAI_UTC then some (unsigned 16 (s.taiUtc s.now))
  else if a = Reg.CAL_UTC then some (bytesToNum (s.calendar s.now 0))
  else if a = Reg.TIME_STEP then
    some (match s.tim.step with | some x => if x.forced then 0 else unsigned 64 x.delta | none => 0)
  else if a = Reg.TIME_STEP_F then
    some (match s.tim.step with | some x => if x.forced then unsigned 64 x.delta else 0 | none => 0)
  else if inRun a (Reg.LEAP_ENTRY 0) 48 then some (if a - Reg.LEAP_ENTRY 0 < s.el Reg.LEAP_COUNT then s.el a else 0)
  else if a = Reg.REF_STATE then some s.refShown
  else if a = Reg.REF_ACTIVE then some s.activeShown
  else if a = Reg.HOLD_UNC then some s.holdShown
  else if a = Reg.RING_FILL then some s.bk.ring.length
  else if inRun a (Reg.RING_SLOT 0) 8 then
    some (match s.bk.ring[a - Reg.RING_SLOT 0]? with | some e => e.record | none => 0)
  else if a = Reg.PLAN_SEAM then some s.liveSeam
  else if a = Reg.PLAN_SEAM_AT then
    some (min (if s.el Reg.PLAN_PENDING = 1 then s.exchangeAt else seamAfter s.liveSeam s.now) stMax)
  else if a = Reg.TM_FREE then some s.cellsFree
  else if a = Reg.REC_FREE then some s.recFree
  else if inRun a (Reg.RING_STAT 0) 4 then some (s.ringStat (a - Reg.RING_STAT 0))
  else if inRun a (Reg.SRC_EN 0) 16 then some (s.srcWord w (a - Reg.SRC_EN 0) s.enabled)
  else if inRun a (Reg.SRC_PEND 0) 16 then some (s.srcWord w (a - Reg.SRC_PEND 0) (s.srcPend w))
  else if inRun a (Reg.SRC_ACTIVE 0) 16 then some (s.srcWord w (a - Reg.SRC_ACTIVE 0) (s.srcActive w))
  else if a = Reg.ARB_QUEUED then some (s.arb.bundles.filter (fun b => b.st == .queued)).length
  else if a = Reg.ARB_HELD then some (s.arb.bundles.filter Bundle.holds).length
  else if a = Reg.ARB_RESERVED then some (s.arb.bundles.filter (fun b => b.st == .reserved)).length
  else if a = Reg.ARB_DMAX then some s.arbDmax
  else if a = Reg.OVF_TIMERS then some s.ovfTimers
  else if a = Reg.OVF_RECORDS then some s.ovfRecords
  else if inRun a (Reg.RES_LIVE 0) 45 then some (s.resLive (a - Reg.RES_LIVE 0 + 1))
  else if a = Reg.CM_PENDING then some s.stage.commits.length
  else if a = Reg.CM_NEXT_AT then some (match s.commitOrder with | c :: _ => c.shape | [] => 0)
  else if a = Reg.FLT_STATUS then some s.fltRecord
  else if inRun a (Reg.OUT_STATE 0) 14 then some (s.outRecord (a - Reg.OUT_STATE 0))
  else if a = Reg.WD_STATE 0 then some (s.wdState 0)
  else if a = Reg.WD_STATE 1 then some (s.wdState 1)
  else if a = Reg.WD_STATE 2 then some (s.wdState 2)
  else if a = Reg.TMP_HOLDING then some s.tmpHolding
  else if a = Reg.LOOP_STATE 3 then some s.l4Record
  else if a = Reg.REPAIR_RESERVE then some s.reserve
  else if a = Reg.REPAIR_MIN_CLASS then some s.minClass
  else if inRun a (Reg.REPAIR_CLASS 0) 13 then some (s.repRecord (a - Reg.REPAIR_CLASS 0 + 1))
  else if inRun a (Reg.ISL_HOLD 0) 8 then
    some (match s.isl.holds.find? (fun h => islNum h.1 == a - Reg.ISL_HOLD 0) with
      | some h => (h.2.1 - s.now) * 1000 / stSecond
      | none => 0)
  else if inRun a (Reg.NV_REGION 0) 5 then some (s.regionRecord (a - Reg.NV_REGION 0))
  else if a = Reg.NV_AGE_MAX then some (min (s.oldest / (86400 * stSecond)) 65535)
  else if a = Reg.NV_SET_USE then
    some ((s.setBytes 1 * 2 ^ 32 + s.setBytes 2) * 2 ^ 32 + Config.regionUse 5 0 % 65537)
  else if a = Reg.FW_TRIAL_LEFT then some s.trialLeft
  else if a = Reg.SCHEMA_SETS then some ((s.fw.setA.schema * 65536 + s.fw.setB.schema) * 256 + s.fw.lastSet)
  else none

/-- Elements of a client that show state of another kind; k is the element's number. -/
def State.clientValue (s : State) (c k : Nat) : Option Nat :=
  if inRun k 0x38 4 then some (match s.subOf c (k - 0x38) with | some x => x.record | none => 0)
  else if k = 0x40 then some (s.parison c).length
  else if inRun k 0x42 4 then some (s.cmPend c (k - 0x42))
  else if k = 0x46 then some (s.cmLast c)
  else if inRun k 0x50 20 then some (s.lsSlot c (k - 0x50))
  else if inRun k 0x70 32 then some (s.tmrRecord c (k - 0x70))
  else none

/-- Elements of a holder that show state of another kind. -/
def State.holderValue (s : State) (h k : Nat) : Option Nat :=
  if k = 0x11 then some (bytesToNum (s.calendar s.now (s.elS 1 (Reg.LOCAL_OFS h))))
  else if k = 0x25 then some (s.timersUsed h)
  else if k = 0x26 then some (s.recsOnQuota h)
  else if k = 0x2C then some (s.tmr.planTimers.filter (fun p => p.hid == h)).length
  else if 0x80 ≤ k then
    some (match s.liveBank.find? (fun p => p.1 == Reg.PLAN_ENTRY h (k - 0x80)) with | some p => p.2 | none => 0)
  else none

/-- What an element reads for a requester. -/
def State.liveValue (s : State) (w : Who) (a : Nat) : Nat :=
  let v := match ownerOf a with
    | .station => s.stationValue w a
    | .client c => s.clientValue c (a % 256)
    | .holder h => s.holderValue h (a % 256)
  v.getD (s.el a)

/-! ### Rights to read and write (R15, R450, R832, R840) -/

/-- A SRC_CFG or SRC_ROUTE element of a message source exists for the requester (chapter 12, Elements; R450). -/
def State.srcElement (s : State) (w : Who) (a : Nat) : Bool :=
  if inRun a (Reg.SRC_CFG 128) 383 then s.aliasPasses w (a - Reg.SRC_CFG 0) true true
  else if inRun a (Reg.SRC_ROUTE 0) 383 then s.aliasPasses w (a - Reg.SRC_ROUTE 0 + 128) false false
  else true

/-- The requester may read, or write, an element (R15, R16, R23, R840). -/
def State.mayRead (s : State) (w : Who) (a : Nat) : Bool :=
  match rowOf a with
  | none => false
  | some e => (s.passes w e.rd (ownerOf a) || s.orphanPasses w true a) && s.srcElement w a
def State.mayWrite (s : State) (w : Who) (a : Nat) : Bool :=
  match rowOf a with
  | none => false
  | some e => (s.passes w e.wr (ownerOf a) || s.orphanPasses w false a) && s.srcElement w a

end Sys2Proof.Machine
end

