-- ==== Sys2Proof/Machine/Rules.lean ====
section
/-! DEFINITION. The commit check (chapter 08): Table: Commit rules with the rules that the chapters add to it, each as the list of
addresses at which a commit breaks it. -/
namespace Sys2Proof.Machine
open Host

/-- A violation: the rule, the address it is reported at (0 for none), status and detail. -/
structure Viol where
  rule : Nat
  addr : Nat
  st : Stat
  deriving DecidableEq, Repr

/-- Item status and detail of a rule (Table: Commit rules); rule 0x08 has its own. -/
def ruleStat (rule : Nat) : Stat :=
  if rule = 1 then .range 2 0
  else if rule = 3 then .conflict 2
  else if rule = 4 then .exhausted 6
  else if rule = 9 then .exhausted 2
  else if rule = 10 then .sealed
  else if rule = 11 then .range 2 0
  else if rule = 12 then .range 3 0
  else .conflict 3

/-- The first of some addresses that the commit stages. -/
def Commit.pick (c : Commit) (l : List Nat) : List Nat := (l.find? c.stages).toList

/-- The value a commit stages in an element. -/
def Commit.valueOf (c : Commit) (a : Nat) : Option Nat := (c.items.find? (fun p => p.1 == a)).map (fun p => p.2)

/-- The elements a commit stages. -/
def Commit.addrs (c : Commit) : List Nat := c.items.map (fun p => p.1)

/-- Addresses, where a condition holds. -/
def onlyIf (b : Bool) (l : List Nat) : List Nat := if b then l else []

/-! ### The projected state -/

/-- The pending commits that flip before a commit, in the order of R290. -/
def State.earlierCommits (s : State) (c : Commit) : List Commit :=
  s.commitOrder.filter (fun x => decide (x.shape < c.shape ∨ (x.shape = c.shape ∧ x.order < c.order)))

/-- The live values with those commits applied. -/
def State.baseFor (s : State) (c : Commit) : State := (s.earlierCommits c).foldl (fun t x => t.applyItems x.items) s

/-! ### Rule 0x01: ranges and sets -/

/-- An optional holder number. -/
def hidOrNone (v : Nat) : Bool := decide (v < 64) || v == 0xFF

/-- The fields of RAIL_CFG, LSW_CFG and FLT_CFG (chapter 16, elements). -/
def railCfgOk (v : Nat) : Bool :=
  let f := field v
  decide (1000 ≤ f 96 16 ∧ f 96 16 ≤ 40000) && decide (f 88 8 ≤ 8) && decide (f 64 8 ≤ 8) && f 32 16 != 0 && f 16 16 != 0 &&
  decide (1 ≤ f 0 8 ∧ f 0 8 ≤ 64)
def lswCfgOk (v : Nat) : Bool :=
  let f := field v
  decide (50 ≤ f 40 16 ∧ f 40 16 ≤ 600) && f 40 16 % 10 == 0 && decide (1 ≤ f 24 16 ∧ f 24 16 ≤ 500) &&
  decide (1 ≤ f 8 16 ∧ f 8 16 ≤ 1000)
def fltCfgOk (v : Nat) : Bool :=
  let f := field v
  f 40 8 != 0 && decide (1 ≤ f 24 16 ∧ f 24 16 ≤ 10000) && decide (f 0 8 ≤ 7)

/-- The fields of EVT_SET (Table: EVT_SET record). -/
def evtSetOk (v : Nat) : Bool :=
  let b := fun k => field v (8 * (15 - k)) 8
  let th := field v 64 16
  decide (b 0 ≤ 3) && decide (b 2 ≤ 0x17) && decide (b 4 ≤ 1) && decide (16 ≤ b 5 ∧ b 5 ≤ 160) &&
  decide (2 ≤ th ∧ th ≤ 1200) && decide (b 8 ≤ 8) && decide (8 ≤ b 9 ∧ b 9 ≤ 20)

/-- A plan entry (Table: PLAN_ENTRY record; R366, first row). -/
def planEntryOk (v : Nat) : Bool :=
  let zeroC := peC v == 0 && peAnchor v == 0 && pePeriod v == 0
  if peKind v = 0 then v == 0
  else if peTag v = 0 ∨ field v 154 6 ≠ 0 then false
  else if peKind v = 1 then
    decide (1024 ≤ pePeriod v) &&
    (if peMode v = 1 then peA v == 0 && peB v == 0 && peC v == 0
     else if peMode v = 2 then decide (128 ≤ peA v ∧ peA v ≤ 510) && peB v == 0 && peC v == 0
     else peMode v == 3 && peC v != 0)
  else peKind v == 2 && decide (peMode v ≤ 3) && decide (peA v ≤ 23) && decide (peB v ≤ 15) && zeroC

/-- A reaction entry (R663): reserved bits clear, sources 13 to 15 zero. -/
def reactionOk (src v : Nat) : Bool :=
  decide (reResp v < 64) && decide (reHosts v < 4) && decide (reShed v < 2 ^ 14) && v % 65536 == 0 && (decide (src < 13) || v == 0)

/-- PTP_INTERVALS (chapter 13, elements). -/
def ptpIntervalsOk (v : Nat) : Bool :=
  let b := fun k => field v (8 * (3 - k)) 8
  decide (b 0 ≤ 4) && (b 1 == 0xFF || decide (b 1 ≤ 1)) && decide (b 2 ≤ 5) && decide (2 ≤ b 3 ∧ b 3 ≤ 10)

/-- Records of the tenancy and delivery chapters. -/
def tenancyOk (a v : Nat) : Option Bool :=
  if a = Reg.TGT_OWNER then some (hidOrNone (v / 256) && hidOrNone (v % 256))
  else if inRun a (Reg.GRP_CFG 0) 32 then some (hidOrNone (v / 65536))
  else if a = Reg.HINT_EN then some (decide (v ≤ 3))
  else if inRun a (Reg.SRC_CFG 0) 511 then
    some ((if a < Reg.SRC_CFG 128 then v / 256 == 0xFF else hidOrNone (v / 256)) && (decide (v % 256 < 32) || v % 256 == 0xFF))
  else if inRun a (Reg.SRC_ROUTE 0) 383 then some (decide (v / 256 < 16 ∧ v % 256 ≤ 1))
  else if inRun a (Reg.RES_CFG 0) 45 then some (a == Reg.RES_CFG 42 || field v 80 16 != 0)
  else if inRun a (Reg.STANDING 0) 16 then some (v / 65536 == 0xFFFF || ordOf (v / 65536) != 0)
  else if rowAddr a = 0x500030 then some (decide (v < 16))
  else if rowAddr a = 0x400001 then some (hidOrNone (v / 256) && decide (v % 256 ≤ 3))
  else if 0x4000A0 ≤ rowAddr a ∧ rowAddr a ≤ 0x4000B7 then some (evtSetOk v)
  else if 0x500080 ≤ rowAddr a ∧ rowAddr a ≤ 0x5000FF then some (planEntryOk v)
  else none

/-- The ranges that the catalog's row does not state: records and sets. R22 has the device ignore a 1 in a reserved bit; where a
chapter's own rule fails rule 0x01 for one (chapter 12 on HINT_EN, HOLDER_ROUTE, SRC_ROUTE; R366; R663), the chapter's rule is
followed (log entry 94). -/
def setOk (a v : Nat) : Bool :=
  match tenancyOk a v with
  | some b => b
  | none =>
    if a = Reg.TRICKLE_UA then [0, 10, 50, 100, 200].contains v
    else if a = Reg.REF_SEL then decide (v ≤ 4) || v == 0xFF
    else if inRun a (Reg.EVT_PIN 0) 24 then decide (v ≤ 3 ∨ a < Reg.EVT_PIN 8)
    else if a = Reg.PTP_INTERVALS then ptpIntervalsOk v
    else if a = Reg.CAN_RATE then decide (v / 16 ≤ 3 ∧ v % 16 ≤ 3)
    else if inRun a (Reg.RAIL_CFG 0) 8 then railCfgOk v
    else if inRun a (Reg.LSW_CFG 0) 6 then lswCfgOk v
    else if a = Reg.FLT_CFG then fltCfgOk v
    else if inRun a (Reg.MARG_CFG 0) 4 then decide (v / 256 ≤ 7 ∧ v % 256 ≤ 100)
    else if inRun a (Reg.TMP_CFG 0) 4 then decide (v / 256 ≤ 3 ∧ v % 256 ≤ 4)
    else if a = Reg.TMPO_CFG then decide (v / 256 ≤ 4 ∧ 1 ≤ v % 256 ∧ v % 256 ≤ 4)
    else if inRun a (Reg.REACTION 0) 16 then reactionOk (a - Reg.REACTION 0) v
    else true

/-- A staged value lies in its element's range or set. -/
def rangeOk (a v : Nat) : Bool :=
  let m := maskEl a v
  (match rowOf a with | some r => inRange r m | none => false) && setOk a m

/-- A date is the first of a month, as a count of days since 2000-01-01. -/
def monthStart (d : Int) : Bool := (civil d).2.2 == 1

/-- The entries of the leap table that break R219. -/
def State.leapBreaks (p : State) : List Nat :=
  let l := p.leapTable
  ((List.range l.length).filter (fun i =>
    let e := l.getD i (0, 0)
    let prev : Nat × Int := if i = 0 then (0, 32) else l.getD (i - 1) (0, 0)
    let step := e.2 - prev.2
    let sec : Int := (e.1 / stSecond : Nat)
    !(step == 1 || step == -1) || (i != 0 && decide (e.1 ≤ prev.1)) || e.1 % stSecond != 0 || (sec - e.2) % 86400 != 0 ||
    !monthStart ((sec - e.2) / 86400))).map Reg.LEAP_ENTRY

def State.rule01 (p : State) (c : Commit) : List Nat :=
  (c.items.filter (fun x => !rangeOk x.1 x.2)).map (fun x => x.1) ++
  onlyIf (c.addrs.any (fun a => a == Reg.LEAP_COUNT || inRun a (Reg.LEAP_ENTRY 0) 48)) p.leapBreaks

/-! ### Rule 0x02: rules that link elements -/

/-- Bindings and holders (R303, R838), owners of targets and groups (chapter 12). -/
def State.rule02Holders (s p : State) (c : Commit) : List Nat :=
  c.addrs.flatMap (fun a =>
    if rowAddr a = 0x400001 then
      let v := p.el a
      onlyIf (v % 256 != 0 && decide (v / 256 < 64) && !p.active (v / 256)) [a]
    else if rowAddr a = 0x500001 then
      let h := hidOfAddr a
      onlyIf (!p.active h && ((List.range 1024).any (fun x => p.hidOf x == h && p.roleOf x != 0) ||
        (s.chain h).any (fun e => e.typ != 0x0B))) [a]
    else []) ++
  ([p.el Reg.TGT_OWNER / 256, p.el Reg.TGT_OWNER % 256].filter (fun h => decide (h < 64) && !p.active h)).flatMap
    (fun h => c.pick [Reg.TGT_OWNER, Reg.HOLDER_STATE h]) ++
  (List.range 32).flatMap (fun g =>
    let h := p.el (Reg.GRP_CFG g) / 65536
    onlyIf (decide (h < 64) && !p.active h) (c.pick [Reg.GRP_CFG g, Reg.HOLDER_STATE h]))

/-- A CID is bound to a holder as holder admin or client. -/
def State.mayOwn (p : State) (x h : Nat) : Bool := p.hidOf x == h && (p.roleOf x == 1 || p.roleOf x == 2)

/-- The plan's rules (R366): `q` is the state before this commit. -/
def State.rule02Plan (q p : State) (c : Commit) : List Nat :=
  c.addrs.flatMap (fun a =>
    if 0x500080 ≤ rowAddr a ∧ rowAddr a ≤ 0x5000FF then
      match p.idleBank.find? (fun x => x.1 == a) with
      | none => []
      | some e =>
        let h := peHid a
        let clash := p.idleBank.any (fun x => x.1 != a && peHid x.1 == h && (!c.stages x.1 || decide (a < x.1)) &&
          (peTag x.2 == peTag e.2 || (peKind x.2 == 2 && peKind e.2 == 2 && peA x.2 == peA e.2)))
        onlyIf (clash || !p.mayOwn (peOwner e.2) h ||
          (peKind e.2 == 1 && peMode e.2 == 2 && !p.srcAssigned (peA e.2) h)) [a]
    else if rowAddr a = 0x400001 then
      let x := cidOfAddr a
      onlyIf (p.el a != q.el a && (p.liveBank ++ p.idleBank).any (fun e => peOwner e.2 == x)) [a]
    else [])

/-- The rails (R589) and the twin-shared mark (R774). -/
def State.rule02Rails (p : State) (c : Commit) : List Nat :=
  let r8 := List.range 8
  let on := fun r => p.resEnabled (25 + r)
  r8.flatMap (fun r =>
    let v := p.el (Reg.RAIL_LVL r)
    let off := field v 64 16
    let fl := field v 48 16
    let wl := field v 32 16
    let wh := field v 16 16
    let fh := field v 0 16
    let top := 2500 * field (p.el (Reg.RAIL_CFG r)) 96 16 / 1000
    onlyIf (!(decide (off < fl ∧ fl < wl ∧ wl < wh ∧ wh < fh))) (c.pick [Reg.RAIL_LVL r]) ++
    onlyIf (decide (top < max (max off fl) (max (max wl wh) fh))) (c.pick [Reg.RAIL_CFG r, Reg.RAIL_LVL r]) ++
    onlyIf ((p.upOrder r == 0) != (p.downOrder r == 0)) (c.pick [Reg.RAIL_CFG r]) ++
    r8.flatMap (fun q =>
      onlyIf (p.railRequires r q && decide (p.downOrder q ≤ p.downOrder r)) (c.pick [Reg.RAIL_CFG r, Reg.RAIL_CFG q]) ++
      onlyIf (p.railRequires r q && on r && !on q)
        (c.pick [Reg.RES_CFG (24 + q), Reg.RES_CFG (24 + r), Reg.RAIL_CFG q, Reg.RAIL_CFG r]))) ++
  (List.range 45).flatMap (fun o =>
    onlyIf (p.twinShared (o + 1) && (decide (o < 24 ∨ 32 ≤ o) || p.upOrder (o - 24) != 0 || p.twinRole == 0))
      (c.pick [Reg.RES_CFG o, Reg.RAIL_CFG (o - 24)]))

/-- The settings of a device's own units (R148, R474, R559, R646, R663, R685, R694). -/
def State.rule02Units (s p : State) (c : Commit) : List Nat :=
  onlyIf (p.el Reg.TRICKLE_UA != 0 && p.el Reg.BK_SOURCE != 1) (c.pick [Reg.TRICKLE_UA, Reg.BK_SOURCE]) ++
  onlyIf (p.el Reg.T1L_AN == 1 && !((p.el Reg.T1L_AMPL == 1 || p.el Reg.T1L_AMPL == 2) &&
      (p.el Reg.T1L_MS == 2 || p.el Reg.T1L_MS == 3))) (c.pick [Reg.T1L_AMPL, Reg.T1L_AN, Reg.T1L_MS]) ++
  (match p.profile with
    | some x => onlyIf (decide (s.pwr.vsys < x.vLo * x.cells ∨ x.vHi * x.cells < s.pwr.vsys)) (c.pick [Reg.BAT_CHEM])
    | none => []) ++
  onlyIf (p.el Reg.HTR_MODE != 0 && p.el Reg.HTR_W == 0) (c.pick [Reg.HTR_MODE, Reg.HTR_W]) ++
  [0, 1, 2].flatMap (fun w => onlyIf (p.el (Reg.WD_MODE w) == 2 && p.el (Reg.WD_TASKS w) == 0)
    (c.pick [Reg.WD_MODE w, Reg.WD_TASKS w])) ++
  (List.range 16).flatMap (fun k =>
    let v := p.el (Reg.REACTION k)
    let b := fun n => bitOf (reResp v) n
    onlyIf (((b 2 || b 3 || b 4 || b 5) && !b 0) || (b 3 && reHosts v % 4 == 0) || (b 4 && reShed v % 2 ^ 14 == 0))
      (c.pick [Reg.REACTION k])) ++
  (List.range 8).flatMap (fun m =>
    let v := p.el (Reg.VMON_LIM m)
    onlyIf (v / 2 ^ 32 != 0 && v % 2 ^ 32 != 0 && decide (v % 2 ^ 32 ≤ v / 2 ^ 32)) (c.pick [Reg.VMON_LIM m]) ++
    onlyIf (decide (p.el (Reg.L4_FENCE m) % 65536 < p.el (Reg.L4_FENCE m) / 65536)) (c.pick [Reg.L4_FENCE m])) ++
  onlyIf (decide (p.el Reg.L1_FENCE % 65536 < p.el Reg.L1_FENCE / 65536)) (c.pick [Reg.L1_FENCE]) ++
  onlyIf (decide (p.el Reg.L2_FENCE % 256 < p.el Reg.L2_FENCE / 256)) (c.pick [Reg.L2_FENCE]) ++
  onlyIf (decide (p.el Reg.MPPT_VMAX < p.el Reg.MPPT_VMIN)) (c.pick [Reg.MPPT_VMIN, Reg.MPPT_VMAX])

/-- The key exchange (R539), a commit that a zeroize has hit (R549), and a committer whose binding an earlier commit changes
(chapter 25, Edges). -/
def State.rule02Keys (s q : State) (c : Commit) : List Nat :=
  onlyIf (c.killed || (c.cid != mirrorCid && q.el (Reg.CID_BIND c.cid) != s.el (Reg.CID_BIND c.cid)) || c.exchanges.any (fun x => !s.kxCheck x (c.valueOf (Reg.KX_WRAP x)) (c.valueOf (Reg.KX_TAG x)))) [0]

def State.rule02 (s q p : State) (c : Commit) : List Nat :=
  s.rule02Holders p c ++ q.rule02Plan p c ++ p.rule02Rails c ++ s.rule02Units p c ++ s.rule02Keys q c

/-! ### Rules 0x03 and 0x04: feasibility and quotas -/

/-- The standing amount that the configuration declares. -/
def State.declaredStanding (p : State) (o : Nat) : Nat :=
  p.standingConfig.foldl (fun a x => if x.ord = o ∨ (o = 43 ∧ powerOrd x.ord) then a + x.amount else a) 0

/-- Standing amounts and leases against capacities (R341, R343, R412). -/
def State.rule03Leases (s p : State) (c : Commit) : List Nat :=
  let above := fun o => decide (p.resCap o < p.declaredStanding o + s.held o)
  c.addrs.flatMap (fun a =>
    if inRun a (Reg.STANDING 0) 16 then
      let o := ordOf (p.el a / 65536)
      onlyIf (o != 0 && (above o || (powerOrd o && above 43))) [a]
    else if a = Reg.REF_SEL then onlyIf (p.refInputs.any above) [a]
    else if inRun a (Reg.RES_CFG 0) 45 then
      let o := a - Reg.RES_CFG 0 + 1
      onlyIf (!exclusive o && decide (o < 43) && above o) [a]
    else if a = Reg.ARB_QMAX then onlyIf (decide (p.el a < (s.arb.bundles.filter Bundle.waits).length)) [a]
    else []) ++
  onlyIf (c.addrs.any (fun a => rowAddr a == 0x500023 || rowAddr a == 0x500001) &&
    decide (4096 < (List.range 64).foldl (fun n h => if p.active h then n + p.el (Reg.LEASE_MAX h) else n) 0)) [0]

/-- Pools and quotas (R311, R362, R676, R727). -/
def State.rule03Pools (s p : State) (c : Commit) : List Nat :=
  let any := fun n => c.addrs.any (fun a => rowAddr a == n)
  c.addrs.flatMap (fun a =>
    let h := hidOfAddr a
    let r := rowAddr a
    let banks := p.liveBank ++ p.idleBank
    onlyIf (r == 0x500021 && decide (p.el a < s.timersUsed h)) [a] ++
    onlyIf (r == 0x500022 && decide (p.el a < s.recsOnQuota h)) [a] ++
    onlyIf (r == 0x50002A && banks.any (fun e => peHid e.1 == h && decide (p.el a ≤ e.1 % 256 - 0x80))) [a] ++
    onlyIf (decide (0x500080 ≤ r ∧ r ≤ 0x5000FF) && p.stagedEl a != 0 && decide (p.el (Reg.PLAN_ALLOT h) ≤ a % 256 - 0x80)) [a] ++
    onlyIf (r == 0x500060 && decide (p.el a < s.el (Reg.LOG_USED h))) [a]) ++
  onlyIf ((any 0x500021 && decide (8192 < p.sumHolders Reg.TIMER_QUOTA + 512)) ||
    (any 0x500022 && decide (16384 < p.sumHolders Reg.REC_QUOTA + 1024)) ||
    (any 0x50002A && decide (512 < p.sumHolders Reg.PLAN_ALLOT)) ||
    (any 0x500060 && decide (32768 < p.sumHolders Reg.LOG_QUOTA)) || decide (160 * 1024 < p.liveSetBytes)) [0]

/-- A lease action that no LEASE of the owner would be accepted for (R366), and rails (R590). -/
def State.rule03Plan (s p : State) (c : Commit) : List Nat :=
  c.addrs.flatMap (fun a =>
    if 0x500080 ≤ rowAddr a ∧ rowAddr a ≤ 0x5000FF then
      let v := p.stagedEl a
      onlyIf (peKind v == 1 && peMode v == 3 &&
        (peA v == 0x180 || !p.resOpen (peA v) (peHid a) || badAmount (peA v, peB v))) [a]
    else []) ++
  (List.range 8).flatMap (fun r => (List.range 8).flatMap (fun q =>
    onlyIf (p.railRequires r q && (s.outp r).state != oOff && (s.outp q).state != oOn)
      (c.pick [Reg.RAIL_CFG r, Reg.RAIL_CFG q])))

def State.rule03 (s p : State) (c : Commit) : List Nat := s.rule03Leases p c ++ s.rule03Pools p c ++ s.rule03Plan p c

/-- Timer cells of a holder in a bank, beside its clients' cells on quota (R366). -/
def State.rule04Plan (s p : State) (c : Commit) : List Nat :=
  (List.range 64).flatMap (fun h =>
    let mine := (c.addrs.filter (fun a => hidOfAddr a == h && (rowAddr a == 0x500021 || decide (0x500080 ≤ rowAddr a)) &&
      decide (rowAddr a ≤ 0x5000FF ∧ 0x500000 ≤ a ∧ a < 0x504000))).sortBy (· ≤ ·)
    match mine with
    | [] => []
    | a :: _ =>
      let cells := (s.tmr.timers.filter (fun t => s.hidOf t.cid == h && t.state == 1 && !t.ovf)).length
      let n := fun (b : List (Nat × Nat)) => ((bankTimers b).filter (fun e => e.1 == h)).length
      onlyIf (decide (p.el (Reg.TIMER_QUOTA h) < cells + max (n p.liveBank) (n p.idleBank)) &&
        decide (0 < max (n p.liveBank) (n p.idleBank))) [a])

/-- R289, at acceptance. -/
def State.rule04Limits (s : State) (c : Commit) : List Nat :=
  let l := s.stage.commits.filter (fun x => x.cid != mirrorCid)
  onlyIf (decide (4 ≤ (l.filter (fun x => x.cid == c.cid)).length) || decide (16 ≤ (l.filter (fun x => x.hid == c.hid)).length)) [0]

/-! ### Rules 0x05 to 0x0A -/

/-- Fixed thresholds against the input's fence (chapter 11). -/
def State.rule05 (p : State) (c : Commit) : List Nat :=
  c.addrs.filter (fun a => decide (0x4000A0 ≤ rowAddr a ∧ rowAddr a ≤ 0x4000A7) &&
    (let i := a % 256 - 0xA0
     let v := p.el a
     let th := field v 64 16
     let f := p.el (Reg.L4_FENCE i)
     field v 88 8 == 0 && decide (th < f / 65536 ∨ f % 65536 < th)))

/-- A fence of two bounds lies within a hard range. -/
def fenceIn (lo hi hlo hhi : Nat) : Bool := decide (hlo ≤ lo ∧ hi ≤ hhi)

/-- Hard limits (R558, R694, chapter 11). -/
def State.rule06 (p : State) (c : Commit) : List Nat :=
  c.addrs.filter (fun a =>
    let v := p.el a
    if 0x4000A0 ≤ rowAddr a ∧ rowAddr a ≤ 0x4000B7 then decide (field v 64 16 < 2 ∨ 1200 < field v 64 16)
    else if a = Reg.L1_FENCE then !fenceIn (v / 65536) (v % 65536) 750 1000
    else if a = Reg.L2_FENCE then !fenceIn (v / 256) (v % 256) 10 60
    else if inRun a (Reg.L4_FENCE 0) 8 then !fenceIn (v / 65536) (v % 65536) 2 1200
    else if a = Reg.MPPT_VMIN ∨ a = Reg.MPPT_VMAX then decide (v < 5000 ∨ 60000 < v)
    else if a = Reg.HTR_DUTY_MAX then decide (100 < v)
    else if a = Reg.X32_DRIVE_MAX then decide (15 < v)
    else match p.profile with
      | none => false
      | some x =>
        if a = Reg.CV_MV ∨ a = Reg.FLOAT_MV ∨ a = Reg.RECH_MV then v != 0 && decide (v < x.cvLo ∨ x.cvHi < v)
        else if a = Reg.CHG_T_LO then v != 0x7FFF && decide (signed 16 v < x.tLoHard)
        else if a = Reg.CHG_T_HI then v != 0x7FFF && decide (x.tHiHard < signed 16 v)
        else false) ++
  (match p.profile with
    | none => []
    | some x =>
      let bad := [Reg.CV_MV, Reg.FLOAT_MV, Reg.RECH_MV].any (fun a => p.el a != 0 && decide (p.el a < x.cvLo ∨ x.cvHi < p.el a)) ||
        (p.el Reg.CHG_T_LO != 0x7FFF && decide (p.elS 2 Reg.CHG_T_LO < x.tLoHard)) ||
        (p.el Reg.CHG_T_HI != 0x7FFF && decide (x.tHiHard < p.elS 2 Reg.CHG_T_HI))
      onlyIf bad (c.pick [Reg.BAT_CHEM]))

/-- Keeper safety (R303, R460, R515, R694, R839) and the dictionary lock, which exempts the operations of R541 (R665). -/
def State.rule07 (s q p : State) (c : Commit) (boot : Bool) : List Nat :=
  let admin0 := fun (t : State) (x : Nat) => t.hidOf x == 0 && t.roleOf x == 1
  let s1 := s.l1Safe
  onlyIf (s.locked && !boot) [0] ++
  onlyIf (!(List.range 1024).any (admin0 p)) ((c.addrs.filter (fun a => rowAddr a == 0x400001 && admin0 q (cidOfAddr a))).take 1) ++
  c.addrs.filter (fun a =>
    let v := p.el a
    (a == Reg.PORT_EN && v % 8 == 0) || a == Reg.KEY_ERASE 0 || (a == Reg.HOLDER_STATE 0 && c.valueOf a == some 0) ||
    (a == Reg.L1_FENCE && (s.s1 || s.lehr.s2 || s.lehr.s3.isSome) &&
      decide (((v % 65536 : Nat) : Int) < s1.1 ∨ s1.2 < ((v / 65536 : Nat) : Int))) ||
    (a == Reg.X32_DRIVE_MAX && s.bk.s4 && decide (v < 15)))

/-- Twin-shared elements (R769, R772): in discord, or while the pair is not joined. -/
def State.rule08 (s : State) (c : Commit) : List Viol :=
  let t := s.el Reg.TWIN_STATE
  if t = 0 ∨ t = 3 then []
  else (c.addrs.filter s.twinElement).map (fun a => ⟨8, a, if t = 4 then .conflict 3 else .split⟩)

/-- Persistent elements in a read-only region. -/
def State.rule09 (s : State) (c : Commit) : List Nat :=
  if s.isReadOnly 11 then c.addrs.filter (fun a => match rowOf a with | some r => r.persist | none => false) else []

/-- An evidence entry is needed and its chain is sealed (R297). -/
def State.rule0A (s : State) (c : Commit) : List Nat :=
  onlyIf (needsLog c.sa c.items && s.sealed c.hid && c.cid != mirrorCid) [0]

/-! ### The checks -/

def violsOf (rule : Nat) (l : List Nat) : List Viol := l.map (fun a => ⟨rule, a, ruleStat rule⟩)

/-- Ascending rule, then address (R285). -/
def Viol.le (x y : Viol) : Bool := decide (x.rule < y.rule) || (x.rule == y.rule && decide (x.addr ≤ y.addr))

/-- In order, none twice. -/
def orderViols (l : List Viol) : List Viol := l.eraseDups.sortBy Viol.le

/-- The rules checked both at acceptance and at the instant, but for rule 0x08. `boot`: the commit is unprovisioned. -/
def State.checkCore (s : State) (c : Commit) (boot : Bool) : List Viol :=
  let q := s.baseFor c
  let p := q.applyItems c.items
  violsOf 2 (s.rule02 q p c) ++ violsOf 3 (s.rule03 p c) ++ violsOf 4 (s.rule04Plan p c) ++ violsOf 5 (p.rule05 c) ++
  violsOf 6 (p.rule06 c) ++ violsOf 7 (s.rule07 q p c boot) ++ violsOf 10 (s.rule0A c)

/-- The rules checked at acceptance alone. -/
def State.checkFirst (s : State) (c : Commit) : List Viol :=
  let p := (s.baseFor c).applyItems c.items
  violsOf 1 (p.rule01 c) ++ violsOf 4 (s.rule04Limits c) ++ violsOf 9 (s.rule09 c)

/-- Every violation of a commit at its acceptance (R284), those of the instant and of the empty parison with them. `t0` is when
the request reached CR; `named`: the instant was named. -/
def State.violations (s : State) (c : Commit) (named boot : Bool) : List Viol :=
  let late := named && decide (c.shape < s.now + stMsUp 10 ∨ s.now + 604800 * stSecond < c.shape)
  orderViols (s.checkFirst c ++ s.checkCore c boot ++ s.rule08 c ++ violsOf 11 (onlyIf late [0]) ++
    violsOf 12 (onlyIf c.items.isEmpty [0]))

/-- What a COMMIT response lists (R285): at most 128 items. -/
def cutViols (l : List Viol) : List Viol :=
  match l[127]? with
  | some x => if l.length ≤ 128 then l else l.take 127 ++ [{ x with rule := 0xFF }]
  | none => l

/-- The item of a violation: address, status, detail, rule. -/
def Viol.bytes (x : Viol) : Bytes := numToBytes 3 x.addr ++ numToBytes 1 x.st.code ++ numToBytes 1 x.st.detail ++ numToBytes 1 x.rule

end Sys2Proof.Machine
end

