-- ==== Sys2Proof/Machine/Flip.lean ====
section
/-! DEFINITION. What a flip does (chapter 08, step 6): the values of a commit, and what each chapter makes of the change at the
shape instant. -/
namespace Sys2Proof.Machine
open Host

/-! ### Watches (R276) -/

/-- The payload of a value NOTIFY: stamp, address, length, value. -/
def State.valuePayload (s : State) (x : Subscr) : Bytes :=
  let a := x.selector / 256
  let b := match rowOf a with
    | some r => typeBytes r.ty (s.liveValue (.client x.cid) a)
    | none => []
  numToBytes 8 s.now ++ numToBytes 3 a ++ numToBytes 1 b.length ++ b

/-- A Watch compares its element with the value last notified, and notifies when the two differ. -/
def State.watchCompare (s : State) (c slot : Nat) : State :=
  match s.subOf c slot with
  | none => s
  | some x =>
    let v := s.liveValue (.client c) (x.selector / 256)
    if x.kind ≠ 2 ∨ v = x.last ∨ !s.runs .nw then s
    else
      let l := s.exch.subs.map (fun y => if y.cid = c ∧ y.slot = slot then { y with last := v } else y)
      State.notify { s with exch := { s.exch with subs := l } } x 2 (s.valuePayload x)

/-- The Watches of some elements compare, as at every write or flip that changes them. -/
def State.watchAll (s : State) (f : Nat → Bool) : State :=
  (s.exch.subs.filter (fun x => x.kind == 2 && f (x.selector / 256))).foldl (fun t x => t.watchCompare x.cid x.slot) s

/-! ### Bindings and holders (R304, R359, R833, R834, R837) -/

/-- Requests of a client that have not completed end with CONFLICT (R834). -/
def State.endRequests (s : State) (x : Nat) : State :=
  let gs := s.exch.gathers.filter (fun g => g.req.cid == x)
  let s1 : State := { s with exch := { s.exch with gathers := s.exch.gathers.filter (fun g => g.req.cid != x) } }
  let s2 := gs.foldl (fun t g => t.answer g.req 3 (.conflict 3) []) s1
  let rs := s2.isl.retries.filter (fun r => r.2.1.cid == x)
  let s3 : State := { s2 with isl := { s2.isl with retries := s2.isl.retries.filter (fun r => r.2.1.cid != x) } }
  let s4 := rs.foldl (fun t r => t.answer r.2.1 r.1 (.conflict 3) []) s3
  let waits := s4.log.waiting.filterMap (fun g => match g.onStored with
    | .clearSticky _ (some r) => if r.cid = x then some r else none
    | _ => none)
  let s5 : State := { s4 with log := { s4.log with waiting := s4.log.waiting.map (fun g => match g.onStored with
    | .clearSticky _ (some r) => if r.cid = x then { g with onStored := .nothing } else g
    | _ => g) } }
  waits.foldl (fun t r => t.answer r 2 (.conflict 3) []) s5

/-- A commit unbinds or rebinds a client: all that was its own ends, under the binding it had. A commit of the client that
shares the instant stays, and fails its check (chapter 25, Edges). -/
def State.endBinding (s : State) (c : Commit) (x : Nat) (newHid : Nat) : State :=
  let h := s.hidOf x
  let s1 := (s.arb.bundles.filter (fun b => b.cid == x && b.st != .ended)).foldl (fun t b => t.endBundle b 4 0x15) s
  let s2 := (s1.commitOrder.filter (fun k => k.cid == x && k.shape != c.shape)).foldl
    (fun t k => t.endCommit k .withdrawn 0 0 0) s1
  let hit : Commit → Commit := fun k => if k.cid = x ∧ k.order ≠ c.order then { k with killed := true } else k
  let s3 := (State.endRequests { s2 with stage := { s2.stage with commits := s2.stage.commits.map hit } } x).eraseKx x
  let s4 : State := { s3 with
    stage := { s3.stage with parisons := s3.stage.parisons.filter (fun p => p.cid != x)
                             last := s3.stage.last.filter (fun p => p.cid != x) }
    exch := { s3.exch with subs := s3.exch.subs.filter (fun y => y.cid != x) }
    tmr := { s3.tmr with timers := s3.tmr.timers.filter (fun t => t.cid != x) }
    arb := { s3.arb with bundles := s3.arb.bundles.filter (fun b => b.cid != x) } }
  s4.dropEls (fun a => decide (0x400000 ≤ a ∧ a < 0x440000) && cidOfAddr a == x && a % 256 != 0x01 &&
    !(h == newHid && (a % 256 == 0x33 || a % 256 == 0x34)))

/-- A holder becomes absent (R837, R515). -/
def State.holderLeaves (s : State) (h : Nat) : State :=
  (s.dropEls (fun a => a == Reg.LOCAL_OFS h || a == Reg.HOLDER_ROUTE h)).eraseSlot h

/-- A holder becomes active again (R837): the chain is archived to its head, the volatile elements take their defaults. -/
def State.holderReturns (s : State) (h : Nat) : State :=
  let t := match (s.chain h).getLast? with
    | some e => (s.archive h e.seq 0 true).1
    | none => s
  t.dropEls (fun a => decide (0x500000 ≤ a ∧ a < 0x504000) && hidOfAddr a == h &&
    (rowAddr a == 0x50006A || match rowOf a with | some r => !r.persist | none => false))

/-! ### What each chapter makes of the change; `b` is the state before -/

/-- The element changed from b to s. -/
def State.moved (s b : State) (a : Nat) : Bool := s.el a != b.el a

/-- Holders, keys and plans. -/
def State.flipKeeper (s b : State) (c : Commit) : State :=
  let s1 := c.exchanges.foldl (fun t x => t.keyFlip x ((c.valueOf (Reg.KX_WRAP x)).getD 0)) s
  let s2 := c.items.foldl (fun t p => if rowAddr p.1 = 0x500044 ∧ p.2 = 1 then t.eraseSlot (hidOfAddr p.1) else t) s1
  let s3 := (List.range 64).foldl (fun t h =>
    if !c.stages (Reg.HOLDER_STATE h) ∨ !s.moved b (Reg.HOLDER_STATE h) then t
    else if s.active h then t.holderReturns h else t.holderLeaves h) s2
  if c.addrs.any isPlan then
    let hs := ((c.addrs.filter (fun a => decide (0x500080 ≤ rowAddr a))).map peHid).eraseDups
    let l := s3.tmr.authors.filter (fun p => !hs.contains p.1) ++ hs.map (fun h => (h, c.cid))
    State.planPending { s3 with tmr := { s3.tmr with authors := l } } c.shape
  else s3

/-- A claim already held for longer than a new CLAIM_TMO ends (R442). -/
def State.claimTmoChanged (s : State) : State :=
  (s.dlv.claims.filter (fun k => (k.target == 1 || k.target == 2) && s.claimTmo k.target != 0 &&
    decide (k.at_ + stMs (s.claimTmo k.target) < s.now))).foldl State.returnClaim s

/-- A client's EVT_SET of an analog input. -/
def isEvtSet (a : Nat) : Bool := decide (0x4000A0 ≤ rowAddr a ∧ rowAddr a ≤ 0x4000A7)

/-- Events and delivery (R385, R405, R455, R856; chapter 12, Edges). -/
def State.flipEvents (s b : State) (c : Commit) : State :=
  let s1 := [1, 2].foldl (fun t k => if t.targetOwner k = b.targetOwner k then t else t.ownerChanged k (b.targetOwner k)) s
  let s2 := if s1.moved b Reg.CLAIM_TMO then s1.claimTmoChanged else s1
  c.addrs.foldl (fun t a =>
    if !t.moved b a then t
    else if inRun a (Reg.EVT_PIN 0) 24 then t.pinChanged (a - Reg.EVT_PIN 0)
    else if inRun a (Reg.L4_FENCE 0) 8 then t.l4Changed (a - Reg.L4_FENCE 0)
    else if isEvtSet a then t.l4Changed (a % 256 - 0xA0)
    else if inRun a (Reg.GRP_CFG 0) 32 then
      if t.el a / 65536 = b.el a / 65536 then t else t.releaseHeld (fun _ g => g == a - Reg.GRP_CFG 0)
    else if inRun a (Reg.SRC_CFG 0) 511 then
      let src := a - Reg.SRC_CFG 0
      let u := if t.el a / 256 = b.el a / 256 ∨ b.el a / 256 = 0xFF then t else t.withdraw src (b.el a / 256) 4
      if t.el a % 256 = b.el a % 256 then u else u.releaseHeld (fun r _ => r.source == src)
    else t) s2

/-- The standing leases that the configuration now declares; those that stay keep their grants. -/
def State.resyncStanding (s : State) : State :=
  let l := s.standingConfig.map (fun x =>
    match s.arb.standing.find? (fun y => y.ord == x.ord && y.amount == x.amount && y.reference == x.reference) with
    | some y => y
    | none => x)
  { s with arb := { s.arb with standing := l } }

/-- A holder taken out of a resource's RES_ALLOW: its held leases there get notice, its queued bundles end (Table: Causes of
revocation; chapter 09, Edges). -/
def State.allowRemoved (s b : State) (o : Nat) : State :=
  let out : Nat → Bool := fun h => b.resAllows o h && !s.resAllows o h
  let s1 := (s.arb.bundles.filter (fun x => out x.hid && x.st != .ended && x.items.any (fun p => p.1 == o))).foldl
    (fun t x => if x.waits then (t.endBundle x 2 0x12).inc 4 Reg.ARB_REVOKES else t.giveNotice x) s
  if out 0 then
    (List.range s1.arb.standing.length).foldl (fun t i =>
      match t.arb.standing[i]? with
      | some x => if x.ord = o ∧ x.granted ∧ x.ends = 0 ∧ !x.reference then t.noticeStanding i else t
      | none => t) s1
  else s1

/-- The arbiter (R337, R339, R412). -/
def State.flipArbiter (s b : State) (c : Commit) : State :=
  let s1 := (List.range 45).foldl (fun t i => if t.moved b (Reg.RES_CFG i) then t.allowRemoved b (i + 1) else t) s
  let st := c.addrs.any (fun a => inRun a (Reg.STANDING 0) 16 || a == Reg.REF_SEL)
  (if st then s1.resyncStanding else s1).revokeQueued

/-- The backup domain, the tamper pins, the reference, the leap table (R147, R150, R151, R167, R201, R220, R855). -/
def State.flipTime (s b : State) (c : Commit) : State :=
  let trickle := c.stages Reg.TRICKLE_UA || c.stages Reg.BK_SOURCE || c.stages Reg.TRICKLE_MV
  let s1 : State := { s with bk := { s.bk with
    vbkLow := if c.stages Reg.VBK_LOW_MV then s.el Reg.VBK_LOW_MV else s.bk.vbkLow
    driveMax := if c.stages Reg.X32_DRIVE_MAX then s.el Reg.X32_DRIVE_MAX else s.bk.driveMax
    s4 := s.bk.s4 && !c.stages Reg.X32_DRIVE_MAX } }
  let s2 := (List.range 4).foldl (fun t k =>
    if t.moved b (Reg.TMP_CFG k) ∧ t.el (Reg.TMP_CFG k) / 256 = 0 then t.tamperOff k else t) (if trickle then s1.trickleSet else s1)
  let prior := c.stages Reg.PRIOR_T0 || c.stages Reg.PRIOR_BETA || c.stages Reg.PRIOR_TOL
  let s3 := if prior ∧ s2.el Reg.LEARN_STATE = 0 then s2.resetModel else s2
  let s4 := if s3.moved b Reg.REF_SEL then s3.refSelChanged else s3
  if c.addrs.any (fun a => a == Reg.LEAP_COUNT || inRun a (Reg.LEAP_ENTRY 0) 48) then s4.leapCheck else s4

/-- The ports (R459, R478, R483). -/
def State.flipPorts (s b : State) (c : Commit) : State :=
  if !s.runs .nw then s else
  let any : List Nat → Bool := fun l => l.any (fun a => s.moved b a)
  let bit := fun k => bitOf (s.el Reg.PORT_EN) k != bitOf (b.el Reg.PORT_EN) k
  let can := bit 0 || any [Reg.CAN_NODE, Reg.CAN_RATE, Reg.CAN_MODE, Reg.CAN_NTF_PRIO, Reg.CAN_SEG_TMO, Reg.CAN_TX_TMO, Reg.CAN_BOFF_HOLD]
  let t1l := bit 1 || any [Reg.T1L_AMPL, Reg.T1L_AN, Reg.T1L_MS]
  let host := bit 2 || any [Reg.I2C_ADDR, Reg.HINT_CFG]
  let s1 := if can then s.startCan else s
  let s2 := if t1l then s1.startT1l else s1
  let s3 := if host then s2.startHost else s2
  let s4 := if any [Reg.IP6_ADDR 0, Reg.IP6_ADDR 1] ∧ s3.t1lUp then s3.startDad else s3
  let s5 := if !s.moved b Reg.PTP_ROLE ∨ t1l then s4
    else if s4.el Reg.PTP_ROLE = 0 then s4.ptpGo ptpDisabled
    else if !s4.t1lUp then s4.ptpGo ptpFaulty
    else (s4.ptpGo ptpInitializing).ptpGo ptpListening
  if c.stages Reg.TWIN_PEER_ID then s5.peerIdChanged else s5

/-- An element of chapter 15. -/
def ofHarvest (a : Nat) : Bool := decide (0x1B0000 ≤ a ∧ a < 0x1B0400) || rowAddr a == 0x500050

/-- The budget is computed at each shape instant that changes an element of its chapter (R577). -/
def State.flipBudget (s b : State) (c : Commit) : State :=
  if s.pwLoaded ∧ c.addrs.any (fun a => ofHarvest a && s.moved b a) then s.budget false else s

/-- Power, monitors and watchdogs (R557, R567, R588, R645, R685). -/
def State.flipUnits (s b : State) (c : Commit) : State :=
  let chem := c.addrs.any (fun a => a == Reg.BAT_CHEM || a == Reg.CHG_EN || inRun a Reg.CV_MV 5)
  let s1 := if chem ∧ c.addrs.any (fun a => s.moved b a) then s.profileChanged else s
  let s3 := (List.range 8).foldl (fun t m =>
    let v := t.el (Reg.VMON_LIM m)
    if t.moved b (Reg.VMON_LIM m) ∧ (v / 2 ^ 32 = 0 ∨ v % 2 ^ 32 = 0) then
      { t with lehr := { t.lehr with bands := t.lehr.bands.filter (fun p => p.1 != m) } }
    else t) s1
  [0, 1, 2].foldl (fun t w =>
    if c.addrs.any (fun a => [Reg.WD_MODE w, Reg.WD_PERIOD w, Reg.WD_CLOCK w, Reg.WD_TASKS w, Reg.WD_GRACE w, Reg.WD_RSTO w,
        Reg.WD_NAP_MAX w].contains a) then
      t.wdChanged w (b.el (Reg.WD_MODE w)) (t.moved b (Reg.WD_CLOCK w))
    else t) s3

/-- The flip of a commit whose checks have passed (R293): values first, then what follows from them, then a pass. -/
def State.flip (s : State) (c : Commit) : State :=
  let bound := c.items.filter (fun p => rowAddr p.1 == 0x400001 && p.2 != s.el p.1)
  let s0 := bound.foldl (fun t p => t.endBinding c (cidOfAddr p.1) (p.2 / 256)) s
  let b := s0
  let s1 := (s0.applyItems c.items).flipKeeper b c
  let s2 := ((s1.flipEvents b c).flipArbiter b c).flipTime b c
  let s3 := (((s2.flipPorts b c).flipUnits b c).flipBudget b c).pass
  (s3.watchAll c.stages).wdSync s

/-- The persistent values that the flip of a commit changes, as they were (R296): its persistent elements, the records of the
clients it rebinds, the slots of its keys. -/
def State.beforeFlip (s : State) (c : Commit) : List (Nat × Nat) :=
  let own := c.addrs.filter (fun a => isPlan a || match rowOf a with | some r => r.persist | none => false)
  let sets := ((c.addrs.filter (fun a => rowAddr a == 0x400001)).map cidOfAddr).flatMap (fun x => (List.range 24).map (Reg.EVT_SET x))
  let hids := (c.addrs.filter (fun a => rowAddr a == 0x500044 || rowAddr a == 0x500001)).map hidOfAddr ++
    c.exchanges.filterMap (fun x => (s.kxOf x).map (fun k => k.hid))
  let keys := hids.eraseDups.flatMap (fun h =>
    [Reg.KEY_STATE h, Reg.KEY_ALG h, Reg.KEY_GEN h, Reg.LOCAL_OFS h, Reg.HOLDER_ROUTE h])
  let plan := if c.addrs.any isPlan then [(Reg.PLAN_PENDING, s.el Reg.PLAN_PENDING)] else []
  (own.filter (fun a => !isKeyAct a)).map (fun a => (a, s.stagedEl a)) ++ (sets ++ keys).map (fun a => (a, s.el a)) ++ plan

end Sys2Proof.Machine
end

