-- ==== Sys2Proof/Machine/Staging.lean ====
section
/-! DEFINITION. Commits (chapter 08): the request with its check, preparation, the strobes, storing, withdrawing, the idle
parison; and the place of the twin's peer in them (R771, R772). -/
namespace Sys2Proof.Machine
open Host

/-! ### The request -/

/-- A parison emptied. -/
def State.emptyParison (s : State) (c : Nat) : State :=
  { s with stage := { s.stage with parisons := s.stage.parisons.filter (fun p => p.cid != c) } }

/-- A parison with its idle time started anew; `items` are what it holds. -/
def State.setParison (s : State) (c : Nat) (items : List (Nat × Nat)) : State :=
  { s with stage :=
    { s.stage with parisons := s.stage.parisons.filter (fun p => p.cid != c) ++ [⟨c, items, s.now⟩] } }

/-- The parison's idle time starts anew, if there is a parison (R283). -/
def State.touchParison (s : State) (c : Nat) : State :=
  let f : Parison → Parison := fun p => if p.cid = c then { p with lastAt := s.now } else p
  { s with stage := { s.stage with parisons := s.stage.parisons.map f } }

/-- The mode of a COMMIT and the shape instant it names or takes (R287). -/
def commitMode (r : Req) : Nat := bodyNum r.body 0 1
def State.shapeFor (s : State) (r : Req) : Nat :=
  if commitMode r = 1 then bodyNum r.body 1 8 else boundaryFrom (s.now + stMsUp 10)

/-- Step 7 of R258 for a COMMIT. -/
def commitBad (r : Req) : Option Stat := if r.body.length ≠ 9 ∨ 1 < commitMode r then some (.range 1 0) else none

/-- The commit that the requester's parison makes. -/
def State.candidate (s : State) (w : Who) (r : Req) : Commit :=
  { cid := r.cid, hid := if w = .bootstrap then 0 else s.hidOf r.cid, num := 0, phase := .pending, items := s.parison r.cid,
    shape := s.shapeFor r, order := s.stage.order, sa := s.isSa w, shadowed := false, slot := 0,
    killed := false }

/-- The commit stages twin-shared elements. -/
def State.twinStaged (s : State) (c : Commit) : List (Nat × Nat) := c.items.filter (fun p => s.twinElement p.1)

/-- The COMMIT goes to the peer too (R771). -/
def State.mirrors (s : State) (c : Commit) : Bool := s.el Reg.TWIN_STATE == 3 && !(s.twinStaged c).isEmpty

/-- The part of a staged twin-shared value that the pair shares: of RES_CFG without its bit 1 the flags byte. -/
def sharedPart (a v : Nat) : Nat :=
  if inRun a (Reg.RES_CFG 24) 8 ∧ !bitOf v 73 then field v 72 8 else v

/-- Items as a frame carries them. -/
def itemFields (l : List (Nat × Nat)) : List Nat := l.flatMap (fun p => [p.1, sharedPart p.1 p.2])

/-- The violations that the peer found, by rule and address. -/
def peerViols (l : List (Nat × Nat)) : List Viol := l.map (fun p => ⟨p.1, p.2, if p.1 = 8 then .split else ruleStat p.1⟩)

/-- Every violation of a COMMIT: those of this half, and of the peer where the pair mirrors it. -/
def State.allViols (s : State) (w : Who) (r : Req) (c : Commit) (peer : List (Nat × Nat)) : List Viol :=
  let own := s.violations c (commitMode r == 1) (w == .bootstrap)
  if s.mirrors c then orderViols (own ++ peerViols peer) else own

/-- The body of a COMMIT response. -/
def commitReply (num shape : Nat) (l : List Viol) : Bytes :=
  numToBytes 2 num ++ numToBytes 8 shape ++ numToBytes 1 l.length ++ l.flatMap Viol.bytes

/-- The lowest CM_PEND slot of a client that is free. -/
def State.freePend (s : State) (c : Nat) : Nat :=
  let used := (s.stage.commits.filter (fun x => x.cid == c)).map (fun x => x.slot)
  match (List.range 4).find? (fun i => !used.contains i) with | some i => i | none => 0

/-- The number the next commit of a client takes (R288). -/
def State.nextCommit (s : State) (c : Nat) : Nat :=
  nextFree ((s.stage.commits.filter (fun x => x.cid == c)).map (fun x => x.num)) 5 (countOf s.stage.nextNum c)

/-- A commit joins the pending ones, the youngest of them (R290). -/
def State.addPending (s : State) (c : Commit) : State :=
  { s with stage := { s.stage with commits := s.stage.commits ++ [{ c with order := s.stage.order }], order := s.stage.order + 1 } }

/-- A COMMIT is accepted (step 1 of Table: Prepare and flip). -/
def State.acceptCommit (s : State) (c : Commit) : State :=
  let n := s.nextCommit c.cid
  let nn := s.stage.nextNum.filter (fun p => p.1 != c.cid) ++ [(c.cid, if n = 65535 then 1 else n + 1)]
  let t : State := { s with stage := { s.stage with nextNum := nn } }
  (t.addPending { c with num := n, slot := s.freePend c.cid }).emptyParison c.cid

/-- A COMMIT frame to the peer: the shape instant, whether this half's check passed, the shared items. -/
def State.sendMirror (s : State) (c : Commit) (ok : Bool) : State :=
  if s.mirrors c ∧ s.twin.key.isSome ∧ s.bondServed then
    s.bondSend "TWIN COMMIT" (c.shape :: (if ok then 1 else 0) :: itemFields (s.twinStaged c))
  else s

/-- The effect of a COMMIT that passed steps 1 to 7 of R258 (R284 to R289); `only`: with CHECK_ONLY, which is a COMMIT of its
client too and starts the parison's idle time anew (R283). -/
def State.askCommit (s0 : State) (w : Who) (r : Req) (peer : List (Nat × Nat)) (only : Bool) :
    State × Stat × Bytes :=
  let s := s0.touchParison r.cid
  let c := s.candidate w r
  if !only && !s.stage.unstored.isEmpty then (s, .conflict 3, commitReply 0 c.shape [])
  else if !c.exchanges.isEmpty && decide (2 ≤ s.rep.lostCopies.getD 3 0) then (s, .eccLost 7, commitReply 0 c.shape [])
  else
    let own := s.violations c (commitMode r == 1) (w == .bootstrap)
    let l := s.allViols w r c peer
    let t := s.sendMirror c (own.isEmpty && !only)
    match l with
    | v :: _ => (t, v.st, commitReply 0 c.shape (cutViols l))
    | [] =>
      if only then (t, .ok, commitReply 0 c.shape [])
      else (t.acceptCommit c, .ok, commitReply (t.nextCommit c.cid) c.shape [])

/-- The operations of R541 on the parison of CID 0. -/
def kxOnly (l : List (Nat × Nat)) : Bool := l.all (fun p => p.1 == Reg.KX_WRAP 0 || p.1 == Reg.KX_TAG 0)

def State.commitRequest (s : State) (cmd : Instr) (r : Req) (peer : List (Nat × Nat)) (only : Bool) : State :=
  s.request cmd r 5 .c (kxOnly (s.parison r.cid)) (fun _ _ => true) false (commitBad r) .fb
    (fun t w => t.askCommit w r peer only)

/-- COMMIT (R281 to R289, R296, R539, R771): the flag CHECK_ONLY is clear. `peer`: the rule and address of each violation that the peer's half finds. -/
def execCommit (r : Req) (peer : List (Nat × Nat)) (s : State) : Outcome State Fault Refusal :=
  .next (if bitOf r.flags 2 then s else s.commitRequest (.commit r peer) r peer false)

/-- COMMIT_CHECK_ONLY (R283, R286): the flag is set. -/
def execCommitCheckOnly (r : Req) (peer : List (Nat × Nat)) (s : State) : Outcome State Fault Refusal :=
  .next (if bitOf r.flags 2 then s.commitRequest (.commitCheckOnly r peer) r peer true else s)

/-- DISCARD (R283). -/
def execDiscard (r : Req) (s : State) : Outcome State Fault Refusal :=
  .next (s.request (.discard r) r 6 .q false (fun _ _ => true) false (wantLen r 0) .cr
    (fun t _ => (t.emptyParison r.cid, .ok, numToBytes 1 (t.parison r.cid).length)))

/-- PARISON_IDLE_DISCARD (R283): of one client, PARISON_IDLE seconds after its latest staging or COMMIT. -/
def execParisonIdleDiscard (cid : Nat) (s : State) : Outcome State Fault Refusal :=
  match s.stage.parisons.find? (fun p => p.cid == cid) with
  | none => .next s
  | some p => .next ((s.reach (p.lastAt + s.el Reg.PARISON_IDLE * stSecond)).emptyParison cid)

/-! ### Preparing (R290, R292) -/

/-- The first commit in the order of R290 of which f holds. -/
def State.firstCommit (s : State) (f : Commit → Bool) : Option Commit := s.commitOrder.find? f

/-- Every island of a commit takes its bank from the keeper. -/
def State.banksThere (s : State) (c : Commit) : Bool := c.banks.all (fun i => s.crossing i (chanTo i) == .serve)

/-- The keeper sends a bank to an island: it wakes if it is GATED; an abandoned request is counted (R68, R89). -/
def State.sendBank (s : State) (i : Island) : State := s.cross i (chanTo i) id

/-- The keeper, where it runs, sends a commit's shadow banks. -/
def State.sendBanks (s : State) (c : Commit) : State :=
  if s.runs .cr ∧ s.boot.firmware then c.banks.foldl State.sendBank (s.commitMap c (fun x => { x with shadowed := true })) else s

/-- COMMIT_PREPARE (R290, step 2): the keeper, woken if need be, sends the shadow banks of the first commit that has none. -/
def execCommitPrepare (s : State) : Outcome State Fault Refusal :=
  match s.firstCommit (fun c => c.phase == .pending && !c.shadowed) with
  | none => .next s
  | some c => .next ((s.reach (c.shape - stSecond)).wakeCr.sendBanks c)

/-- COMMIT_PREPARED (step 3): every island of the first commit sent has acknowledged. -/
def execCommitPrepared (s : State) : Outcome State Fault Refusal :=
  match s.firstCommit (fun c => c.phase == .pending && c.shadowed) with
  | none => .next s
  | some c => if s.banksThere c then .next (s.commitMap c (fun x => { x with phase := .prepared })) else .next s

/-- How a commit fails at its deadline (R27, R67, R292): a channel stuck or an island absent; else no answer, or an answer from
an island that was not ready. -/
def State.prepFailure (s : State) (c : Commit) (answered : Bool) : Stat :=
  match c.banks.filterMap (fun i => match s.crossing i (chanTo i) with | .shut d => some d | _ => none) with
  | d :: _ => .abandoned d
  | [] => if answered then .timeout 2 else .abandoned 1

/-- COMMIT_PREP_DEADLINE (R292): of the first commit not PREPARED; `answered`: the islands answered, one of them not ready. -/
def execCommitPrepDeadline (answered : Bool) (s : State) : Outcome State Fault Refusal :=
  match s.firstCommit (fun c => c.phase == .pending) with
  | none => .next s
  | some c =>
    .next (s.servedAt (c.shape - stMs 2) (fun t =>
      let st := t.prepFailure c answered
      t.endCommit c .failed st.code st.detail 0))

/-! ### Elements of staging D in a commit (R261) -/

/-- The withdrawal of a client's commit by its number. -/
def State.withdrawCommit (s : State) (c n : Nat) : State × Stat :=
  match s.stage.commits.find? (fun x => x.cid == c && x.num == n) with
  | none => (s, .range 2 0)
  | some x =>
    if x.shape < s.now + stMsUp 2 then (s, .conflict 3) else (s.endCommit x .withdrawn 0 0 0, .ok)

/-- The chosen half sends its twin-shared values (R773). -/
def State.sendValues (s : State) : State :=
  if s.twin.key.isSome ∧ s.bondServed then
    s.bondSend "TWIN VALUES" ((twinAddrs.filter s.twinElement).flatMap (fun a => [a, s.twinPart a]))
  else s

/-- The effect of a write to TWIN_RESOLVE (R773). -/
def State.twinResolve (s : State) (w : Who) (v : Nat) : State × Stat :=
  if v ≠ 1 ∧ v ≠ 2 then (s, .range 2 0)
  else if !s.twinIs 4 then (s, .conflict 3)
  else
    let t : State := { s.put Reg.TWIN_RESOLVE 0 with twin := { s.twin with adopt := v, adoptCid := w.cid, adopted := 0 } }
    (if t.twinRole = v then t.sendValues else t, .ok)

/-- The station-scoped elements that act when they are written: what each does, and its status. -/
def State.directStation (s : State) (w : Who) (a v : Nat) : State × Stat :=
  if a = Reg.DEV_RESET then
    if v = 1 then s.devReset .main else if v = 2 then s.devReset .full else (s, .range 2 0)
  else if a = Reg.TIME_STEP then s.timeStep w v false none
  else if a = Reg.TIME_STEP_F then s.timeStep w v true none
  else if a = Reg.TIME_SET then s.timeSet w v none
  else if a = Reg.SLEW_ADD then s.slewAdd v
  else if a = Reg.LEARN_RESET then s.learnReset w v
  else if a = Reg.REF_LABEL then s.refLabel w v
  else if a = Reg.REF_ACCEPT then s.refAccept w v
  else if a = Reg.DOORBELL then if s.mayPost w v then s.writeDoorbell w v else (s, .refused)
  else if a = Reg.EN_SET ∨ a = Reg.EN_CLR then
    if v < 511 ∧ s.aliasPasses w v true false then if a = Reg.EN_SET then s.writeEnSet w v else s.writeEnClr w v
    else (s, .refused)
  else if a = Reg.PEND_SET ∨ a = Reg.PEND_CLR then
    if s.mayPost w v then if a = Reg.PEND_SET then s.writePendSet w v else s.writePendClr w v else (s, .refused)
  else if a = Reg.REVOKE_ANY then s.revokeAny (v / 65536 % 1024) (v % 65536)
  else if a = Reg.CM_WITHDRAW_ANY then s.withdrawCommit (v / 65536 % 1024) (v % 65536)
  else if a = Reg.ZEROIZE then if v = 0x5A then (s.zeroize 3 0xFF w.cid, .ok) else (s, .range 2 0)
  else if a = Reg.CHG_CLEAR then s.chgClear v
  else if a = Reg.SEQ_CLEAR then if v = 1 then (s.seqClear, .ok) else (s, .range 2 0)
  else if a = Reg.TMP_CLEAR then let e := s.tmpClear w none v; (e.1, e.2.getD .ok)
  else if a = Reg.TMP_TEST then s.tmpTest w v
  else if a = Reg.TWIN_RESOLVE then s.twinResolve w v
  else if 0x1D0100 ≤ a ∧ a < 0x1D0400 then
    if !s.mayService w (wdOfAddr a) then (s, .refused)
    else if a % 256 = 8 then s.wdKey (wdOfAddr a) v
    else if a % 256 = 9 then s.wdCheckin (wdOfAddr a) v else s.wdNap (wdOfAddr a) v
  else match islOfReq a with
    | some i => s.islReq i v
    | none => (s, .refused)

/-- The same for the elements of a client or a holder. -/
def State.directOwned (s : State) (w : Who) (a v : Nat) : State × Stat :=
  let r := rowAddr a
  let c := cidOfAddr a
  if r = 0x400041 then s.withdrawCommit c v
  else if r = 0x400048 then
    if s.leaser w ∧ w.cid = c then s.renew c (v / 65536) (v % 65536) else (s, .refused)
  else if r = 0x400049 then
    if s.leaser w ∧ s.roleOf w.cid = 1 then s.release c v else (s, .refused)
  else if 0x400070 ≤ r ∧ r ≤ 0x40008F then
    if s.tmrMay c v then s.writeTmr c (a % 256 - 0x70) v else (s, .refused)
  else if r = 0x400090 then if s.kxMay w v then s.kxStart c v else (s, .refused)
  else if r = 0x400095 then s.kxPeer c v
  else if 0x4000F0 ≤ r ∧ r ≤ 0x4000F3 then s.writeMargReq c (a % 256 - 0xF0) v
  else if r = 0x500069 then s.logArchive w a v
  else (s, .refused)

/-- A committed element of staging D has the effect of its committer's write at that instant. -/
def State.directItem (s : State) (c : Commit) (p : Nat × Nat) : State :=
  if !isDirect p.1 then s
  else if 0x400000 ≤ p.1 then (s.directOwned (.client c.cid) p.1 p.2).1
  else (s.directStation (.client c.cid) p.1 p.2).1

/-! ### The strobes (R293 to R295) -/

/-- A commit that the keeper makes of the other half's values in discord (R773); it is not subject to rule 0x08. -/
def Commit.adopts (c : Commit) : Bool := c.cid == mirrorCid && c.num == 1

/-- The rules that fail at the instant, rule 0x08 with R772. -/
def State.instantViols (s : State) (c : Commit) (peerPrepared : Bool) : List Viol :=
  let apart := !(s.twinStaged c).isEmpty && s.el Reg.TWIN_STATE == 3 && !peerPrepared
  let tw := if c.adopts then [] else s.rule08 c ++ violsOf 8 (onlyIf apart [0])
  orderViols (s.checkCore c (c.cid == 0 && kxOnly c.items && s.el (Reg.KEY_STATE 0) == 0) ++ tw)

/-- TWIN_RESOLVE reads the rule by which the adopted values failed (R773). -/
def State.resolveFailed (s : State) (c : Commit) (rule : Nat) : State :=
  if c.adopts ∧ s.el Reg.TWIN_STATE = 4 then s.put Reg.TWIN_RESOLVE rule else s

/-- How many elements an adopting commit changes, for the evidence entry of R773. -/
def State.countAdopted (s b : State) (c : Commit) : State :=
  if c.adopts then { s with twin := { s.twin with adopted := (c.addrs.filter (s.moved b)).length } } else s

/-- The elements written are no longer lost to an uncorrectable error (Table: Effects of ECC_LOST, 0x0B). -/
def State.rewrote (s : State) (f : Nat → Bool) : State :=
  { s with rep := { s.rep with lostEls := s.rep.lostEls.filter (fun a => !f a) } }

/-- The channel of FB's strobes to an island: CH15, CH18. -/
def strobeCh : Island → Nat
  | .nw => 15 | .pw => 18 | _ => noChan

/-- An island takes FB's strobes: FB itself, or one that CH15 or CH18 reaches, woken if it is GATED. -/
def State.strobed (s : State) (i : Island) : Bool :=
  i == .fb || match s.crossing i (strobeCh i) with | .shut _ => false | _ => true

/-- The decision on a commit at its instant, or at a forced step that crosses it. -/
def State.strobe (s0 : State) (c : Commit) (peerPrepared : Bool) : State :=
  let s := c.banks.foldl State.wakeIsl s0
  if !c.banks.all s0.strobed then (s.endCommit c .aborted 3 1 0).resolveFailed c 0
  else match s.instantViols c peerPrepared with
    | v :: _ => (s.endCommit c .aborted 3 1 v.rule).resolveFailed c v.rule
    | [] =>
      let old := s.beforeFlip c
      let t := ((s.flip c).countAdopted s c).rewrote c.stages
      let u : State := if old.isEmpty then t else { t with stage := { t.stage with unstored := t.stage.unstored ++ [old] } }
      (c.items.foldl (fun x p => x.directItem c p) (u.endCommit c .applied 0 0 0)).pendingResetActs

/-- COMMIT_CHECK_STROBE (R41, R293 to R295, R345, R772): at the shape instant of the first commit, if it is PREPARED. -/
def execCommitCheckStrobe (peerPrepared : Bool) (s : State) : Outcome State Fault Refusal :=
  match s.commitOrder with
  | [] => .next s
  | c :: _ => if c.phase = .prepared ∧ s.turn c.shape (.flip c.order) then .next (s.servedAt c.shape (fun t => t.strobe c peerPrepared)) else .next s

/-- COMMIT_STORE (R296): with CR in RUN the oldest flipped commit is stored over CH11, its keys with it. -/
def execCommitStore (s : State) : Outcome State Fault Refusal :=
  if !s.runs .cr ∨ !s.boot.firmware then .next s
  else match s.stage.unstored with
    | [] => .next s
    | _ :: l => .next (s.cross .nv 11 (fun t => State.storeBlobs { t with stage := { t.stage with unstored := l } }))

/-! ### Withdrawing (R298) -/

/-- CM_WITHDRAW_WRITE (R298). -/
def execCmWithdrawWrite (r : Req) (s : State) : Outcome State Fault Refusal :=
  .next (s.ownWrite (.cmWithdrawWrite r) r (fun a => rowAddr a == 0x400041) false
    (atOnce (fun t _ a v => t.withdrawCommit (cidOfAddr a) v)))

/-- CM_WITHDRAW_ANY_WRITE (R298). -/
def execCmWithdrawAnyWrite (r : Req) (s : State) : Outcome State Fault Refusal :=
  .next (s.ownWrite (.cmWithdrawAnyWrite r) r (fun a => a == Reg.CM_WITHDRAW_ANY) false
    (atOnce (fun t _ _ v => t.withdrawCommit (v / 65536 % 1024) (v % 65536))))

end Sys2Proof.Machine
end

