-- ==== Sys2Proof/Machine/Steps.lean ====
section
/-! DEFINITION. A step at its application instant (chapter 06): what is served before it, the second check, what moves with it
and what it serves. -/
namespace Sys2Proof.Machine
open Host

/-! ### Objects that fall due -/

/-- Leases and commits due at the instants f names. -/
def State.dueHeavy (s : State) (f : Nat → Bool) : List (Nat × Due) :=
  (s.arb.bundles.filter (fun b => b.holds && f b.inst)).map (fun b => (b.inst, .lease b.cid b.num)) ++
  (s.stage.commits.filter (fun c => f c.shape)).map (fun c => (c.shape, .flip c.order))

/-- A pending exchange, plan entries, client timers of the modes g names and subscriptions due at the instants f names. -/
def State.dueLight (s : State) (f g : Nat → Bool) : List (Nat × Due) :=
  (if s.el Reg.PLAN_PENDING = 1 ∧ s.tmr.loaded ∧ f s.exchangeAt then [(s.exchangeAt, .exchange)] else []) ++
  (s.tmr.planTimers.filter (fun p => f p.due)).map (fun p => (p.due, .plan p.hid p.tag)) ++
  (s.tmr.timers.filter (fun t => t.state == 1 && g t.mode && f t.inst)).map (fun t => (t.inst, .timer t.cid t.handle)) ++
  (s.exch.subs.filter (fun x => f x.expiry)).map (fun x => (x.expiry, .sub x.cid x.slot))

/-- A subscription ends at its expiry, with its last NOTIFY (R277, R278). -/
def State.expireSub (s : State) (c slot : Nat) : State :=
  match s.subOf c slot with
  | none => s
  | some x =>
    let t := s.notify x 3 [0x0A, 0x01]
    { t with exch := { t.exch with subs := t.exch.subs.filter (fun y => !(y.cid == c && y.slot == slot)) } }

/-- A held bundle ends at its expiry, or at the end of its notice. -/
def State.expireBundle (s : State) (b : Bundle) : State :=
  if b.st = .revoking then (s.endBundle b 2 0x12).inc 4 Reg.ARB_REVOKES else s.endBundle b 1 0x11

/-- A plan entry fires; the chain instants that the time now passes over are counted (R380). -/
def State.planDue (s : State) (h tag : Nat) : State :=
  match s.tmr.planTimers.find? (fun p => p.hid == h && p.tag == tag), planEntry s.liveBank h tag 1 with
  | some p, some v => (s.add 4 Reg.TM_COLLAPSED ((s.now - p.due) / periodOf v)).firePlan p v
  | _, _ => s

/-- One object is served. A commit that no island has prepared yet has not the peer's PREPARED either. -/
def State.serve (s : State) : Due → State
  | .lease c n => match s.bundleOf c n with | some b => if b.holds then s.expireBundle b else s | none => s
  | .exchange => s.planExchange
  | .flip o => match s.stage.commits.find? (fun x => x.order == o) with
    | some c => s.strobe c (c.phase == .prepared)
    | none => s
  | .plan h tag => s.planDue h tag
  | .timer c h => match s.timerOf c h with | some t => if t.state = 1 then s.fireTimer t s.now else s | none => s
  | .sub c k => s.expireSub c k

/-- Objects served in order. -/
def State.serveAll (s : State) (l : List (Nat × Due)) : State := (l.sortBy dueLe).foldl (fun t x => t.serve x.2) s

/-- An object is a commit whose checks pass now, so that serving it flips it. -/
def State.willFlip (s : State) : Due → Bool
  | .flip o => match s.stage.commits.find? (fun x => x.order == o) with
    | some c => s.banksThere c && (s.instantViols c (c.phase == .prepared)).isEmpty
    | none => false
  | _ => false

/-- Objects served in order, with the count of the commits flipped. -/
def State.serveCount (s : State) (l : List (Nat × Due)) : State × Nat :=
  (l.sortBy dueLe).foldl (fun t x => (t.1.serve x.2, if t.1.willFlip x.2 then t.2 + 1 else t.2)) (s, 0)

/-- What falls due at the application instant is served before the step (R240, R381). -/
def State.serveAt (s : State) : State :=
  let f : Nat → Bool := fun t => decide (t ≤ s.now)
  s.serveAll ((s.dueHeavy f).filter (fun x => match x.2 with
    | .flip o => s.stage.commits.any (fun c => c.order == o && c.phase == .prepared)
    | _ => true) ++ s.dueLight f (fun _ => true))

/-- What was written since `b` at the fabric instant of a step by d carries the station time after it (R240), but for firings,
which keep their due instant (R381). -/
def State.restamp (s b : State) (d : Int) : State :=
  let m : Nat → Nat := fun t => if t = s.now then ((t : Int) + d).toNat else t
  let rec_ : Rec → Rec := fun r =>
    if b.dlv.nextRec ≤ r.id ∧ r.source ≠ 41 then { r with stamp := m r.stamp } else r
  let n := b.log.waiting.length
  { s with
    dlv := { s.dlv with recs := s.dlv.recs.map rec_ }
    log := { s.log with waiting := s.log.waiting.take n ++ (s.log.waiting.drop n).map (fun g => { g with stamp := m g.stamp }) } }

/-! ### What moves with the step (Table: Effects of a step) -/

/-- An instant that keeps its distance from the present. -/
def moved_ (d : Int) (t : Nat) : Nat := ((t : Int) + d).toNat

/-- Timers, leases and commits: an armed relative or periodic timer keeps its interval, a request timeout too; out of UNSET every
interval is kept, that of a plan entry with its chain (R130). -/
def State.moveLeases (s : State) (d : Int) (all : Bool) : State :=
  let m := moved_ d
  let timer : Tmr → Tmr := fun t => if t.state = 1 ∧ (all ∨ t.mode ≠ 1) then { t with inst := m t.inst } else t
  let plan : PlanTimer → PlanTimer := fun p => if all then { p with due := m p.due, anchor := m p.anchor } else p
  let bundle : Bundle → Bundle := fun b =>
    let x : Bundle := if b.timeoutAt = 0 then b else { b with timeoutAt := m b.timeoutAt }
    if all ∧ b.inst ≠ 0 then { x with inst := m x.inst, grantAt := m x.grantAt } else x
  let commit : Commit → Commit := fun c => if all then { c with shape := m c.shape } else c
  let standing : Standing → Standing := fun x =>
    let y : Standing := if all then { x with grantAt := m x.grantAt } else x
    if x.ends = 0 then y else { y with ends := m x.ends }
  { s with
    tmr := { s.tmr with timers := s.tmr.timers.map timer, planTimers := s.tmr.planTimers.map plan
                        pendingFrom := if all then m s.tmr.pendingFrom else s.tmr.pendingFrom }
    arb := { s.arb with bundles := s.arb.bundles.map bundle, standing := s.arb.standing.map standing }
    stage := { s.stage with commits := s.stage.commits.map commit } }

/-- The other intervals of station time that run: hold-offs, island holds, Watch intervals, claims, analog hold times, the response
store, parisons, holds and challenges of the tamper chapter, duplicate address detection. -/
def State.moveWaits (s : State) (d : Int) : State :=
  let m := moved_ d
  let watch : Subscr → Subscr := fun x => { x with nextAt := m x.nextAt }
  let answer : Answered → Answered := fun a => { a with at_ := m a.at_ }
  let par : Parison → Parison := fun p => { p with lastAt := m p.lastAt }
  let claim : Claim → Claim := fun c => { c with at_ := m c.at_ }
  let l4 : L4 → L4 := fun x => { x with holdEnd := m x.holdEnd }
  let hold : Nat × Nat × Nat × Nat × Nat → Nat × Nat × Nat × Nat × Nat := fun h =>
    (h.1, h.2.1, h.2.2.1, h.2.2.2.1, if h.2.2.2.2 = 0 then 0 else m h.2.2.2.2)
  { s with
    exch := { s.exch with subs := s.exch.subs.map watch, answered := s.exch.answered.map answer
                          refused := s.exch.refused.map (fun x => ⟨x.out, m x.due⟩)
                          gathers := s.exch.gathers.map (fun g => ⟨g.req, m g.asked, m g.freezeAt⟩) }
    stage := { s.stage with parisons := s.stage.parisons.map par }
    dlv := { s.dlv with claims := s.dlv.claims.map claim, groups := s.dlv.groups.map (fun p => (p.1, m p.2)) }
    evt := { s.evt with l4 := s.evt.l4.map l4 }
    isl := { s.isl with holds := s.isl.holds.map (fun h => (h.1, m h.2.1, h.2.2)) }
    port := { s.port with dadUntil := m s.port.dadUntil }
    tmp := { s.tmp with holds := s.tmp.holds.map hold, testEnds := m s.tmp.testEnds, challengeAt := s.tmp.challengeAt.map m,
                        lockoutUntil := m s.tmp.lockoutUntil, lastFrame := m s.tmp.lastFrame } }

/-- What is counted on other clocks: watchdog periods, the 60 s of the budget, heartbeats, the age of the array's blocks; what the
reference and the learning measure, from which the step is subtracted (R198, R204; Table: Effects of a step); a pulse of PPS_OUT
under way (R213). -/
def State.moveClocks (s : State) (d : Int) : State :=
  let m := moved_ d
  let wd : Wd → Wd := fun w => { w with began := m w.began }
  let out : Output → Output := fun o => { o with loadAt := o.loadAt.map m }
  { s with
    wd := s.wd.map wd
    pwr := { s.pwr with overAt := s.pwr.overAt.map m }
    rail := { s.rail with outs := s.rail.outs.map out }
    twin := { s.twin with hbAt := m s.twin.hbAt }
    rep := { s.rep with ageAt := m s.rep.ageAt }
    fw := { s.fw with since := s.fw.since.map m }
    log := { s.log with lostNoted := s.log.lostNoted.map (fun p => (p.1, m p.2)) }
    key := { s.key with lastKx := if s.key.lastKx = 0 then 0 else m s.key.lastKx }
    boot := { s.boot with readyAt := m s.boot.readyAt }
    evt := { s.evt with l4 := s.evt.l4.map (fun x => { x with holdEnd := m x.holdEnd })
                        latched := s.evt.latched.map (fun x => { x with asked := m x.asked }) }
    osc := { s.osc with
      lastLoadAt := m s.osc.lastLoadAt
      outages := s.osc.outages.map (fun o => (m o.1, m o.2))
      steps := s.osc.steps + stToNs d
      obs := s.osc.obs.map (fun o => (m o.1, o.2))
      gap := s.osc.gap.map (fun g => (m g.1, g.2))
      epStart := s.osc.epStart.map m
      epLastStart := s.osc.epLastStart.map m
      discAt := s.osc.discAt.map m
      pulses := s.osc.pulses.map m
      pulseWait := s.osc.pulseWait.map (fun p => (m p.1, m p.2.1, p.2.2))
      heldLabel := s.osc.heldLabel.map (fun p => (p.1, m p.2))
      ppsSeen := s.osc.ppsSeen.map (fun p => (m p.1, p.2))
      ppsUntil := s.osc.ppsUntil.map m } }

/-! ### The step (R237 to R242) -/

/-- The record of a step with its final status (R237; Table: Fixed sources). -/
def State.stepRecord (s : State) (x : Step) (status : Nat) : State :=
  s.stationRecord 44 0x0D ((if x.forced then 256 else 0) + status) false

/-- The step's evidence entry (R242): leases ended, commits flipped, the station time before and after. -/
def State.stepEntry (s : State) (x : Step) (ended flipped before after : Nat) : State :=
  let p := [payload10 (numToBytes 1 (if x.forced then 1 else 0) ++ numToBytes 2 ended ++ numToBytes 2 flipped),
    payload10 (numToBytes 8 before), payload10 (numToBytes 8 after)]
  if x.keeper then s.logKeeper 0x02 p .nothing else s.logStation 0x02 x.cid p .nothing

/-- A step that fails at its application instant (R237); the keeper's turns into a slew (R195, R239). -/
def State.stepFails (s : State) (x : Step) (st : Stat) : State :=
  let t := State.stepRecord { s with tim := { s.tim with step := none } } x st.code
  if x.keeper then t.slewBy (stToNs x.delta) else t

/-- A subscription's expiry. -/
def Due.isSub : Due → Bool | .sub _ _ => true | _ => false

/-- What a forward step serves: alarms, seams and subscriptions in X, and where it is forced the expiries and flips there; out of
UNSET, where all but the subscriptions moves with the step, those alone (R130). -/
def State.crossed (s : State) (x : Step) (forced : Bool) : List (Nat × Due) :=
  if x.delta ≤ 0 then [] else
  let f := crosses s.now x.delta
  if s.unset then (s.dueLight f (fun _ => false)).filter (fun p => p.2.isSub)
  else (if forced then s.dueHeavy f else []) ++ s.dueLight f (fun m => m == 1)

/-- The registers of a step that is applied, STEP_LAST_AT with the station time after it (R131, R240, R242; log entry 91). -/
def State.stepRegs (s : State) (x : Step) : State :=
  (((s.put Reg.TIME_STATE 1).put Reg.STEP_LAST_AT s.now).putS 8 Reg.STEP_LAST_SIZE x.delta).inc 4 Reg.STEP_COUNT

/-- How many leases, or commits flipped, a list serves. -/
def countDue (l : List (Nat × Due)) (f : Due → Bool) : Nat := (l.filter (fun x => f x.2)).length
def Due.isLease : Due → Bool | .lease _ _ => true | _ => false

/-- The step is applied (R241). -/
def State.stepApplied (s : State) (x : Step) : State :=
  let before := s.now
  let forced := x.forced && !s.unset
  let l := s.crossed x forced
  let t := s.setTime (moved_ x.delta before)
  let u := ((t.moveLeases x.delta s.unset).moveWaits x.delta).moveClocks x.delta
  let v : State := u.stepRegs x
  let w : State := { v with tim := ⟨none, false⟩ }
  let r := if x.forced ∧ w.ownLocked then w.toQualifying (w.el Reg.REF_ACTIVE) 0 else w
  let y := r.serveCount l
  let z := (y.1.closeHours.pass).leapCheck
  ((z.stepRecord x 0).stepEntry x (countDue l Due.isLease) y.2 before z.now).wdSync s

/-- STEP_APPLY (R237, R240 to R242): a conflict before SEALED (log entry 92); `peerOk`: the peer's verdict on a step of both halves was received, and it passed (R766). -/
def execStepApply (peerOk : Bool) (s : State) : Outcome State Fault Refusal :=
  match s.tim.step with
  | none => .next s
  | some x =>
    if !s.runs .fb then .next s
    else
      let t := (s.reach x.at_).serveAt
      match (if x.forced ∨ t.unset then none else earliest (t.blockers t.now x.delta)) with
      | some b => .next ((t.put Reg.STEP_BLOCK b).stepFails x (.conflict 2))
      | none =>
        if x.joint && !peerOk then .next (t.stepFails x (.conflict 2))
        else if t.sealed 0 then .next (t.stepFails x .sealed)
        else .next ((t.restamp (s.reach x.at_) x.delta).stepApplied x)

end Sys2Proof.Machine
end

