-- ==== Sys2Proof/Machine/Mirror.lean ====
section
/-! DEFINITION. What the twin's halves ask of each other (R766, R771 to R773): mirrored commits, steps of both halves, and the
values that resolve a discord. -/
namespace Sys2Proof.Machine
open Host

/-- An item of a COMMIT or VALUES frame as a whole value: of a rail that is not shared only the flags byte is taken. -/
def State.wholeItem (s : State) (p : Nat × Nat) : Nat × Nat :=
  if inRun p.1 (Reg.RES_CFG 24) 8 ∧ p.2 < 256 then (p.1, setField (s.el p.1) 72 8 p.2) else p

/-- The keeper's commit of items from the other half: `num` 0 mirrored, 1 adopted. -/
def State.twinCommit (s : State) (items : List (Nat × Nat)) (shape num : Nat) : Commit :=
  { cid := mirrorCid, hid := stationHid, num := num, phase := .pending, items := items.map s.wholeItem, shape := shape,
    order := s.stage.order, sa := false, shadowed := false, slot := 0, killed := false }

/-- The violations of such a commit, rule 0x08 aside. -/
def State.twinViols (s : State) (c : Commit) : List Viol := orderViols (s.checkFirst c ++ s.checkCore c false)

/-- The violations as a frame carries them. -/
def violFields (l : List Viol) : List Nat := l.length :: l.flatMap (fun v => [v.rule, v.addr])

/-- TWIN_COMMIT (R771): a COMMIT that the peer received. `both`: the peer's own check passed. This half answers with its
violations, and with none on either side holds the mirrored commit. -/
def execTwinCommit (f : Bond) (items : List (Nat × Nat)) (shape : Nat) (both : Bool) (s : State) :
    Outcome State Fault Refusal :=
  if !s.bondRuns then .next s
  else if !s.bondTakes f then .next s.bondDrop
  else if !s.bondServed then .next s
  else
    let t := s.bondTook f
    if !t.twinIs 3 then .next t
    else
      let c := t.twinCommit (items.filter (fun p => t.twinElement p.1)) shape 0
      let l := t.twinViols c
      let u := t.bondSend "TWIN COMMIT" (shape :: violFields l)
      .next (if l.isEmpty && both && !c.items.isEmpty then u.addPending c else u)

/-- TWIN_STEP (R766): a step that the peer received, of Δ at a; `both`: the peer's own check passed. This half answers with its
earliest blocking instant, 0 for none, and with none on either side holds the step as well. -/
def execTwinStep (f : Bond) (delta : Int) (at_ : Nat) (forced both : Bool) (s : State) : Outcome State Fault Refusal :=
  if !s.bondRuns then .next s
  else if !s.bondTakes f then .next s.bondDrop
  else if !s.bondServed then .next s
  else
    let t := s.bondTook f
    if !t.twinTied then .next t
    else
      let block := if forced ∨ t.unset then none else earliest (t.blockers at_ delta)
      let ok := block.isNone && t.tim.step.isNone && !t.sealed 0 && !stepRangeBad at_ delta
      let u := t.bondSend "TWIN STEP" [block.getD 0, if ok then 1 else 0]
      .next (if ok && both then { u with tim := { u.tim with step := some ⟨delta, forced, at_, 0, true, true⟩ } } else u)

/-- TWIN_VALUES (R773): the other half's values are committed in mode 0x00 under every rule but 0x08. -/
def execTwinValues (f : Bond) (items : List (Nat × Nat)) (s : State) : Outcome State Fault Refusal :=
  if !s.bondRuns then .next s
  else if !s.bondTakes f then .next s.bondDrop
  else if !s.bondServed then .next s
  else
    let t := s.bondTook f
    if !t.twinIs 4 then .next t
    else
      let l := items.filter (fun p => twinAddrs.contains p.1 && t.stagedEl p.1 != (t.wholeItem p).2)
      let c := t.twinCommit l (boundaryFrom (t.now + stMsUp 10)) 1
      match t.twinViols c with
      | v :: _ => .next (t.put Reg.TWIN_RESOLVE v.rule)
      | [] => .next (if c.items.isEmpty then t else t.addPending c)

/-- TWIN_RESOLVE_WRITE (R773). -/
def execTwinResolveWrite (r : Req) (s : State) : Outcome State Fault Refusal :=
  .next (s.ownWrite (.twinResolveWrite r) r (fun a => a == Reg.TWIN_RESOLVE) false (atOnce (fun t w _ v => t.twinResolve w v)))

end Sys2Proof.Machine
end

