-- ==== Sys2Proof/Machine/Exchange.lean ====
section
/-! DEFINITION. The exchange's own operations (chapter 07): READ, WRITE of elements with no behaviour of their own, GATHER,
SCATTER, subscriptions, and the refused responses that wait for their delay. -/
namespace Sys2Proof.Machine
open Host

/-! ### Reading (R243, R258, R262, R264, R541) -/

/-- The elements of the host port's fast path (R243). -/
def isTime (a : Nat) : Bool := a == Reg.ST_NOW || a == Reg.ST_QUAL || a == Reg.TAI_UTC || a == Reg.CAL_UTC

/-- Elements whose reading the reduced service mode offers: 0x1000 to 0x11FF (R258). -/
def offeredRead (a : Nat) : Bool := decide (0x100000 ≤ a ∧ a < 0x120000)

/-- Elements that CID 0 reads unprovisioned (R541). -/
def bootRead (a : Nat) : Bool := offeredRead a || a / 256 == 0x1A00 || inRun a 0x400090 8

/-- Steps 5 and 6 of R258 for an element to be read: the status it ends with, or none. -/
def State.readGate (s : State) (w : Who) (a : Nat) : Option Stat :=
  if !s.mayRead w a then some .refused else if !s.full && !offeredRead a then some s.reducedStat else none

/-- The bytes of an element's value. -/
def elBytes (a v : Nat) : Bytes := match rowOf a with | some e => typeBytes e.ty v | none => []

/-- What an element answers from the requester's parison, where PARISON is set and it has been staged (R262). -/
def State.readStaged (s : State) (w : Who) (staged : Bool) (a : Nat) : Option (Stat × Bytes) :=
  let p := s.parison w.cid
  match (if staged then p.find? (fun x => x.1 == a) else none) with
  | some x => some (.staged p.length, elBytes a x.2)
  | none => none

/-- What an element answers from its island. -/
def State.readLive (s : State) (w : Who) (a : Nat) : Stat × Bytes :=
  if s.rep.lostEls.contains a then (.eccLost 0x0B, []) else (.ok, elBytes a (s.liveValue w a))

/-- A value as a READ returns it: its length, then its bytes. -/
def lengthed (v : Bytes) : Bytes := numToBytes 1 v.length ++ v

/-- A request on the host port that names only the elements of R243: it takes the fast path, and its refusal class is T. -/
def fastRead (r : Req) (l : List Nat) : Bool := r.port == .host && !l.isEmpty && l.all isTime
def readClass (fast : Bool) : Cls := if fast then .t else .q

/-- READ (R243, R262). -/
def execRead (r : Req) (s : State) : Outcome State Fault Refusal :=
  let named := decide (3 ≤ r.body.length)
  let a := r.addr
  let fast := fastRead r [a] && r.body.length == 3
  let cls := readClass fast
  match s.accept r 1 cls fast false (bootRead a) with
  | .done t => .next t
  | .wait t i ch w => .next (t.holdRequest (.read r) r i ch w)
  | .go t w =>
    match (if named then t.readGate w a else none) with
    | some st => .next (t.finish r 1 cls st [])
    | none =>
      if r.body.length ≠ 3 then .next (t.finish r 1 cls (.range 1 0) [])
      else match t.readStaged w (bitOf r.flags 1) a with
        | some v => .next (t.finish r 1 cls v.1 (lengthed v.2))
        | none =>
          .next (t.into (homeOf a) (pathTo fast (homeOf a)) (.read r) r.cid (some w) (fun u st => u.finish r 1 cls st [])
            (fun u => let v := u.readLive w a; u.finish r 1 cls v.1 (if v.1.code = 0 then lengthed v.2 else [])))

/-! ### Gathers (R263 to R268) -/

/-- The addresses a GATHER names: three bytes each after its count. -/
def gatherAddrs (r : Req) : List Nat := (List.range ((r.body.length - 1) / 3)).map (fun i => bodyNum r.body (1 + 3 * i) 3)

/-- Step 7 of R258 for a GATHER. -/
def gatherBad (r : Req) : Option Stat :=
  let n := bodyNum r.body 0 1
  if r.body.isEmpty then some (.range 1 0)
  else if n = 0 ∨ 16 < n then some (.range 3 0)
  else wantLen r (1 + 3 * n)

/-- 20 µs in units of station time, no less. -/
abbrev us20 : Nat := 5369

/-- The islands whose elements a gather reads; one that is GATED wakes for it (R68). -/
def State.wakeHomes (s : State) (l : List Nat) : State := l.foldl (fun t a => t.wakeIsl (homeOf a)) s

/-- A freeze instant is asked of FB, and the islands of the items wake. -/
def State.askFreeze (s : State) (r : Req) (l : List Nat) : State :=
  let g : Gather := { req := r, asked := s.now, freezeAt := s.now + us20 + s.free % stSecond }
  let t := s.wakeHomes l
  (State.beginProgress { t with exch := { t.exch with gathers := t.exch.gathers ++ [g] } } r.cid).drawn

/-- GATHER (R263, R264, R269): checked, and a freeze instant at least 20 µs ahead asked of FB; how far ahead is left open (log
entry 64). Without FB there is no freeze instant, and the request is abandoned as a whole (R67, log entry 76). -/
def execGather (r : Req) (s : State) : Outcome State Fault Refusal :=
  let l := gatherAddrs r
  let fast := fastRead r l
  let cls := readClass fast
  match s.accept r 3 cls fast false (l.all bootRead) with
  | .done t => .next t
  | .wait t i ch w => .next (t.holdRequest (.gather r) r i ch w)
  | .go t w =>
    match gatherBad r with
    | some st => .next (t.finish r 3 cls (if l.all (t.mayRead w) then st else .refused) [])
    | none =>
      .next (t.into .fb (pathTo fast .fb) (.gather r) r.cid (some w) (fun u st => u.finish r 3 cls st [])
        (fun u => u.askFreeze r l))

/-- One item of a gather at its freeze instant; `lost` are the islands whose latch does not come back. -/
def State.gatherItem (s : State) (w : Who) (staged fast : Bool) (lost : List Island) (a : Nat) : Stat × Bytes :=
  match s.readGate w a with
  | some st => (st, [])
  | none =>
    match s.readStaged w staged a with
    | some v => v
    | none =>
      match s.crossing (homeOf a) (pathTo fast (homeOf a)) with
      | .shut d => (.abandoned d, [])
      | .wait => (.abandoned 1, [])
      | .serve => if lost.contains (homeOf a) then (.abandoned 1, []) else s.readLive w a

/-- The items of a gather at its freeze instant. -/
def State.gatherItems (s : State) (r : Req) (w : Who) (lost : List Island) : List (Nat × Stat × Bytes) :=
  let l := gatherAddrs r
  l.map (fun a => (a, s.gatherItem w (bitOf r.flags 1) (fastRead r l) lost a))

/-- An item as the body carries it. -/
def itemBytes (x : Nat × Stat × Bytes) : Bytes :=
  numToBytes 1 x.2.1.code ++ numToBytes 1 x.2.1.detail ++ numToBytes 1 x.2.2.length ++ x.2.2

/-- An item that is ABANDONED is counted on the channel of its island (R89). -/
def State.countItem (s : State) (fast : Bool) (a : Nat) (st : Stat) : State :=
  if st.code = 5 ∧ homeOf a ≠ .cr then s.inc 4 (Reg.CH_ABANDON (pathTo fast (homeOf a))) else s

/-- A gather with a REFUSED item (R270, R273): counted once, kept for R256, and sent after its class's delay. -/
def State.answerLate (s : State) (r : Req) (op : Nat) (cls : Cls) (t0 : Nat) (st : Stat) (body : Bytes) : State :=
  let x := replyOf r op false st body (replyGen r)
  ((s.countRefusal r.cid).delayed x (s.delayOf cls) t0).keepReply r x (some (s.delayOf cls))

/-- The response to a gather (R259, R264, R265). -/
def State.gatherDone (s : State) (r : Req) (w : Who) (lost : List Island) (t0 : Nat) : State :=
  let fast := fastRead r (gatherAddrs r)
  let l := s.gatherItems r w lost
  let t := l.foldl (fun u x => u.countItem fast x.1 x.2.1) s
  let bad := l.filter (fun x => x.2.1 != .ok)
  match (if bitOf r.flags 0 then bad else []) with
  | x :: _ =>
    if x.2.1 = .refused then
      (t.countRefusal r.cid).delayed (replyOf r 3 false .refused [] none) (t.delayOf (readClass fast)) t0
    else t.answer r 3 x.2.1 []
  | [] =>
    let body := numToBytes 8 t.now ++ numToBytes 1 l.length ++ l.flatMap itemBytes
    if l.any (fun x => x.2.1 == .refused) then t.answerLate r 3 (readClass fast) t0 ⟨0, bad.length⟩ body
    else t.answer r 3 ⟨0, bad.length⟩ body

/-- A gather is ready for its strobe: FB runs, and no island it reads is on its way to RUN (R68). -/
def State.gatherReady (s : State) (g : Gather) : Bool :=
  s.runs .fb && (gatherAddrs g.req).all (fun a => onDemand (homeOf a) == false ||
    !(s.isl_ (homeOf a) == islStarting || s.isl_ (homeOf a) == islGated))

/-- The requester of a gather. -/
def Gather.who (g : Gather) : Who := if g.req.zeroTrailer then .bootstrap else .client g.req.cid

/-- The freeze strobe of a gather (R263 to R268): what falls due at or before the freeze instant comes first, a flip or a step
at that instant among it, and the strobe waits for it (R267). -/
def State.freeze (s : State) (g : Gather) (lost : List Island) : State :=
  let t : State := State.reach { s with exch := { s.exch with gathers := s.exch.gathers.erase g } } g.freezeAt
  (t.endProgress g.req.cid).gatherDone g.req g.who lost g.asked

/-- A shape instant or a step falls at or before an instant: it is served first (R267). -/
def State.flipBefore (s : State) (t : Nat) : Bool :=
  s.stage.commits.any (fun c => c.phase == .prepared && decide (c.shape ≤ t)) ||
  (match s.tim.step with | some x => decide (x.at_ ≤ t) | none => false)

/-! ### Staging (R246, R260, R261, R282, R770) -/

/-- Items placed in a parison, a later one on an element replacing the earlier. -/
def stageItem (l : List (Nat × Nat)) (p : Nat × Nat) : List (Nat × Nat) :=
  if l.any (fun x => x.1 == p.1) then l.map (fun x => if x.1 = p.1 then p else x) else l ++ [p]

/-- Staging of a twin-shared element is not offered: PAIRING, LINKING, SPLIT, ALONE (R770). -/
def State.splitFor (s : State) (a : Nat) : Bool :=
  s.twinElement a && (s.twinIs 1 || s.twinIs 2 || s.twinIs 5 || s.twinIs 6)

/-- Items staged, or none: SPLIT, a parison that would be too full, else STAGED. A 1 in a reserved bit is ignored, and a staged
value reads 0 there (R21, R22). -/
def State.stageAll (s : State) (c : Nat) (items : List (Nat × Nat)) : State × Stat :=
  let l := (items.map (fun p => (p.1, maskEl p.1 p.2))).foldl stageItem (s.parison c)
  if items.any (fun p => s.splitFor p.1) then (s, .split)
  else if 64 < l.length then (s, .exhausted 3)
  else (s.setParison c l, .staged l.length)

/-- A direct write of an element with no behaviour of its own (R245, R247). -/
def State.plainWrite (s : State) (a v : Nat) : State × Stat :=
  if !rangeOk a v then (s, .range 2 0)
  else if s.isReadOnly 11 then (s, .exhausted 2)
  else ((((s.put a v).rewrote (fun x => x == a)).watchAll (fun x => x == a)), .ok)

/-- WRITE (R245 to R247, R258, R260): of an element that has no row of its own. A persistent element of staging D is written
over CH11 (Table: Firmware retries after ABANDONED). -/
def execWrite (r : Req) (s : State) : Outcome State Fault Refusal :=
  if isDirect r.addr then .next s else
  match s.accept r 2 .q false false false with
  | .done t => .next t
  | .wait t i ch w => .next (t.holdRequest (.write r) r i ch w)
  | .go t w =>
    match rowOf r.addr with
    | none => .next (t.finish r 2 .q (if r.body.length < 3 then .range 1 0 else .refused) [])
    | some e =>
      if !t.mayWrite w r.addr then .next (t.finish r 2 .q .refused [])
      else if !t.full then .next (t.finish r 2 .q t.reducedStat [])
      else if !r.writeFormed || !wellEncoded e.ty r.value then .next (t.finish r 2 .q (.range 1 0) [])
      else if !e.staged && t.locked then .next (t.finish r 2 .q (.conflict 3) [])
      else
        let v := bytesToNum r.value
        if e.staged then
          let x := t.stageAll r.cid [(r.addr, v)]
          .next (x.1.finish r 2 .q x.2 [])
        else if !rangeOk r.addr v then .next (t.finish r 2 .q (.range 2 0) [])
        else
          .next (t.into .nv 11 (.write r) r.cid (some w) (fun u _ => u.retryLater r 2) (fun u =>
            let x := u.plainWrite r.addr v
            x.1.finish r 2 .q x.2 []))

/-- The items of a SCATTER: address and value bytes, as far as the body holds them whole. -/
def scatterItems : Nat → Bytes → List (Nat × Bytes)
  | 0, _ => []
  | k + 1, b =>
    let n := bodyNum b 3 1
    if b.length < 4 + n then [] else (bodyNum b 0 3, (b.drop 4).take n) :: scatterItems k (b.drop (4 + n))

/-- The addresses a SCATTER names, the last one with its value cut short. -/
def scatterNamed : Nat → Bytes → List Nat
  | 0, _ => []
  | k + 1, b => if b.length < 3 then [] else bodyNum b 0 3 :: scatterNamed k (b.drop (4 + bodyNum b 3 1))

/-- Step 7 of R258 for a SCATTER: the count, then the first item that is malformed. -/
def scatterBad (r : Req) : Option Stat :=
  let n := bodyNum r.body 0 1
  let l := scatterItems n (r.body.drop 1)
  let used := 1 + l.foldl (fun a x => a + 4 + x.2.length) 0
  if r.body.isEmpty then some (.range 1 0)
  else if n = 0 ∨ 16 < n then some (.range 3 0)
  else match (List.range l.length).find? (fun i =>
      let x := l.getD i (0, [])
      match rowOf x.1 with | some e => !wellEncoded e.ty x.2 | none => true) with
    | some i => some (.range 1 (i + 1))
    | none =>
      if l.length < n then some (.range 1 (l.length + 1)) else if used ≠ r.body.length then some (.range 1 0) else none

/-- SCATTER (R258, R261, R282). -/
def execScatter (r : Req) (s : State) : Outcome State Fault Refusal :=
  let n := bodyNum r.body 0 1
  let names := scatterNamed n (r.body.drop 1)
  let items := (scatterItems n (r.body.drop 1)).map (fun x => (x.1, bytesToNum x.2))
  .next (s.request (.scatter r) r 4 .q (names.all (fun a => a == Reg.KX_WRAP 0 || a == Reg.KX_TAG 0))
    (fun t w => names.all (t.mayWrite w)) false (scatterBad r) .cr
    (fun t _ => let x := t.stageAll r.cid items; (x.1, x.2, [])))

/-! ### Subscriptions (R274 to R279) -/

/-- The subscriber may have the kind and selector it asks for (R275). -/
def State.subMay (s : State) (w : Who) (kind sel : Nat) : Bool :=
  if kind = 1 then decide (sel / 65536 < 128) || s.srcAssigned (sel / 65536) (s.hidOf w.cid)
  else if kind = 2 then s.mayRead w (sel / 256)
  else true

/-- Step 7 of R258 for a SUBSCRIBE: the port, the length, the ranges. -/
def subBad (r : Req) : Option Stat :=
  if r.port ≠ .canFd ∧ r.port ≠ .t1l then some (.range 4 0)
  else if r.body.length ≠ 10 then some (.range 1 0)
  else if 3 < bodyNum r.body 0 1 ∨ bodyNum r.body 1 1 = 0 ∨ 2 < bodyNum r.body 1 1 then some (.range 2 0)
  else if bodyNum r.body 2 2 = 0 ∨ (bodyNum r.body 1 1 = 2 ∧ bodyNum r.body 8 2 = 0) then some (.range 2 0)
  else none

/-- The effect of a SUBSCRIBE (R276 to R278). -/
def State.subscribe (s : State) (r : Req) : State × Stat × Bytes :=
  let slot := bodyNum r.body 0 1
  let kind := bodyNum r.body 1 1
  let sel := bodyNum r.body 4 4
  let iv := bodyNum r.body 8 2
  let ends := min (s.now + bodyNum r.body 2 2 * stSecond) stMax
  let t := match s.subOf r.cid slot with
    | some x => if x.kind ≠ kind ∨ x.selector ≠ sel then s.notify x 3 [0, 0] else s
    | none => s
  let x : Subscr :=
    { cid := r.cid, slot := slot, kind := kind, port := r.port, src := r.src, udp := r.udp, seq := 0, selector := sel,
      interval := iv, expiry := ends, nextAt := t.now + iv * stSecond,
      last := if kind = 2 then t.liveValue (.client r.cid) (sel / 256) else 0 }
  let l := t.exch.subs.filter (fun y => !(y.cid == r.cid && y.slot == slot)) ++ [x]
  ({ t with exch := { t.exch with subs := l } }, .ok, numToBytes 8 ends)

/-- SUBSCRIBE (R274 to R278). -/
def execSubscribe (r : Req) (s : State) : Outcome State Fault Refusal :=
  .next (s.request (.subscribe r) r 9 .q false (fun t w => t.subMay w (bodyNum r.body 1 1) (bodyNum r.body 4 4)) false (subBad r) .nw
    (fun t _ => t.subscribe r))

/-- UNSUBSCRIBE (R278). -/
def execUnsubscribe (r : Req) (s : State) : Outcome State Fault Refusal :=
  let slot := bodyNum r.body 0 1
  let bad := if r.body.length ≠ 1 then some (Stat.range 1 0) else if 3 < slot then some (Stat.range 2 0) else none
  .next (s.request (.unsubscribe r) r 0x0A .q false (fun _ _ => true) false bad .nw
    (fun t _ =>
      let l := t.exch.subs.filter (fun y => !(y.cid == r.cid && y.slot == slot))
      ({ t with exch := { t.exch with subs := l } }, .ok, [])))

/-- WATCH_INTERVAL (R276): a Watch's interval passes, or its element was written; the comparison. -/
def execWatchInterval (cid slot : Nat) (atWrite : Bool) (s : State) : Outcome State Fault Refusal :=
  match s.subOf cid slot with
  | none => .next s
  | some x =>
    if x.kind ≠ 2 ∨ !s.runs .nw then .next s
    else if atWrite then .next (s.watchCompare cid slot)
    else
      let t := s.reach x.nextAt
      let again : Subscr → Subscr := fun y =>
        if y.cid = cid ∧ y.slot = slot then { y with nextAt := y.nextAt + y.interval * stSecond } else y
      .next (State.watchCompare { t with exch := { t.exch with subs := t.exch.subs.map again } } cid slot)

/-- SUBSCRIPTION_EXPIRY (R277, R278). -/
def execSubscriptionExpiry (cid slot : Nat) (s : State) : Outcome State Fault Refusal :=
  match s.subOf cid slot with
  | none => .next s
  | some x => if s.runs .nw then .next (s.servedAt x.expiry (fun t => t.expireSub cid slot)) else .next s

/-! ### The uniform refusal's delay (R270, R271) -/

/-- REFUSED_RESPONSE_SEND (R270, R271): the k-th waiting response leaves at the end of its delay. -/
def execRefusedResponseSend (k : Nat) (s : State) : Outcome State Fault Refusal :=
  match s.exch.refused[k]? with
  | none => .next s
  | some x =>
    let t : State := State.reach { s with exch := { s.exch with refused := s.exch.refused.eraseIdx k } } x.due
    .next (t.sendReply x.out)

end Sys2Proof.Machine
end

