-- ==== Sys2Proof/Machine/Handshakes.lean ====
section
/-! DEFINITION. Requests that waited go on (R61 to R73): what serves them again, the handshakes' timeouts, islands that reach
RUN or have drained, the ends of holds, and the other events that let a request go on: a gather's strobe, the log's appends,
the firmware's repeats, the firmware's start. -/
namespace Sys2Proof.Machine
open Host

/-- The meaning of a command that brings a request; of another, nothing. -/
def heldMeaning : Instr → State → Outcome State Fault Refusal
  | .islReqGate r, s => execIslReqGate r s
  | .islReqReset r, s => execIslReqReset r s
  | .islReqWithdraw r, s => execIslReqWithdraw r s
  | .devResetMain r, s => execDevResetMain r s
  | .devResetFull r, s => execDevResetFull r s
  | .refLabelWrite r, s => execRefLabelWrite r s
  | .refAcceptWrite r, s => execRefAcceptWrite r s
  | .learnResetWrite r, s => execLearnResetWrite r s
  | .slewAddWrite r, s => execSlewAddWrite r s
  | .timeStepWrite r p, s => execTimeStepWrite r p s
  | .timeStepFWrite r p, s => execTimeStepFWrite r p s
  | .timeSetWrite r p, s => execTimeSetWrite r p s
  | .stepWithdraw r, s => execStepWithdraw r s
  | .read r, s => execRead r s
  | .write r, s => execWrite r s
  | .gather r, s => execGather r s
  | .scatter r, s => execScatter r s
  | .commit r p, s => execCommit r p s
  | .commitCheckOnly r p, s => execCommitCheckOnly r p s
  | .discard r, s => execDiscard r s
  | .lease r, s => execLease r s
  | .release r, s => execRelease r s
  | .subscribe r, s => execSubscribe r s
  | .unsubscribe r, s => execUnsubscribe r s
  | .logRead r, s => execLogRead r s
  | .doorbell r, s => execDoorbell r s
  | .echo r, s => execEcho r s
  | .unknownOpcode r op, s => execUnknownOpcode r op s
  | .imageBegin r, s => execImageBegin r s
  | .imageData r, s => execImageData r s
  | .imageFinish r, s => execImageFinish r s
  | .imageAbort r, s => execImageAbort r s
  | .imageActivate r, s => execImageActivate r s
  | .imageConfirm r, s => execImageConfirm r s
  | .cmWithdrawWrite r, s => execCmWithdrawWrite r s
  | .cmWithdrawAnyWrite r, s => execCmWithdrawAnyWrite r s
  | .lsRenewWrite r, s => execLsRenewWrite r s
  | .lsDropWrite r, s => execLsDropWrite r s
  | .revokeAnyWrite r, s => execRevokeAnyWrite r s
  | .timerArm r, s => execTimerArm r s
  | .timerDisarm r, s => execTimerDisarm r s
  | .claim r, s => execClaim r s
  | .complete r, s => execComplete r s
  | .ringStatus r, s => execRingStatus r s
  | .doorbellWrite r, s => execDoorbellWrite r s
  | .enSetWrite r, s => execEnSetWrite r s
  | .enClrWrite r, s => execEnClrWrite r s
  | .pendSetWrite r, s => execPendSetWrite r s
  | .pendClrWrite r, s => execPendClrWrite r s
  | .kxStartWrite r, s => execKxStartWrite r s
  | .kxPeerWrite r, s => execKxPeerWrite r s
  | .zeroizeWrite r, s => execZeroizeWrite r s
  | .chgClearWrite r, s => execChgClearWrite r s
  | .seqClearWrite r, s => execSeqClearWrite r s
  | .margReqWrite r, s => execMargReqWrite r s
  | .wdKeyArm r, s => execWdKeyArm r s
  | .wdKeyService r, s => execWdKeyService r s
  | .wdKeyBad r, s => execWdKeyBad r s
  | .wdCheckin r, s => execWdCheckin r s
  | .wdNap r, s => execWdNap r s
  | .tmpClearWrite r, s => execTmpClearWrite r s
  | .tmpTestWrite r, s => execTmpTestWrite r s
  | .logArchiveWrite r, s => execLogArchiveWrite r s
  | .twinResolveWrite r, s => execTwinResolveWrite r s
  | _, s => .next s

/-- A command's next state. -/
def State.after (s : State) (c : Instr) : State := match heldMeaning c s with | .next t => t | _ => s

/-- A held request goes on from where it waited; a request of the device itself has no more to do. -/
def State.serveHeld (s : State) (h : Held) : State :=
  let t := s.unhold h
  match h.cmd with
  | none => t
  | some c =>
    let v := State.after { t with exch := { t.exch with resumed := some h.who } } c
    { v with exch := { v.exch with resumed := none } }

/-- Requests of a client in progress, but for those that wait behind them (R254). -/
def State.before (s : State) (c : Nat) : Nat :=
  s.el (Reg.IN_PROGRESS c) - (s.isl.held.filter (fun h => h.isl.isNone && h.cid == c)).length

/-- A held request that waits no longer is served; one whose island has since stopped wakes it (R62, R68, R254). -/
def State.serveReady1 (s : State) (h : Held) : State :=
  if !s.isl.held.contains h then s else
  match h.isl with
  | none => if s.before h.cid = 0 then s.serveHeld h else s
  | some i =>
    match s.crossing i h.ch with
    | .wait => if s.chan h.ch = .idle then s.wakeIsl i else s
    | _ => s.serveHeld h

/-- The held requests, oldest first. -/
def State.serveReady (s : State) : State := s.isl.held.foldl State.serveReady1 s

/-- A draining island serves the requests queued in it in order of arrival (R71). -/
def State.serveQueue (s : State) (i : Island) : State :=
  let t := (s.isl.held.filter (fun h => h.isl == some i && s.chan h.ch == Chan.idle)).foldl
    (fun t h => if t.isl.held.contains h then t.serveHeld h else t)
    { s with exch := { s.exch with forced := true } }
  { t with exch := { t.exch with forced := false } }

/-! ### Handshakes (R61 to R66) -/

/-- The writes of elements that act when they are written; each leaves what is not its own as it was. -/
def writesOf (r : Req) : List Instr :=
  [.islReqGate r, .islReqReset r, .islReqWithdraw r, .devResetMain r, .devResetFull r, .refLabelWrite r, .refAcceptWrite r,
   .learnResetWrite r, .slewAddWrite r, .timeStepWrite r none, .timeStepFWrite r none, .timeSetWrite r none, .stepWithdraw r,
   .write r, .cmWithdrawWrite r, .cmWithdrawAnyWrite r, .lsRenewWrite r, .lsDropWrite r, .revokeAnyWrite r, .timerArm r] ++
  [.timerDisarm r, .doorbellWrite r, .enSetWrite r, .enClrWrite r, .pendSetWrite r, .pendClrWrite r, .kxStartWrite r,
   .kxPeerWrite r, .zeroizeWrite r, .chgClearWrite r, .seqClearWrite r, .margReqWrite r, .wdKeyArm (some r),
   .wdKeyService (some r), .wdKeyBad r, .wdCheckin r, .wdNap r, .tmpClearWrite r, .tmpTestWrite r, .logArchiveWrite r,
   .twinResolveWrite r]

/-- The commands that an opcode and its request stand for; those that only read have no effect to speak of. -/
def commandsOf (r : Req) (op : Nat) : List Instr :=
  if op = 2 then writesOf r
  else if op = 4 then [.scatter r]
  else if op = 5 then [.commit r []]
  else if op = 6 then [.discard r]
  else if op = 7 then [.lease r]
  else if op = 8 then [.release r]
  else if op = 9 then [.subscribe r]
  else if op = 0x0A then [.unsubscribe r]
  else if op = 0x0C then [.doorbell r]
  else if op = 0x0D then [.imageBegin r, .imageData r, .imageFinish r, .imageAbort r, .imageActivate r, .imageConfirm r]
  else []

/-- The work of a request whose answer is lost (R65, R66). -/
def State.unheard (s : State) (r : Req) (op : Nat) (w : Who) : State :=
  let t : State := { s with exch := { s.exch with resumed := some (some w), muted := true } }
  let u := (commandsOf r op).foldl State.after t
  { u with exch := { u.exch with resumed := none, muted := false } }

/-- The refusal class of an opcode (Table: Refusal classes). -/
def classOf (op : Nat) : Cls := if op = 5 ∨ op = 0x0D then .c else .q

/-- A request that had reached its island over a channel gets no answer within the limit (R61): it completes with ABANDONED,
detail 0x01, or is repeated by the firmware (R90). Whether its work was done is a free value (R66). CR and SC stand before
step 3 of R258: without them there is no check, and no tagged answer. -/
def State.unanswered (s : State) (ch : Nat) (r : Req) (op : Nat) : State :=
  let lost : State → State := fun t => (t.setChan ch .orphan).inc 4 (Reg.CH_ABANDON ch)
  if ch = 14 then (lost s).coreAbsent r op 1
  else if ch = 10 then lost s
  else match s.accept r op (classOf op) false false false with
    | .done t => t
    | .wait t _ _ _ => t
    | .go t w =>
      let u := lost (if t.free % 2 = 1 then t.drawn.unheard r op w else t.drawn)
      if ch = 11 ∧ (op = 2 ∨ (op = 0x0D ∧ imIsBlock r)) then u.retryLater r op
      else u.finish r op (classOf op) (.abandoned 1) []

/-- HANDSHAKE_TIMEOUT (R27, R61, R66, R69, R70, Table: Requester channel states): 2,048 AO cycles have passed, 0 in REQUEST, 1 in
RELEASE, 2 in ORPHAN. In REQUEST it ends a request that waits on the channel, one that found the queue full first; else the
one given. An island without supply holds its acknowledge low: no channel into it is stuck. -/
def execHandshakeTimeout (ch : Fin 20) (phase : Fin 3) (victim : Option Req) (op : Nat) (s : State) :
    Outcome State Fault Refusal :=
  let off := s.isl_ (chanEnds ch).2 == islUnpowered
  if phase.val = 0 then
    if s.chan ch ≠ .idle then .next s
    else match s.victim ch with
      | some h => .next ((s.setChan ch .orphan).abandon h 1).serveReady
      | none => match victim with
        | none => .next ((s.setChan ch .orphan).inc 4 (Reg.CH_ABANDON ch))
        | some r => .next (s.unanswered ch r op).serveReady
  else if off then .next s
  else if phase.val = 1 then (if s.chan ch = .idle then .next (s.setChan ch .stuck).serveReady else .next s)
  else if s.chan ch = .orphan then .next (s.setChan ch .stuck).serveReady else .next s

/-- ORPHAN_ACK_LOW (R62, R850, Table: Requester channel states): the channel is IDLE again, and what waited for it goes on. -/
def execOrphanAckLow (ch : Fin 20) (s : State) : Outcome State Fault Refusal :=
  if s.chan ch = .orphan then .next (s.setChan ch .idle).serveReady else .next s

/-! ### Islands -/

/-- A starting island may reach RUN: with its supply, out of reset; CR once FB is in RUN, and from a reset with the straps
taken (R59, Table: Power-up from VSYS); NW once the firmware enables a port (R96). -/
def State.mayRun (s : State) (i : Island) : Bool :=
  s.isl_ i == islStarting && s.boot.vcore && !s.boot.rstLow &&
  match i with
  | .cr => s.runs .fb && (s.boot.firmware || s.boot.straps)
  | .nw => s.anyPort && s.boot.firmware
  | _ => true

/-- What an island does as it reaches RUN. -/
def State.arrives (s : State) : Island → State
  | .cr => (if s.boot.firmware then s.owedZeroizes else s).wd0Wakes.storeAnchors
  | .pw => s.loadPw.settle.pass
  | .nw => s.startPorts
  | .fb => State.fbBack { s with osc := { s.osc with pllLocked := true } }
  | .sc => s.scStarts.keysBack
  | _ => s

/-- A RESET of the island is complete (step 9 of Field note: the Kluftbach ramp, R86, R852). -/
def State.resetDone (s : State) (i : Island) : State :=
  if s.isl.acting.any (fun x => x.1 == i && x.2 == 2) then s.islDone i 2 0 else s

/-- ISLAND_RUN_REACHED (R58, R59, R68, R86, R851): a starting island reaches RUN; a RESET is complete, the requests that waited
are answered, and a request that waited for RUN acts. -/
def execIslandRunReached (i : Island) (s : State) : Outcome State Fault Refusal :=
  if !s.mayRun i then .next s
  else .next ((((((s.setIsl i islRun).arrives i).resetDone i).serveReady).actPending i).wdSync s)

/-- DRAIN_COMPLETE (R71, R73, steps 3 to 5 of Table: Drain sequence): the queue is served; with nothing outbound left the island
leaves. -/
def execDrainComplete (i : Island) (s : State) : Outcome State Fault Refusal :=
  if s.isl_ i ≠ islDraining then .next s
  else
    let t := s.serveQueue i
    if t.drained i then .next (((t.drainDone i).serveReady).wdSync s) else .next t

/-- DRAIN_LIMIT_EXPIRY (R72, step 6): requests still queued complete ABANDONED, detail 0x04, and the drain completes. -/
def execDrainLimitExpiry (i : Island) (s : State) : Outcome State Fault Refusal :=
  if s.isl_ i ≠ islDraining then .next s
  else .next ((((s.abandonAll (fun h => h.isl == some i) 4).drainDone i).serveReady).wdSync s)

/-- ISLAND_HOLD_RELEASE (R77, R80, R101). -/
def execIslandHoldRelease (i : Island) (s : State) : Outcome State Fault Refusal :=
  if s.isHeld i then .next (s.endHold i).serveReady else .next s

/-- HOLD_LEASE_EXPIRY (R77). -/
def execHoldLeaseExpiry (i : Island) (s : State) : Outcome State Fault Refusal :=
  match s.isl.holds.find? (fun h => h.1 == i) with
  | some h => .next ((s.reach h.2.1).endHold i).serveReady
  | none => .next s

/-! ### Other events that let requests go on -/

/-- FIRMWARE_START (R98, R105, R106, R123; steps 8 and 9 of Table: Power-up from VSYS): the firmware that was chosen starts, and
what waited for CR is served. -/
def execFirmwareStart (torn : Option (Fin 64)) (ages : List Int) (s : State) : Outcome State Fault Refusal :=
  if !s.runs .cr ∨ s.boot.firmware ∨ !s.boot.chosen then .next s else .next (s.firmwareStart torn ages).serveReady

/-- GATHER_FREEZE (R263 to R268): FB's freeze strobe of the oldest gather that is ready; `lost` are the islands whose latch does
not come back. -/
def execGatherFreeze (lost : List Island) (s : State) : Outcome State Fault Refusal :=
  match s.exch.gathers.find? s.gatherReady with
  | none => .next s
  | some g => if s.flipBefore g.freezeAt then .next s else .next (s.freeze g lost).serveReady

/-- EVIDENCE_APPEND (R39, R91): the oldest waiting group is signed and appended. -/
def execEvidenceAppend (s : State) : Outcome State Fault Refusal := .next ((s.appendOldest.serveReady).wdSync s)

/-- The firmware's repeat of an abandoned operation of CH11 for a client: an IMAGE block, or a persistent write. -/
def State.retried (s : State) (op : Nat) (r : Req) : State :=
  if op = 0x0D then
    let e := s.imageData r.cid (imSlot r - 1) (imBlock r) (imData r)
    (e.1.endProgress r.cid).finish r op .c e.2 []
  else
    let e := s.plainWrite r.addr (bytesToNum r.value)
    (e.1.endProgress r.cid).finish r op .q e.2 []

/-- After the last retry (Table: Firmware retries after ABANDONED): ABANDONED to the requester; whether the write landed is a
free value (R66); a firmware update is aborted and its slot INVALID. -/
def State.retriesSpent (s : State) (op : Nat) (r : Req) (detail : Nat) : State :=
  let s1 : State := if op = 0x0D then s.endSession false
    else if s.free % 2 = 1 then (s.drawn.plainWrite r.addr (bytesToNum r.value)).1
    else s.drawn
  (s1.endProgress r.cid).finish r op (classOf op) (.abandoned detail) []

/-- A repeat is abandoned with a detail: the next follows, or it was the third. -/
def State.retryAgain (s : State) (x : Nat × Req × Nat) (detail : Nat) : State :=
  let s1 := (State.inc { s with isl := { s.isl with retries := s.isl.retries.erase x } } 4 (Reg.CH_ABANDON 11))
  if 2 ≤ x.2.2 then s1.retriesSpent x.1 x.2.1 detail
  else { s1 with isl := { s1.isl with retries := s1.isl.retries ++ [(x.1, x.2.1, x.2.2 + 1)] } }

/-- FIRMWARE_RETRY (R63, R67, R90, R91): 0 a log append or 1 a signing, repeated without limit; 2 a persistent write or 3 an
image block, three times. `ok`: an answer comes back. -/
def execFirmwareRetry (work : Fin 4) (ok : Bool) (s : State) : Outcome State Fault Refusal :=
  if !s.runs .cr ∨ !s.boot.firmware then .next s
  else if work.val < 2 then
    if ok then execEvidenceAppend s
    else if s.log.waiting.isEmpty then .next s else .next (s.inc 4 (Reg.CH_ABANDON (if work.val = 1 then 9 else 11)))
  else
    match s.isl.retries.find? (fun x => x.1 == (if work.val = 2 then 2 else 0x0D)) with
    | none => .next s
    | some x =>
      match s.crossing .nv 11 with
      | .wait => .next (s.wakeIsl .nv)
      | .shut d => .next (s.retryAgain x d).serveReady
      | .serve =>
        if ok then
          .next (State.retried { s with isl := { s.isl with retries := s.isl.retries.erase x } } x.1 x.2.1).serveReady
        else .next (s.retryAgain x 1).serveReady

end Sys2Proof.Machine
end

