-- ==== Sys2Proof/Machine/Dispatch.lean ====
section
/-! DEFINITION. One arm for each command: each calls the command's own meaning. -/
namespace Sys2Proof.Machine
open Host

/-- The effect of one command on everything but the queue. -/
def exec (i : Instr) (s : State) : Host.Outcome State Fault Refusal :=
  match i with
  | .handshakeTimeout ch phase victim op => Sys2Proof.Machine.execHandshakeTimeout ch phase victim op s
  | .orphanAckLow ch => Sys2Proof.Machine.execOrphanAckLow ch s
  | .illegalStateEncoding isl code shadow => Sys2Proof.Machine.execIllegalStateEncoding isl code shadow s
  | .islandSelfReset isl => Sys2Proof.Machine.execIslandSelfReset isl s
  | .islandWake isl ch => Sys2Proof.Machine.execIslandWake isl ch s
  | .islandRunReached isl => Sys2Proof.Machine.execIslandRunReached isl s
  | .islandIdleStop isl loaded => Sys2Proof.Machine.execIslandIdleStop isl loaded s
  | .drainComplete isl => Sys2Proof.Machine.execDrainComplete isl s
  | .drainLimitExpiry isl => Sys2Proof.Machine.execDrainLimitExpiry isl s
  | .islandSupplyFail isl => Sys2Proof.Machine.execIslandSupplyFail isl s
  | .islReqGate r => Sys2Proof.Machine.execIslReqGate r s
  | .islReqReset r => Sys2Proof.Machine.execIslReqReset r s
  | .islReqWithdraw r => Sys2Proof.Machine.execIslReqWithdraw r s
  | .islandHoldTake isl ms => Sys2Proof.Machine.execIslandHoldTake isl ms s
  | .islandHoldRelease isl => Sys2Proof.Machine.execIslandHoldRelease isl s
  | .holdLeaseExpiry isl => Sys2Proof.Machine.execHoldLeaseExpiry isl s
  | .holdExpirySignal isl => Sys2Proof.Machine.execHoldExpirySignal isl s
  | .wakeComparatorWake => Sys2Proof.Machine.execWakeComparatorWake s
  | .firmwareRetry work ok => Sys2Proof.Machine.execFirmwareRetry work ok s
  | .mainPowerUp => Sys2Proof.Machine.execMainPowerUp s
  | .vdd5Good => Sys2Proof.Machine.execVdd5Good s
  | .vcoreGood => Sys2Proof.Machine.execVcoreGood s
  | .strapSample hostsel facEn twinUp twinDown => Sys2Proof.Machine.execStrapSample hostsel facEn twinUp twinDown s
  | .strapDefaultTimeout => Sys2Proof.Machine.execStrapDefaultTimeout s
  | .bootSlotTry => Sys2Proof.Machine.execBootSlotTry s
  | .firmwareStart torn ages => Sys2Proof.Machine.execFirmwareStart torn ages s
  | .rstoRelease => Sys2Proof.Machine.execRstoRelease s
  | .rstNLow => Sys2Proof.Machine.execRstNLow s
  | .rstNWiden => Sys2Proof.Machine.execRstNWiden s
  | .rstNRelease => Sys2Proof.Machine.execRstNRelease s
  | .vcoreBrownout => Sys2Proof.Machine.execVcoreBrownout s
  | .devResetMain r => Sys2Proof.Machine.execDevResetMain r s
  | .devResetFull r => Sys2Proof.Machine.execDevResetFull r s
  | .keeperMainReset => Sys2Proof.Machine.execKeeperMainReset s
  | .backupPowerOn => Sys2Proof.Machine.execBackupPowerOn s
  | .stationTimeLoad n => Sys2Proof.Machine.execStationTimeLoad n s
  | .x32Qualified cycles gap predicted => Sys2Proof.Machine.execX32Qualified cycles gap predicted s
  | .x32Changeover => Sys2Proof.Machine.execX32Changeover s
  | .x32QualTimeout => Sys2Proof.Machine.execX32QualTimeout s
  | .x32RestartAttempt => Sys2Proof.Machine.execX32RestartAttempt s
  | .x32Stopped => Sys2Proof.Machine.execX32Stopped s
  | .switchoverToVbk => Sys2Proof.Machine.execSwitchoverToVbk s
  | .switchoverToMain => Sys2Proof.Machine.execSwitchoverToMain s
  | .vbkLowCheck mv => Sys2Proof.Machine.execVbkLowCheck mv s
  | .trickleStop => Sys2Proof.Machine.execTrickleStop s
  | .trickleRestart => Sys2Proof.Machine.execTrickleRestart s
  | .bkCopyFailed copy held => Sys2Proof.Machine.execBkCopyFailed copy held s
  | .ringEntryRelease seq => Sys2Proof.Machine.execRingEntryRelease seq s
  | .l3Evaluate swing => Sys2Proof.Machine.execL3Evaluate swing s
  | .lfrcCalStart => Sys2Proof.Machine.execLfrcCalStart s
  | .lfrcCalEnd err temp => Sys2Proof.Machine.execLfrcCalEnd err temp s
  | .aorcMeasure hz => Sys2Proof.Machine.execAorcMeasure hz s
  | .xhMeasure ppb => Sys2Proof.Machine.execXhMeasure ppb s
  | .pllLockLoss => Sys2Proof.Machine.execPllLockLoss s
  | .pllRelock => Sys2Proof.Machine.execPllRelock s
  | .compLoad ts0 => Sys2Proof.Machine.execCompLoad ts0 s
  | .compTempWake ts0 => Sys2Proof.Machine.execCompTempWake ts0 s
  | .ppsPulse stamp => Sys2Proof.Machine.execPpsPulse stamp s
  | .nmeaSentence good start stop minute sec => Sys2Proof.Machine.execNmeaSentence good start stop minute sec s
  | .ptpExchange offset delay gmClass ptpScale => Sys2Proof.Machine.execPtpExchange offset delay gmClass ptpScale s
  | .refInputMissing => Sys2Proof.Machine.execRefInputMissing s
  | .refQualifyTimeout => Sys2Proof.Machine.execRefQualifyTimeout s
  | .refLabelWrite r => Sys2Proof.Machine.execRefLabelWrite r s
  | .refAcceptWrite r => Sys2Proof.Machine.execRefAcceptWrite r s
  | .driftObservation rbar u1 u2 u3 l => Sys2Proof.Machine.execDriftObservation rbar u1 u2 u3 l s
  | .learnResetWrite r => Sys2Proof.Machine.execLearnResetWrite r s
  | .modelStore => Sys2Proof.Machine.execModelStore s
  | .episodeRollover => Sys2Proof.Machine.execEpisodeRollover s
  | .ppsOutPulse => Sys2Proof.Machine.execPpsOutPulse s
  | .rangeEndReached => Sys2Proof.Machine.execRangeEndReached s
  | .leapTableExpired => Sys2Proof.Machine.execLeapTableExpired s
  | .slewAddWrite r => Sys2Proof.Machine.execSlewAddWrite r s
  | .slewComplete => Sys2Proof.Machine.execSlewComplete s
  | .timeStepWrite r peer => Sys2Proof.Machine.execTimeStepWrite r peer s
  | .timeStepFWrite r peer => Sys2Proof.Machine.execTimeStepFWrite r peer s
  | .timeSetWrite r peer => Sys2Proof.Machine.execTimeSetWrite r peer s
  | .stepWithdraw r => Sys2Proof.Machine.execStepWithdraw r s
  | .stepApply peerOk => Sys2Proof.Machine.execStepApply peerOk s
  | .read r => Sys2Proof.Machine.execRead r s
  | .refusedResponseSend k => Sys2Proof.Machine.execRefusedResponseSend k s
  | .write r => Sys2Proof.Machine.execWrite r s
  | .gather r => Sys2Proof.Machine.execGather r s
  | .gatherFreeze lost => Sys2Proof.Machine.execGatherFreeze lost s
  | .scatter r => Sys2Proof.Machine.execScatter r s
  | .commit r peer => Sys2Proof.Machine.execCommit r peer s
  | .commitCheckOnly r peer => Sys2Proof.Machine.execCommitCheckOnly r peer s
  | .discard r => Sys2Proof.Machine.execDiscard r s
  | .lease r => Sys2Proof.Machine.execLease r s
  | .release r => Sys2Proof.Machine.execRelease r s
  | .subscribe r => Sys2Proof.Machine.execSubscribe r s
  | .unsubscribe r => Sys2Proof.Machine.execUnsubscribe r s
  | .logRead r => Sys2Proof.Machine.execLogRead r s
  | .doorbell r => Sys2Proof.Machine.execDoorbell r s
  | .echo r => Sys2Proof.Machine.execEcho r s
  | .unknownOpcode r op => Sys2Proof.Machine.execUnknownOpcode r op s
  | .imageBegin r => Sys2Proof.Machine.execImageBegin r s
  | .imageData r => Sys2Proof.Machine.execImageData r s
  | .imageFinish r => Sys2Proof.Machine.execImageFinish r s
  | .imageAbort r => Sys2Proof.Machine.execImageAbort r s
  | .imageActivate r => Sys2Proof.Machine.execImageActivate r s
  | .imageConfirm r => Sys2Proof.Machine.execImageConfirm r s
  | .fwAutoConfirm => Sys2Proof.Machine.execFwAutoConfirm s
  | .fwSessionTimeout => Sys2Proof.Machine.execFwSessionTimeout s
  | .watchInterval cid slot atWrite => Sys2Proof.Machine.execWatchInterval cid slot atWrite s
  | .subscriptionExpiry cid slot => Sys2Proof.Machine.execSubscriptionExpiry cid slot s
  | .commitPrepare => Sys2Proof.Machine.execCommitPrepare s
  | .commitPrepared => Sys2Proof.Machine.execCommitPrepared s
  | .commitPrepDeadline answered => Sys2Proof.Machine.execCommitPrepDeadline answered s
  | .commitCheckStrobe peerPrepared => Sys2Proof.Machine.execCommitCheckStrobe peerPrepared s
  | .commitStore => Sys2Proof.Machine.execCommitStore s
  | .parisonIdleDiscard cid => Sys2Proof.Machine.execParisonIdleDiscard cid s
  | .cmWithdrawWrite r => Sys2Proof.Machine.execCmWithdrawWrite r s
  | .cmWithdrawAnyWrite r => Sys2Proof.Machine.execCmWithdrawAnyWrite r s
  | .leaseExpiry cid num => Sys2Proof.Machine.execLeaseExpiry cid num s
  | .leaseRequestTimeout cid num => Sys2Proof.Machine.execLeaseRequestTimeout cid num s
  | .lsRenewWrite r => Sys2Proof.Machine.execLsRenewWrite r s
  | .lsDropWrite r => Sys2Proof.Machine.execLsDropWrite r s
  | .revokeAnyWrite r => Sys2Proof.Machine.execRevokeAnyWrite r s
  | .revocationEffect cid num => Sys2Proof.Machine.execRevocationEffect cid num s
  | .endedSlotExpiry cid num => Sys2Proof.Machine.execEndedSlotExpiry cid num s
  | .timerArm r => Sys2Proof.Machine.execTimerArm r s
  | .timerDisarm r => Sys2Proof.Machine.execTimerDisarm r s
  | .timerFire cid handle => Sys2Proof.Machine.execTimerFire cid handle s
  | .planEntryFire hid tag => Sys2Proof.Machine.execPlanEntryFire hid tag s
  | .planExchange => Sys2Proof.Machine.execPlanExchange s
  | .evtRawTransition input rising upper stamp => Sys2Proof.Machine.execEvtRawTransition input rising upper stamp s
  | .evtEdgeQualify input held => Sys2Proof.Machine.execEvtEdgeQualify input held s
  | .latchEdge input rising upper answered cycles => Sys2Proof.Machine.execLatchEdge input rising upper answered cycles s
  | .latchHandover => Sys2Proof.Machine.execLatchHandover s
  | .grantLevelTake input level retake => Sys2Proof.Machine.execGrantLevelTake input level retake s
  | .l4Evaluate input p => Sys2Proof.Machine.execL4Evaluate input p s
  | .fbRefRunExpiry => Sys2Proof.Machine.execFbRefRunExpiry s
  | .claim r => Sys2Proof.Machine.execClaim r s
  | .complete r => Sys2Proof.Machine.execComplete r s
  | .ringStatus r => Sys2Proof.Machine.execRingStatus r s
  | .doorbellWrite r => Sys2Proof.Machine.execDoorbellWrite r s
  | .enSetWrite r => Sys2Proof.Machine.execEnSetWrite r s
  | .enClrWrite r => Sys2Proof.Machine.execEnClrWrite r s
  | .pendSetWrite r => Sys2Proof.Machine.execPendSetWrite r s
  | .pendClrWrite r => Sys2Proof.Machine.execPendClrWrite r s
  | .holdoffEnd g => Sys2Proof.Machine.execHoldoffEnd g s
  | .claimTimeout target seq => Sys2Proof.Machine.execClaimTimeout target seq s
  | .t0Claim => Sys2Proof.Machine.execT0Claim s
  | .notifierClaim => Sys2Proof.Machine.execNotifierClaim s
  | .canSegTimeout cid tag => Sys2Proof.Machine.execCanSegTimeout cid tag s
  | .canTxTimeout => Sys2Proof.Machine.execCanTxTimeout s
  | .canBusError tec rec_ => Sys2Proof.Machine.execCanBusError tec rec_ s
  | .canBoffHoldExpiry => Sys2Proof.Machine.execCanBoffHoldExpiry s
  | .canRecoveryComplete => Sys2Proof.Machine.execCanRecoveryComplete s
  | .t1lLinkUp amp24 master => Sys2Proof.Machine.execT1lLinkUp amp24 master s
  | .t1lLinkDown => Sys2Proof.Machine.execT1lLinkDown s
  | .icmpv6Echo f source ident seq => Sys2Proof.Machine.execIcmpv6Echo f source ident seq s
  | .ptpSyncSend => Sys2Proof.Machine.execPtpSyncSend s
  | .hostSend addr typ sound => Sys2Proof.Machine.execHostSend addr typ sound s
  | .hostFetch addr whole => Sys2Proof.Machine.execHostFetch addr whole s
  | .hostStatus addr => Sys2Proof.Machine.execHostStatus addr s
  | .hostUnknownCommand addr => Sys2Proof.Machine.execHostUnknownCommand addr s
  | .kxStartWrite r => Sys2Proof.Machine.execKxStartWrite r s
  | .kxPeerWrite r => Sys2Proof.Machine.execKxPeerWrite r s
  | .kxExpiry cid => Sys2Proof.Machine.execKxExpiry cid s
  | .zeroizeWrite r => Sys2Proof.Machine.execZeroizeWrite r s
  | .entropyFault => Sys2Proof.Machine.execEntropyFault s
  | .vinOvervoltage vin => Sys2Proof.Machine.execVinOvervoltage vin s
  | .vsysOvervoltage vsys => Sys2Proof.Machine.execVsysOvervoltage vsys s
  | .chargeTransition vin vsys temp ntcFault ibat longAbsorb => Sys2Proof.Machine.execChargeTransition vin vsys temp ntcFault ibat longAbsorb s
  | .prechargeTimeout => Sys2Proof.Machine.execPrechargeTimeout s
  | .chgClearWrite r => Sys2Proof.Machine.execChgClearWrite r s
  | .l5Evaluate vin vsys ichg limited => Sys2Proof.Machine.execL5Evaluate vin vsys ichg limited s
  | .mpptSweep voc best => Sys2Proof.Machine.execMpptSweep voc best s
  | .l6Evaluate ib devMw => Sys2Proof.Machine.execL6Evaluate ib devMw s
  | .l7Evaluate temp ntcFault => Sys2Proof.Machine.execL7Evaluate temp ntcFault s
  | .socRestCorrection vsys => Sys2Proof.Machine.execSocRestCorrection vsys s
  | .hourBoundary => Sys2Proof.Machine.execHourBoundary s
  | .budgetCompute => Sys2Proof.Machine.execBudgetCompute s
  | .batAlarmChange vsys => Sys2Proof.Machine.execBatAlarmChange vsys s
  | .snowCheck => Sys2Proof.Machine.execSnowCheck s
  | .pwNightWake charge vin vsys => Sys2Proof.Machine.execPwNightWake charge vin vsys s
  | .railBandCross rail band entered mv => Sys2Proof.Machine.execRailBandCross rail band entered mv s
  | .upDelayExpiry rail => Sys2Proof.Machine.execUpDelayExpiry rail s
  | .railGood rail => Sys2Proof.Machine.execRailGood rail s
  | .rampTimeout rail => Sys2Proof.Machine.execRampTimeout rail s
  | .downDelayExpiry rail => Sys2Proof.Machine.execDownDelayExpiry rail s
  | .railOffReached rail => Sys2Proof.Machine.execRailOffReached rail s
  | .dischargeTimeout rail => Sys2Proof.Machine.execDischargeTimeout rail s
  | .fltNAsserted => Sys2Proof.Machine.execFltNAsserted s
  | .fltNRelease lineHigh => Sys2Proof.Machine.execFltNRelease lineHigh s
  | .fltHoldExpiry cool => Sys2Proof.Machine.execFltHoldExpiry cool s
  | .seqClearWrite r => Sys2Proof.Machine.execSeqClearWrite r s
  | .retryRestore o => Sys2Proof.Machine.execRetryRestore o s
  | .lswRampDone k => Sys2Proof.Machine.execLswRampDone k s
  | .lswCurrentLimit k => Sys2Proof.Machine.execLswCurrentLimit k s
  | .lswOvertemp k => Sys2Proof.Machine.execLswOvertemp k s
  | .lswLoadCheck k ma meanMw => Sys2Proof.Machine.execLswLoadCheck k ma meanMw s
  | .margReqWrite r => Sys2Proof.Machine.execMargReqWrite r s
  | .margTargetReached m => Sys2Proof.Machine.execMargTargetReached m s
  | .wdKeyArm r => Sys2Proof.Machine.execWdKeyArm r s
  | .wdKeyService r => Sys2Proof.Machine.execWdKeyService r s
  | .wdKeyBad r => Sys2Proof.Machine.execWdKeyBad r s
  | .wdCheckin r => Sys2Proof.Machine.execWdCheckin r s
  | .wdNap r => Sys2Proof.Machine.execWdNap r s
  | .wdPeriodEnd w => Sys2Proof.Machine.execWdPeriodEnd w s
  | .wdWindowOpen w => Sys2Proof.Machine.execWdWindowOpen w s
  | .wdGraceExpiry w => Sys2Proof.Machine.execWdGraceExpiry w s
  | .wdClockStop w => Sys2Proof.Machine.execWdClockStop w s
  | .wdStateIllegal w code shadow => Sys2Proof.Machine.execWdStateIllegal w code shadow s
  | .wdRstoEnd w => Sys2Proof.Machine.execWdRstoEnd w s
  | .tamperAssert src detail => Sys2Proof.Machine.execTamperAssert src detail s
  | .tamperRelease src => Sys2Proof.Machine.execTamperRelease src s
  | .tmpClearWrite r => Sys2Proof.Machine.execTmpClearWrite r s
  | .tamperHoldExpiry src => Sys2Proof.Machine.execTamperHoldExpiry src s
  | .shadowMismatch group sticky => Sys2Proof.Machine.execShadowMismatch group sticky s
  | .tmpTestWrite r => Sys2Proof.Machine.execTmpTestWrite r s
  | .tmpTestEnd detected => Sys2Proof.Machine.execTmpTestEnd detected s
  | .facOpenRequest => Sys2Proof.Machine.execFacOpenRequest s
  | .facSignature r x => Sys2Proof.Machine.execFacSignature r x s
  | .facChallengeExpiry => Sys2Proof.Machine.execFacChallengeExpiry s
  | .facLockoutEnd => Sys2Proof.Machine.execFacLockoutEnd s
  | .facIdleClose => Sys2Proof.Machine.execFacIdleClose s
  | .logArchiveWrite r => Sys2Proof.Machine.execLogArchiveWrite r s
  | .evidenceAppend => Sys2Proof.Machine.execEvidenceAppend s
  | .l1Evaluate freqs ts canary => Sys2Proof.Machine.execL1Evaluate freqs ts canary s
  | .l2Evaluate canary stretched edges => Sys2Proof.Machine.execL2Evaluate canary stretched edges s
  | .vmonBandCross mon high entered mv => Sys2Proof.Machine.execVmonBandCross mon high entered mv s
  | .loopInputLost loop monitor => Sys2Proof.Machine.execLoopInputLost loop monitor s
  | .loopInputReturn loop monitor => Sys2Proof.Machine.execLoopInputReturn loop monitor s
  | .scrubPassEnd mem rows programmed corrected => Sys2Proof.Machine.execScrubPassEnd mem rows programmed corrected s
  | .seedRepair mem => Sys2Proof.Machine.execSeedRepair mem s
  | .fieldRepairStore => Sys2Proof.Machine.execFieldRepairStore s
  | .eccUncorrectable obj row scrub victim op => Sys2Proof.Machine.execEccUncorrectable obj row scrub victim op s
  | .blockRetire mem block => Sys2Proof.Machine.execBlockRetire mem block s
  | .twinHelloSend => Sys2Proof.Machine.execTwinHelloSend s
  | .twinHello f h => Sys2Proof.Machine.execTwinHello f h s
  | .twinHeartbeatSend => Sys2Proof.Machine.execTwinHeartbeatSend s
  | .twinHeartbeat f state word echo count ready => Sys2Proof.Machine.execTwinHeartbeat f state word echo count ready s
  | .twinHeartbeatMiss => Sys2Proof.Machine.execTwinHeartbeatMiss s
  | .twinSyncSend => Sys2Proof.Machine.execTwinSyncSend s
  | .twinSync f t1 t2 t3 t4 leadState leadUnc leadSigma leadLocked => Sys2Proof.Machine.execTwinSync f t1 t2 t3 t4 leadState leadUnc leadSigma leadLocked s
  | .twinDigestCompute => Sys2Proof.Machine.execTwinDigestCompute s
  | .twinDigest f instant digest => Sys2Proof.Machine.execTwinDigest f instant digest s
  | .twinRecord f stamp source kind flags detail => Sys2Proof.Machine.execTwinRecord f stamp source kind flags detail s
  | .twinCommit f items shape both => Sys2Proof.Machine.execTwinCommit f items shape both s
  | .twinStep f delta at_ forced both => Sys2Proof.Machine.execTwinStep f delta at_ forced both s
  | .twinValues f items => Sys2Proof.Machine.execTwinValues f items s
  | .twinResolveWrite r => Sys2Proof.Machine.execTwinResolveWrite r s
  | .wakeNLow => Sys2Proof.Machine.execWakeNLow s
  | .wakeNHigh => Sys2Proof.Machine.execWakeNHigh s
  | .bkStateLoss => Sys2Proof.Machine.execBkStateLoss s
  | .bkCopyReload copy held voted => Sys2Proof.Machine.execBkCopyReload copy held voted s
  | .converterVinLowStop vin vsys => Sys2Proof.Machine.execConverterVinLowStop vin vsys s
  | .fltNLineReleased => Sys2Proof.Machine.execFltNLineReleased s
  | .bankSupplyChange bankB good => Sys2Proof.Machine.execBankSupplyChange bankB good s
  | .ptpAnnounceReceived f part parent utc => Sys2Proof.Machine.execPtpAnnounceReceived f part parent utc s
  | .announceReceiptTimeout => Sys2Proof.Machine.execAnnounceReceiptTimeout s
  | .ptpAnnounceSend => Sys2Proof.Machine.execPtpAnnounceSend s
  | .ptpDelayReqReceived f requester => Sys2Proof.Machine.execPtpDelayReqReceived f requester s
  | .canSegmentReceived fd dir node cid tag reserved first last index total len => Sys2Proof.Machine.execCanSegmentReceived fd dir node cid tag reserved first last index total len s
  | .canFrameTransmitted => Sys2Proof.Machine.execCanFrameTransmitted s
  | .neighbourDiscoveryFrame f advert target source mac => Sys2Proof.Machine.execNeighbourDiscoveryFrame f advert target source mac s
  | .ppsOutPulseEnd => Sys2Proof.Machine.execPpsOutPulseEnd s
  | .episodeCounted => Sys2Proof.Machine.execEpisodeCounted s
  | .keyTableRebuilt => Sys2Proof.Machine.execKeyTableRebuilt s

end Sys2Proof.Machine
end

