-- ==== Sys2Proof/Machine/Tick.lean ====
section
/-! DEFINITION. What an idle step does: one cycle of BK's tick source (log entry 20). Everything that falls due at a time is a
command of the table; the cycle moves the clocks alone, BK's by its compensated tick edges and FB's by its steering word. -/
namespace Sys2Proof.Machine
open Host

/-- BK's clock counts: BK has a supply and its state, and station time is not at its greatest value, which it holds (R216). -/
def State.ticks (s : State) : Bool := s.runs .bk && !s.bk.lost && !s.tim.rangeEnd

/-- The clocks of an idle step: one cycle of BK's tick source passes, and in FB its 2,048 timebase cycles (R180, R182, R186). -/
def State.pulse (s : State) : State := if s.ticks then s.fbCycle.bkCycle else s

/-- An idle step: the clocks run, and requests that wait for nothing any longer are served. -/
def State.tick (s : State) : State := s.pulse.serveReady

end Sys2Proof.Machine
end

