-- ==== Sys2Proof/Machine/Step.lean ====
section
/-! DEFINITION. One step of the block: the command at the front of the queue, or a tick of the clock where none waits. -/
namespace Sys2Proof.Machine
open Host

/-- The commands that wait behind the first. -/
def State.rest (s : State) : State := { s with pending := s.pending.tail }

/-- One step: exec of the command at the front of the queue, on the state with the rest of the queue; a tick on an empty one. -/
def step (s : State) : Outcome State Fault Refusal :=
  match s.pending with
  | [] => .next s.tick
  | c :: _ => exec c s.rest

/-- A command put at the front of the queue. -/
def State.ask (s : State) (c : Instr) : State := { s with pending := c :: s.pending }

/-- The state with the command that a word spells at the front of its queue; no word spells one. -/
def State.withFetchWord (s : State) (nbits w : Nat) : State :=
  match decodeTableWord nbits w with
  | some c => s.ask c
  | none => s

end Sys2Proof.Machine
end

