-- ==== Sys2Proof/Safety.lean ====
section
/-! DEFINITION. What the statements speak of: the form of a sound state, what every command keeps of any state, and the frames
that say what a command leaves alone. -/
namespace Sys2Proof.Machine
open Host

/-- The form of a sound state. A program run from reset never leaves it, nor does any step from a state that has it. -/
structure State.Inv (s : State) : Prop where
  /-- The dictionary's canonical form: addresses strictly rising, no value equal to its default. -/
  dict : dictWf s.dict = true
  /-- The device keeps the latest eight responses of each CID, no more (R256). -/
  answered : ∀ c, (s.exch.answered.filter (fun a => a.cid == c)).length ≤ 8
  /-- Every record of the store has an identity given out before. -/
  recs : ∀ r ∈ s.dlv.recs, r.id < s.dlv.nextRec
  /-- A ring's sequence numbers have 16 bits (R433). -/
  seq0 : s.dlv.seq0 < 65536
  seq1 : s.dlv.seq1 < 65536
  seq2 : s.dlv.seq2 < 65536
  seq3 : s.dlv.seq3 < 65536
  /-- The backup capture ring holds at most eight entries (R160). -/
  ring : s.bk.ring.length ≤ 8
  /-- The CAN transmit queue holds at most eight messages (R470). -/
  canTx : s.port.canTx.length ≤ 8
  /-- Three watchdog channels, fourteen outputs, twenty handshake channels. -/
  wd : s.wd.length = 3
  outs : s.rail.outs.length = 14
  chans : s.isl.chans.length = 20
  /-- Station time has 64 bits (R216). -/
  st : s.clk.st ≤ stMax
  v : s.clk.v ≤ stMax / 8192

/-- What every command keeps, whatever it does: a sound state stays sound; the waiting commands are no command's business;
what has left the device is never taken back; a free value drawn is never drawn again. -/
structure Keeps (s t : State) : Prop where
  inv : s.Inv → t.Inv
  pending : t.pending = s.pending
  out : s.out <+: t.out
  free : s.freeN ≤ t.freeN

/-- t is s but for the registers listed. -/
def OnlyEls (l : List Nat) (s t : State) : Prop := (∀ a, a ∉ l → t.el a = s.el a) ∧ { t with dict := s.dict } = s

/-- A request of a client is served now, over the control core's channel to an island (R62 to R71). -/
def State.servedIn (s : State) (i : Island) : Prop := s.crossing i (chanTo i) = .serve

/-- A write that the exchange lets through to its element (steps 1 to 7 of R258), whose island serves it, and SC too where its
effect needs a signature (R62 to R71): t is the state in which the request's counter and its use of the key are taken, w the
requester. `boot`: one of the operations R541 offers unprovisioned. -/
structure LetThrough (s : State) (r : Req) (boot : Bool) (t : State) (w : Who) : Prop where
  goes : s.accept r 2 .q false false boot = .go t w
  checked : t.writeChecks r w = none
  served : t.servedIn (homeOf r.addr)
  signed : signs r.addr = true → t.crossing .sc 9 = .serve
  heard : t.exch.muted = false

/-- A request that is authentic and within its limits (steps 1 to 4 of R258) while the device is in full service, and is to be
answered: t is the state in which its counter and its use of the key are taken, w the requester. -/
def Admitted (s : State) (r : Req) (op : Nat) (t : State) (w : Who) : Prop :=
  s.accept r op .q false false false = .go t w ∧ t.full = true ∧ t.exch.muted = false

end Sys2Proof.Machine
end

