-- ==== Sys2Proof/Certificates/Slice0/Obligations.lean ====
section
/-! DEFINITION. The statements for the provers, chapter by chapter of the spec. -/
open Sys2Proof Sys2Proof.Machine Host

/-! ### The block -/

/-- A step takes the command at the front of the queue and is exec of it on the state with the rest of the queue, whatever the
command and the state; a command put at the front is the one that the next step runs. -/
def Obligations.StepTakesFront : Prop :=
  (∀ (c : Instr) (l : List Instr) (s : State), s.pending = c :: l → step s = exec c { s with pending := l }) ∧
  (∀ (c : Instr) (s : State), step (s.ask c) = exec c s)

/-- On an empty queue, with no request waiting for an island, a step is one cycle of BK's tick source (the model's choice, log
entry 20). Where BK does not count nothing changes. Where it counts, the compensation setting joins its accumulator; V moves by
one, by two where the accumulator carries, and by none where it borrows, its three copies with it; and station time in FB, while
no slew and no phase term runs, moves by 2,048 timebase cycles of 4 × (1 + COMP_WORD × 2⁻⁴⁰) units of 2⁻²⁸ s. -/
def Obligations.IdleStepTicks : Prop :=
  ∀ s : State, s.pending = [] → s.isl.held = [] → ∃ t : State, step s = .next t ∧
    (s.ticks = false → t = s) ∧
    (∀ a : Int, s.ticks = true → a = s.bk.acc + s.bk.comp → s.bk.copies = [s.clk.v, s.clk.v, s.clk.v] →
      s.el Reg.BK_VOTE % 8 = 0 → s.clk.v ≤ stMax / 8192 →
      (t.bk.acc : Int) = a % 2 ^ 30 ∧
      t.clk.v = min (s.clk.v + (if a < 0 then 0 else if a < 2 ^ 30 then 1 else 2)) (stMax / 8192) ∧
      t.bk.copies = [t.clk.v, t.clk.v, t.clk.v] ∧
      (∀ x : Int, s.clk.loaded = true → s.corrLeft = 0 → s.slewLeft = 0 → s.osc.phaseRun = 0 →
        x = ((s.clk.st + 8192) * 2 ^ 38 + s.clk.sub : Nat) + s.elS 4 Reg.COMP_WORD * 2 ^ 11 → 0 ≤ x → x < stMax * 2 ^ 38 →
        (t.clk.st * 2 ^ 38 + t.clk.sub : Nat) = x))

/-- Right after reset: no command waits, station time is 0 and UNSET, BK holds the RUN code and every other island the code of
UNPOWERED, RESET_CAUSE reads 0x01, PROV_STATE reads 0x01, TWIN_STATE reads SINGLE, every handshake channel is IDLE, every output
is OFF; and the state has the form that every step keeps. -/
def Obligations.ResetValues : Prop :=
  State.reset.Inv ∧ State.reset.pending = [] ∧ State.reset.now = 0 ∧ State.reset.el Reg.TIME_STATE = 0 ∧
  State.reset.isl_ .bk = islRun ∧ (∀ i : Island, i ≠ .bk → State.reset.isl_ i = islUnpowered) ∧
  State.reset.boot.cause = 0x01 ∧ State.reset.el Reg.PROV_STATE = 1 ∧ State.reset.el Reg.TWIN_STATE = 0 ∧
  (∀ n, n < 20 → State.reset.chan n = .idle) ∧ (∀ o, o < 14 → (State.reset.outp o).state = oOff) ∧
  State.reset.out = []

/-- Every step keeps the form of a sound state: the dictionary in its canonical form, eight responses kept for a CID at most, no
record that was not numbered, ring sequences of 16 bits, the backup ring and the CAN transmit queue within their eight places,
three watchdog channels, fourteen outputs and twenty handshake channels, and station time of 64 bits. -/
def Obligations.StepKeepsInv : Prop :=
  ∀ s t : State, s.Inv → step s = .next t → t.Inv

/-- Every command, in every state, answers a next state; it leaves the queue of waiting commands alone, takes back nothing that
has left the device, and draws no free value a second time. -/
def Obligations.CommandsComplete : Prop :=
  ∀ (c : Instr) (s : State), ∃ t : State, exec c s = .next t ∧ t.pending = s.pending ∧ s.out <+: t.out ∧ s.freeN ≤ t.freeN ∧
    (s.Inv → t.Inv)

/-- The registers: one that is written reads what was written, no other changes, a sum stays at its greatest value, and the
store keeps its canonical form, in which equal contents are equal data. -/
def Obligations.RegisterStore : Prop :=
  (∀ (s : State) (a v : Nat), (s.put a v).el a = v ∧ (∀ b, b ≠ a → (s.put a v).el b = s.el b) ∧
    { s.put a v with dict := s.dict } = s ∧ (dictWf s.dict = true → dictWf (s.put a v).dict = true)) ∧
  (∀ (s : State) (a n : Nat), (s.inc n a).el a = min (s.el a + 1) (2 ^ (8 * n) - 1)) ∧
  (∀ d e : List (Nat × Nat), dictWf d = true → dictWf e = true → (∀ a, dictGet d a = dictGet e a) → d = e)

/-! ### Chapter 02: islands and handshakes -/

/-- A handshake that times out in REQUEST, with no request of the device itself known to stand on the channel, leaves its channel
in ORPHAN and counts an abandoned request; in RELEASE, or in ORPHAN with ack still high, it leaves it STUCK, unless the
responding island is UNPOWERED and so holds its ack low; a channel in ORPHAN whose ack is low is IDLE again. After a change of a
channel, requests held for an island go on where nothing holds them any longer; with none held nothing else happens. A channel
set shows its bit of CH_STUCK; no other channel and no other register changes. -/
def Obligations.HandshakeChannels : Prop :=
  (∀ (ch : Fin 20) (op : Nat) (s : State), s.chan ch = .idle → s.victim ch = none →
    exec (.handshakeTimeout ch 0 none op) s = .next ((s.setChan ch .orphan).inc 4 (Reg.CH_ABANDON ch))) ∧
  (∀ (ch : Fin 20) (v : Option Req) (op : Nat) (s : State),
    (s.isl_ (chanEnds ch).2 ≠ islUnpowered →
      (s.chan ch = .idle → exec (.handshakeTimeout ch 1 v op) s = .next (s.setChan ch .stuck).serveReady) ∧
      (s.chan ch = .orphan → exec (.handshakeTimeout ch 2 v op) s = .next (s.setChan ch .stuck).serveReady)) ∧
    (s.isl_ (chanEnds ch).2 = islUnpowered →
      exec (.handshakeTimeout ch 1 v op) s = .next s ∧ exec (.handshakeTimeout ch 2 v op) s = .next s)) ∧
  (∀ (ch : Fin 20) (s : State), s.chan ch = .orphan →
    exec (.orphanAckLow ch) s = .next (s.setChan ch .idle).serveReady) ∧
  (∀ (ch : Fin 20) (c : Chan) (s t : State), s.Inv → t = s.setChan ch c →
    t.chan ch = c ∧ t.el Reg.CH_STUCK = setBit (s.el Reg.CH_STUCK) ch (c == .stuck) ∧
    (∀ n, n ≠ ch.val → t.chan n = s.chan n) ∧ (∀ a, a ≠ Reg.CH_STUCK → t.el a = s.el a) ∧
    { t with dict := s.dict, isl := s.isl } = s ∧ { t.isl with chans := s.isl.chans } = s.isl) ∧
  (∀ s : State, s.isl.held = [] → s.serveReady = s)

/-- A request lost in its handshake. One that the device holds for the channel completes with ABANDONED, detail 0x01. Of another
that had reached the island, nothing says whether its work was done: it was, or it was not; its channel is in ORPHAN, counted,
and it ends with ABANDONED, detail 0x01, while a persistent write or an image block over CH11 is kept, to be repeated by the
firmware; one that SC did not check is dropped, one that CR did not take answered as for an absent core. The firmware repeats
what an absent island or a lost handshake left undone: a log append or a signing without limit, each failure counted; a
persistent write or an image block three times, each failure counted on CH11, ABANDONED after the third. -/
def Obligations.LostRequests : Prop :=
  (∀ (ch : Fin 20) (v : Option Req) (h : Held) (op : Nat) (s : State), s.chan ch = .idle → s.victim ch = some h →
    exec (.handshakeTimeout ch 0 v op) s = .next ((s.setChan ch .orphan).abandon h 1).serveReady) ∧
  (∀ (ch : Fin 20) (r : Req) (op : Nat) (s : State), s.chan ch = .idle → s.victim ch = none →
    exec (.handshakeTimeout ch 0 (some r) op) s = .next (s.unanswered ch r op).serveReady) ∧
  (∀ (ch op : Nat) (r : Req) (s t : State) (w : Who), ch ≠ 10 → ch ≠ 14 →
    s.accept r op (classOf op) false false false = .go t w →
    ∃ u v : State, (u = t.drawn ∨ u = t.drawn.unheard r op w) ∧ v = (u.setChan ch .orphan).inc 4 (Reg.CH_ABANDON ch) ∧
      (ch = 11 ∧ (op = 2 ∨ (op = 0x0D ∧ imIsBlock r = true)) → s.unanswered ch r op = v.retryLater r op) ∧
      (¬ (ch = 11 ∧ (op = 2 ∨ (op = 0x0D ∧ imIsBlock r = true))) →
        s.unanswered ch r op = v.finish r op (classOf op) (.abandoned 1) [])) ∧
  (∀ (r : Req) (op : Nat) (s : State),
    s.unanswered 10 r op = (s.setChan 10 .orphan).inc 4 (Reg.CH_ABANDON 10) ∧
    s.unanswered 14 r op = ((s.setChan 14 .orphan).inc 4 (Reg.CH_ABANDON 14)).coreAbsent r op 1) ∧
  (∀ (k : Fin 4) (s : State), k.val < 2 → s.runs .cr = true → s.boot.firmware = true →
    exec (.firmwareRetry k true) s = .next ((s.appendOldest.serveReady).wdSync s) ∧
    (s.log.waiting ≠ [] →
      exec (.firmwareRetry k false) s = .next (s.inc 4 (Reg.CH_ABANDON (if k.val = 1 then 9 else 11))))) ∧
  (∀ (k : Fin 4) (x : Nat × Req × Nat) (s t : State), 2 ≤ k.val → s.runs .cr = true → s.boot.firmware = true →
    s.isl.retries.find? (fun y => y.1 == (if k.val = 2 then 2 else 0x0D)) = some x →
    t = { s with isl := { s.isl with retries := s.isl.retries.erase x } } →
    (s.crossing .nv 11 = .serve →
      exec (.firmwareRetry k true) s = .next (t.retried x.1 x.2.1).serveReady ∧
      exec (.firmwareRetry k false) s = .next (s.retryAgain x 1).serveReady) ∧
    (∀ d ok, s.crossing .nv 11 = .shut d → exec (.firmwareRetry k ok) s = .next (s.retryAgain x d).serveReady) ∧
    (2 ≤ x.2.2 → ∀ d, s.retryAgain x d = (t.inc 4 (Reg.CH_ABANDON 11)).retriesSpent x.1 x.2.1 d) ∧
    (x.2.2 < 2 → ∀ d, ∃ u : State, u = s.retryAgain x d ∧
      u.isl = { s.isl with retries := s.isl.retries.erase x ++ [(x.1, x.2.1, x.2.2 + 1)] } ∧
      u.el (Reg.CH_ABANDON 11) = min (s.el (Reg.CH_ABANDON 11) + 1) (2 ^ 32 - 1) ∧
      (∀ a, a ≠ Reg.CH_ABANDON 11 → u.el a = s.el a) ∧ { u with dict := s.dict, isl := s.isl } = s))

/-- A wrapper that finds its state register and its shadow copy sound does nothing; where the code is illegal or the copy
differs, the island counts as UNPOWERED, its drain ends and source 10 asserts with the island's number, a control core's holds
ending with it; BK and AO rewrite theirs. The reset that follows loses the island's state and starts it, its outbound channels in
ORPHAN; the control core's start then has cause 0x0B. A request of the device to a GATED island wakes it and is held. FB sleeps
until one second before the instant it loaded into the wake comparator. STARTING ends in RUN: what the island does then follows,
a RESET is complete, requests held for it are served, and a request that waited for it acts. An island that meets its idle rule
drains to be gated, FB only once its wake comparator is loaded with its earliest instant. A drain serves the island's queue and
is complete when nothing outbound is left; at its limit what is still queued ends with ABANDONED, detail 0x04; it then goes
where it leads. An island whose supply fails is UNPOWERED at once, its state and its outbound requests lost. -/
def Obligations.IslandStates : Prop :=
  (∀ (i : Island) (code shadow : Nat) (s t u : State), s.mainPower = true → soundCodes code shadow = false →
    t = { s with isl := { s.isl with
      lostState := s.isl.lostState.erase i ++ [i], faulted := s.isl.faulted.erase i ++ [i]
      drains := s.isl.drains.filter (fun p => p.1 != i) } } →
    u = (t.setIsl i islUnpowered).tamperOn 10 (islNum i + 1) →
    (hasReset i = true → i ≠ .cr → exec (.illegalStateEncoding i code shadow) s = .next (u.wdSync s)) ∧
    (hasReset i = true → i = .cr → exec (.illegalStateEncoding i code shadow) s = .next (u.endHolds.wdSync s)) ∧
    (hasReset i = false → exec (.illegalStateEncoding i code shadow) s =
      .next ((s.tamperOn 10 (islNum i + 1)).tamperOff 10))) ∧
  (∀ (i : Island) (code shadow : Nat) (s : State), soundCodes code shadow = true →
    exec (.illegalStateEncoding i code shadow) s = .next s) ∧
  (∀ code shadow : Nat, soundCodes code shadow = true ↔ code ∈ [0x0F, 0x33, 0x55, 0x66, 0x69] ∧ shadow = 255 - code) ∧
  (∀ (i : Island) (s t u : State), hasReset i = true → s.isl_ i = islUnpowered → i ∈ s.isl.faulted → s.boot.vcore = true →
    t = ((((s.cutOff i).loseIsland i).resetChans i true).startIsl i).beginActing i 2 →
    u = { t with isl := { t.isl with faulted := t.isl.faulted.erase i } } →
    t.isl_ i = islStarting ∧
    (i ≠ .cr → exec (.islandSelfReset i) s = .next ((((u.holdsLost i).leasesGone i).tamperOff 10).wdSync s)) ∧
    (i = .cr → exec (.islandSelfReset i) s = .next ((((State.holdsLost { u with boot := { u.boot with
      cause := 0x0B, lost := min s.waitingEntries 0xFFFE } } .cr).leasesGone .cr).tamperOff 10).wdSync s))) ∧
  (∀ (i : Island) (ch : Fin 20) (s : State), s.isl_ i = islGated → onDemand i = true → (chanEnds ch).2 = i →
    exec (.islandWake i ch) s = .next ((s.wakeIsl i).hold ⟨some i, ch.val, none, 0, none⟩) ∧
    (i ≠ .cr → s.wakeIsl i = s.setIsl i islStarting) ∧ (i = .cr → s.wakeIsl i = s.wakeFb.setIsl .cr islStarting)) ∧
  (∀ (e : Nat) (s t : State), s.mainPower = true → s.isl_ .fb = islGated → s.isl.comparator = some e → s.chan 2 ≠ .stuck →
    t = s.reach ((e / stSecond - 1) * stSecond) → t.chan 2 ≠ .stuck →
    exec .wakeComparatorWake s =
      .next (State.setIsl { t with isl := { t.isl with comparator := none } } .fb islStarting)) ∧
  (∀ (i : Island) (s t : State), s.isl_ i = islStarting → s.boot.vcore = true → s.boot.rstLow = false →
    (i = .cr → s.runs .fb = true ∧ (s.boot.firmware = true ∨ s.boot.straps = true)) →
    (i = .nw → s.anyPort = true ∧ s.boot.firmware = true) → t = s.setIsl i islRun →
    exec (.islandRunReached i) s = .next (((((t.arrives i).resetDone i).serveReady).actPending i).wdSync s) ∧
    (i = .nv ∨ i = .bk ∨ i = .ao → t.arrives i = t) ∧ (i = .pw → t.arrives i = t.loadPw.settle.pass) ∧
    (i = .nw → t.arrives i = t.startPorts) ∧ (i = .sc → t.arrives i = t.scStarts.keysBack) ∧
    (i = .cr → t.arrives i = (if t.boot.firmware then t.owedZeroizes else t).wd0Wakes.storeAnchors) ∧
    (i = .fb → t.arrives i = State.fbBack { t with osc := { t.osc with pllLocked := true } })) ∧
  (∀ (i : Island) (b : Bool) (s : State), s.isl_ i = islRun → s.mayIdle i = true →
    (i ≠ .fb → i ≠ .cr → exec (.islandIdleStop i b) s = .next ((s.startDrain i .gate).wdSync s)) ∧
    (i = .cr → exec (.islandIdleStop i b) s = .next (((s.startDrain .cr .gate).endHolds.wdSync s).wdSync s)) ∧
    (i = .fb → b = true → exec (.islandIdleStop i b) s = .next ((State.startDrain
      { s with isl := { s.isl with comparator := s.earliestDue } } .fb .gate).wdSync s)) ∧
    (i = .fb → b = false → exec (.islandIdleStop i b) s = .next (s.inc 4 (Reg.CH_ABANDON 3)))) ∧
  (∀ (i : Island) (s t : State), s.isl_ i = islDraining → t = s.serveQueue i →
    (t.drained i = true → exec (.drainComplete i) s = .next (((t.drainDone i).serveReady).wdSync s)) ∧
    (t.drained i = false → exec (.drainComplete i) s = .next t) ∧
    exec (.drainLimitExpiry i) s = .next ((((s.abandonAll (fun h => h.isl == some i) 4).drainDone i).serveReady).wdSync s)) ∧
  (∀ (i : Island) (s t : State), i ≠ .fb → i ≠ .pw → s.isl.drains = [(i, .gate)] → s.acts i = false → t = s.leaveRequests i →
    t.isl.drains = [(i, .gate)] → t.acts i = false →
    s.drainDone i = State.setIsl { t with isl := { t.isl with drains := [] } } i islGated) ∧
  (∀ (i : Island) (s t u : State), hasReset i = true → s.isl_ i ≠ islUnpowered →
    t = ((s.cutOff i).loseIsland i).setIsl i islUnpowered →
    u = { t with isl := { t.isl with
      drains := t.isl.drains.filter (fun p => p.1 != i), lostState := t.isl.lostState.erase i ++ [i] } } →
    (t.isl.acting.find? (fun x => x.1 == i) = none →
      exec (.islandSupplyFail i) s = .next (((u.holdsLost i).leasesGone i).wdSync s)) ∧
    (∀ x, t.isl.acting.find? (fun x => x.1 == i) = some x →
      exec (.islandSupplyFail i) s = .next ((((u.islDone i x.2 5).holdsLost i).leasesGone i).wdSync s)))

/-- What a write to ISL_REQ answers, after which every request that no hold delays acts: FB takes no RESET, NW no GATE; the value
0 withdraws a request that has not begun to act; where the island's work forbids it CONFLICT; under a hold it waits, DEFERRED; an
absent island gives ABANDONED; else OK. A RESET written while a GATE acts turns its drain into one that resets; one written while
a GATE waits takes its place. A request acts on an island in RUN by a drain, FB's only with its wake comparator loaded; a GATED
island is reset, or found gated, at once (log entry 77). A hold of the keeper: at most 10 s, on one of five islands without a
pending request; its signal comes 250 ms before its end; its end, by release or expiry, lets what waited act. -/
def Obligations.IslandRequestsAndHolds : Prop :=
  (∀ (r : Req) (i : Island) (s t : State) (w : Who) (c : Instr) (v : Nat), LetThrough s r false t w →
    islOfReq r.addr = some i → (c = .islReqGate r ∧ r.value = [1] ∧ v = 1) ∨ (c = .islReqReset r ∧ r.value = [2] ∧ v = 2) ∨
      (c = .islReqWithdraw r ∧ r.value = [0] ∧ v = 0) →
    exec c s = .next ((t.islReq i v).1.answer r 2 (t.islReq i v).2 []).actAll) ∧
  (∀ (i : Island) (s : State), s.islReq .nw 1 = (s, .range 2 0) ∧ s.islReq .fb 2 = (s, .range 2 0) ∧
    (s.el (Reg.ISL_REQ (islNum i)) = 0 ∨ s.acts i = true → s.islReq i 0 = (s, .ok)) ∧
    (s.el (Reg.ISL_REQ (islNum i)) ≠ 0 → s.acts i = false → s.islReq i 0 = (s.put (Reg.ISL_REQ (islNum i)) 0, .ok))) ∧
  (∀ (i : Island) (v : Nat) (s : State), (v = 1 ∧ i ≠ .nw) ∨ (v = 2 ∧ i ≠ .fb) →
    (s.islConflict i = true → s.islReq i v = (s, .conflict 3)) ∧
    (s.islConflict i = false → s.acts i = true →
      (v = 2 → s.el (Reg.ISL_REQ (islNum i)) = 1 → s.islReq i v = ((State.put { s with isl := { s.isl with
        drains := s.isl.drains.map (fun p => if p.1 = i then (p.1, DrainTo.reset) else p) } }
        (Reg.ISL_REQ (islNum i)) 2).beginActing i 2, .ok)) ∧
      (v = 1 ∨ s.el (Reg.ISL_REQ (islNum i)) ≠ 1 → s.islReq i v = (s, .ok))) ∧
    (s.islConflict i = false → s.acts i = false → s.el (Reg.ISL_REQ (islNum i)) ≠ 0 →
      s.islReq i v = (if v = 2 then s.put (Reg.ISL_REQ (islNum i)) 2 else s, .deferred)) ∧
    (s.islConflict i = false → s.acts i = false → s.el (Reg.ISL_REQ (islNum i)) = 0 →
      (s.isHeld i = true → s.islReq i v = (s.put (Reg.ISL_REQ (islNum i)) v, .deferred)) ∧
      (s.isHeld i = false → s.isl_ i = islUnpowered → v = 1 ∨ i ∉ s.isl.faulted →
        s.islReq i v = (s.islDone i v 5, .abandoned 2)) ∧
      (s.isHeld i = false → s.isl_ i ≠ islUnpowered ∨ (v = 2 ∧ i ∈ s.isl.faulted) →
        s.islReq i v = (s.put (Reg.ISL_REQ (islNum i)) v, .ok)))) ∧
  (∀ (i : Island) (q : Nat) (s : State), q = s.el (Reg.ISL_REQ (islNum i)) →
    (q = 0 ∨ s.isHeld i = true ∨ s.acts i = true → s.actPending i = s) ∧
    (q ≠ 0 → s.isHeld i = false → s.acts i = false → s.actPending i = s.actRequest i q)) ∧
  (∀ (i : Island) (q : Nat) (s : State),
    (s.islConflict i = true → s.actRequest i q = s.islDone i q 3) ∧
    (s.islConflict i = false → s.isl_ i = islRun →
      (i ≠ .fb → s.actRequest i q = (s.beginActing i q).startDrain i (if q = 2 then .reset else .gate)) ∧
      (i = .fb → s.crossing .ao 3 = .serve → s.actRequest i q = (State.beginActing { s with isl := { s.isl with
        comparator := s.earliestDue } } .fb q).startDrain .fb .gate) ∧
      (i = .fb → s.crossing .ao 3 ≠ .serve → s.actRequest i q = (s.inc 4 (Reg.CH_ABANDON 3)).islDone .fb q 5)) ∧
    (s.islConflict i = false → s.isl_ i = islGated →
      (q = 2 → s.actRequest i q = (s.resetIsl i false).beginActing i 2) ∧ (q ≠ 2 → s.actRequest i q = s.islDone i q 0)) ∧
    (s.islConflict i = false → s.isl_ i = islStarting ∨ s.isl_ i = islDraining → s.actRequest i q = s)) ∧
  (∀ (i : Island) (ms : Nat) (s : State), i = .sc ∨ i = .fb ∨ i = .nw ∨ i = .pw ∨ i = .nv → s.runs .cr = true →
    s.boot.firmware = true → 0 < ms → ms ≤ 10000 → s.el (Reg.ISL_REQ (islNum i)) = 0 →
    exec (.islandHoldTake i ms) s = .next { s with isl := { s.isl with
      holds := s.isl.holds.filter (fun h => h.1 != i) ++ [(i, s.now + stMs ms, false)] } }) ∧
  (∀ (i : Island) (s : State), s.isHeld i = true → exec (.islandHoldRelease i) s = .next (s.endHold i).serveReady) ∧
  (∀ (i : Island) (s : State) (h : Island × Nat × Bool), s.isl.holds.find? (fun h => h.1 == i) = some h →
    exec (.holdLeaseExpiry i) s = .next ((s.reach h.2.1).endHold i).serveReady ∧
    ∀ t, t = s.reach (h.2.1 - stMs 250) → exec (.holdExpirySignal i) s = .next { t with isl := { t.isl with
      holds := t.isl.holds.map (fun x => if x.1 = i then (x.1, x.2.1, true) else x) } }) ∧
  (∀ (i : Island) (s t : State), t = { s with isl := { s.isl with holds := s.isl.holds.filter (fun h => h.1 != i) } } →
    s.endHold i = (t.actPending i).pendingResetActs ∧ t.isHeld i = false)

/-! ### Chapter 03: bring-up and reset -/

/-- The supplies come up in their order: VSYS above its level, with a backup-scope reset of a BK that lost its state; VDD5 good,
with AO in RUN, VAUX up, the reset outputs asserted and a start counted; VCORE good at 1.000 V, every unpowered main island
STARTING. An I/O bank's supply comes and goes by itself. The straps are taken once after each full or main reset: sampled once VDDIO_A is
good, by pull-up and pull-down for TWIN_ROLE, or the values not sampled with STRAP_DEFAULTED when VDDIO_A is late. A later
sample has no effect. The boot ROM tries the slot of BOOT_PREF first and the other second; an image that may start and verifies
starts, a trial image with its start counted first, in reduced service where its compatibility record excludes this silicon;
when neither slot yields one the recovery loader starts. A start of the firmware: the cause of the reset, the start's time and
the entries lost are shown, the image's values are chosen; then come the array's collapse, the settings of BK, the start entry
and the tamper responses, the hours and process banks missed, the live plan, the ports, the standing leases, the twin link, the
watchdogs and an arbiter pass. The start entry of the evidence log carries RESET_CAUSE, BOOT_SLOT, SERVICE_MODE and BOOT_LOST,
and the sticky flags and the switch-over pair with them; it is one entry of the station chain, made by the keeper. -/
def Obligations.BringUp : Prop :=
  (∀ s : State, s.boot.vsys = false → ∃ t : State, t = { s with boot := { s.boot with vsys := true } } ∧
    (s.bk.lost = false → exec .mainPowerUp s = .next t) ∧
    (s.bk.lost = true → exec .mainPowerUp s = .next t.backupReset)) ∧
  (∀ s : State, s.bk.lost = true → exec .backupPowerOn s = .next s.backupReset) ∧
  (∀ s u : State, s.boot.vsys = true → s.boot.vdd5 = false → u = { s with boot := { s.boot with
      vdd5 := true, vaux := true, cause := causeMerge s.boot.cause 2, rstoA := true, rstoB := true, straps := false,
      fullReset := true } } →
    ∃ t : State, exec .vdd5Good s = .next t ∧ t = ((u.startIsl .ao).setIsl .ao islRun).inc 4 Reg.RESET_COUNT ∧
      t.isl_ .ao = islRun ∧ t.boot = u.boot) ∧
  (∀ s : State, s.boot.vdd5 = true → s.boot.vcore = false → ∃ t : State,
    t = { s with boot := { s.boot with vcore := true }, lehr := { s.lehr with vcore := 1000 } } ∧
    exec .vcoreGood s = .next ((mainIslands.filter (fun i => s.isl_ i == islUnpowered)).foldl State.startIsl t)) ∧
  (∀ (good : Bool) (s : State),
    exec (.bankSupplyChange false good) s = .next { s with boot := { s.boot with vddioA := good } } ∧
    exec (.bankSupplyChange true good) s = .next { s with boot := { s.boot with vddioB := good } }) ∧
  (∀ (h f u d : Bool) (s : State), s.boot.straps = false → s.mainPower = true →
    exec (.strapSample h f u d) s = .next (State.twinStart (State.put
      { s with boot := { s.boot with vddioA := true, straps := true } } Reg.STRAPS
      ((if h then 1 else 0) + (if f then 2 else 0) +
        (match u, d with | true, true => 8 | false, false => 4 | true, false => 0 | false, true => 16))))) ∧
  (∀ (h f u d : Bool) (s : State), s.boot.straps = true → exec (.strapSample h f u d) s = .next s) ∧
  (∀ s : State, s.boot.straps = false → s.boot.vcore = true → s.boot.vddioA = false →
    exec .strapDefaultTimeout s =
      .next (State.put { s with boot := { s.boot with straps := true } } Reg.STRAPS (2 ^ 5))) ∧
  (∀ (s t : State) (i : Nat), s.runs .cr = true → s.boot.firmware = false → s.boot.chosen = false →
     i = (if s.boot.tries = 0 then (if s.el Reg.BOOT_PREF = 2 then 1 else 0)
       else 1 - (if s.el Reg.BOOT_PREF = 2 then 1 else 0)) →
     t = (if s.boot.tries = 0 then { s with boot := { s.boot with tries := 1 } } else (s.chooseImage 3 2).wdSync s) →
     (s.hdrOf i = none → exec .bootSlotTry s = .next t) ∧
     (∀ h u, s.hdrOf i = some h → u = (if s.slotState i = slConfirmed then s else s.setSlotTrials i (s.slotTrials i + 1)) →
       exec .bootSlotTry s = .next
         (if s.mayStart i then (u.chooseImage (i + 1) (if u.compatible h then 0 else 1)).wdSync s else t)) ∧
     (∀ h, s.hdrOf i = some h → s.slotState i = slConfirmed → i ∉ s.rep.badSlots → h.sound = true →
       s.el Reg.FW_FLOOR ≤ h.security → s.mayStart i = s.verifies i h)) ∧
  (∀ (torn : Option (Fin 64)) (ages : List Int) (s : State), s.runs .cr = true → s.boot.firmware = false →
     s.boot.chosen = true → exec (.firmwareStart torn ages) s = .next (s.firmwareStart torn ages).serveReady) ∧
  (∀ (torn : Option (Fin 64)) (ages : List Int) (s a b c d : State),
     a = (((State.put { s with boot := { s.boot with firmware := true, cause := 0 } } Reg.RESET_CAUSE s.boot.cause).put
       Reg.BOOT_ST s.now).put Reg.BOOT_LOST s.boot.lost).startImage →
     b = ((((a.afterCollapse s.boot.cause torn).loadSettings).startEntry s.boot.cause).tamperStart).keysBack →
     bitOf (b.el Reg.PORT_EN) 2 = true → b.runs .nw = false →
     c = (b.takeI2c.loadPw.closeHours).measureBanks ages →
     c.full = true → c.runs .fb = true → c.tmr.loaded = false → d = c.planLoad → d.anyPort = false ∨ d.isl_ .nw ≠ islUnpowered →
     d.arb.standing ≠ [] →
     s.firmwareStart torn ages = ((State.wdStart { d.twinStart with
       twin := { d.twinStart.twin with helloing := d.twinRole != 0 } }).pass.wdSync s)) ∧
  (∀ (s : State) (cause : Nat), ∃ rest : List Bytes, ∃ fl : Nat,
     (s.startEntry cause).log.waiting = s.log.waiting ++ [{
       chain := 0, stamp := s.now, typ := 1, flags := fl, cid := 0,
       payloads := payload10 (numToBytes 1 cause ++ numToBytes 1 (s.el Reg.BOOT_SLOT) ++
         numToBytes 1 (s.el Reg.SERVICE_MODE) ++ numToBytes 2 s.boot.lost ++ numToBytes 2 (s.el Reg.TMP_STICKY) ++
         numToBytes 2 (s.el Reg.RING_OVER)) :: rest,
       onStored := .nothing }] ∧
     { s.startEntry cause with log := s.log } = s)

/-- RST_N acts as its length says: a main reset with cause 0x05, widened to a full reset with cause 0x03 that counts no second
start; the device stays in reset until the pin rises. The keeper asks for a main reset with cause 0x08, DEV_RESET for a main one
with cause 0x07 or a full one with cause 0x04: DEFERRED while the keeper holds any island, and the reset waits, joined or widened
by a further write; else OK, and the reset acts after the reply; any other value is RANGE. Each of these drains every main island
in RUN, in parallel, and acts when the last has drained, at once where none runs; what comes meanwhile joins it, the widest scope
with its lowest code. A brown-out is a main reset with cause 0x06 that does not drain. RSTO_EXT after the host port is ready the
reset outputs are released; FB loads station time from BK at the tick after the pair arrives, and removes the phase it left from
there on; WAKE_N wakes FB and CR and keeps them. -/
def Obligations.Resets : Prop :=
  (∀ s : State, s.mainPower = true → s.boot.rstLow = false → exec .rstNLow s =
    .next (State.startScope { s with boot := { s.boot with rstLow := true, rstWide := false } } .main 0x05)) ∧
  (∀ s : State, s.mainPower = true → s.boot.rstLow = true → s.boot.rstWide = false →
    (∀ t, s.boot.draining = none → t = (s.scopeReset .full 0x03 true).put Reg.RESET_COUNT (s.el Reg.RESET_COUNT) →
      exec .rstNWiden s = .next { t with boot := { t.boot with rstWide := true, lost := s.boot.lost } }) ∧
    (∀ sc c, s.boot.draining = some (sc, c) → exec .rstNWiden s = .next { s with boot := { s.boot with
      rstWide := true, draining := some (.full, causeMerge c 0x03) } })) ∧
  (∀ s : State, exec .rstNRelease s = .next { s with boot := { s.boot with rstLow := false, rstWide := false } }) ∧
  (∀ s t : State, s.boot.vcore = true → s.boot.draining = none →
    t = State.scopeReset { s with boot := { s.boot with vcore := false } } .main 0x06 false →
    exec .vcoreBrownout s = .next { t with isl := { t.isl with lostState := mainIslands } }) ∧
  (∀ s : State, s.boot.firmware = true → s.runs .cr = true →
    exec .keeperMainReset s = .next (s.startScope .main 0x08)) ∧
  (∀ (r : Req) (s t : State) (w : Who) (c : Instr) (sc : Scope), LetThrough s r false t w → r.addr = Reg.DEV_RESET →
     (c = .devResetMain r ∧ r.value = [1] ∧ sc = .main) ∨ (c = .devResetFull r ∧ r.value = [2] ∧ sc = .full) →
     (t.boot.pendingReset = none →
       (t.isl.holds ≠ [] → exec c s = .next (State.answer { t with boot := { t.boot with pendingReset := some sc } } r 2
         .deferred []).pendingResetActs) ∧
       (t.isl.holds = [] → exec c s = .next (State.answer { t with boot := { t.boot with pendingReset := some sc } } r 2
         .ok []).pendingResetActs)) ∧
     (∀ x, t.boot.pendingReset = some x → exec c s = .next (State.answer { t with boot := { t.boot with
       pendingReset := some (if x = .full then .full else sc) } } r 2 .deferred []).pendingResetActs)) ∧
  (∀ s : State, (s.isl.holds ≠ [] ∨ s.boot.pendingReset = none → s.pendingResetActs = s) ∧
    (s.isl.holds = [] → s.boot.pendingReset = some .main → s.pendingResetActs = s.startScope .main 0x07) ∧
    (s.isl.holds = [] → s.boot.pendingReset = some .full → s.pendingResetActs = s.startScope .full 0x04)) ∧
  (∀ (r : Req) (s t : State) (w : Who) (b : Byte), LetThrough s r false t w → r.addr = Reg.DEV_RESET → r.value = [b] →
    b ≠ 1 → b ≠ 2 → exec (.devResetMain r) s = .next (t.answer r 2 (.range 2 0) []).pendingResetActs) ∧
  (∀ (sc x : Scope) (cause c : Nat) (s : State) (l : List Island),
    l = mainIslands.filter (fun i => s.runs i || s.isl_ i == islDraining) →
    (s.boot.draining = none → x = sc ∧ c = cause) →
    (∀ y d, s.boot.draining = some (y, d) → x = (if y = .full then .full else sc) ∧ c = causeMerge d cause) →
    (l = [] → s.startScope sc cause = s.scopeReset x c true) ∧
    (l ≠ [] → s.startScope sc cause = (l.foldl (fun (u : State) i => u.startDrain i .scope) { s with
      boot := { s.boot with draining := some (x, c), pendingReset := none }
      isl := { s.isl with holds := [] } }).wdSync s)) ∧
  (∀ (i : Island) (sc : Scope) (c : Nat) (s t : State), s.isl.drains.find? (fun p => p.1 == i) = some (i, .scope) →
    t = s.leaveRequests i → t.boot.draining = some (sc, c) → ∀ u, u = { t with isl := { t.isl with
      drains := t.isl.drains.filter (fun q => q.1 != i) } } →
    ((∃ q ∈ u.isl.drains, q.2 = .scope) → s.drainDone i = u) ∧
    ((∀ q ∈ u.isl.drains, q.2 ≠ .scope) → s.drainDone i = u.scopeReset sc c true)) ∧
  (∀ s t : State, s.boot.firmware = true → s.boot.portReady = true →
    t = s.reach (s.boot.readyAt + stMsUp (s.el Reg.RSTO_EXT)) →
    exec .rstoRelease s = .next (State.wdSync { t with boot := { t.boot with rstoA := false, rstoB := false } } t)) ∧
  (∀ (n : Nat) (s : State), s.runs .fb = true → s.clk.loaded = false → s.osc.pllLocked = true →
    ∃ t : State, exec (.stationTimeLoad n) s = .next t ∧ t.clk.loaded = true ∧
      t.clk.v = min (s.clk.v + n + 1) (stMax / 8192) ∧ t.now = t.clk.v * 8192 ∧ t.osc.phase = s.osc.phase ∧
      t.osc.phaseRun = (if s.osc.phase = 0 then 0 else 2048) ∧ (∀ a, a ≠ Reg.BK_ON_VBK_S → t.el a = s.el a) ∧
      t.arb = s.arb ∧ t.tmr = s.tmr ∧ t.dlv = s.dlv ∧ t.isl = s.isl) ∧
  (∀ s : State, s.mainPower = true →
    exec .wakeNLow s = .next (State.wakeFb { s with boot := { s.boot with wakeN := true } }).wakeCr) ∧
  (∀ s : State, exec .wakeNHigh s = .next { s with boot := { s.boot with wakeN := false } })

/-- At each change from main to VBK, BK counts in SWO_COUNT and writes its coarse station time into SWO_LAST; at each change
back it writes SWO_RETURN; a vote that failed on VBK is raised then, and an outage of a second or more waits for its correction.
A start of main power that fails while BK is on VBK loses main power and no more. A BK that lost its state starts when main power
returns. -/
def Obligations.Switchover : Prop :=
  (∀ s : State, s.onVbk = false → s.runs .bk = true → ∃ t u : State,
    t = ((s.ageOut.inc 4 Reg.SWO_COUNT).put Reg.SWO_LAST (s.clk.v * 8192)).put Reg.BK_SUPPLY 1 ∧
    u = t.mainLoss.put Reg.VBK_MV 0 ∧
    exec .switchoverToVbk s = .next { u with
      boot := { t.mainLoss.boot with vsys := false }, osc := { t.mainLoss.osc with gap := none } }) ∧
  (∀ s : State, s.onVbk = true → (s.boot.vsys = true → exec .switchoverToVbk s =
      .next { s.mainLoss with boot := { s.mainLoss.boot with vsys := false } }) ∧
    (s.boot.vsys = false → exec .switchoverToVbk s = .next s)) ∧
  (∀ s t u : State, s.onVbk = true → s.boot.vdd5 = true → s.bk.lost = false →
    t = ((s.put Reg.BK_SUPPLY 0).put Reg.SWO_RETURN (s.clk.v * 8192)).trickleSet →
    (t.el Reg.SWO_LAST + stSecond ≤ t.el Reg.SWO_RETURN → u = { t with osc := { t.osc with
      outages := t.osc.outages ++ [(t.el Reg.SWO_LAST, t.el Reg.SWO_RETURN)] } }) →
    (t.el Reg.SWO_RETURN < t.el Reg.SWO_LAST + stSecond → u = t) →
    t.el Reg.SWO_RETURN = s.clk.v * 8192 ∧ t.el Reg.BK_SUPPLY = 0 ∧
    (u.bk.voteDeferred = false → exec .switchoverToMain s = .next u) ∧
    (u.bk.voteDeferred = true → exec .switchoverToMain s =
      .next (State.tamperOn { u with bk := { u.bk with voteDeferred := false } } 9 2))) ∧
  (∀ s : State, s.onVbk = true → s.boot.vdd5 = true → s.bk.lost = true →
    exec .switchoverToMain s = .next (s.put Reg.BK_SUPPLY 0).backupReset) ∧
  (∀ s t : State, s.runs .bk = true → s.onVbk = true → t = (s.loseIsland .bk).setIsl .bk islUnpowered →
    exec .bkStateLoss s = .next { t with bk := { t.bk with lost := true } })

/-- VBK low is raised below VBK_LOW_MV as BK holds it and released above it plus 100 mV, between the two it stays; on main the
reading shows in VBK_MV. The trickle charger stops at TRICKLE_MV and sources current again 50 mV below it, only on main with its
settings loaded and a current set. The voted count: a tick edge at which one of three live copies differs reloads that copy,
counted in BK_RESYNC, and V takes what the other two hold, whatever stood in V; a copy reloaded at 16 consecutive edges is marked
failed. Where a second copy is marked failed source 9 asserts with group 2, on VBK when main power returns. The keeper releases
the oldest entry of the capture ring once its log append is stored, and no other. -/
def Obligations.BackupDomain : Prop :=
  (∀ (mv : Nat) (s t : State), s.runs .bk = true →
     t = (s.readVbk mv).vbkSensed mv → t.bk.vbkLow = s.bk.vbkLow ∧
     (mv < s.bk.vbkLow → exec (.vbkLowCheck mv) s = .next (t.tamperOn 6 0)) ∧
     (s.bk.vbkLow ≤ mv → mv ≤ s.bk.vbkLow + 100 → exec (.vbkLowCheck mv) s = .next t) ∧
     (s.bk.vbkLow + 100 < mv → exec (.vbkLowCheck mv) s = .next (t.tamperOff 6))) ∧
  (∀ s : State, exec .trickleStop s = .next (s.vbkSensed (s.el Reg.TRICKLE_MV)) ∧
    exec .trickleRestart s = .next (s.vbkSensed (s.el Reg.TRICKLE_MV - 50))) ∧
  (∀ (mv : Nat) (s t : State), t = s.vbkSensed mv → t = { s with bk := { s.bk with vbk := mv, trickle := t.bk.trickle } } ∧
    (s.el Reg.TRICKLE_MV ≤ mv → t.bk.trickle = false) ∧
    (mv < s.el Reg.TRICKLE_MV → s.el Reg.TRICKLE_MV < mv + 50 → t.bk.trickle = s.bk.trickle) ∧
    (mv + 50 ≤ s.el Reg.TRICKLE_MV → t.bk.trickle =
      (s.bk.settings && !s.onVbk && s.el Reg.TRICKLE_UA != 0))) ∧
  (∀ (c : Fin 3) (held : Nat) (voted : Option Nat) (s : State), s.runs .bk = true → s.copyLive c = true →
    (s.bk.misses.getD c 0 < 15 →
      exec (.bkCopyReload c held voted) s = .next (s.upset c held voted).tickEdge) ∧
    (15 ≤ s.bk.misses.getD c 0 → exec (.bkCopyFailed c held) s = .next (s.upset c held none).tickEdge)) ∧
  (∀ (c : Fin 3) (held v : Nat) (voted : Option Nat) (s t : State), v = s.clk.v → s.bk.copies = [v, v, v] →
    s.bk.misses.length = 3 → s.el Reg.BK_VOTE % 8 = 0 → held % 2 ^ 51 ≠ v → v + 1 < stMax / 8192 →
    t = (s.upset c held voted).tickEdge →
    t.clk.v = v + 1 ∧ t.bk.copies = [v + 1, v + 1, v + 1] ∧
    t.el Reg.BK_RESYNC = min (s.el Reg.BK_RESYNC + 1) (2 ^ 16 - 1) ∧
    t.bk.misses.getD c 0 = s.bk.misses.getD c 0 + 1 ∧ (∀ d, d < 3 → d ≠ c.val → t.bk.misses.getD d 0 = 0) ∧
    bitOf (t.el Reg.BK_VOTE) c = decide (s.bk.misses.getD c 0 = 15)) ∧
  (∀ s b : State, s.votedOut = true → b.votedOut = false →
    (s.onVbk = false → s.voteChecked b = (s.tamperOn 9 2).repairCheck) ∧
    (s.onVbk = true → s.voteChecked b = State.repairCheck { s with bk := { s.bk with voteDeferred := true } })) ∧
  (∀ (k : Fin 256) (e : RingEntry) (l : List RingEntry) (s : State), s.bk.ring = e :: l →
     (e.seq = k.val → e.logged = true → ∀ t, t = (if s.ringAtEdge (fun _ => true) then s.nextEdge else s) →
       exec (.ringEntryRelease k) s = .next { t with bk := { t.bk with ring := l } }) ∧
     (e.seq ≠ k.val ∨ e.logged = false → exec (.ringEntryRelease k) s = .next s))

/-! ### Chapter 05: oscillators, references, learning -/

/-- L3 holds the drive step in the range 0 to X32_DRIVE_MAX. It raises the step by one at once when the swing falls below 180
mVpp. It lowers the step by one after the swing has stayed above 350 mVpp for 64 consecutive BK seconds. -/
def Obligations.DriveStep : Prop :=
  ∀ (swing d m h : Nat) (s : State), s.runs .bk = true → s.loopHolds 3 = false → s.bk.s4 = false →
    d = s.el Reg.X32_DRIVE → m = s.bk.driveMax → h = s.bk.highSwing → d ≤ m → m ≤ 15 →
    ∃ (n x : Nat) (want : Int),
      (swing < 180 → n = 0 ∧ x = min (d + 1) m ∧ want = d + 1) ∧
      (180 ≤ swing → swing ≤ 350 → n = 0 ∧ x = d ∧ want = d) ∧
      (350 < swing → h + 1 < 64 → n = h + 1 ∧ x = d ∧ want = d) ∧
      (350 < swing → 64 ≤ h + 1 → n = 0 ∧ x = d - 1 ∧ want = (d : Int) - 1) ∧
      exec (.l3Evaluate swing) s = .next ((((((State.put { s with bk := { s.bk with highSwing := n } } Reg.X32_DRIVE
        x).ruleShown 4 false).safety 3 []).fence 3 (decide (swing < 180 ∧ d = m)) true)).showLoop 3 false false x want)

/-- PPS_GATE 0x00 emits always. 0x01 emits only while LOCKED. 0x02 emits while LOCKED, or while HOLD_UNC × 1,000 ≤ PPS_UNC_MAX.
While the gate is closed, PPS_OUT is low. The pulse rises at the whole second with FB running, or AO alone with PPS_MODE 0x02,
where station time's range has one more, and falls PPS_W later. -/
def Obligations.PpsOut : Prop :=
  (∀ s : State, (s.el Reg.PPS_GATE = 0 → s.ppsGate = true) ∧ (s.el Reg.PPS_GATE = 1 → s.ppsGate = s.refLocked) ∧
    (s.el Reg.PPS_GATE = 2 → s.ppsGate = (s.refLocked || decide (s.holdShown * 1000 ≤ s.el Reg.PPS_UNC_MAX))) ∧
    (s.ppsGate = false → s.ppsPin = false) ∧ (s.ppsGate = true → s.ppsPin = s.osc.ppsUntil.isSome)) ∧
  (∀ (n : Nat) (s t : State), (s.el Reg.PPS_MODE = 1 ∧ s.runs .fb = true) ∨ (s.el Reg.PPS_MODE = 2 ∧ s.mainPower = true) →
    n = (s.now / stSecond + 1) * stSecond → n ≤ stMax → t = s.reach n →
      (t.ppsGate = false → exec .ppsOutPulse s = .next t) ∧
      (t.ppsGate = true → exec .ppsOutPulse s = .next (State.emit { t with osc := { t.osc with
        ppsUntil := some (n + stUs (t.el Reg.PPS_W)) } } (.frame "PPS_OUT" [n])))) ∧
  (∀ (u : Nat) (s t : State), s.osc.ppsUntil = some u → t = s.reach u →
    exec .ppsOutPulseEnd s = .next { t with osc := { t.osc with ppsUntil := none } })

/-- The crystal: qualified by 65,536 cycles without a gap of more than four LFRC periods and within 2 % of the LFRC's count, it is
counted from the next whole second; not qualified in 10 s, or stopped, source 7 asserts; stopped, BK counts the LFRC, credits
four ticks and drops the observation; a restart is tried at the fence's drive step. What FB measures: the LFRC in runs of 16 s
against the crystal, the latest 32 kept and fitted; AORC; XH, with a record when its error goes beyond 50 ppm. A lost PLL lock
takes the stamps to BK until it relocks. The steering load: from TS0 and the crystal's model, or the LFRC's with its trim, FB
integrates the bound, takes up the outages' correction, computes y and loads COMP_WORD and BK_COMP, the latter limited to 2²⁰
either way with a record when it was. A temperature beyond COMP_DT of the last load wakes FB. -/
def Obligations.ClocksMeasured : Prop :=
  (∀ (n gap p : Nat) (s t : State), s.runs .bk = true → s.el Reg.X32_STATE ≠ 1 → 65536 ≤ n → gap ≤ 4 →
    50 * n ≤ 51 * p → 49 * p ≤ 50 * n →
    t = ((State.put { s with
      bk := { s.bk with qualified := true }
      rep := { s.rep with restarted := s.rep.restarted || s.el Reg.X32_STATE == 2 } } Reg.X32_STATE 1).tamperOff
        7).repairCheck →
    (t.osc.ageWaits = false → exec (.x32Qualified n gap p) s = .next t) ∧
    (∀ u : State, t.osc.ageWaits = true → u = (if t.el Reg.LEARN_STATE = 0 then t.resetModel else t) →
      exec (.x32Qualified n gap p) s =
        .next (State.put { u with osc := { u.osc with ageWaits := false } } Reg.AGE_ORIGIN u.now))) ∧
  (∀ (n gap p : Nat) (s : State), n < 65536 ∨ 4 < gap ∨ 51 * p < 50 * n ∨ 50 * n < 49 * p →
    exec (.x32Qualified n gap p) s = .next s) ∧
  (∀ s t : State, s.runs .bk = true → s.bk.qualified = true →
    t = s.reach (s.now + ((s.clk.v + 32767) / 32768 * 32768 - s.clk.v) * 8192) →
    exec .x32Changeover s = .next { t with bk := { t.bk with qualified := false } }) ∧
  (∀ s : State, s.runs .bk = true → s.el Reg.X32_STATE = 0 → exec .x32QualTimeout s = .next (s.tamperOn 7 2)) ∧
  (∀ s : State, s.runs .bk = true → s.el Reg.X32_STATE ≠ 1 →
    exec .x32RestartAttempt s = .next (s.put Reg.X32_DRIVE s.bk.driveMax)) ∧
  (∀ s t : State, s.runs .bk = true → s.el Reg.X32_STATE = 1 →
    t = (if s.onCrystal then s.reach (s.now + 4 * 8192) else s) → exec .x32Stopped s = .next (((State.put { t with
      bk := { t.bk with qualified := false }
      osc := { t.osc with
        gap := none, obs := none, obsDue := [], disc := if t.ownLocked then t.osc.disc else 0 } }
      Reg.X32_STATE 2).tamperOn 7 1).repairCheck)) ∧
  (∀ s : State, s.runs .fb = true → s.onCrystal = true →
    exec .lfrcCalStart s = .next { s with osc := { s.osc with lfrcRun := true } }) ∧
  (∀ (e t : Int) (s u : State) (l : List (Int × Int)), s.osc.lfrcRun = true → s.runs .fb = true →
    s.onCrystal = true → l = (s.osc.lfrcCal ++ [(e, t)]).drop (s.osc.lfrcCal.length - 31) →
    u = { s with osc := { s.osc with lfrcRun := false, lfrcCal := l } } →
    (∀ f, lfrcFit l = some f → exec (.lfrcCalEnd e t) s = .next (u.put Reg.LFRC_RESID (min
      (l.foldl (fun a p => max a (roundRat (absRat (p.1 - fitAt f p.2))).toNat) 0) (2 ^ 32 - 1)))) ∧
    (lfrcFit l).isSome = true) ∧
  (∀ (hz : Nat) (s : State), s.runs .fb = true → exec (.aorcMeasure hz) s = .next (s.put Reg.AORC_HZ (hz % 2 ^ 32))) ∧
  (∀ (p : Int) (s t : State), s.runs .fb = true → s.runs .nw = true → t = s.putS 4 Reg.XH_PPB (clampS 4 p) →
    (50000 < p.natAbs → (s.elS 4 Reg.XH_PPB).natAbs ≤ 50000 → exec (.xhMeasure p) s = .next (t.refRecord 3)) ∧
    (p.natAbs ≤ 50000 ∨ 50000 < (s.elS 4 Reg.XH_PPB).natAbs → exec (.xhMeasure p) s = .next t)) ∧
  (∀ s t : State, s.runs .fb = true → t = s.fbStops →
    exec .pllLockLoss s = .next { t with osc := { t.osc with pllLocked := false } } ∧ t.coarseFlag = 0x80 ∧
    (s.clk.loaded = true → t.clk.v = min (s.clk.st / 8192) (stMax / 8192)) ∧ (s.clk.loaded = false → t = s)) ∧
  (∀ s : State, s.runs .fb = true →
    exec .pllRelock s = .next { s with osc := { s.osc with pllLocked := true } }) ∧
  (∀ (ts0 temp bw bc : Int) (s x a b t c : State) (y : Rat), s.runs .fb = true → s.clk.loaded = true →
    x = s.readTs [ts0] →
    temp = clampS 2 (ts0 + x.elS 2 Reg.XTAL_T_OFS) → a = (x.growHold (x.boundSince temp)).outageCorrection temp →
    b = (if a.onCrystal then a else a.putS 1 Reg.LFRC_TRIM (a.trimFor temp)) → b.osc.epStart = none →
    y = b.ySteer temp b.now → bw = roundRat ((-(y / 1000000000000) + b.osc.disc) * 2 ^ 30) →
    bc = clampInt bw (-(2 ^ 20)) (2 ^ 20) →
    t = { b with
      osc := { b.osc with
        lastLoadT := some temp, lastLoadAt := b.now, base := -(y / 1000000000000) + b.osc.disc }
      bk := { b.bk with comp := bc } } →
    c = (((t.putS 2 Reg.XTAL_T temp).steer).putS 4 Reg.BK_COMP bc).put Reg.LEARN_SIGMA
      (min (Nat.sqrt (dot (b.phiOf temp b.now) (matVec b.osc.cov (b.phiOf temp b.now))).floor.toNat) (2 ^ 32 - 1)) →
    (bw.natAbs ≤ 2 ^ 20 → exec (.compLoad ts0) s = .next c) ∧
    (2 ^ 20 < bw.natAbs → exec (.compLoad ts0) s = .next (c.refRecord 4))) ∧
  (∀ s : State, s.steer = s.putS 4 Reg.COMP_WORD (clampS 4 (roundRat ((s.osc.base + s.slewTerm) * 2 ^ 40)))) ∧
  (∀ (ts0 t : Int) (s x : State), s.osc.lastLoadT = some t → s.mainPower = true → x = s.readTs [ts0] →
    (s.el Reg.COMP_DT < (ts0 + s.elS 2 Reg.XTAL_T_OFS - t).natAbs → exec (.compTempWake ts0) s = .next x.wakeFb) ∧
    ((ts0 + s.elS 2 Reg.XTAL_T_OFS - t).natAbs ≤ s.el Reg.COMP_DT → exec (.compTempWake ts0) s = .next x))

/-- Reference inputs. A pulse is stamped, counted and kept; with a label to give it is a TECH input, else one that waits for its
sentence. A sound sentence whose second the leap table allows is counted and kept as the latest; any other is counted as bad. A
PTP exchange shows the path delay and is good by clockClass, timescale and spread. The reference states: LOCKED that loses four
inputs in a row goes to HOLDOVER, QUALIFYING without a good input for 10 s returns to what it was; a label is a whole second; a
disagreeing reference is accepted by 0x01 alone. Learning: an observation of 1,024 s, or one that ended, enters the estimator,
and after the last of those the discipline term of a lock that ended is 0; the model is stored and is reset to its priors on
request; an episode counts once it has lasted 3,600 s and began 20 h after the last counted one, and closes at 86,400 s. -/
def Obligations.References : Prop :=
  (∀ (stamp : Nat) (s t u : State), s.runs .fb = true → 24 ∈ s.refInputs → t = (s.reach stamp).inc 4 Reg.PPS_COUNT →
    u = { t with
      osc := { t.osc with
        pulses := (t.osc.pulses ++ [t.ppsStamp stamp]).drop (t.osc.pulses.length - 8) }
      evt := { t.evt with refAwake := true } } →
    (∀ x, t.el Reg.REF_SEL = 4 → t.osc.label = some x →
      (t.intervalGood (t.ppsStamp stamp) = true → exec (.ppsPulse stamp) s = .next (State.refInput { u with osc :=
        { u.osc with label := none, techLast := some x } } 4 true (stToNs ((t.ppsStamp stamp : Int) - x)))) ∧
      (t.intervalGood (t.ppsStamp stamp) = false → exec (.ppsPulse stamp) s = .next (u.refInput 4 false 0))) ∧
    (∀ l, t.el Reg.REF_SEL = 4 → t.osc.label = none → t.osc.techLast = some l →
      exec (.ppsPulse stamp) s = .next (State.refInput { u with osc := { u.osc with
        label := none, techLast := some (l + stSecond) } } 4 (t.intervalGood (t.ppsStamp stamp))
        (stToNs ((t.ppsStamp stamp : Int) - (l + stSecond : Nat))))) ∧
    (t.el Reg.REF_SEL = 1 → t.osc.heldLabel = none → exec (.ppsPulse stamp) s = .next { u with osc := { u.osc with
      pulseWait := some (t.ppsStamp stamp, stamp, t.intervalGood (t.ppsStamp stamp)) } })) ∧
  (∀ (good : Bool) (start stop minute sec : Nat) (s t : State), s.runs .fb = true → 23 ∈ s.refInputs →
    t = { s.reach stop with evt := { (s.reach stop).evt with refAwake := true } } →
    (good = false ∨ t.labelTime minute sec = none → t.el Reg.REF_ACTIVE = 0xFF →
      exec (.nmeaSentence good start stop minute sec) s = .next (t.inc 4 Reg.NMEA_BAD)) ∧
    (∀ label u, good = true → t.labelTime minute sec = some label →
      u = (t.inc 4 Reg.NMEA_GOOD).put Reg.NMEA_LAST (label % 2 ^ 64) → u.el Reg.REF_SEL = 3 →
      exec (.nmeaSentence good start stop minute sec) s =
        .next (u.refInput 3 true (stToNs ((start : Int) - label) - u.elS 4 Reg.NMEA_DELAY * 1000)))) ∧
  (∀ (off delay : Int) (cl : Nat) (ptp : Bool) (s t : State) (l : List Int), s.runs .fb = true → s.chan 15 = .idle →
    s.ptpServed = true → s.el Reg.PTP_STATE = ptpSlave ∨ s.el Reg.PTP_STATE = ptpUncalibrated →
    l = (s.osc.ptpDelays ++ [delay]).drop (s.osc.ptpDelays.length - 15) →
    t = State.putS { s with osc := { s.osc with ptpDelays := l } } 8 Reg.PTP_MPD (clampS 8 delay) →
    exec (.ptpExchange off delay cl ptp) s = .next ((t.refInput 2
      ((cl == 6 || cl == 7) && ptp && decide ((l.foldl max delay - l.foldl min delay).toNat ≤ s.el Reg.PTP_DLY_TOL))
      off).leapCheck.fleetExchange off cl)) ∧
  (∀ s : State, s.runs .fb = true → s.ownLocked = true → exec .refInputMissing s = .next s.toHoldover) ∧
  (∀ s t : State, s.runs .fb = true → s.el Reg.REF_STATE = 1 →
    t = (s.put Reg.REF_STATE s.osc.refPrev).put Reg.REF_ACTIVE s.osc.refPrevCls →
    (s.osc.refPrev ≠ 2 ∨ epClass s.osc.refPrevCls = false → exec .refQualifyTimeout s = .next t) ∧
    (s.osc.refPrev = 2 → epClass s.osc.refPrevCls = true → exec .refQualifyTimeout s = .next t.openEpisode)) ∧
  (∀ (r : Req) (s t : State) (w : Who), LetThrough s r false t w → r.addr = Reg.REF_LABEL →
    (bytesToNum r.value % 2 ^ 28 ≠ 0 → exec (.refLabelWrite r) s = .next (t.answer r 2 (.range 2 0) [])) ∧
    (bytesToNum r.value % 2 ^ 28 = 0 → ∃ u : State, u = (t.put Reg.REF_LABEL (bytesToNum r.value)).logWrite w.cid ∧
      exec (.refLabelWrite r) s = .next (State.answer { u with osc := { u.osc with
        label := some (bytesToNum r.value) } } r 2 .ok []))) ∧
  (∀ (r : Req) (s t : State) (w : Who), LetThrough s r false t w → r.addr = Reg.REF_ACCEPT →
    (bytesToNum r.value ≠ 1 → exec (.refAcceptWrite r) s = .next (t.answer r 2 (.range 2 0) [])) ∧
    (bytesToNum r.value = 1 → ∃ u v : State, u = t.logWrite w.cid ∧
      v = { u with osc := { u.osc with accepted := true } } ∧ exec (.refAcceptWrite r) s = .next
        ((v.tryLock (v.el Reg.REF_ACTIVE) (v.elS 8 Reg.REF_OFFSET)).finish r 2 .q .ok []))) ∧
  (∀ (rb a b c l : Int) (s : State) (phi : List Rat), s.runs .fb = true → s.onCrystal = true →
    phi = [1, (a : Rat) / 1000000, (b : Rat) / 1000000, (c : Rat) / 1000000, (l : Rat) / 1000000] →
    (∀ o rest t, s.osc.obsDue = o :: rest →
      t = State.estimate { s with osc := { s.osc with obsDue := rest } } o rb phi →
      (rest = [] → t.ownLocked = false →
        exec (.driftObservation rb a b c l) s = .next { t with osc := { t.osc with disc := 0 } }) ∧
      (rest ≠ [] ∨ t.ownLocked = true → exec (.driftObservation rb a b c l) s = .next t)) ∧
    (∀ (t1 : Nat) (e1 e2 : Int) (sg : Nat) (t : State), s.osc.obsDue = [] → s.osc.obs = some (t1, e1, sg) →
      t = s.reach (t1 + 1024 * stSecond) → e2 = t.elS 8 Reg.REF_OFFSET → exec (.driftObservation rb a b c l) s =
        .next (State.estimate { t with osc := { t.osc with obs := some (t.now, e2, sg), steps := 0 } }
          ⟨t1, e1, t.now, e2, t.osc.steps, sg⟩ rb phi))) ∧
  (∀ s : State, s.runs .cr = true → s.boot.firmware = true → s.crossing .nv 11 = .serve →
    exec .modelStore s = .next { s with osc := { s.osc with
      stored := ⟨s.osc.theta, s.osc.cov, modelRegs.map (fun a => (a, s.el a)), s.osc.epTemps, s.osc.epLastStart,
        s.osc.ageWaits⟩ } }) ∧
  (∀ (r : Req) (s t : State) (w : Who), LetThrough s r false t w → r.addr = Reg.LEARN_RESET →
    (bytesToNum r.value ≠ 1 → exec (.learnResetWrite r) s = .next (t.answer r 2 (.range 2 0) [])) ∧
    (bytesToNum r.value = 1 → ∃ u : State, u = (t.logWrite w.cid).resetModel ∧ exec (.learnResetWrite r) s =
      .next ((State.repairCheck { u with rep := { u.rep with restarted := false } }).finish r 2 .q .ok []))) ∧
  (∀ (b : Nat) (s t : State), s.osc.epStart = some b → s.osc.epCounted = false →
    (∀ u, s.osc.epLastStart = some u → u + 72000 * stSecond ≤ b) → t = (s.reach (b + 3600 * stSecond)).inc 2 Reg.EPISODES →
    exec .episodeCounted s = .next (State.learnBand { t with osc := { t.osc with
      epCounted := true, epLastStart := some b, epTemps := t.osc.epTemps ++ [t.epMean] } })) ∧
  (∀ (b u : Nat) (s : State), s.osc.epStart = some b → s.osc.epLastStart = some u → b < u + 72000 * stSecond →
    exec .episodeCounted s = .next s) ∧
  (∀ (b : Nat) (s : State), s.osc.epStart = some b →
    exec .episodeRollover s = .next (s.reach (b + 86400 * stSecond)).closeEpisode.storeModel.openEpisode)

/-! ### Chapter 06: station time -/

/-- A step is requested: its value moves station time at the next 1/64 s boundary, TIME_SET by the distance from the present. It
becomes pending with OK when nothing speaks against it; a locked reference, another pending step, a result out of range, a sealed
chain 0 and an instant of a lease or a commit in the crossed interval do, in that order, the last with the earliest such instant
in STEP_BLOCK. A write of 0 to TIME_STEP or TIME_STEP_F withdraws a pending step. A pending step at its instant: what is due is
served first and the step is checked again; it is applied, what was served there carrying the time after it, or refused with its
status in its record, CONFLICT or SEALED; the keeper's turns into a slew. A step that is applied shows itself: TIME_STATE is SET,
STEP_LAST_AT and STEP_LAST_SIZE hold the station time after it and its size, STEP_COUNT counts it. -/
def Obligations.Steps : Prop :=
  (∀ (r : Req) (s t : State) (w : Who) (v a : Nat) (d : Int) (p : Option Nat) (c : Instr) (forced set : Bool),
     LetThrough s r false t w → v = bytesToNum r.value → r.value.length = 8 →
     (c = .timeStepWrite r p ∧ r.addr = Reg.TIME_STEP ∧ v ≠ 0 ∧ d = signed 64 v ∧ forced = false ∧ set = false) ∨
       (c = .timeStepFWrite r p ∧ r.addr = Reg.TIME_STEP_F ∧ v ≠ 0 ∧ d = signed 64 v ∧ forced = true ∧ set = false) ∨
       (c = .timeSetWrite r p ∧ r.addr = Reg.TIME_SET ∧ d = (v : Int) - t.now ∧ forced = false ∧ set = true) →
     t.tim.rangeEnd = false → t.twinTied = false → a = (t.now / 2 ^ 22 + 1) * 2 ^ 22 →
     (t.refLocked = true → exec c s = .next (t.answer r 2 (.conflict 3) [])) ∧
     (t.refLocked = false → t.tim.step ≠ none → exec c s = .next (t.answer r 2 (.conflict 2) [])) ∧
     (t.refLocked = false → t.tim.step = none → (a : Int) + d < 0 ∨ (2 ^ 64 - 1 : Int) < a + d ∨ (set = true ∧ d = 0) →
       exec c s = .next (t.answer r 2 (.range 2 0) [])) ∧
     (t.refLocked = false → t.tim.step = none → 0 ≤ (a : Int) + d → (a : Int) + d ≤ 2 ^ 64 - 1 → (set = false ∨ d ≠ 0) →
       (t.sealed 0 = true → exec c s = .next (t.answer r 2 .sealed [])) ∧
       (t.sealed 0 = false → forced = true ∨ t.unset = true ∨ t.blockers a d = [] →
         exec c s = .next (State.answer { t with tim := { t.tim with
           step := some ⟨d, forced, a, w.cid, false, false⟩ } } r 2 .ok [])) ∧
       (t.sealed 0 = false → forced = false → t.unset = false → ∀ b, earliest (t.blockers a d) = some b →
         exec c s = .next ((t.put Reg.STEP_BLOCK b).answer r 2 (.conflict 2) [])))) ∧
  (∀ (r : Req) (s t : State) (w : Who), LetThrough s r false t w → r.addr = Reg.TIME_STEP ∨ r.addr = Reg.TIME_STEP_F →
     r.value = [0, 0, 0, 0, 0, 0, 0, 0] →
     exec (.stepWithdraw r) s = .next (State.answer { t with tim := { t.tim with step := none } } r 2 .ok [])) ∧
  (∀ (ok : Bool) (x : Step) (s t : State), s.tim.step = some x → s.runs .fb = true → t = (s.reach x.at_).serveAt →
     (∀ b, x.forced = false → t.unset = false → earliest (t.blockers t.now x.delta) = some b →
       exec (.stepApply ok) s = .next ((t.put Reg.STEP_BLOCK b).stepFails x (.conflict 2))) ∧
     (x.forced = true ∨ t.unset = true ∨ t.blockers t.now x.delta = [] →
       (x.joint = true → ok = false → exec (.stepApply ok) s = .next (t.stepFails x (.conflict 2))) ∧
       ((x.joint = false ∨ ok = true) → t.sealed 0 = true → exec (.stepApply ok) s = .next (t.stepFails x .sealed)) ∧
       ((x.joint = false ∨ ok = true) → t.sealed 0 = false →
         exec (.stepApply ok) s = .next ((t.restamp (s.reach x.at_) x.delta).stepApplied x)))) ∧
  (∀ (x : Step) (st : Stat) (s t : State), t = State.stepRecord { s with tim := { s.tim with step := none } } x st.code →
     (x.keeper = false → s.stepFails x st = t) ∧ (x.keeper = true → s.stepFails x st = t.slewBy (stToNs x.delta))) ∧
  (∀ (x : Step) (s : State), (s.stepRegs x).el Reg.TIME_STATE = 1 ∧ (s.stepRegs x).el Reg.STEP_LAST_AT = s.now ∧
     (s.stepRegs x).el Reg.STEP_LAST_SIZE = unsigned 64 x.delta ∧
     (s.stepRegs x).el Reg.STEP_COUNT = min (s.el Reg.STEP_COUNT + 1) (2 ^ 32 - 1) ∧
     OnlyEls [Reg.TIME_STATE, Reg.STEP_LAST_AT, Reg.STEP_LAST_SIZE, Reg.STEP_COUNT] s (s.stepRegs x))

/-- A write to SLEW_ADD adds its value to SLEW_REM; RANGE where the sum would leave ±10¹² ns, CONFLICT while LOCKED or on the
following half. A slew that is done, at the time its rate takes for what is left, leaves the outage correction, or SLEW_REM after
it, at 0. At its greatest value station time holds, with RANGE_END's record; the leap table expires at LEAP_EXPIRES, where nothing
but time passes. -/
def Obligations.SlewAdds : Prop :=
  (∀ (r : Req) (s t : State) (w : Who) (x : Int), LetThrough s r false t w → r.addr = Reg.SLEW_ADD →
    x = signed 64 (bytesToNum r.value) →
    (t.refLocked = false → t.twin.follow = false → (t.elS 8 Reg.SLEW_REM + x).natAbs ≤ 10 ^ 12 →
      exec (.slewAddWrite r) s = .next ((t.slewMore x).answer r 2 .ok [])) ∧
    (t.refLocked = false → t.twin.follow = false → 10 ^ 12 < (t.elS 8 Reg.SLEW_REM + x).natAbs →
      exec (.slewAddWrite r) s = .next (t.answer r 2 (.range 2 0) [])) ∧
    (t.refLocked = true ∨ t.twin.follow = true → x ≠ 0 →
      exec (.slewAddWrite r) s = .next (t.answer r 2 (.conflict 3) []))) ∧
  (∀ (t : State) (x : Int), (t.elS 8 Reg.SLEW_REM + x).natAbs ≤ 10 ^ 12 →
    (t.slewMore x).elS 8 Reg.SLEW_REM = t.elS 8 Reg.SLEW_REM + x ∧
    (∀ a, a ∉ [Reg.SLEW_REM, Reg.COMP_WORD] → (t.slewMore x).el a = t.el a) ∧
    { t.slewMore x with dict := t.dict, osc := t.osc } = t) ∧
  (∀ s : State, s.runs .fb = true → s.clk.loaded = true →
    (s.el Reg.OUTAGE_CORR ≠ 0 → exec .slewComplete s = .next ((s.reach (s.slewEnd s.corrLeft)).setCorr 0).steer) ∧
    (s.el Reg.OUTAGE_CORR = 0 → exec .slewComplete s = .next ((s.reach (s.slewEnd s.slewLeft)).setSlew 0).steer)) ∧
  (∀ s : State, (s.setCorr 0).steer.el Reg.OUTAGE_CORR = 0 ∧ (s.setSlew 0).steer.el Reg.SLEW_REM = 0) ∧
  (∀ s t : State, s.runs .fb = true → s.tim.rangeEnd = false → t = s.setTime (2 ^ 64 - 1) →
    exec .rangeEndReached s = .next (State.refRecord { t with tim := { t.tim with rangeEnd := true } } 5)) ∧
  (∀ s t : State, t = s.reach (s.el Reg.LEAP_EXPIRES) → exec .leapTableExpired s = .next t ∧
    (s.el Reg.LEAP_EXPIRES ≤ 2 ^ 64 - 1 → s.clk.loaded = true → t.now = max s.now (s.el Reg.LEAP_EXPIRES)) ∧
    (∀ a, a ∉ [Reg.BK_ON_VBK_S, Reg.OUTAGE_CORR, Reg.SLEW_REM, Reg.COMP_WORD] → t.el a = s.el a) ∧
    { t with clk := s.clk, dict := s.dict, osc := s.osc, bk := s.bk, tmp := s.tmp } = s)

/-! ### Chapter 07: the dictionary and the exchange -/

/-- A READ answers an element's value in the bytes of its type, the staged value with STAGED where PARISON is set and the
requester has staged it, and ABANDONED where the element's island is absent or its channel stuck. A WRITE of an element without
its own behaviour: a direct one takes its value, RANGE where it lies outside, CONFLICT while the dictionary is locked, EXHAUSTED
on a store that is read-only; a staged one joins the parison without its reserved bits, a later value replacing the earlier, at
most 64 elements. A GATHER is one of up to 16 elements that are latched at one instant, at least 20 µs after it was asked for;
their islands wake. At that instant, nothing else being due before it, the response carries the instant and every item's status,
length and value. A subscription takes its slot until its expiry, the earlier one of another kind or selector ending with its last
NOTIFY; it ends when it is withdrawn or expires. A Watch compares at its interval and at a write of its element, and notifies a
change once. ECHO answers station time and the service mode, in any service mode; LOG_READ a holder admin's own chain from a
sequence on, at most 16 entries; DOORBELL posts a source; an opcode that is none is refused. -/
def Obligations.Requests : Prop :=
  (∀ (r : Req) (s t : State) (w : Who) (e : Row) (f : Bool) (ch : Nat), r.body.length = 3 → f = fastRead r [r.addr] →
     s.accept r 1 (readClass f) f false (bootRead r.addr) = .go t w → rowOf r.addr = some e → t.mayRead w r.addr = true →
     t.full = true → t.exch.muted = false → ch = pathTo f e.home →
     (∀ v, bitOf r.flags 1 = true → (t.parison w.cid).find? (fun x => x.1 == r.addr) = some (r.addr, v) → exec (.read r) s =
         .next (t.answer r 1 (.staged (t.parison w.cid).length)
           (numToBytes 1 (typeBytes e.ty v).length ++ typeBytes e.ty v))) ∧
     (bitOf r.flags 1 = false →
       (t.crossing e.home ch = .serve → r.addr ∉ t.rep.lostEls →
         exec (.read r) s = .next (t.answer r 1 .ok (numToBytes 1 (typeBytes e.ty (t.liveValue w r.addr)).length ++
           typeBytes e.ty (t.liveValue w r.addr)))) ∧
       (t.chan ch = .stuck → t.exch.forced = false → exec (.read r) s = .next ((t.inc 4 (Reg.CH_ABANDON ch)).answer r 1 (.abandoned 3) [])) ∧
       (t.isl_ e.home = islUnpowered → t.chan ch = .idle → t.signalled e.home ch = false →
         exec (.read r) s = .next ((t.inc 4 (Reg.CH_ABANDON ch)).answer r 1 (.abandoned 2) [])))) ∧
  (∀ (r : Req) (s t : State) (w : Who) (e : Row) (v : Nat), isDirect r.addr = false → Admitted s r 2 t w →
     rowOf r.addr = some e → t.mayWrite w r.addr = true → r.writeFormed = true → wellEncoded e.ty r.value = true →
     v = bytesToNum r.value →
     (e.staged = false → t.locked = true → exec (.write r) s = .next (t.answer r 2 (.conflict 3) [])) ∧
     (e.staged = false → t.locked = false → rangeOk r.addr v = false →
       exec (.write r) s = .next (t.answer r 2 (.range 2 0) [])) ∧
     (e.staged = false → t.locked = false → rangeOk r.addr v = true → t.crossing .nv 11 = .serve →
       (t.isReadOnly 11 = false → exec (.write r) s =
         .next ((((t.put r.addr v).rewrote (fun x => x == r.addr)).watchAll (fun x => x == r.addr)).finish r 2 .q .ok [])) ∧
       (t.isReadOnly 11 = true → exec (.write r) s = .next (t.answer r 2 (.exhausted 2) []))) ∧
     (e.staged = true → t.splitFor r.addr = false → ∀ l, l = stageItem (t.parison r.cid) (r.addr, maskEl r.addr v) →
       (l.length ≤ 64 → exec (.write r) s = .next ((t.setParison r.cid l).answer r 2 (.staged l.length) [])) ∧
       (64 < l.length → exec (.write r) s = .next (t.answer r 2 (.exhausted 3) [])))) ∧
  (∀ (r : Req) (s t : State) (w : Who) (f : Bool), f = fastRead r (gatherAddrs r) →
    s.accept r 3 (readClass f) f false ((gatherAddrs r).all bootRead) = .go t w → gatherBad r = none →
    t.crossing .fb (pathTo f .fb) = .serve →
    (1 ≤ bodyNum r.body 0 1 ∧ bodyNum r.body 0 1 ≤ 16 ∧ r.body.length = 1 + 3 * bodyNum r.body 0 1) ∧
    exec (.gather r) s = .next (t.askFreeze r (gatherAddrs r)) ∧
    ∃ at_, t.now + stUs 20 ≤ at_ ∧
      (t.askFreeze r (gatherAddrs r)).exch.gathers = t.exch.gathers ++ [⟨r, t.now, at_⟩]) ∧
  (∀ (lost : List Island) (g : Gather) (s t : State) (l : List (Nat × Stat × Bytes)),
    s.exch.gathers.find? s.gatherReady = some g → s.flipBefore g.freezeAt = false →
    g.req.zeroTrailer = false → bitOf g.req.flags 0 = false →
    t = (State.reach { s with exch := { s.exch with gathers := s.exch.gathers.erase g } } g.freezeAt).endProgress g.req.cid →
    l = t.gatherItems g.req (.client g.req.cid) lost → (∀ x ∈ l, x.2.1 = Stat.ok) →
    exec (.gatherFreeze lost) s = .next (t.answer g.req 3 .ok
      (numToBytes 8 t.now ++ numToBytes 1 l.length ++ l.flatMap (fun x =>
        [0#8, 0#8] ++ numToBytes 1 x.2.2.length ++ x.2.2))).serveReady) ∧
  (∀ (r : Req) (s t : State) (w : Who), Admitted s r 9 t w → t.crossing .nw 13 = .serve → subBad r = none →
    t.subMay w (bodyNum r.body 1 1) (bodyNum r.body 4 4) = true → t.subOf r.cid (bodyNum r.body 0 1) = none →
    ∃ (ends : Nat) (x : Subscr), ends = min (t.now + bodyNum r.body 2 2 * stSecond) stMax ∧ x = {
        cid := r.cid, slot := bodyNum r.body 0 1, kind := bodyNum r.body 1 1, port := r.port, src := r.src, udp := r.udp,
        seq := 0, selector := bodyNum r.body 4 4, interval := bodyNum r.body 8 2, expiry := ends,
        nextAt := t.now + bodyNum r.body 8 2 * stSecond,
        last := if bodyNum r.body 1 1 = 2 then t.liveValue (.client r.cid) (bodyNum r.body 4 4 / 256) else 0 } ∧
      exec (.subscribe r) s = .next (State.answer { t with exch := { t.exch with
        subs := t.exch.subs.filter (fun y => !(y.cid == r.cid && y.slot == bodyNum r.body 0 1)) ++ [x] } }
      r 9 .ok (numToBytes 8 ends))) ∧
  (∀ (r : Req) (s t : State) (w : Who), Admitted s r 0x0A t w → t.crossing .nw 13 = .serve → r.body.length = 1 →
    bodyNum r.body 0 1 ≤ 3 → exec (.unsubscribe r) s = .next (State.answer { t with exch := { t.exch with
      subs := t.exch.subs.filter (fun y => !(y.cid == r.cid && y.slot == bodyNum r.body 0 1)) } } r 0x0A .ok [])) ∧
  (∀ (cid slot : Nat) (x : Subscr) (s : State), s.subOf cid slot = some x → x.kind = 2 → s.runs .nw = true →
    exec (.watchInterval cid slot true) s = .next (s.watchCompare cid slot) ∧
    (∀ t, t = s.reach x.nextAt → exec (.watchInterval cid slot false) s = .next (State.watchCompare
      { t with exch := { t.exch with
        subs := t.exch.subs.map (fun y =>
          if y.cid = cid ∧ y.slot = slot then { y with nextAt := y.nextAt + y.interval * stSecond } else y) } } cid slot))) ∧
  (∀ (cid slot : Nat) (x : Subscr) (s : State), s.subOf cid slot = some x → x.kind = 2 → s.runs .nw = true →
    (s.liveValue (.client cid) (x.selector / 256) = x.last → s.watchCompare cid slot = s) ∧
    (s.liveValue (.client cid) (x.selector / 256) ≠ x.last → s.watchCompare cid slot =
      State.notify { s with exch := { s.exch with
        subs := s.exch.subs.map (fun y => if y.cid = cid ∧ y.slot = slot then { y with last := s.liveValue (.client cid) (x.selector / 256) } else y) } }
        x 2 (s.valuePayload x))) ∧
  (∀ (cid slot : Nat) (x : Subscr) (s : State), s.subOf cid slot = some x → s.runs .nw = true →
    exec (.subscriptionExpiry cid slot) s = .next (s.servedAt x.expiry (fun t => t.expireSub cid slot))) ∧
  (∀ (cid slot : Nat) (x : Subscr) (s t : State), s.subOf cid slot = some x → t = s.notify x 3 [0x0A, 0x01] →
    s.expireSub cid slot =
      { t with exch := { t.exch with subs := t.exch.subs.filter (fun y => !(y.cid == cid && y.slot == slot)) } }) ∧
  (∀ (r : Req) (s t : State) (w : Who), s.accept r 0x0E .q false false true = .go t w → r.body = [] →
    t.crossing .cr noChan = .serve → t.exch.muted = false → exec (.echo r) s = .next (t.answer r 0x0E .ok
      (numToBytes 8 t.now ++ numToBytes 1 (t.el Reg.SERVICE_MODE)))) ∧
  (∀ (r : Req) (s t : State) (c n : Nat), Admitted s r 0x0B t (.client c) → t.mayLease c = true → t.roleOf c = 1 →
    r.body.length = 7 → n = bodyNum r.body 6 1 → 1 ≤ n → n ≤ 16 → t.crossing .nv 11 = .serve →
    (t.rep.lostLog.filter (fun p => p.1 == t.hidOf r.cid) = []) → exec (.logRead r) s = .next (t.answer r 0x0B .ok
      (t.logRead (t.hidOf r.cid) (match t.chain (t.hidOf r.cid) with
        | e :: _ => max (bodyNum r.body 0 6) e.seq
        | [] => bodyNum r.body 0 6) n))) ∧
  (∀ (r : Req) (s t : State) (w : Who) (src : Nat), Admitted s r 0x0C t w → r.body.length = 2 →
    src = bodyNum r.body 0 2 → 128 ≤ src → t.aliasPasses w src false false = true → t.crossing .fb 8 = .serve →
    exec (.doorbell r) s = .next ((t.postSource src w.cid 1 0).finish r 0x0C .q .ok [])) ∧
  (∀ (r : Req) (op : Nat) (s t : State) (w : Who), ¬ (1 ≤ op ∧ op ≤ 14) → s.accept r op .q false false false = .go t w →
    t.exch.muted = false → exec (.unknownOpcode r op) s = .next (t.refuse r op .q))

/-- A refused request increments REFUSALS of the CID named in its header and sets that CID's REFUSE_LAST, when that CID is in
use; when it is not, it increments REFUSE_UNBOUND instead. Its response has no body and waits for the fixed delay of its class;
nothing else changes. An element that does not exist, one that the requester may not read and a request that is not authentic
are refused alike. A refused response waits for the end of its delay and leaves then, through the port the request came by. -/
def Obligations.UniformRefusal : Prop :=
  (∀ (r : Req) (op : Nat) (cls : Cls) (s t : State), t = s.refuse r op cls →
    (s.inUse r.cid = true → t.el (Reg.REFUSALS r.cid) = min (s.el (Reg.REFUSALS r.cid) + 1) (2 ^ 32 - 1) ∧
      t.el (Reg.REFUSE_LAST r.cid) = s.now ∧
      ∀ a, a ∉ [Reg.REFUSALS r.cid, Reg.REFUSE_LAST r.cid] → t.el a = s.el a) ∧
    (s.inUse r.cid = false → t.el Reg.REFUSE_UNBOUND = min (s.el Reg.REFUSE_UNBOUND + 1) (2 ^ 32 - 1) ∧
      ∀ a, a ≠ Reg.REFUSE_UNBOUND → t.el a = s.el a) ∧
    (∃ due, t.exch.refused = s.exch.refused ++ [⟨replyOf r op false .refused [] none, due⟩] ∧
      s.now * 1000000 + s.delayOf cls * 2 ^ 28 ≤ due * 1000000) ∧
    { t with dict := s.dict, exch := { t.exch with refused := s.exch.refused } } = s) ∧
  (∀ (r : Req) (s t : State) (w : Who) (f : Bool), r.body.length = 3 → f = fastRead r [r.addr] →
    s.accept r 1 (readClass f) f false (bootRead r.addr) = .go t w →
    rowOf r.addr = none ∨ t.mayRead w r.addr = false → t.exch.muted = false → exec (.read r) s = .next (t.refuse r 1 (readClass f))) ∧
  (∀ (r : Req) (s t : State), r.framed = true → s.portOpen r.port = true → s.exch.resumed = none →
    (r.port = .t1l → s.ethIn r.eth = true ∧ s.malnanIn r.eth = true) → ¬ (r.port = .canFd ∧ 12 ≤ r.src % 16) →
    t = s.takeFrame r → t.crossing .cr 14 = .serve → t.crossing .sc 10 = .serve → t.key.rebuilding = false →
    t.bootstrapOk r = false → t.authentic r false (s.tagOk r 1 false) = false → fastRead r [r.addr] = false →
    exec (.read r) s = .next (t.refuse r 1 .q)) ∧
  (∀ (k due op : Nat) (r : Req) (s t : State), s.exch.refused[k]? = some ⟨replyOf r op false .refused [] none, due⟩ →
     t = State.reach { s with exch := { s.exch with refused := s.exch.refused.eraseIdx k } } due →
     exec (.refusedResponseSend k) s =
       .next (t.send r.port r.src 48 ((replyOf r op false .refused [] none).out Trailer.zero)))

/-- A SCATTER places all its items in the parison or none of them: a right lacking refuses it whole, a malformed item is RANGE
with its position. What is staged reads 0 in the reserved bits. Staging keeps one value for each element, the last given, in the
order of first staging. -/
def Obligations.ScatterStages : Prop :=
  (∀ (r : Req) (s t : State) (w : Who) (names : List Nat) (items l : List (Nat × Nat)),
     names = scatterNamed (bodyNum r.body 0 1) (r.body.drop 1) →
     items = (scatterItems (bodyNum r.body 0 1) (r.body.drop 1)).map (fun x => (x.1, bytesToNum x.2)) →
     s.accept r 4 .q false false (names.all (fun a => a == Reg.KX_WRAP 0 || a == Reg.KX_TAG 0)) = .go t w →
     t.full = true → t.exch.muted = false → t.crossing .cr noChan = .serve →
     l = (items.map (fun p => (p.1, maskEl p.1 p.2))).foldl stageItem (t.parison r.cid) →
     ((∃ a ∈ names, t.mayWrite w a = false) → exec (.scatter r) s = .next (t.refuse r 4 .q)) ∧
     ((∀ a ∈ names, t.mayWrite w a = true) →
       (∀ st, scatterBad r = some st → st.code ≠ 1 → exec (.scatter r) s = .next (t.answer r 4 st [])) ∧
       (scatterBad r = none → (∀ p ∈ items, t.splitFor p.1 = false) →
         (l.length ≤ 64 → exec (.scatter r) s = .next ((t.setParison r.cid l).answer r 4 (.staged l.length) [])) ∧
         (64 < l.length → exec (.scatter r) s = .next (t.answer r 4 (.exhausted 3) []))))) ∧
  (∀ (l : List (Nat × Nat)) (p : Nat × Nat), l.Pairwise (fun x y => x.1 ≠ y.1) →
     (stageItem l p).Pairwise (fun x y => x.1 ≠ y.1) ∧ p ∈ stageItem l p ∧
     (∀ q ∈ l, q.1 ≠ p.1 → q ∈ stageItem l p) ∧
     ((∃ q ∈ l, q.1 = p.1) → (stageItem l p).map (fun x => x.1) = l.map (fun x => x.1)) ∧
     ((∀ q ∈ l, q.1 ≠ p.1) → stageItem l p = l ++ [p]))

/-! ### Chapter 08: parisons and commits -/

/-- A COMMIT runs the commit check and begins the parison's idle time anew. With violations it answers them, the parison kept;
without, the parison becomes a pending commit with the client's next number, the youngest, and is empty. A COMMIT with CHECK_ONLY
reports the check's violations and changes nothing else. A DISCARD empties the requester's parison and answers how much it held;
PARISON_IDLE seconds after the latest staging or COMMIT the parison empties by itself. Other parisons stay. Pending commits are
prepared in the order of their shape instants and of acceptance: the keeper, woken if need be, sends the shadow banks a second
before; a commit whose islands all have them is PREPARED; one that is not 2 ms before its instant fails, with the status of what
was missing. The first pending commit, PREPARED, at its shape instant and in its turn: its islands wake; it is checked once more;
it aborts whole, with the first rule that fails, or flips whole. What flips is stored later, oldest first, while CR runs. -/
def Obligations.Commits : Prop :=
  (∀ (r : Req) (s t u : State) (w : Who) (c : Commit), bitOf r.flags 2 = false →
     s.accept r 5 .c false false (kxOnly (s.parison r.cid)) = .go t w → t.full = true → t.exch.muted = false →
     r.body.length = 9 → bodyNum r.body 0 1 ≤ 1 → t.crossing .fb 8 = .serve → t.stage.unstored = [] →
     u = t.touchParison r.cid → c = u.candidate w r → c.exchanges = [] → u.mirrors c = false →
     (c.cid = r.cid ∧ c.items = t.parison r.cid ∧ c.phase = .pending ∧ c.order = t.stage.order ∧ c.sa = t.isSa w ∧
       (bodyNum r.body 0 1 = 1 → c.shape = bodyNum r.body 1 8) ∧
       (bodyNum r.body 0 1 = 0 → c.shape % 2 ^ 22 = 0 ∧ t.now + stMsUp 10 ≤ c.shape ∧
         c.shape < t.now + stMsUp 10 + 2 ^ 22)) ∧
     (∀ v l, u.violations c (bodyNum r.body 0 1 == 1) (w == .bootstrap) = v :: l → v.st.code ≠ 1 →
       exec (.commit r []) s = .next (u.answer r 5 v.st (commitReply 0 c.shape (cutViols (v :: l))))) ∧
     (u.violations c (bodyNum r.body 0 1 == 1) (w == .bootstrap) = [] → ∃ x : State, exec (.commit r []) s =
         .next (x.answer r 5 .ok (numToBytes 2 (t.nextCommit r.cid) ++ numToBytes 8 c.shape ++ [0#8])) ∧
       x.stage.commits = t.stage.commits ++ [{ c with num := t.nextCommit r.cid, slot := t.freePend r.cid }] ∧
       x.stage.order = t.stage.order + 1 ∧ x.parison r.cid = [] ∧ (∀ d, d ≠ r.cid → x.parison d = t.parison d) ∧
       { x with stage := t.stage } = t)) ∧
  (∀ (r : Req) (s t u : State) (w : Who) (c : Commit), bitOf r.flags 2 = true →
     s.accept r 5 .c false false (kxOnly (s.parison r.cid)) = .go t w → t.full = true → t.exch.muted = false →
     r.body.length = 9 → bodyNum r.body 0 1 ≤ 1 → t.crossing .fb 8 = .serve → u = t.touchParison r.cid →
     c = u.candidate w r → c.exchanges = [] → u.mirrors c = false →
     (∀ v l, u.violations c (bodyNum r.body 0 1 == 1) (w == .bootstrap) = v :: l → v.st.code ≠ 1 →
       exec (.commitCheckOnly r []) s = .next (u.answer r 5 v.st (commitReply 0 c.shape (cutViols (v :: l))))) ∧
     (u.violations c (bodyNum r.body 0 1 == 1) (w == .bootstrap) = [] →
       exec (.commitCheckOnly r []) s = .next (u.answer r 5 .ok (commitReply 0 c.shape [])))) ∧
  (∀ (c : Nat) (t : State), (∀ d, (t.touchParison c).parison d = t.parison d) ∧
    (∀ p, (t.stage.parisons.find? (fun x => x.cid == c)) = some p →
      ((t.touchParison c).stage.parisons.find? (fun x => x.cid == c)) = some ⟨c, p.items, t.now⟩) ∧
    { t.touchParison c with stage := t.stage } = t) ∧
  (∀ (r : Req) (s t : State) (w : Who), Admitted s r 6 t w → r.body = [] → t.crossing .cr noChan = .serve → ∃ u : State,
    exec (.discard r) s = .next (u.answer r 6 .ok (numToBytes 1 (t.parison r.cid).length)) ∧ u.parison r.cid = [] ∧
    (∀ d, d ≠ r.cid → u.parison d = t.parison d) ∧ { u with stage := t.stage } = t ∧
    { u.stage with parisons := t.stage.parisons } = t.stage) ∧
  (∀ (c : Nat) (p : Parison) (s t : State), s.stage.parisons.find? (fun x => x.cid == c) = some p →
    t = s.reach (p.lastAt + s.el Reg.PARISON_IDLE * stSecond) → ∃ u : State, exec (.parisonIdleDiscard c) s = .next u ∧
    u.parison c = [] ∧ (∀ d, d ≠ c → u.parison d = s.parison d) ∧ { u with stage := t.stage } = t) ∧
  (∀ (c : Commit) (s u : State), s.commitOrder.find? (fun x => x.phase == .pending && !x.shadowed) = some c →
    u = (s.reach (c.shape - stSecond)).wakeCr →
    (u.runs .cr = true → u.boot.firmware = true → exec .commitPrepare s = .next (c.banks.foldl State.sendBank
      { u with stage := { u.stage with
        commits := u.stage.commits.map (fun x => if x.order = c.order then { x with shadowed := true } else x) } })) ∧
    (u.runs .cr = false ∨ u.boot.firmware = false → exec .commitPrepare s = .next u)) ∧
  (∀ (i : Island) (s : State), (s.crossing i (chanTo i) = .serve → s.sendBank i = s) ∧
    (s.crossing i (chanTo i) = .wait → s.sendBank i = s.wakeIsl i) ∧
    (∀ d, s.crossing i (chanTo i) = .shut d → s.sendBank i = s.inc 4 (Reg.CH_ABANDON (chanTo i)))) ∧
  (∀ (c : Commit) (s : State), s.commitOrder.find? (fun x => x.phase == .pending && x.shadowed) = some c →
    s.banksThere c = true → exec .commitPrepared s = .next { s with stage := { s.stage with
      commits := s.stage.commits.map (fun x => if x.order = c.order then { x with phase := .prepared } else x) } }) ∧
  (∀ (b : Bool) (c : Commit) (s : State), s.commitOrder.find? (fun x => x.phase == .pending) = some c →
    exec (.commitPrepDeadline b) s = .next (s.servedAt (c.shape - stMs 2) (fun t =>
      t.endCommit c .failed (t.prepFailure c b).code (t.prepFailure c b).detail 0))) ∧
  (∀ (b : Bool) (c : Commit) (t : State),
    (∀ i d, c.banks.find? (fun j => t.crossing j (chanTo j) matches .shut _) = some i → t.crossing i (chanTo i) = .shut d →
      t.prepFailure c b = .abandoned d) ∧
    ((∀ i ∈ c.banks, ∀ d, t.crossing i (chanTo i) ≠ .shut d) →
      t.prepFailure c true = .timeout 2 ∧ t.prepFailure c false = .abandoned 1)) ∧
  (∀ (p : Bool) (c : Commit) (rest : List Commit) (s : State), s.commitOrder = c :: rest → c.phase = .prepared →
    s.turn c.shape (.flip c.order) = true →
    exec (.commitCheckStrobe p) s = .next (s.servedAt c.shape (fun t => t.strobe c p))) ∧
  (∀ (p : Bool) (c : Commit) (s t : State), c.cid ≠ mirrorCid → t = c.banks.foldl State.wakeIsl s →
    (c.banks.all s.strobed = false → s.strobe c p = t.endCommit c .aborted 3 1 0) ∧
    (∀ v l, c.banks.all s.strobed = true → t.instantViols c p = v :: l →
      s.strobe c p = t.endCommit c .aborted 3 1 v.rule) ∧
    (∀ u, c.banks.all s.strobed = true → t.instantViols c p = [] → u = (t.flip c).rewrote c.stages →
      s.strobe c p = (c.items.foldl (fun x q => x.directItem c q) (State.endCommit
        { u with stage := { u.stage with
          unstored := u.stage.unstored ++ (if t.beforeFlip c = [] then [] else [t.beforeFlip c]) } }
        c .applied 0 0 0)).pendingResetActs)) ∧
  (∀ (x : List (Nat × Nat)) (l : List (List (Nat × Nat))) (s : State), s.runs .cr = true → s.boot.firmware = true →
    s.crossing .nv 11 = .serve → s.stage.unstored = x :: l →
    exec .commitStore s = .next (State.storeBlobs { s with stage := { s.stage with unstored := l } }))

/-- The end of a commit: it is pending no more, its client's CM_LAST holds its outcome, no other commit and no other client's
outcome changes. -/
def Obligations.CommitEnds : Prop :=
  ∀ (c : Commit) (ph : Phase) (st d rule : Nat) (s : State), ∃ u : State, u = s.endCommit c ph st d rule ∧
    u.stage.commits = s.stage.commits.filter (fun x => x.order != c.order) ∧
    (c.cid ≠ mirrorCid → u.cmLast c.cid = commitBytes c.num ph.code st d rule c.items.length c.shape) ∧
    (∀ k, k ≠ c.cid → u.cmLast k = s.cmLast k) ∧ u.stage.parisons = s.stage.parisons ∧
    u.stage.unstored = s.stage.unstored ∧ u.arb = s.arb ∧ u.tmr = s.tmr ∧ u.rail = s.rail ∧ u.clk = s.clk

/-- A pending commit is withdrawn by its number up to 2 ms before its instant, by its client or a station admin; later the write
returns CONFLICT, and an unknown number RANGE. -/
def Obligations.CommitWithdrawal : Prop :=
  ∀ (r : Req) (s t : State) (w : Who) (i : Instr) (c n : Nat), LetThrough s r false t w →
    (i = .cmWithdrawWrite r ∧ rowAddr r.addr = 0x400041 ∧ c = cidOfAddr r.addr ∧ n = bytesToNum r.value) ∨
      (i = .cmWithdrawAnyWrite r ∧ r.addr = Reg.CM_WITHDRAW_ANY ∧ c = bytesToNum r.value / 65536 % 1024 ∧
        n = bytesToNum r.value % 65536) →
    (∀ x, t.stage.commits.find? (fun x => x.cid == c && x.num == n) = some x →
      (t.now + stMsUp 2 ≤ x.shape → exec i s = .next ((t.endCommit x .withdrawn 0 0 0).finish r 2 .q .ok [])) ∧
      (x.shape < t.now + stMsUp 2 → exec i s = .next (t.answer r 2 (.conflict 3) []))) ∧
    (t.stage.commits.find? (fun x => x.cid == c && x.num == n) = none →
      exec i s = .next (t.answer r 2 (.range 2 0) []))

/-! ### Chapter 09: leases and the arbiter -/

/-- What a queued bundle holds: its items with the energy of its power items, its durations and instants, the lowest free slot
of its client, and a number in use by none of the client's bundles; no other bundle changes before the pass. -/
def Obligations.BundleQueued : Prop :=
  ∀ (c : Nat) (a : LeaseAsk) (s : State),
    (∀ b ∈ s.arb.bundles, b.cid = c → b.holds = true → ∀ p ∈ b.items, p.1 ≠ 43 →
      ∀ q ∈ bundleItems a.items, q.1 ≠ p.1) →
    (s.arb.bundles.filter (fun b => b.cid == c)).length ≤ 20 →
    ∃ (t : State) (b : Bundle), s.queueBundle c a = (t.pass, b.num) ∧ t.arb.bundles = s.arb.bundles ++ [b] ∧
      b.cid = c ∧ b.hid = s.hidOf c ∧ b.st = .queued ∧ b.items = bundleItems a.items ∧ b.dur = a.dur ∧ b.age = s.now ∧
      b.timeoutAt = (if a.timeout = 0 then 0 else s.now + a.timeout * stSecond) ∧
      (∀ x ∈ s.arb.bundles, x.cid = c → 1 ≤ x.num → x.num ≤ 65535 → 1 ≤ countOf s.arb.nextNum c →
        countOf s.arb.nextNum c ≤ 65535 → x.num ≠ b.num) ∧ { t with arb := s.arb } = s

/-- A lease ends at its expiry, or at the end of its notice: after the expiries of a pass are served, no bundle holds its
amounts past its instant, and a bundle that was not due is as it was. -/
def Obligations.LeasesExpire : Prop :=
  ∀ s : State, (∀ b ∈ s.serveExpiries.arb.bundles, b.holds = true → s.now < b.inst) ∧
    (∀ b ∈ s.arb.bundles, (∀ x ∈ s.arb.bundles, x.cid = b.cid → x.num = b.num → x = b) →
      (b.holds = false ∨ s.now < b.inst) → b ∈ s.serveExpiries.arb.bundles) ∧
    s.serveExpiries.now = s.now

/-- A LEASE that passes its checks queues a bundle with the client's next number and starts a pass: OK with the grant instant
and the expiry where the pass granted it, else QUEUED with the number. One that fails a check answers its status. A lease that
comes to its expiry, a request that comes to its timeout and a notice that comes to its end are served by a pass at that
instant, or as at it where it passed while FB was stopped; an ended bundle leaves its slot 600 s after its end. RELEASE, and LS_DROP by a holder admin, ends a bundle with reason
4 and its record, and a pass follows; a bundle that has ended answers LEASE_LOST with its reason, or TIMEOUT, once, and leaves
its slot. LS_RENEW moves a held bundle's expiry to the present plus the duration asked for, RANGE for a duration that is 0 or
too long; CONFLICT under notice, or while a bundle waits for what the renewed one holds. A station admin's REVOKE_ANY gives a
held bundle notice, at least a second and at least REVOKE_NOTICE, after which it ends, never later than its own expiry; a bundle
that waits ends at once. -/
def Obligations.Leases : Prop :=
  (∀ (r : Req) (s t u : State) (c : Nat) (a : LeaseAsk), Admitted s r 7 t (.client c) → t.mayLease c = true →
     a = askOf r → (∀ p ∈ a.items, t.resOpen p.1 (t.hidOf r.cid) = true) → leaseBad r = none → t.crossing .fb 8 = .serve →
     u = (if a.items.any (fun p => powerOrd (ordOf p.1)) then t.obtainBudget else t) →
     (∀ st, u.leaseCheck r.cid a = some st → exec (.lease r) s = .next (u.finish r 7 .q st [])) ∧
     (u.leaseCheck r.cid a = none → ∃ (v : State) (n : Nat), (v, n) = u.queueBundle r.cid a ∧
       (∀ b, v.bundleOf r.cid n = some b → b.holds = true → exec (.lease r) s =
         .next (v.finish r 7 .q .ok (numToBytes 2 n ++ numToBytes 8 b.grantAt ++ numToBytes 8 b.inst))) ∧
       (v.bundleOf r.cid n = none ∨ (∃ b, v.bundleOf r.cid n = some b ∧ b.holds = false) →
         exec (.lease r) s = .next (v.finish r 7 .q .queued (numToBytes 2 n))))) ∧
  (∀ (c n : Nat) (b : Bundle) (s : State), s.runs .fb = true →
     (s.bundleIn c n (fun x => x.st == .held) = some b → exec (.leaseExpiry c n) s = .next (s.servedAt b.inst State.pass)) ∧
     (s.bundleIn c n (fun x => x.waits && x.timeoutAt != 0) = some b →
       exec (.leaseRequestTimeout c n) s = .next (s.servedAt b.timeoutAt State.pass)) ∧
     (c ≤ 1023 → s.bundleIn c n (fun x => x.st == .revoking) = some b →
       exec (.revocationEffect c n) s = .next (s.servedAt b.inst (fun t => (t.revokeNow b).pass))) ∧
     (∀ x, 1023 < c → s.arb.standing[n]? = some x → x.ends ≠ 0 →
       exec (.revocationEffect c n) s = .next (s.servedAt x.ends (fun t => (t.revokeStanding n x).pass))) ∧
     (∀ t, s.bundleIn c n (fun x => x.st == .ended) = some b → t = s.reach (b.inst + 600 * stSecond) →
       exec (.endedSlotExpiry c n) s = .next { t with arb := { t.arb with bundles := t.arb.bundles.erase b } })) ∧
  (∀ (r : Req) (s t : State) (k c n op : Nat) (i : Instr) (b : Bundle),
     (i = .release r ∧ Admitted s r 8 t (.client k) ∧ t.mayLease k = true ∧ r.body.length = 2 ∧ t.crossing .fb 8 = .serve ∧
         c = r.cid ∧ n = bodyNum r.body 0 2 ∧ op = 8) ∨
       (i = .lsDropWrite r ∧ LetThrough s r false t (.client k) ∧ t.mayLease k = true ∧ t.roleOf k = 1 ∧
         rowAddr r.addr = 0x400049 ∧ c = cidOfAddr r.addr ∧ n = bytesToNum r.value ∧ op = 2) →
     t.bundleOf c n = some b → c ∈ t.arb.known →
     (b.st ≠ .ended → exec i s = .next ((t.endBundle b 4 0x15).pass.finish r op .q .ok [])) ∧
     (b.st = .ended → b.reason ≠ 5 → exec i s = .next (State.answer { t with arb := { t.arb with
       bundles := t.arb.bundles.erase b } } r op (.leaseLost b.reason) [])) ∧
     (b.st = .ended → b.reason = 5 → exec i s = .next (State.answer { t with arb := { t.arb with
       bundles := t.arb.bundles.erase b } } r op (.timeout 1) []))) ∧
  (∀ (r : Req) (s t : State) (k c n d : Nat) (b : Bundle), LetThrough s r false t (.client k) → t.mayLease k = true →
     rowAddr r.addr = 0x400048 → c = cidOfAddr r.addr → k = c → n = bytesToNum r.value / 65536 →
     d = bytesToNum r.value % 65536 → t.bundleOf c n = some b → c ∈ t.arb.known → b.st ≠ .ended →
     (d = 0 → exec (.lsRenewWrite r) s = .next (t.answer r 2 (.range 2 0) [])) ∧
     (d ≠ 0 → (∀ p ∈ b.items, p.1 ≠ 43 → d ≤ t.resDmax p.1) →
       (b.st = .revoking → exec (.lsRenewWrite r) s = .next (t.answer r 2 (.conflict 3) [])) ∧
       (b.st = .held → (∀ x ∈ t.arb.bundles, x.waits = false) → exec (.lsRenewWrite r) s = .next
         ((t.bundleMap c n (fun x => { x with inst := t.now + d * stSecond, dur := max x.dur d })).pass.finish r 2 .q .ok [])) ∧
       (b.st = .held → (∃ x ∈ t.arb.bundles, x.waits = true ∧ ∃ p ∈ x.items, (∃ q ∈ b.items, q.1 = p.1) ∧
           t.resCap p.1 < p.2 + t.standingAmount p.1 + t.held p.1) →
         exec (.lsRenewWrite r) s = .next (t.answer r 2 (.conflict 2) [])))) ∧
  (∀ (r : Req) (s t : State) (w : Who) (c n : Nat) (b : Bundle), LetThrough s r false t w → r.addr = Reg.REVOKE_ANY →
    c = bytesToNum r.value / 65536 % 1024 → n = bytesToNum r.value % 65536 → t.bundleOf c n = some b →
    c ∈ t.arb.known →
    (b.st = .held ∨ b.st = .revoking → exec (.revokeAnyWrite r) s = .next ((t.giveNotice b).finish r 2 .q .ok [])) ∧
    (b.waits = true → exec (.revokeAnyWrite r) s =
      .next (((t.endBundle b 2 0x12).inc 4 Reg.ARB_REVOKES).pass.finish r 2 .q .ok []))) ∧
  (∀ (b : Bundle) (s : State), b.st = .held → b ∈ s.arb.bundles →
    ∀ x ∈ (s.giveNotice b).arb.bundles, x.is b.cid b.num = true → x.st = .revoking ∧
      x.inst ≤ s.now + stMs (max (s.el Reg.REVOKE_NOTICE) 1000))

/-! ### Chapter 10: timers and cadence plans -/

/-- An armed timer fires in its turn at its due instant, or as at it where it passed while FB was stopped, counted: a periodic
one is due again at the first instant of its chain still to come, any other is FIRED and gives its cell back. No other timer
changes. The next instant of a chain is the first one on it that is still to come. -/
def Obligations.TimerChains : Prop :=
  (∀ (c h : Nat) (x : Tmr) (s : State), s.timerOf c h = some x → x.state = 1 → s.turn x.inst (.timer c h) = true →
     exec (.timerFire c h) s = .next (s.servedAt x.inst (fun t => t.fireTimer x (max s.now x.inst)))) ∧
  (∀ (c h p : Nat) (x : Tmr) (s u : State), s.timerOf c h = some x → u = s.fireTimer x p →
     u.el Reg.TM_FIRES = min (s.el Reg.TM_FIRES + 1) (2 ^ 32 - 1) ∧ u.clk = s.clk ∧
     (x.mode ≠ 3 → u.timerOf c h = some { x with state := 2, ovf := false, fires := min (x.fires + 1) (2 ^ 32 - 1) }) ∧
     (x.mode = 3 → u.timerOf c h = some { x with
       inst := nextAfter x.inst (x.interval * 2 ^ 18) p, fires := min (x.fires + 1) (2 ^ 32 - 1) }) ∧
     (∀ k i, (k, i) ≠ (c, h) → u.timerOf k i = s.timerOf k i)) ∧
  (∀ due iv t : Nat, 0 < iv → due ≤ t → t < nextAfter due iv t ∧ nextAfter due iv t ≤ t + iv ∧
    (nextAfter due iv t - due) % iv = 0) ∧
  (∀ anchor period t : Nat, 0 < period → t ≤ chainFrom anchor period t ∧ chainFrom anchor period t < t + period ∧
    ((chainFrom anchor period t : Int) - anchor) % period = 0)

/-- A write of a timer handle with mode 0x01 arms it for an instant, 0x02 and 0x03 for an interval from now, on the cell it has
or on a free one; an absolute instant that has passed fires at once; without a cell EXHAUSTED, a malformed record RANGE. Mode
0x00 disarms. A plan entry fires in its turn at its due instant, or as at it where it passed while FB was stopped: it is counted, recorded for its owner and due again; with mode 0x02 its
source is posted, if it is still the holder's, with mode 0x03 its lease is asked for or renewed, and what fails goes to
PLAN_FAIL. -/
def Obligations.Timers : Prop :=
  (∀ (r : Req) (s t : State) (w : Who) (c h m v due : Nat), LetThrough s r false t w →
     0x400070 ≤ rowAddr r.addr → rowAddr r.addr ≤ 0x40008F → c = cidOfAddr r.addr → h = r.addr % 256 - 0x70 →
     r.value.length = 24 → m = bodyNum r.body 4 1 → v = bytesToNum r.value → t.tmrMay c v = true →
     due = (if m = 1 then tmrInst v else t.now + tmrInterval v * 2 ^ 18) →
     (m = 0 → tmrBad v = false → exec (.timerDisarm r) s = .next ((t.setTimer
       ⟨c, h, 0, 0, tmrPost v, tmrInst v, tmrInterval v, 0, false⟩).answer r 2 .ok [])) ∧
     (m ≠ 0 → tmrBad v = true → exec (.timerArm r) s = .next (t.answer r 2 (.range 2 0) [])) ∧
     (m ≠ 0 → tmrBad v = false → (∀ x, t.timerOf c h = some x → x.state ≠ 1) →
       (t.cellAccount c = none → exec (.timerArm r) s = .next (t.answer r 2 (.exhausted 6) [])) ∧
       (∀ ovf, t.cellAccount c = some ovf → m ≠ 1 ∨ t.now < due → exec (.timerArm r) s = .next
         ((t.setTimer ⟨c, h, m, 1, tmrPost v, due, tmrInterval v, 0, ovf⟩).answer r 2 .ok [])) ∧
       (∀ ovf x, t.cellAccount c = some ovf → m = 1 → due ≤ t.now →
         x = ⟨c, h, m, 1, tmrPost v, due, tmrInterval v, 0, ovf⟩ →
         exec (.timerArm r) s = .next (((t.setTimer x).fireTimer x t.now).finish r 2 .q .ok []))) ∧
     (∀ x, m ≠ 0 → tmrBad v = false → t.timerOf c h = some x → x.state = 1 → m ≠ 1 ∨ t.now < due →
       exec (.timerArm r) s = .next
         ((t.setTimer ⟨c, h, m, 1, tmrPost v, due, tmrInterval v, 0, x.ovf⟩).answer r 2 .ok []))) ∧
  (∀ (h tag v : Nat) (p : PlanTimer) (s : State), s.tmr.planTimers.find? (fun q => q.hid == h && q.tag == tag) = some p →
     planEntry s.liveBank h tag 1 = some v → s.turn p.due (.plan h tag) = true →
     exec (.planEntryFire h tag) s = .next (s.servedAt p.due (fun t => t.firePlan p v))) ∧
  (∀ (v : Nat) (p : PlanTimer) (s a b : State), a = s.inc 4 Reg.TM_FIRES → s.now < p.due + periodOf v →
     b = State.planRecord { a with tmr := { a.tmr with
       planTimers := a.tmr.planTimers.map (fun q => if q.hid = p.hid ∧ q.tag = p.tag then
         { q with due := p.due + periodOf v } else q) } } 41 0x19 p.tag (peOwner v) p.hid →
     (peMode v ≠ 2 → peMode v ≠ 3 → s.firePlan p v = b) ∧
     (peMode v = 2 → b.srcAssigned (peA v) p.hid = true → s.firePlan p v = b.postSource (peA v) (peOwner v) 4 p.tag) ∧
     (peMode v = 2 → b.srcAssigned (peA v) p.hid = false → s.firePlan p v = b.planFail p.hid p.tag (peOwner v) .refused) ∧
     (peMode v = 3 → (b.planLease v).2.code ∈ [0x00, 0x06, 0x11] → s.firePlan p v = (b.planLease v).1) ∧
     (peMode v = 3 → (b.planLease v).2.code ∉ [0x00, 0x06, 0x11] →
       s.firePlan p v = (b.planLease v).1.planFail p.hid p.tag (peOwner v) (b.planLease v).2))

/-- A pending exchange acts in its turn at its seam, or as at it: the other bank is live, the generation counts up, both banks
hold the new entries. An entry of the same holder and tag in both keeps its place, one that is gone stops, a new one starts on
its chain. -/
def Obligations.PlanExchanges : Prop :=
  (∀ s : State, s.el Reg.PLAN_PENDING = 1 → s.tmr.loaded = true → s.turn s.exchangeAt .exchange = true →
    exec .planExchange s = .next (s.servedAt s.exchangeAt State.planExchange)) ∧
  (∀ s u : State, u = s.planExchange → u.el Reg.PLAN_LIVE = (if s.el Reg.PLAN_LIVE = 2 then 1 else 2) ∧
    u.el Reg.PLAN_PENDING = 0 ∧ u.el Reg.PLAN_GEN = min (s.el Reg.PLAN_GEN + 1) (2 ^ 32 - 1) ∧
    u.liveBank = s.idleBank ∧ u.idleBank = s.idleBank ∧ u.liveSeam = s.idleSeam ∧ u.tmr.timers = s.tmr.timers ∧
    (∀ p ∈ s.tmr.planTimers, planEntry s.idleBank p.hid p.tag 1 ≠ none →
      { p with anchor := p.due } ∈ u.tmr.planTimers) ∧
    (∀ p ∈ u.tmr.planTimers, (∃ q ∈ s.tmr.planTimers, p = { q with anchor := q.due } ∧
        planEntry s.idleBank p.hid p.tag 1 ≠ none) ∨
      (∃ v, (p.hid, v) ∈ bankTimers s.idleBank ∧ p.tag = peTag v ∧ p.anchor = peAnchor v ∧
        p.due = chainFrom (peAnchor v) (periodOf v) s.now)))

/-! ### Chapter 11: event inputs -/

/-- A raw transition on an input that a client senses, its level known, waits for its qualification with its stamp, detail,
client and what is in force for that client; on an input with four waiting it is lost, counted, and the next record carries
OVERRUN. The oldest transition of an input that held for the filter time is the input's level and its edge is written; one that
did not leaves no trace. A qualified edge counts for the lessee; it is a record to the targets the client had set at the
transition, with its stamp, detail and the evidence flag, where the polarity asked for it; an edge whose client was unbound or
rebound meanwhile leaves no trace. With FB stopped an AO latch catches an edge that holds for its filter, asks BK for its stamp
and wakes FB; FB takes the latched edges in the order of their stamps and writes them COARSE, INCOMPLETE where BK did not answer.
The filter time after a grant the detector takes the input's level, with a record of it stamped at the grant where the client
asked for one; an input's level once taken is not taken again. Two seconds without a reference input FB may stop. L4 moves the
threshold of an adaptive input by at most an eighth, at least 1 mV, toward k times the noise within the fences; a second of
which every sample falls in an excursion or its hold leaves the noise as it was. A comparator's opening and closing are L4's. -/
def Obligations.Events : Prop :=
  (∀ (i c at_ : Nat) (up : Bool) (x : L4) (s t : State), x ∈ s.evt.l4 → t = s.comparator i c up at_ →
     (x.input ≠ i → x ∈ t.evt.l4) ∧
     (x.input = i → up = true → ∃ y ∈ t.evt.l4, y.isOpen = true ∧ y.th = x.th ∧ y.p = x.p ∧ y.holdEnd = x.holdEnd) ∧
     (x.input = i → up = false → { x with isOpen := false, holdEnd := at_ + s.evtSet c i 10 * stSecond } ∈ t.evt.l4)) ∧
  (∀ (i : Fin 24) (up side : Bool) (at_ c : Nat) (s r t : State), s.runs .fb = true → r = s.reach at_ →
     r.sensing i = some c → t = r.comparator i c up r.now →
     (t.evt.levels.find? (fun p => p.1 == i.val) = none → exec (.evtRawTransition i up side at_) s = .next t) ∧
     (∀ p, t.evt.levels.find? (fun p => p.1 == i.val) = some p →
       ((t.evt.waits.filter (fun w => w.input == i.val)).length < 4 → ∃ (u : State) (stamp : Nat),
         exec (.evtRawTransition i up side at_) s = .next u ∧ ((stamp : Int) - t.now).natAbs ≤ (if t.analogPin i then 6 else 1) ∧
         (t.clk.loaded = false → stamp = t.now) ∧ u.evt.waits = t.evt.waits ++ [{
           input := i, rising := up, stamp := stamp, detail := t.edgeDetail i up side,
           cid := c, hid := t.hidOf c, coarse := !t.clk.loaded, polarity := t.polarity c i, targets := t.evtTargets c i,
           evid := bitOf (t.evtSet c i 3) 0, filter := t.evtSet c i 2 }] ∧
         { u with evt := t.evt, freeN := t.freeN } = t) ∧
       (4 ≤ (t.evt.waits.filter (fun w => w.input == i.val)).length → ∃ u : State,
         exec (.evtRawTransition i up side at_) s = .next u ∧
         u.el (Reg.EVT_LOST c i) = min (t.el (Reg.EVT_LOST c i) + 1) (2 ^ 32 - 1) ∧
         (i.val, t.hidOf c) ∈ u.dlv.overrun ∧ u.evt = t.evt ∧ u.dlv.recs = t.dlv.recs))) ∧
  (∀ (i : Fin 24) (w : EvtWait) (d : Nat) (s u : State), s.evt.waits.find? (fun x => x.input == i.val) = some w →
     d = s.filterTime w.filter → u = State.reach { s with evt := { s.evt with waits := s.evt.waits.erase w } } (w.stamp + d) →
     (d ≠ 0 → exec (.evtEdgeQualify i false) s = .next { s with evt := { s.evt with waits := s.evt.waits.erase w } }) ∧
     (∀ held, held = true ∨ d = 0 → exec (.evtEdgeQualify i held) s = .next (State.writeEdge
       { u with evt := { u.evt with
         levels := u.evt.levels.map (fun p => if p.1 = i.val then (i.val, w.rising) else p) } } w
       (if w.coarse then 0x80 else 0)))) ∧
  (∀ (e : EvtWait) (fl : Nat) (s t : State),
     (s.inUse e.cid = false ∨ s.hidOf e.cid ≠ e.hid → s.writeEdge e fl = s) ∧
     (∀ b, s.inUse e.cid = true → s.hidOf e.cid = e.hid → s.lessee (e.input + 1) = some b → b.cid = e.cid →
       t = s.inc 4 (Reg.EVT_COUNT e.cid e.input) →
       (bitOf e.polarity (if e.rising then 0 else 1) = false → s.writeEdge e fl = t) ∧
       (bitOf e.polarity (if e.rising then 0 else 1) = true → e.targets ≠ 0 →
         s.writeEdge e fl = t.record {
           source := e.input, cid := e.cid, kind := if e.rising then 1 else 2, detail := e.detail, stamp := e.stamp,
           flags := fl, hid := t.hidOf e.cid, route := e.targets, any := false, evid := e.evid }))) ∧
  (∀ (i : Fin 24) (up side ok : Bool) (n c : Nat) (s t : State), s.isl_ .fb = islGated → s.mainPower = true →
    s.isRefInput i = false → s.sensing i = some c → aoFilter (s.evtSet c i 2) ≤ n → (∃ p ∈ s.evt.levels, p.1 = i.val) →
    s.chan 2 ≠ .stuck → t = (s.comparator i c up (s.now - n * stSecond / s.aorcHz)).setIsl .fb islStarting →
    (s.evt.latched.filter (fun l => l.edge.input == i.val)).length < 4 → ∃ u : State,
      exec (.latchEdge i up side ok n) s = .next u ∧ u.evt.latched = s.evt.latched ++ [{
        edge := {
          input := i, rising := up, stamp := 0, detail := t.edgeDetail i up side, cid := c, hid := t.hidOf c,
          coarse := true, polarity := t.polarity c i, targets := t.evtTargets c i, evid := bitOf (t.evtSet c i 3) 0,
          filter := t.evtSet c i 2 },
        cycles := n, asked := t.now,
        stamp := if ok = true ∧ s.chan 0 = .idle then some ((s.clk.v - 2 - n * 32768 / t.aorcHz) * 8192) else none }] ∧
      u.isl_ .fb = islStarting ∧ (ok = false ∨ s.chan 0 ≠ .idle →
        u.el (Reg.CH_ABANDON 0) = min (s.el (Reg.CH_ABANDON 0) + 1) (2 ^ 32 - 1)) ∧
      (∀ a, a ∉ [Reg.ISL_STATE 2, Reg.CH_ABANDON 0] → u.el a = s.el a)) ∧
  (∀ (x : Latched) (s t : State), s.runs .fb = true → s.chan 2 = .idle → s.evt.latched = [x] →
    t = { s with evt := { s.evt with latched := [], levels := s.evt.levels.map (fun p =>
      if p.1 = x.edge.input then (x.edge.input, x.edge.rising) else p) } } →
    exec .latchHandover s = .next (t.writeEdge { x.edge with stamp := s.latchStamp x }
      (0x80 + if x.stamp.isNone then 8 else 0))) ∧
  (∀ (x y : Latched) (s t u : State), s.runs .fb = true → s.chan 2 = .idle →
    s.evt.latched = [x, y] ∨ s.evt.latched = [y, x] → s.latchStamp x < s.latchStamp y →
    t = State.writeEdge { s with evt := { s.evt with latched := [], levels := s.evt.levels.map (fun p =>
      if p.1 = x.edge.input then (x.edge.input, x.edge.rising) else p) } } { x.edge with stamp := s.latchStamp x }
      (0x80 + if x.stamp.isNone then 8 else 0) →
    u = State.writeEdge { t with evt := { t.evt with levels := t.evt.levels.map (fun p =>
      if p.1 = y.edge.input then (y.edge.input, y.edge.rising) else p) } } { y.edge with stamp := s.latchStamp y }
      (0x80 + if y.stamp.isNone then 8 else 0) → exec .latchHandover s = .next u) ∧
  (∀ (i : Fin 24) (lv re : Bool) (c : Nat) (b : Bundle) (s t u : State), s.sensing i = some c →
    s.lessee (i.val + 1) = some b → (∀ p ∈ s.evt.levels, p.1 ≠ i.val) →
    u = (if re then s else s.reach (b.grantAt + s.filterTime (s.evtSet c i 2))) →
    t = { u with evt := { u.evt with levels := u.evt.levels ++ [(i.val, lv)] } } →
    (bitOf (t.evtSet c i 3) 1 = true → re = false → exec (.grantLevelTake i lv re) s = .next (t.record {
      source := i, cid := c, kind := 3, detail := if lv then 1 else 0, stamp := b.grantAt, flags := if b.coarse then 0x80 else 0,
      hid := t.hidOf c, route := t.evtTargets c i, any := false, evid := false })) ∧
    (bitOf (t.evtSet c i 3) 1 = false ∨ re = true → exec (.grantLevelTake i lv re) s = .next t)) ∧
  (∀ (i : Fin 24) (lv re : Bool) (s : State), (∃ p ∈ s.evt.levels, p.1 = i.val) →
    exec (.grantLevelTake i lv re) s = .next s) ∧
  (∀ s : State, exec .fbRefRunExpiry s = .next { s with evt := { s.evt with refAwake := false } }) ∧
  (∀ (i : Fin 8) (p : Nat) (x : L4) (b : Bundle) (s : State), s.loopHolds 4 = false →
     s.evt.l4.find? (fun y => y.input == i.val) = some x → s.lessee (i.val + 1) = some b →
     s.evtSet b.cid i 4 = 1 → s.l4Lo i ≤ x.th → x.th ≤ s.l4Hi i → ∃ (t : State) (y : L4),
       exec (.l4Evaluate i p) s = .next t ∧ t.evt.l4.find? (fun z => z.input == i.val) = some y ∧
       s.l4Lo i ≤ y.th ∧ y.th ≤ s.l4Hi i ∧ y.th ≤ x.th + max 1 (x.th / 8) ∧ x.th ≤ y.th + max 1 (x.th / 8) ∧
       y.th = max (x.th - max 1 (x.th / 8)) (min (max (s.l4Lo i) (min
         ((s.evtSet b.cid i 5 * Nat.sqrt (y.p * 65536) / 16 + 32768) / 65536) (s.l4Hi i))) (x.th + max 1 (x.th / 8))) ∧
       (x.isOpen = true ∨ s.now < x.holdEnd → x.quiet = false → y.p = x.p) ∧
       (x.isOpen = false → x.holdEnd ≤ s.now → y.p = p) ∧
       (∀ z ∈ s.evt.l4, z.input ≠ i.val → z ∈ t.evt.l4))

/-! ### Chapter 12: event delivery -/

/-- What writing a record may touch: the record store and its delivery, its own counters, the wake of FB and CR, and on a pair
the frame that forwards it. Keys, leases, timers, commits, rails and time stay, and so does every other register. -/
def Obligations.RecordFrame : Prop :=
  ∀ (n : NewRec) (s t : State), t = s.record n →
    (∀ a, a ∉ [Reg.REC_OVERRUNS (quotaHid n.hid), Reg.REC_OVERRUN_ALL, Reg.EVT_LOST n.cid n.source, Reg.REC_LOW,
      Reg.RING_WAITS, Reg.CH_ABANDON 4, Reg.ISL_STATE 2, Reg.ISL_STATE 3] → t.el a = s.el a) ∧
    t.now = s.now ∧ { t with dict := s.dict, dlv := s.dlv, twin := s.twin, out := s.out, isl := s.isl } = s ∧
    { t.isl with shadows := s.isl.shadows } = s.isl ∧
    { t.twin with tx := s.twin.tx } = s.twin ∧ t.dlv.claims = s.dlv.claims ∧ t.dlv.nextRec ≤ s.dlv.nextRec + 1

/-- A record takes a place of its holder's quota, or of its client's overflow lease when the quota is full; with neither it is
not written, the loss is counted and the next record of its source and holder carries OVERRUN. -/
def Obligations.RecordRoom : Prop :=
  ∀ (n : NewRec) (s : State), s.runs .fb = true →
    (s.recsOnQuota (quotaHid n.hid) < s.el (Reg.REC_QUOTA (quotaHid n.hid)) →
      (s.record n).dlv.nextRec = s.dlv.nextRec + 1 ∧ (n.source, n.hid) ∉ (s.record n).dlv.overrun) ∧
    (s.el (Reg.REC_QUOTA (quotaHid n.hid)) ≤ s.recsOnQuota (quotaHid n.hid) → s.heldBy n.cid 45 ≤ s.recsOnOvf n.cid →
      (s.record n).dlv.recs = s.dlv.recs ∧ (s.record n).dlv.entries = s.dlv.entries ∧
      (n.source, n.hid) ∈ (s.record n).dlv.overrun ∧
      (s.record n).el Reg.REC_OVERRUN_ALL = min (s.el Reg.REC_OVERRUN_ALL + 1) (2 ^ 32 - 1) ∧
      (s.record n).el (Reg.REC_OVERRUNS (quotaHid n.hid)) =
        min (s.el (Reg.REC_OVERRUNS (quotaHid n.hid)) + 1) (2 ^ 32 - 1))

/-- CLAIM takes the oldest entry of the target's ring: its record with the entry's sequence, or a spurious record that says why
there is none; the target then holds the claim. No other target's ring loses an entry. -/
def Obligations.ClaimsTake : Prop :=
  ∀ (k : Nat) (s : State),
    (32 ≤ (s.dlv.claims.filter (fun c => c.target == k)).length → s.claimAt k = (s, recBytes 0 511 0 0 0 0 5)) ∧
    ((s.dlv.claims.filter (fun c => c.target == k)).length < 32 →
      (s.ring k = [] → s.claimAt k = (s, recBytes 0 511 0 0 0 0 0)) ∧
      (∀ e l, s.ring k = e :: l →
        (∀ n, e.void = some n → (s.claimAt k).2 = recBytes 0 511 0 0 0 e.seq n ∧
          (s.claimAt k).1.dlv.claims = s.dlv.claims) ∧
        (∀ r, e.void = none → s.recOf e.rid = some r → (s.claimAt k).2 = recBytes r.stamp r.source r.cid r.kind
            (if e.replay then setBit r.flags 4 true else r.flags) e.seq r.detail ∧
          (s.claimAt k).1.dlv.claims = s.dlv.claims ++ [⟨k, e.seq, e.rid, s.now⟩]) ∧
        (∀ j, j ≠ k → ((s.claimAt k).1.ring j).map (fun x => (x.seq, x.rid)) =
          (s.ring j).map (fun x => (x.seq, x.rid)))))

/-- The ring operations of the host port: CLAIM, COMPLETE of a claim held, which frees its record at that target and lets the
stream's next record follow, and RING_STATUS; a sequence that is not claimed is CONFLICT. A post by DOORBELL or PEND_SET of a
source of the client's holder writes one record of it; EN_SET and EN_CLR set and clear the enable bit, what waited for it being
placed; PEND_CLR withdraws the holder's records of the source. A withdrawal makes every entry of the source and the holder void
that no claim has taken, and leaves no placement to come; claims, and the entries of every other source or holder, stay. A claim
held at T1 or T2 for CLAIM_TMO ends, counted, and its record is placed again with REPLAY. When a hold-off group's timer ends its
held records are placed, and the timer starts again if one was. Over CH07 the keeper claims the entries of T0, logs those with
the evidence flag in their holder's chain and completes them; over CH15 NW claims those of T3, notifies the subscriptions that
take them and completes them. -/
def Obligations.Delivery : Prop :=
  (∀ (r : Req) (s t : State) (w : Who) (k op : Nat), r.port = .host → s.accept r op .q true true false = .go t w →
     k = (r.body.headD 0).toNat → k = 1 ∨ k = 2 → t.mayService w k = true → t.full = true → t.crossing .fb 16 = .serve →
     (op = 1 → exec (.claim r) s = .next ((t.claimAt k).1.replyAs r 1 true .ok (t.claimAt k).2)) ∧
     (∀ c, op = 2 → t.dlv.claims.find? (fun c => c.target == k && c.seq == bodyNum r.body 1 2) = some c →
       ∀ u x, u = t.dlvSet { t.dlv with claims := t.dlv.claims.erase c } → u.recOf c.rid = some x →
       exec (.complete r) s = .next (((u.completeAt x.id k).advanceStream x.source (x.streamTarget k) x.hid).replyAs r 2
         true .ok [])) ∧
     (op = 2 → t.dlv.claims.find? (fun c => c.target == k && c.seq == bodyNum r.body 1 2) = none →
       exec (.complete r) s = .next (t.replyAs r 2 true (.conflict 3) [])) ∧
     (op = 3 → exec (.ringStatus r) s = .next (t.replyAs r 3 true .ok (numToBytes 9 (t.ringStat k))))) ∧
  (∀ (r : Req) (s t : State) (w : Who) (v : Nat), v = bytesToNum r.value → v ≤ 510 →
     (r.addr = Reg.DOORBELL → (r.port == .host) = false → LetThrough s r false t w → 128 ≤ v →
       t.aliasPasses w v false false = true →
       exec (.doorbellWrite r) s = .next ((t.postSource v w.cid 1 0).finish r 2 .q .ok [])) ∧
     (r.addr = Reg.EN_SET → LetThrough s r false t w → t.aliasPasses w v true false = true →
       exec (.enSetWrite r) s = .next ((t.setEnable v true).finish r 2 .q .ok [])) ∧
     (r.addr = Reg.EN_CLR → LetThrough s r false t w → t.aliasPasses w v true false = true →
       exec (.enClrWrite r) s = .next ((t.put (Reg.SRC_EN (v / 32))
         (setBit (t.el (Reg.SRC_EN (v / 32))) (v % 32) false)).answer r 2 .ok [])) ∧
     (r.addr = Reg.PEND_SET → LetThrough s r false t w → 128 ≤ v → t.aliasPasses w v false false = true →
       exec (.pendSetWrite r) s = .next ((t.postSource v w.cid 2 0).finish r 2 .q .ok [])) ∧
     (r.addr = Reg.PEND_CLR → LetThrough s r false t w → 128 ≤ v → t.aliasPasses w v false false = true →
       exec (.pendClrWrite r) s = .next ((t.withdraw v (t.hidOf w.cid) 1).answer r 2 .ok []))) ∧
  (∀ (v : Nat) (s t : State), t = s.put (Reg.SRC_EN (v / 32)) (setBit (s.el (Reg.SRC_EN (v / 32))) (v % 32) true) →
     s.setEnable v true = t.dlv.waiting.foldl (fun u _ => [0, 1, 2, 3].foldl State.fillRoom u) (t.placeWaiting v) ∧
     (s.dlv.waiting = [] → s.setEnable v true = t)) ∧
  (∀ (src hid n : Nat) (s : State), ∃ t : State, t = s.withdraw src hid n ∧ t.dlv.claims = s.dlv.claims ∧
     t.dict = s.dict ∧
     t.dlv.entries = s.dlv.entries.map (fun e => if e.void = none ∧
       (∃ r, s.recOf e.rid = some r ∧ r.source = src ∧ r.hid = hid) then { e with void := some n } else e) ∧
     (∀ x ∈ t.dlv.waiting, x ∈ s.dlv.waiting ∧
       ¬ (∃ r, s.recOf x.rid = some r ∧ r.source = src ∧ r.hid = hid))) ∧
  (∀ (k : Fin 3) (seq : Nat) (c : Claim) (s t : State), k.val ≠ 0 →
    s.dlv.claims.find? (fun c => c.target == k.val && c.seq == seq) = some c → s.claimTmo k ≠ 0 → s.runs .fb = true →
    t = s.reach (c.at_ + stMs (s.claimTmo k)) → ∀ u x,
    u = (t.dlvSet { t.dlv with claims := t.dlv.claims.erase c }).inc 4 Reg.CLAIM_RETURNED → u.recOf c.rid = some x →
    exec (.claimTimeout k seq) s = .next (u.place x.id (x.streamTarget c.target) true)) ∧
  (∀ (g : Fin 32) (s : State), s.runs .fb = true →
    (∀ p, s.dlv.groups.find? (fun p => p.1 == g.val) = some p →
      exec (.holdoffEnd g) s = .next (s.servedAt p.2 (fun t => t.endGroup g))) ∧
    ((∀ p ∈ s.dlv.groups, p.1 ≠ g.val) → exec (.holdoffEnd g) s = .next s)) ∧
  (∀ (g : Nat) (s : State), (∀ w ∈ s.dlv.waiting, w.why ≠ .group g) →
    s.endGroup g = s.dlvSet { s.dlv with groups := s.dlv.groups.filter (fun p => p.1 != g) }) ∧
  (∀ (g : Nat) (w : Waiting) (x : Rec) (s u : State), s.dlv.waiting = [w] → w.why = .group g → s.recOf w.rid = some x →
    u = s.dlvSet { s.dlv with groups := s.dlv.groups.filter (fun p => p.1 != g), waiting := [] } →
    (u.enabled x.source = true ∧ u.streamIdle x.source w.target x.hid = true →
      s.endGroup g = (u.place w.rid w.target false).startGroup g) ∧
    (u.enabled x.source = false ∨ u.streamIdle x.source w.target x.hid = false →
      s.endGroup g = u.addWait ⟨w.rid, w.target, .stream, false⟩)) ∧
  (∀ (e : Entry) (l : List Entry) (r : Rec) (s : State), s.runs .fb = true → e.void = none →
     (∀ t, s.runs .cr = true → s.chan 7 = .idle → s.ring 0 = e :: l → t = (s.claimAt 0).1 → t.recOf e.rid = some r →
       (r.evid = false → exec .t0Claim s = .next (t.completeClaim 0 e.seq).1) ∧
       (r.evid = true → ∃ g : LogGroup, g.chain = (if r.hid = 64 then 0 else r.hid) ∧ g.stamp = r.stamp ∧ g.typ = 0x0A ∧
         g.cid = r.cid ∧ g.onStored = .freeRec r.id ∧
         exec .t0Claim s = .next ((t.completeClaim 0 e.seq).1.logEntry g))) ∧
     (∀ t, s.runs .nw = true → s.chan 15 = .idle → s.ring 3 = e :: l → t = (s.claimAt 3).1 → t.recOf e.rid = some r →
       (t.exch.subs.filter (fun x => t.subTakes x r) = [] →
         exec .notifierClaim s = .next (t.completeClaim 3 e.seq).1) ∧
       (∀ x, t.exch.subs.filter (fun x => t.subTakes x r) = [x] →
         t.exch.subs.find? (fun y => y.cid == x.cid && y.slot == x.slot) = some x →
         exec .notifierClaim s = .next ((t.notify x 1 (recBytes r.stamp r.source r.cid r.kind
           (if e.replay then setBit r.flags 4 true else r.flags) x.seq r.detail)).completeClaim 3 e.seq).1)))

/-! ### Chapter 13: the field ports -/

/-- Reassembly of a message in CAN FD frames: a first frame begins it, each next one continues it with all 63 bytes it has room
for, the last one fills it; a frame out of order, of a wrong size or beyond the last drops the message, counted; at most 16 are
under way; a gap of CAN_SEG_TMO drops one. A frame that is not for this device changes nothing. The transmit queue of CAN FD
sends the frames of its first message in order and takes the next message when the last of them was sent, or when its time is
up; the errors' counts are those of ISO 11898-1; bus-off ends in two steps, error active with its record. The transmit queue
keeps the priority order and never overtakes a message under way; an urgent message goes before those of higher PRIO that have
not begun, behind those of its own. -/
def Obligations.CanPort : Prop :=
  (∀ (cid tag total index len : Nat) (last : Bool) (s : State), s.canTakes = true →
     (∀ (dir node res : Nat) (first : Bool),
       exec (.canSegmentReceived false dir node cid tag res first last index total len) s = .next s) ∧
     (∀ (dir node res : Nat) (first : Bool), dir ≠ 0 ∨ node ≠ s.el Reg.CAN_NODE ∨ res ≠ 0 →
       exec (.canSegmentReceived true dir node cid tag res first last index total len) s = .next s) ∧
     ((∀ x ∈ s.port.reasm, (x.cid, x.tag) ≠ (cid, tag)) →
       exec (.canSegmentReceived true 0 (s.el Reg.CAN_NODE) cid tag 0 false last index total len) s =
         .next ((s.inc 4 Reg.CAN_SEG_DROP).inc 4 Reg.MSG_DROPPED) ∧
       (16 ≤ s.port.reasm.length → exec (.canSegmentReceived true 0 (s.el Reg.CAN_NODE) cid tag 0 true false index total len) s =
         .next ((s.inc 4 Reg.CAN_SEG_DROP).inc 4 Reg.MSG_DROPPED)) ∧
       (s.port.reasm.length < 16 → index = 0 → 61 < total → total ≤ 1200 → len = 64 →
         exec (.canSegmentReceived true 0 (s.el Reg.CAN_NODE) cid tag 0 true false index total len) s = .next { s with
           port := { s.port with reasm := s.port.reasm ++ [⟨cid, tag, total, 61, 1⟩] } }) ∧
       (index = 0 → 0 < total → total ≤ 61 → len = canDlc (total + 3) →
         exec (.canSegmentReceived true 0 (s.el Reg.CAN_NODE) cid tag 0 true true index total len) s = .next s)) ∧
     (∀ x, s.port.reasm.find? (fun y => y.cid == cid && y.tag == tag) = some x → x.total ≤ 1200 →
       ∀ l, l = s.port.reasm.filter (fun y => !(y.cid == cid && y.tag == tag)) →
       (index = x.next → 63 < x.total - x.got → len = 64 →
         exec (.canSegmentReceived true 0 (s.el Reg.CAN_NODE) cid tag 0 false false index total len) s = .next { s with
           port := { s.port with reasm := l ++ [{ x with got := x.got + 63, next := index + 1 }] } }) ∧
       (index = x.next → 0 < x.total → x.total - x.got ≤ 63 → len = canDlc (x.total - x.got + 1) →
         exec (.canSegmentReceived true 0 (s.el Reg.CAN_NODE) cid tag 0 false true index total len) s = .next { s with
           port := { s.port with reasm := l } }) ∧
       (index ≠ x.next → exec (.canSegmentReceived true 0 (s.el Reg.CAN_NODE) cid tag 0 false last index total len) s =
         .next ((State.inc { s with port := { s.port with reasm := l } } 4 Reg.CAN_SEG_DROP).inc 4 Reg.MSG_DROPPED)) ∧
       exec (.canSegTimeout cid tag) s =
         .next ((State.inc { s with port := { s.port with reasm := l } } 4 Reg.CAN_SEG_DROP).inc 4 Reg.MSG_DROPPED))) ∧
  (∀ (m : CanMsg) (l : List CanMsg) (s : State), s.port.canTx = m :: l →
    (s.canSends = true → m.sent + 1 < m.frames → exec .canFrameTransmitted s = .next { s with
      port := { s.port with canTx := { m with sent := m.sent + 1 } :: l } }) ∧
    (s.canSends = true → m.frames ≤ m.sent + 1 → exec .canFrameTransmitted s =
      .next (State.emit { s with port := { s.port with canTx := l } } m.out).canRefill) ∧
    exec .canTxTimeout s = .next (State.canRefill { s with port := { s.port with canTx := l } })) ∧
  (∀ (tec rec_ : Nat) (s : State), s.canTakes = true → s.el Reg.CAN_MODE ≠ 1 →
    exec (.canBusError tec rec_) s = .next (s.canCounts tec rec_)) ∧
  (∀ s : State, s.el Reg.CAN_STATE = 3 → exec .canBoffHoldExpiry s = .next (s.put Reg.CAN_STATE 4)) ∧
  (∀ s : State, s.el Reg.CAN_STATE = 4 → exec .canRecoveryComplete s =
    .next (((s.put Reg.CAN_STATE 1).put Reg.CAN_ERRCNT 0).portRecord 3 0)) ∧
  (∀ (m : CanMsg) (l : List CanMsg), (∀ a ∈ l.drop 1, a.sent = 0) → (l.drop 1).Pairwise (fun a b => a.prio ≤ b.prio) →
     (∀ a ∈ l.head?, a.sent = 0 → ∀ b ∈ l, a.prio ≤ b.prio) → m.sent = 0 →
     ((canInsert m l).drop 1).Pairwise (fun a b => a.prio ≤ b.prio) ∧
     (∀ a ∈ l.head?, a.sent ≠ 0 → (canInsert m l).head? = some a) ∧
     (canInsert m l).erase m = l ∧ (canInsert m l).length = l.length + 1)

/-- The link comes up with its amplitude and role shown and recorded, and the addresses are checked for duplicates; it goes
down; an echo request is answered, ten in a second; a solicitation is answered and its sender cached, and in detection an
address of this device in another's frame is a duplicate. A frame that the MAC does not take in is counted, and does nothing
else. PTP: the port takes the part the best master clock algorithm gives as
far as PTP_ROLE lets it; as master it sends Announce with the clockClass of its reference, Sync with its Follow_Up, and answers
each Delay_Req, its stamps multiples of 5 ns within 15 ns of station time and discarded where NW's copy of the time is not
aligned. The host port: a frame in joins the four inbound places or is dropped with ERR, on I²C with NACK; a whole fetch
takes the oldest outbound frame; STATUS answers the status byte with the places and frames, and clears ERR; an unknown command
sets ERR. On I²C the device answers at its own address only, with NACK where it is not ready. -/
def Obligations.NetworkAndHostPorts : Prop :=
  (∀ (a m : Bool) (s t : State), s.runs .nw = true → bitOf (s.el Reg.PORT_EN) 1 = true → s.el Reg.T1L_LINK / 2 ^ 24 ≠ 3 →
    t = ((s.put Reg.T1L_LINK (((3 * 256 + (if a then 2 else 1)) * 256 + (if m then 1 else 0)) * 256)).portRecord 4
      ((if m then 1 else 0) * 256 + (if a then 2 else 1))).startDad →
    (t.el Reg.PTP_ROLE = 0 → exec (.t1lLinkUp a m) s = .next t) ∧
    (t.el Reg.PTP_ROLE ≠ 0 →
      exec (.t1lLinkUp a m) s = .next ((t.ptpGo ptpInitializing).ptpGo ptpListening))) ∧
  (∀ s : State, exec .t1lLinkDown s = .next s.linkDown) ∧
  (∀ (f : Eth) (src id seq n : Nat) (s : State), s.t1lUp = true → s.ethIn f = true → f.sound = true →
    n = (if s.port.echoSec = s.now / stSecond then s.port.echoes else 0) →
    (10 ≤ n → exec (.icmpv6Echo f src id seq) s = .next s) ∧
    (n < 10 → exec (.icmpv6Echo f src id seq) s = .next (State.emit { s with port := { s.port with
      echoes := n + 1, echoSec := s.now / stSecond } } (.frame "ICMPv6 echo reply" [src, id, seq, s.el Reg.IP6_HOPS])))) ∧
  (∀ (f : Eth) (adv : Bool) (target src mac k : Nat) (s : State), s.t1lUp = true → s.ethIn f = true → f.sound = true →
    s.ownAddrs.find? (fun p => p.2 == target) = some (k, target) → bitOf (s.el Reg.IP6_DAD) k = false →
    (s.now < s.port.dadUntil → adv = true ∨ src = 0 → exec (.neighbourDiscoveryFrame f adv target src mac) s =
      .next ((s.put Reg.IP6_DAD (setBit (s.el Reg.IP6_DAD) k true)).portRecord 6 k)) ∧
    (s.port.dadUntil ≤ s.now → src ≠ 0 → exec (.neighbourDiscoveryFrame f false target src mac) s =
      .next ((s.learnHop src mac).emit (.frame "neighbour advertisement" [target, s.el Reg.T1L_MAC, src, 255])))) ∧
  (∀ (f : Eth) (c : Instr) (s : State),
    (∃ src id seq, c = .icmpv6Echo f src id seq) ∨ (∃ adv target src mac, c = .neighbourDiscoveryFrame f adv target src mac) ∨
      (∃ k parent utc, c = .ptpAnnounceReceived f k parent utc) ∨ (∃ q, c = .ptpDelayReqReceived f q) →
    (s.t1lUp = false → exec c s = .next s) ∧
    (s.t1lUp = true → f.fcs = false → exec c s = .next (s.inc 4 Reg.T1L_FCS_ERR)) ∧
    (s.t1lUp = true → f.fcs = true → s.macAccepts f = false → f.etherType = 0x8808 → exec c s = .next s) ∧
    (s.t1lUp = true → f.fcs = true → s.macAccepts f = false → f.etherType ≠ 0x8808 →
      exec c s = .next (s.inc 4 Reg.T1L_DROPPED)) ∧
    (s.t1lUp = true → s.ethIn f = true → f.sound = false → exec c s = .next s)) ∧
  (∀ (f : Eth) (k : Fin 3) (parent : Nat) (utc : Option Int) (s t : State), s.ptpServed = true → s.t1lUp = true →
    s.ethIn f = true → f.sound = true → f.port = 320 →
    s.ptpRuns = true → s.el Reg.PTP_ROLE = 2 → s.el Reg.PTP_STATE ≠ ptpSlave → s.el Reg.PTP_STATE ≠ ptpUncalibrated →
    t = (if k.val = 0 then (s.put Reg.PTP_PARENT parent).ptpGo ptpUncalibrated
      else if k.val = 1 then (s.put Reg.PTP_PARENT (s.el Reg.PTP_CLOCK_ID * 65536)).ptpGo ptpMaster
      else s.ptpGo ptpPassive) →
    exec (.ptpAnnounceReceived f k parent utc) s = .next (State.leapCheck { t with osc := { t.osc with gmUtc := utc } })) ∧
  (∀ s : State, s.ptpServed = true → s.t1lUp = true → s.ptpRuns = true →
    (s.el Reg.PTP_ROLE = 2 → exec .announceReceiptTimeout s =
      .next ((s.put Reg.PTP_PARENT (s.el Reg.PTP_CLOCK_ID * 65536)).ptpGo ptpMaster)) ∧
    (s.el Reg.PTP_ROLE = 1 → exec .announceReceiptTimeout s =
      .next ((s.put Reg.PTP_PARENT (s.el Reg.PTP_CLOCK_ID * 65536)).ptpGo ptpListening))) ∧
  (∀ s : State, s.ptpMasters = true → (∃ l : List Nat, exec .ptpAnnounceSend s =
      .next ((s.put Reg.PTP_CLASS s.ptpClass).emit (.frame "PTP Announce" l))) ∧
    (s.nwAligned = false → exec .ptpSyncSend s = .next (s.emit (.frame "PTP Sync" [s.el Reg.PTP_DOMAIN]))) ∧
    (s.nwAligned = true → ∃ sec ns : Nat, ns < 10 ^ 9 ∧ ns % 5 = 0 ∧
      (((sec * 10 ^ 9 + ns : Nat) : Int) - (((s.now / stSecond + 946684800) * 10 ^ 9 +
        (s.now % stSecond * 10 ^ 9 + 2 ^ 27) / 2 ^ 28 : Nat) : Int)).natAbs ≤ 15 ∧
      exec .ptpSyncSend s = .next ((s.drawn.emit
        (.frame "PTP Sync" [s.el Reg.PTP_DOMAIN])).emit (.frame "PTP Follow_Up" [s.el Reg.PTP_DOMAIN, sec, ns])) ∧
      ∀ (f : Eth) (q : Nat), s.ethIn f = true → f.sound = true → f.port = 319 → exec (.ptpDelayReqReceived f q) s =
        .next (s.drawn.emit (.frame "PTP Delay_Resp" [s.el Reg.PTP_DOMAIN, sec, ns, q])))) ∧
  (∀ s : State, s.unset = false →
    (s.refShown = 2 → s.el Reg.REF_ACTIVE = 1 ∨ s.el Reg.REF_ACTIVE = 4 → s.ptpClass = 6) ∧
    (s.refShown = 3 → s.ptpClass = (if s.holdShown * 1000 ≤ s.el Reg.PTP_HOLD_SPEC then 7 else 52))) ∧
  (∀ (addr : Nat) (s : State), s.hostReady = true → s.hostI2c = false ∨ s.port.i2cAddr = some addr →
     (∀ (typ : Nat), (typ = 1 ∨ typ = 2) → s.port.hostIn < 4 →
       exec (.hostSend addr typ true) s = .next { s with port := { s.port with hostIn := s.port.hostIn + 1 } }) ∧
     (∀ (typ : Nat) (ok : Bool), (ok = false ∨ (typ ≠ 1 ∧ typ ≠ 2)) → s.port.hostIn < 4 →
       exec (.hostSend addr typ ok) s = .next (s.hostDrop.inc 4 Reg.MSG_DROPPED)) ∧
     (∀ (typ : Nat) (ok : Bool), 4 ≤ s.port.hostIn →
       (s.hostI2c = false → exec (.hostSend addr typ ok) s = .next s.hostDrop) ∧
       (s.hostI2c = true → exec (.hostSend addr typ ok) s = .next (s.emit (.frame "I2C NACK" [])))) ∧
     (s.hostDrop.el Reg.HP_DROPPED = min (s.el Reg.HP_DROPPED + 1) (2 ^ 32 - 1) ∧ s.hostDrop.port.hostErr = true) ∧
     (∀ o l, s.port.hostOut = o :: l → exec (.hostFetch addr true) s =
         .next (State.emit { s with port := { s.port with hostOut := l } } o) ∧
       exec (.hostFetch addr false) s = .next s) ∧
     (s.port.hostOut = [] → ∀ b, exec (.hostFetch addr b) s = .next (s.emit (.frame "no frame" [0, 0, 0]))) ∧
     (∃ t : State, exec (.hostStatus addr) s = .next t ∧ t.out = s.out ++ [.hostStatus
         (128 + (if s.port.hostOut = [] then 0 else 64) + (if 4 ≤ s.port.hostIn then 32 else 0) +
           (if s.port.hostErr then 16 else 0)) (4 - s.port.hostIn) (min s.port.hostOut.length 8)] ∧
       t.port.hostErr = false ∧ { t with out := s.out, port := { t.port with hostErr := s.port.hostErr } } = s) ∧
     (s.hostI2c = false → exec (.hostUnknownCommand addr) s = .next { s with port := { s.port with hostErr := true } }) ∧
     (s.hostI2c = true → exec (.hostUnknownCommand addr) s =
       .next (State.emit { s with port := { s.port with hostErr := true } } (.frame "I2C NACK" [])))) ∧
  (∀ (addr : Nat) (c : Instr) (s : State), s.hostI2c = true → (∃ typ ok, c = .hostSend addr typ ok) ∨
      (∃ b, c = .hostFetch addr b) ∨ c = .hostStatus addr ∨ c = .hostUnknownCommand addr →
    (s.port.i2cAddr ≠ some addr → exec c s = .next s) ∧
    (s.port.i2cAddr = some addr → s.hostReady = false → s.hostFetches = false →
      exec c s = .next (s.emit (.frame "I2C NACK" []))))

/-! ### Chapter 14: the keeper and its keys -/

/-- A write of (HID, algorithm) to KX_START by whom R535 allows it opens one exchange, with the slot's next generation and an
expiry KX_LIFE later, draws an ephemeral key and signs it with K0; within a second of the previous one, or with the entropy
source faulty, it is CONFLICT. Any other requester, holder or algorithm meets the uniform refusal. -/
def Obligations.KeyExchangeStarts : Prop :=
  ∀ (r : Req) (s t : State) (w : Who) (b : Bool) (v c : Nat), rowAddr r.addr = 0x400090 → v = bytesToNum r.value →
    c = cidOfAddr r.addr → b = (r.addr == Reg.KX_START 0 && bodyNum r.body 4 1 == 0) →
    (s.accept r 2 .q false false b = .go t w → valueNamed r = true → t.kxMay w v = false →
      exec (.kxStartWrite r) s = .next (t.finish r 2 .q .refused [])) ∧
    (LetThrough s r b t w → t.kxMay w v = true →
      (t.entropyBad = true ∨ (t.key.lastKx ≠ 0 ∧ t.now < t.key.lastKx + stSecond) →
        exec (.kxStartWrite r) s = .next (t.answer r 2 (.conflict 3) [])) ∧
      (t.entropyBad = false → t.key.lastKx = 0 ∨ t.key.lastKx + stSecond ≤ t.now → t.el Reg.K0_USES < 2 ^ 32 - 1 →
        t.rep.lostCopies.getD 0 0 < 2 →
        ∃ (u : State) (e n : Nat), exec (.kxStartWrite r) s = .next (u.answer r 2 .ok []) ∧ u.key.lastKx = t.now ∧
          u.kxOf c = some ⟨c, v / 256, v % 256, nextGen (t.el (Reg.KEY_GEN (v / 256))),
            t.now + t.el Reg.KX_LIFE * stSecond, e, false, 0, 0⟩ ∧
          u.el (Reg.KX_CTX c) = kxContext (v / 256) (v % 256) (nextGen (t.el (Reg.KEY_GEN (v / 256)))) t.now
            (t.now + t.el Reg.KX_LIFE * stSecond) ∧
          u.el (Reg.KX_DEV_EPH c) = Config.p256Public e % 2 ^ 264 ∧
          u.el (Reg.KX_SIG_R c) =
            (Config.ecdsaSign Config.identityKey (Config.sha256 (u.kxSigned c)) n).1 % 2 ^ 256 ∧
          u.el (Reg.KX_SIG_S c) =
            (Config.ecdsaSign Config.identityKey (Config.sha256 (u.kxSigned c)) n).2 % 2 ^ 256 ∧
          u.el Reg.K0_USES = t.el Reg.K0_USES + 1))

/-- The peer's point, once in an exchange: on the curve it gives the shared point, and W and M derived from it; off the curve it is
RANGE; a second one is CONFLICT; with no exchange open the write meets the uniform refusal. The exchange is erased at its expiry.
ZEROIZE takes 0x5A and no other value, and sends no response under a key it erased. The entropy source's failure shows in
PROV_STATE with one record. Once SC has its table again it answers. -/
def Obligations.KeyEvents : Prop :=
  (∀ (r : Req) (s t : State) (w : Who) (v c : Nat), rowAddr r.addr = 0x400095 → v = bytesToNum r.value →
    c = cidOfAddr r.addr →
    (s.accept r 2 .q false false (r.addr == Reg.KX_PEER 0) = .go t w → valueNamed r = true → t.kxOf c = none →
      exec (.kxPeerWrite r) s = .next (t.finish r 2 .q .refused [])) ∧
    (∀ k, LetThrough s r (r.addr == Reg.KX_PEER 0) t w → t.kxOf c = some k →
      (k.peerDone = true → exec (.kxPeerWrite r) s = .next (t.answer r 2 (.conflict 3) [])) ∧
      (k.peerDone = false → Config.p256Shared k.eph v = none →
        exec (.kxPeerWrite r) s = .next (t.answer r 2 (.range 2 0) [])) ∧
      (∀ z b, k.peerDone = false → Config.p256Shared k.eph v = some z →
        b = hkdf t.devUid (numToBytes 32 z) (ascii "MALNAN-K" ++ numToBytes 22 (t.el (Reg.KX_CTX c))) 64 →
        ∃ u : State, exec (.kxPeerWrite r) s = .next (u.answer r 2 .ok []) ∧ u.el (Reg.KX_PEER c) = v ∧
          (∀ a, a ≠ Reg.KX_PEER c → u.el a = t.el a) ∧
          u.kxOf c = some { k with peerDone := true, w := bytesToNum (b.take 32), m := bytesToNum (b.drop 32) }))) ∧
  (∀ (c : Nat) (k : Kx) (s : State), s.kxOf c = some k →
    exec (.kxExpiry c) s = .next ((s.reach k.expiry).eraseKx c) ∧ ((s.reach k.expiry).eraseKx c).kxOf c = none) ∧
  (∀ (r : Req) (s t u : State) (w : Who), r.addr = Reg.ZEROIZE → LetThrough s r false t w → u = t.zeroize 3 0xFF w.cid →
    (bytesToNum r.value = 0x5A → exec (.zeroizeWrite r) s = .next (u.finish r 2 .q .ok []) ∧
      (r.zeroTrailer = false → r.tr.gen = t.el (Reg.KEY_GEN (t.hidOf r.cid)) → t.hidOf r.cid < 64 →
        (u.finish r 2 .q .ok []).out = u.out)) ∧
    (bytesToNum r.value ≠ 0x5A → exec (.zeroizeWrite r) s = .next (t.answer r 2 (.range 2 0) []))) ∧
  (∀ s : State, s.runs .sc = true → s.entropyBad = false →
    exec .entropyFault s = .next ((s.put Reg.PROV_STATE (setBit (s.el Reg.PROV_STATE) 7 true)).stationRecord 54 5 0 false)) ∧
  (∀ s : State, s.entropyBad = true → exec .entropyFault s = .next s) ∧
  (∀ s : State, s.runs .sc = true →
    exec .keyTableRebuilt s = .next { s with key := { s.key with rebuilding := false } })

/-- At the flip of a key exchange the slot takes the key, the algorithm and the exchange's generation, ACTIVE with no uses; the
exchange is gone, and every client of the holder counts from 0. -/
def Obligations.KeyFlip : Prop :=
  ∀ (c wrap : Nat) (k : Kx) (s t : State), s.kxOf c = some k → t = s.keyFlip c wrap →
    t.el (Reg.KEY_STATE k.hid) = 1 ∧ t.el (Reg.KEY_ALG k.hid) = k.alg ∧ t.el (Reg.KEY_GEN k.hid) = k.gen ∧
    t.el (Reg.KEY_USES k.hid) = 0 ∧ t.kxOf c = none ∧ (t.slotOf k.hid).key = wrap ^^^ k.w ∧
    (∀ x, x < 1024 → s.hidOf x = k.hid → t.el (Reg.AUTH_CTR_IN x) = 0) ∧
    (∀ h, h ≠ k.hid → t.slotOf h = s.slotOf h ∧ t.el (Reg.KEY_GEN h) = s.el (Reg.KEY_GEN h))

/-- A zeroize erases every slot, one generation on, every exchange and the session state: no client's counter, subscription,
gather, waiting request or bond-link key outlives it, and AUTH_EPOCH shows its instant. -/
def Obligations.Zeroize : Prop :=
  ∀ (cause source cid : Nat) (s t : State), t = s.zeroize cause source cid →
    (∀ h, h < 64 → t.el (Reg.KEY_STATE h) = 0 ∧ t.el (Reg.KEY_GEN h) = nextGen (s.el (Reg.KEY_GEN h)) ∧
      (t.slotOf h).key = 0) ∧
    t.key.kx = [] ∧ t.key.copies = [] ∧ t.key.fresh = [] ∧ t.isl.retries = [] ∧ (∀ h ∈ t.isl.held, h.who = none) ∧
     t.twin.key = none ∧ t.exch.gathers = [] ∧ t.exch.subs = [] ∧
    (∀ c, c < 1024 → t.el (Reg.AUTH_CTR_IN c) = 0) ∧ t.el Reg.AUTH_EPOCH = s.now ∧ t.el Reg.ZEROIZE_LAST = s.now ∧
    bitOf (t.el Reg.PROV_STATE) 0 = true ∧ t.el Reg.AUTH_EPOCH_N = (s.el Reg.AUTH_EPOCH_N + 1) % 256

/-! ### Chapter 15: harvest, battery and heater -/

/-- The converter stops above 62 V on VIN, above the overvoltage level of the profile on VSYS, and with VIN below VSYS + 0.5 V;
the first two, and a precharge that lasts too long, put the charger into FAULT with their cause. CHG_CLEAR takes it out of the
precharge fault alone. The charge states' table: where its conditions have held for their times, the charger takes the first row
that applies; a thermistor reading outside −60 °C to +100 °C is a fault. -/
def Obligations.Charger : Prop :=
  (∀ (vin : Nat) (s t : State), s.pwLoaded = true → 62000 < vin →
    t = { s.readVin vin with pwr := { (s.readVin vin).pwr with high := true } } →
    (s.chg ≠ chgOff → s.chg ≠ chgFault → exec (.vinOvervoltage vin) s = .next (t.stopConverter.chgGo chgFault 4)) ∧
    (s.chg = chgFault → exec (.vinOvervoltage vin) s = .next t.stopConverter) ∧
    (s.chg = chgOff → exec (.vinOvervoltage vin) s = .next t)) ∧
  (∀ (vsys : Nat) (p : Profile) (s t : State), s.profile = some p → s.pwLoaded = true → p.above * p.cells < vsys →
    t = s.readVsys vsys →
    (s.chg ≠ chgOff → s.chg ≠ chgFault → exec (.vsysOvervoltage vsys) s = .next (t.stopConverter.chgGo chgFault 1)) ∧
    (s.chg = chgFault → exec (.vsysOvervoltage vsys) s = .next t.stopConverter) ∧
    (s.chg = chgOff → exec (.vsysOvervoltage vsys) s = .next s)) ∧
  (∀ (vin vsys : Nat) (s : State), s.pwLoaded = true → vin < vsys + 500 →
    (s.pwr.on = true → exec (.converterVinLowStop vin vsys) s = .next (s.readBus vin vsys).stopConverter) ∧
    (s.pwr.on = false → exec (.converterVinLowStop vin vsys) s = .next (s.readBus vin vsys))) ∧
  (∀ s : State, s.pwLoaded = true → s.chg = chgPre → exec .prechargeTimeout s = .next (s.chgGo chgFault 3)) ∧
  (∀ (r : Req) (s t : State) (w : Who), r.addr = Reg.CHG_CLEAR → LetThrough s r false t w →
    (bytesToNum r.value ≠ 1 → exec (.chgClearWrite r) s = .next (t.answer r 2 (.range 2 0) [])) ∧
    (bytesToNum r.value = 1 → t.chg = chgFault → t.el Reg.CHG_FAULT = 3 → exec (.chgClearWrite r) s =
      .next (({ t with pwr := { t.pwr with tries := 0 } }).evaluate.finish r 2 .q .ok [])) ∧
    (bytesToNum r.value = 1 → t.chg ≠ chgFault → exec (.chgClearWrite r) s = .next (t.answer r 2 .ok []))) ∧
  (∀ (vin vsys : Nat) (temp ib : Int) (ntc n long : Bool) (s t : State), s.pwLoaded = true →
     t = ((s.readBus vin vsys).readTemp temp ntc).putS 4 Reg.BAT_I ib →
     (n = true ↔ ntc = true ∨ temp < -6000 ∨ 10000 < temp) →
     exec (.chargeTransition vin vsys temp ntc ib long) s = .next (t.chgStep n ib long)) ∧
  (∀ (ib : Int) (ntc long : Bool) (p : Profile) (t : State), t.profile = some p →
     (t.chgDisabled = true → t.chgStep ntc ib long = t.chgGo chgOff 0) ∧
     (t.chgDisabled = false → t.chg ≠ chgOff → t.chg ≠ chgFault →
       (p.above * p.cells < t.pwr.vsys → t.chgStep ntc ib long = t.stopConverter.chgGo chgFault 1) ∧
       (t.pwr.vsys ≤ p.above * p.cells →
         (ntc = true → t.lead = false → t.chgStep ntc ib long = t.chgGo chgFault 2) ∧
         (ntc = false →
           (62000 < t.pwr.vin → t.chgStep ntc ib long = t.stopConverter.chgGo chgFault 4) ∧
           (t.pwr.vin ≤ 62000 → t.pwr.fresh = false → t.pwr.vsys + 500 ≤ t.pwr.vin →
             (t.chg = chgNight → t.pwr.vsys + 1000 < t.pwr.vin → t.chgStep ntc ib long = t.evaluate) ∧
             (chargeState t.chg = true → t.batTemp < t.tLo → t.chgStep ntc ib long = t.chgGo chgCold 0) ∧
             (chargeState t.chg = true → t.tLo ≤ t.batTemp → t.tHi < t.batTemp →
               t.chgStep ntc ib long = t.chgGo chgHot 0) ∧
             (t.chg = chgCold → t.tLo + 100 ≤ t.batTemp → t.chgStep ntc ib long = t.evaluate) ∧
             (t.chg = chgHot → t.batTemp ≤ t.tHi - 200 → t.chgStep ntc ib long = t.evaluate) ∧
             (t.tLo ≤ t.batTemp → t.batTemp ≤ t.tHi →
               (t.chg = chgPre → t.preMv + 100 ≤ t.cellMv →
                 t.chgStep ntc ib long = ({ t with pwr := { t.pwr with tries := 0 } }).chgGo chgBulk 0) ∧
               (t.chg = chgBulk → t.cvMv * p.cells ≤ t.pwr.vsys → t.chgStep ntc ib long = t.chgGo chgAbsorb 0) ∧
               (t.chg = chgAbsorb → ib < 20 * (t.el Reg.BAT_CAP_AH : Nat) ∨ long = true →
                 t.chgStep ntc ib long = t.chgGo (if t.lead then chgFloat else chgRest) 0) ∧
               (t.chg = chgFloat ∨ t.chg = chgRest → t.cellMv < t.rechMv →
                 t.chgStep ntc ib long = t.chgGo chgBulk 0)))) ∧
         (ntc = false → t.pwr.vin ≤ 62000 → t.pwr.fresh = false → t.pwr.vin < t.pwr.vsys + 500 →
           chargeState t.chg = true → t.chgStep ntc ib long = t.chgGo chgNight 0))) ∧
     (t.chg = chgNight → t.chgDisabled = false → t.pwr.vsys ≤ p.above * p.cells → ntc = false → t.pwr.vin ≤ 62000 →
       t.pwr.fresh = false → t.pwr.vin ≤ t.pwr.vsys + 500 → t.chgStep ntc ib long = t))

/-- A charge state entered: CHG_STATE and CHG_FAULT show it, one record names old and new state and a second the cause of a
FAULT; outside COLD to REST the converter stands still, and OFF holds the heater at 0. -/
def Obligations.ChargeStateEntered : Prop :=
  ∀ (c cause : Nat) (s t : State), s.chg ≠ c → t = s.chgGo c cause →
    t.chg = c ∧ t.el Reg.CHG_FAULT = (if c = chgFault then cause else 0) ∧
    (convState c = false → t.pwr.on = false) ∧ (convState c = true → t.pwr.on = s.pwr.on) ∧
    (c = chgOff → t.el Reg.HTR_DUTY = 0) ∧ (c ≠ chgOff → t.el Reg.HTR_DUTY = s.el Reg.HTR_DUTY) ∧
    t.rail = s.rail ∧ t.arb = s.arb ∧ t.now = s.now

/-- Loops L5 to L7 while nothing holds them: L5 moves V_ref by 0.5 % of VIN, turning when the power fell, and follows demand
where a limit is reached; a sweep sets it to the
best point, at most 95 % of the open voltage; L6 keeps the duty in its window; L7 moves the limit by at most a twentieth of
CHG_IMAX. The energy budget: ENERGY_CAP is the admitted power in units of 10 mW, rounded down and held to ENERGY_MAX; under LOW
the standing amount, under CUT 0. It is computed by PW's timer and at each hour boundary, for which PW wakes and where the
hour's harvest and SOC are stored. The battery's watch: SOC is corrected from the rest voltage, beyond the table's ends to a value that
is left open, BAT_ALARM moves with VSYS and computes the budget at once,
SNOW_SUSPECT compares two days with the median of the seven before, and AO wakes PW from the night when VIN or
VSYS passes a threshold that PW left, with the charge that AO counted. -/
def Obligations.Harvest : Prop :=
  (∀ (vin vsys ichg : Nat) (s : State) (q : PwrSt) (w : Int × Int), s.runs .pw = true → s.loopHolds 5 = false →
    convState s.chg = true → s.pwr.on = true → q = s.pwr → w = s.l5Window → ichg < s.curLimit →
    ∃ t : State, exec (.l5Evaluate vin vsys ichg false) s = .next t ∧
      t.pwr = { q with
        vin := vin
        vsys := vsys
        vRef := (clampInt (if (if vsys * ichg / 1000 < q.pLast then !q.up else q.up) then (q.vRef : Int) + (vin / 200 : Nat)
          else (q.vRef : Int) - (vin / 200 : Nat)) w.1 w.2).toNat
        vRefLast := q.vRef
        pLast := vsys * ichg / 1000
        up := if vsys * ichg / 1000 < q.pLast then !q.up else q.up
        follow := false } ∧
      (vsys * ichg / 1000 < q.pLast → t.el Reg.VMPP_MV = min q.vRefLast 65535)) ∧
  (∀ (vin vsys ichg : Nat) (full : Bool) (s : State) (q : PwrSt) (w : Int × Int), s.runs .pw = true →
    s.loopHolds 5 = false → convState s.chg = true → s.pwr.on = true → q = s.pwr → w = s.l5Window →
    full = true ∨ s.curLimit ≤ ichg → ∃ t : State, exec (.l5Evaluate vin vsys ichg full) s = .next t ∧
      t.pwr = { q with
        vin := vin
        vsys := vsys
        vRef := (clampInt (min ((q.vRef : Int) + (vin / 200 : Nat)) (s.el Reg.MPPT_VMAX : Nat)) w.1 w.2).toNat
        vRefLast := q.vRef
        pLast := vsys * ichg / 1000
        follow := true }) ∧
  (∀ (voc best : Nat) (s : State), s.pwLoaded = true → s.pwr.on = true → s.pwr.follow = false → s.loopHolds 5 = false →
    ∃ t : State, exec (.mpptSweep voc best) s = .next t ∧
      t.pwr.vRef = (clampInt (min best (voc * 19 / 20) : Nat) s.l5Window.1 s.l5Window.2).toNat ∧
      t.el Reg.VMPP_MV = min t.pwr.vRef 65535) ∧
  (∀ (ib : Int) (dev : Nat) (s t : State), s.runs .pw = true →
    t = ((s.putS 4 Reg.BAT_I ib).put Reg.DEV_MW (min dev 65535)).countCharge (ib * 10) → s.loopHolds 6 = false →
    ∃ u : State, exec (.l6Evaluate ib dev) s = .next u ∧ u.el Reg.SOC = t.el Reg.SOC ∧
      u.pwr.acc = s.pwr.acc + ((t.el Reg.PV_MW : Int) - (t.el Reg.HTR_W * 10 * t.el Reg.HTR_DUTY : Nat) - dev) * 10 ∧
      (t.s5 = true → u.el Reg.HTR_DUTY = 0) ∧
      (t.s5 = false → t.chg ≠ chgOff → t.pwLoaded = true →
        u.el Reg.HTR_DUTY = (clampInt (t.l6Want ib) 0 (min 100 (t.el Reg.HTR_DUTY_MAX))).toNat)) ∧
  (∀ (temp : Int) (ntc : Bool) (s t : State), s.runs .pw = true → t = s.readTemp temp ntc → s.loopHolds 7 = false →
    ∃ u : State, exec (.l7Evaluate temp ntc) s = .next u ∧
      (u.pwr.l7 : Int) = max 0 (clampInt (min t.i7 (t.el Reg.CHG_IMAX : Nat)) ((s.pwr.l7 : Int) - (t.el Reg.CHG_IMAX / 20 : Nat))
        ((s.pwr.l7 : Int) + (t.el Reg.CHG_IMAX / 20 : Nat)))) ∧
  (∀ s t : State, t = s.computeBudget →
    (s.el Reg.BAT_ALARM = 0 → s.el Reg.ENERGY_MAX ≤ 65535 →
      t.el Reg.ENERGY_CAP = min (s.pAdm.floor.toNat / 10) (s.el Reg.ENERGY_MAX)) ∧
    (s.el Reg.BAT_ALARM = 1 → s.standingAmount 43 ≤ 65535 → t.el Reg.ENERGY_CAP = s.standingAmount 43) ∧
    (s.el Reg.BAT_ALARM = 2 → t.el Reg.ENERGY_CAP = 0) ∧
    t.el Reg.P_ADM_MW = min s.pAdm.floor.toNat (2 ^ 32 - 1)) ∧
  (∀ s : State, s.pwLoaded = true → exec .budgetCompute s = .next (s.budget false).pass) ∧
  (∀ s t u : State, s.pwKept = true → t = (s.reach ((s.pwr.hour + 1) * 3600 * stSecond)).closeHours →
    (t.runs .cr = true → t.boot.firmware = true → u = { t with pwr := { t.pwr with socStored := t.el Reg.SOC } }) →
    (t.runs .cr = false ∨ t.boot.firmware = false → u = t) →
    (u.crossing .pw 17 = .serve → exec .hourBoundary s = .next (u.budget false).pass) ∧
    (u.crossing .pw 17 = .wait → exec .hourBoundary s = .next (u.wakeIsl .pw))) ∧
  (∀ (vsys x : Nat) (p : Profile) (s : State), s.profile = some p → s.runs .pw = true →
    restSoc (vsys / p.cells) (restTable (s.el Reg.BAT_CHEM)) = some x →
    ∃ t : State, exec (.socRestCorrection vsys) s = .next t ∧
      (isLife (s.el Reg.BAT_CHEM) = false ∨ x < 200 ∨ 800 < x → t.el Reg.SOC = x ∧ t.el Reg.SOC_STALE = 0) ∧
      (isLife (s.el Reg.BAT_CHEM) = true → 200 ≤ x → x ≤ 800 → t.el Reg.SOC = s.el Reg.SOC)) ∧
  (∀ (vsys : Nat) (p : Profile) (s : State), s.profile = some p → s.runs .pw = true →
    restSoc (vsys / p.cells) (restTable (s.el Reg.BAT_CHEM)) = none →
    ∃ t : State, exec (.socRestCorrection vsys) s = .next t ∧ t.el Reg.SOC ≤ 1000 ∧ t.el Reg.SOC_STALE = 0 ∧
      (∀ a, a ∉ [Reg.SOC, Reg.SOC_STALE, Reg.BAT_V, Reg.VMON_MV 1] → t.el a = s.el a)) ∧
  (∀ (vsys a : Nat) (p : Profile) (s t : State), s.profile = some p → s.pwLoaded = true →
    t = s.readVsys vsys → a = t.alarmAt p (vsys / p.cells) →
    (a = t.el Reg.BAT_ALARM → exec (.batAlarmChange vsys) s = .next t) ∧
    (a ≠ t.el Reg.BAT_ALARM → exec (.batAlarmChange vsys) s =
      .next ((((t.put Reg.BAT_ALARM a).powerRecord 5 a).budget (a != 0)).pass))) ∧
  (∀ (d1 d2 : Int) (l : List Int) (s t : State), s.pwKept = true → s.pwr.days = d1 :: d2 :: l →
    t = State.wakeIsl { s with pwr := { s.pwr with snowMed := median7 l } } .pw →
    (s.el Reg.SNOW_SUSPECT = 0 → 7 ≤ l.length → 10 * d1 < median7 l → 10 * d2 < median7 l →
      exec .snowCheck s = .next ((t.put Reg.SNOW_SUSPECT 1).powerRecord 6 1)) ∧
    (s.el Reg.SNOW_SUSPECT = 1 → s.pwr.snowMed ≤ 2 * d1 →
      exec .snowCheck s = .next (((s.wakeIsl .pw).put Reg.SNOW_SUSPECT 0).powerRecord 6 0))) ∧
  (∀ (charge : Int) (vin vsys : Nat) (p : Nat × Nat × Nat) (s : State), s.isl_ .pw = islGated → s.pwr.night = some p →
    (p.1 < vin ∨ vsys < p.2.1 ∨ vsys < p.2.2 → s.chan 6 ≠ .stuck → exec (.pwNightWake charge vin vsys) s = .next
      ((State.setIsl { s with pwr := { s.pwr with night := none } } .pw islStarting).countCharge charge)) ∧
    (vin ≤ p.1 → p.2.1 ≤ vsys → p.2.2 ≤ vsys → exec (.pwNightWake charge vin vsys) s = .next s))

/-! ### Chapter 16: rails, load switches and sequencing -/

/-- A rail's way up and down while PW runs: its delay over, it ramps (a twin-shared one once the peer's echo shows it); good, it
is ON; its down delay over on its turn, it falls; below its level it is OFF, or HELD after a fault-down; a discharge that lasts
too long is STUCK. The bands of a rail's monitor are
entered beyond their level and left 1 % on the other side of it: a warning is recorded; overvoltage faults a rail in RAMP or ON, undervoltage
one that is ON. An output that faults shows FAULT with its cause, and a joined one has the device drive FLT_N low; no other
output changes. FLT_N: its assertion is counted, recorded and logged; the device releases it once FLT_MIN has passed and no
joined output is going down; when the line returns high a record follows; FLT_HOLD later the outputs held back may return.
SEQ_CLEAR restores the retries, and so does 600 s ON. -/
def Obligations.Rails : Prop :=
  (∀ (r : Fin 8) (s : State), s.runs .pw = true →
     ((s.outp r).state = oWaitUp → s.twinRole = 0 ∨ bitOf s.twin.echo r = true →
       exec (.upDelayExpiry r) s = .next (s.outGo r oRamp 0 (fun y => { y with below := false })).settle) ∧
     ((s.outp r).state = oRamp →
       exec (.railGood r) s = .next (s.outGo r oOn 0 id).settle ∧
       exec (.rampTimeout r) s = .next (s.enterFault r 3).settle) ∧
     ((s.outp r).state = oWaitDown → (s.outp r).turn = true → exec (.downDelayExpiry r) s =
       .next (s.outGo r oFall (s.outp r).cause (fun y => { y with turn := false, below := false })).settle) ∧
     ((s.outp r).state = oFall ∨ (s.outp r).state = oStuck →
       ((s.outp r).faultDown = false → exec (.railOffReached r) s =
         .next (s.outGo r oOff 0 (fun y => { y with below := true })).settle) ∧
       ((s.outp r).faultDown = true → exec (.railOffReached r) s =
         .next (s.outGo r oHeld (s.outp r).cause (fun y => { y with below := true })).settle)) ∧
     ((s.outp r).state = oFall → exec (.dischargeTimeout r) s = .next (s.outGo r oStuck 4 id).settle)) ∧
  (∀ (r : Fin 8) (b : Fin 4) (entered : Bool) (mv : Nat) (s t : State), s.runs .pw = true →
     ((s.put (Reg.RAIL_MV r) (mv % 65536)).crossesBand r b entered mv = false →
       exec (.railBandCross r b entered mv) s = .next (s.put (Reg.RAIL_MV r) (mv % 65536))) ∧
     ((s.put (Reg.RAIL_MV r) (mv % 65536)).crossesBand r b entered mv = true →
     t = (s.put (Reg.RAIL_MV r) (mv % 65536)).setOut r (fun y =>
       { y with
         warnLo := if b = 0 then entered else y.warnLo
         warnHi := if b = 1 then entered else y.warnHi
         faultLo := if b = 2 then entered else y.faultLo
         faultHi := if b = 3 then entered else y.faultHi }) →
     (b = 0 ∨ b = 1 → exec (.railBandCross r b entered mv) s =
       .next (t.railRecord 2 (r * 4096 + (if b = 1 then 2 else 0) + (if entered then 1 else 0)))) ∧
     (b = 3 → entered = true → (s.outp r).state = oRamp ∨ (s.outp r).state = oOn →
       exec (.railBandCross r b entered mv) s = .next (t.enterFault r 1).settle) ∧
     (b = 2 → entered = true → (s.outp r).state = oOn →
       exec (.railBandCross r b entered mv) s = .next (t.enterFault r 2).settle) ∧
     (b = 2 ∨ b = 3 → entered = false → exec (.railBandCross r b entered mv) s = .next t))) ∧
  (∀ (r : Nat) (mv l : Nat) (s : State),
     (l = field (s.el (Reg.RAIL_LVL r)) 48 16 →
       (s.crossesBand r 2 true mv = true ↔ (s.outp r).faultLo = false ∧ mv < l) ∧
       (s.crossesBand r 2 false mv = true ↔ (s.outp r).faultLo = true ∧ 101 * l ≤ 100 * mv)) ∧
     (l = field (s.el (Reg.RAIL_LVL r)) 32 16 →
       (s.crossesBand r 0 true mv = true ↔ (s.outp r).warnLo = false ∧ mv < l) ∧
       (s.crossesBand r 0 false mv = true ↔ (s.outp r).warnLo = true ∧ 101 * l ≤ 100 * mv)) ∧
     (l = field (s.el (Reg.RAIL_LVL r)) 16 16 →
       (s.crossesBand r 1 true mv = true ↔ (s.outp r).warnHi = false ∧ l < mv) ∧
       (s.crossesBand r 1 false mv = true ↔ (s.outp r).warnHi = true ∧ 100 * mv ≤ 99 * l)) ∧
     (l = field (s.el (Reg.RAIL_LVL r)) 0 16 →
       (s.crossesBand r 3 true mv = true ↔ (s.outp r).faultHi = false ∧ l < mv) ∧
       (s.crossesBand r 3 false mv = true ↔ (s.outp r).faultHi = true ∧ 100 * mv ≤ 99 * l))) ∧
  (∀ (o cause : Nat) (s t : State), o < 14 → s.rail.outs.length = 14 → t = s.enterFault o cause →
     (t.outp o).state = oFault ∧ (t.outp o).cause = cause ∧ (∀ p, p ≠ o → t.outp p = s.outp p) ∧
     (s.joined o = true → t.rail.driving = true) ∧
     (s.joined o = true → s.rail.driving = false → t.rail.fltOut = o ∧ t.rail.fltCause = cause) ∧
     (s.joined o = false → t.rail.driving = s.rail.driving) ∧ t.arb = s.arb) ∧
  (∀ s t u : State, s.runs .pw = true → s.rail.fltLow = false →
    t = { s with rail := { s.rail with
            fltLow := true
            holdOk := false
            originator := s.rail.driving && s.rail.originator
            fltOut := if s.rail.driving then s.rail.fltOut else 0
            fltCause := if s.rail.driving then s.rail.fltCause else 7
            fltAt := if s.rail.driving then s.rail.fltAt else s.now } } →
    u = ((t.inc 4 Reg.FLT_COUNT).railRecord 3 ((if s.rail.driving then s.rail.fltOut * 4096 + 256 else 0) +
      (if t.rail.originator then 1 else 0))).logKeeper 0x08 [payload10 (numToBytes 1 (if t.rail.originator then 1 else 0) ++
        numToBytes 1 t.rail.fltOut ++ numToBytes 1 t.rail.fltCause)] .nothing →
    exec .fltNAsserted s = .next u.settle) ∧
  (∀ (lineHigh : Bool) (s : State), s.runs .pw = true → s.rail.driving = true →
    ((∃ o, o < 14 ∧ s.joined o = true ∧ ((s.outp o).state = oWaitDown ∨ (s.outp o).state = oFall)) →
      exec (.fltNRelease lineHigh) s = .next { s with rail := { s.rail with minPassed := true } }) ∧
    ((∀ o, o < 14 → s.joined o = true → (s.outp o).state ≠ oWaitDown ∧ (s.outp o).state ≠ oFall) →
      (lineHigh = true → s.rail.fltLow = true → exec (.fltNRelease lineHigh) s =
        .next (({ s with rail := { s.rail with driving := false, minPassed := true, fltLow := false } }).railRecord 4 0)) ∧
      (lineHigh = false → exec (.fltNRelease lineHigh) s =
        .next { s with rail := { s.rail with driving := false, minPassed := true } }))) ∧
  (∀ s : State, s.runs .pw = true → s.rail.fltLow = true → s.rail.driving = false →
    exec .fltNLineReleased s = .next (({ s with rail := { s.rail with fltLow := false } }).railRecord 4 0)) ∧
  (∀ s : State, s.runs .pw = true → s.rail.fltLow = false →
    exec (.fltHoldExpiry 0) s = .next ({ s with rail := { s.rail with holdOk := true } }).settle) ∧
  (∀ (r : Req) (s t : State) (w : Who), r.addr = Reg.SEQ_CLEAR → LetThrough s r false t w →
    (bytesToNum r.value = 1 → exec (.seqClearWrite r) s = .next (t.seqClear.finish r 2 .q .ok [])) ∧
    (bytesToNum r.value ≠ 1 → exec (.seqClearWrite r) s = .next (t.answer r 2 (.range 2 0) []))) ∧
  (∀ (o : Fin 14) (s : State), s.runs .pw = true → (s.outp o).state = oOn →
    exec (.retryRestore o) s = .next (s.setOut o (fun y => { y with retries := s.fltRetry })))

/-- While FLT_N reads low, once the sequencer has settled, a joined output that was OFF, HELD or in FAULT is in the state it was
in, and with PW running no joined output is on or on its way up. -/
def Obligations.FaultDown : Prop :=
  (∀ (s : State) (o : Nat), s.rail.fltLow = true → o < 14 → s.joined o = true → s.rail.outs.length = 14 →
    (s.outp o).state = oOff ∨ (s.outp o).state = oHeld ∨ (s.outp o).state = oFault →
    (s.settle.outp o).state = (s.outp o).state) ∧
  (∀ (s : State) (o : Nat), s.runs .pw = true → s.rail.fltLow = true → o < 14 → s.joined o = true →
    (s.settle.outp o).state ≠ oRamp ∧ (s.settle.outp o).state ≠ oOn ∧ (o < 8 → (s.settle.outp o).state ≠ oWaitUp))

/-- A load switch: its ramp done, it is ON; the current limit and overtemperature fault it, the latter with no retry until it
has cooled; a mean load above 1.25 times the amounts declared is recorded, at most once an hour. A margin request within the
output's fence is taken, one beyond it is CONFLICT and one beyond 100 is RANGE; the output moves to its target, its lessee's
request within the fence while the rail is ON and 0 otherwise, with one record. -/
def Obligations.Switches : Prop :=
  (∀ (k : Fin 6) (s : State), s.runs .pw = true →
     ((s.outp (8 + k)).state = oRamp → exec (.lswRampDone k) s = .next (s.outGo (8 + k) oOn 0 id).settle) ∧
     ((s.outp (8 + k)).state = oRamp ∨ (s.outp (8 + k)).state = oOn →
       exec (.lswCurrentLimit k) s = .next (s.enterFault (8 + k) 5).settle ∧
       exec (.lswOvertemp k) s =
         .next ((s.setOut (8 + k) (fun y => { y with hot := true })).enterFault (8 + k) 6).settle) ∧
     (∀ (ma mw : Nat) (t : State), t = s.put (Reg.LSW_MA k) (ma % 65536) →
       (mw * 4 ≤ t.declaredOn (8 + k) * 50 → exec (.lswLoadCheck k ma mw) s = .next t) ∧
       (t.declaredOn (8 + k) * 50 < mw * 4 → (s.outp (8 + k)).loadAt = none →
         exec (.lswLoadCheck k ma mw) s =
           .next ((t.setOut (8 + k) (fun y => { y with loadAt := some t.now })).railRecord 6 (8 + k))) ∧
       (∀ at_, (s.outp (8 + k)).loadAt = some at_ → s.now < at_ + 3600 * stSecond →
         exec (.lswLoadCheck k ma mw) s = .next t))) ∧
  (∀ (cid m v : Nat) (s : State) (x fence : Int), x = signed 8 v → fence = (s.el (Reg.MARG_CFG m) % 256 : Nat) →
    (x < -100 ∨ 100 < x → s.writeMargReq cid m v = (s, .range 2 0)) ∧
    (-100 ≤ x → x ≤ 100 → x < -fence ∨ fence < x → s.writeMargReq cid m v = (s, .conflict 3)) ∧
    (-100 ≤ x → x ≤ 100 → -fence ≤ x → x ≤ fence → s.writeMargReq cid m v = (s.put (Reg.MARG_REQ cid m) v, .ok))) ∧
  (∀ (r : Req) (s t : State) (w : Who) (u : State × Stat), 0x4000F0 ≤ rowAddr r.addr → rowAddr r.addr ≤ 0x4000F3 →
    LetThrough s r false t w → u = t.writeMargReq (cidOfAddr r.addr) (r.addr % 256 - 0xF0) (bytesToNum r.value) →
    exec (.margReqWrite r) s = .next (u.1.answer r 2 u.2 [])) ∧
  (∀ (m : Fin 4) (s : State), s.runs .pw = true → s.el (Reg.MARG_NOW m) ≠ s.margTarget m →
    exec (.margTargetReached m) s =
      .next ((s.put (Reg.MARG_NOW m) (s.margTarget m)).railRecord 5 (m * 4096 + s.margTarget m % 256))) ∧
  (∀ (m : Nat) (b : Bundle) (s : State), s.lessee (39 + m) = some b →
    ((s.outp (s.el (Reg.MARG_CFG m) / 256)).state = oOn → ∀ f : Int, f = (s.el (Reg.MARG_CFG m) % 256 : Nat) →
      s.margTarget m = unsigned 8 (clampInt (s.elS 1 (Reg.MARG_REQ b.cid m)) (-f) f)) ∧
    ((s.outp (s.el (Reg.MARG_CFG m) / 256)).state ≠ oOn → s.margTarget m = 0))

/-! ### Chapter 17: the watchdogs -/

/-- The services of a channel by whom R622 allows: the arm key arms; the service key, armed and with the window open, starts a
period; a check-in marks its slot and the last one serves; a nap starts a period of its length. Out of the window it is a
violation of cause 2, out of order one of cause 3; in another mode it is CONFLICT. The channels' timers: the end of a period or
of the grace is a violation, a window that opens counts a completion held, a stopped clock trips and the channel counts on the
other, a state register that its shadow copy does
not match asserts source 10 and trips, and WD_RSTO after a trip the output is released unless something else holds
it. -/
def Obligations.Watchdogs : Prop :=
  (∀ (r : Req) (s t : State) (x : Who) (w v : Nat), 0x1D0100 ≤ r.addr → r.addr < 0x1D0400 → w = wdOfAddr r.addr →
    v = bytesToNum r.value → LetThrough s r false t x → t.mayService x w = true →
    (r.addr % 256 = 8 →
      (v = 0x5C3A → exec (.wdKeyArm (some r)) s = .next ((t.wdKey w v).1.finish r 2 .q (t.wdKey w v).2 [])) ∧
      (v = 0xA3C5 → exec (.wdKeyService (some r)) s = .next ((t.wdKey w v).1.finish r 2 .q (t.wdKey w v).2 [])) ∧
      (v ≠ 0x5C3A → v ≠ 0xA3C5 → exec (.wdKeyBad r) s = .next ((t.wdKey w v).1.finish r 2 .q (t.wdKey w v).2 []))) ∧
    (r.addr % 256 = 9 → exec (.wdCheckin r) s = .next ((t.wdCheckin w v).1.finish r 2 .q (t.wdCheckin w v).2 [])) ∧
    (r.addr % 256 = 10 → exec (.wdNap r) s = .next ((t.wdNap w v).1.finish r 2 .q (t.wdNap w v).2 []))) ∧
  (∀ (s : State) (w v : Nat), s.wdCounts w = true →
    (s.el (Reg.WD_MODE w) ≠ 1 → s.wdKey w v = (s, .conflict 3) ∧ s.wdNap w v = (s, .conflict 3)) ∧
    (s.el (Reg.WD_MODE w) = 1 →
      s.wdKey w 0x5C3A = (s.setWd w (fun x => { x with armed := true }), .ok) ∧
      ((s.wdOf w).armed = true → (s.wdOf w).isOpen = true →
        s.wdKey w 0xA3C5 = (s.wdServed w (s.el (Reg.WD_PERIOD w)), .ok) ∧
        (0 < v → v ≤ s.el (Reg.WD_NAP_MAX w) → s.wdNap w v = (s.wdServed w (v * 1000), .ok))) ∧
      ((s.wdOf w).armed = true → (s.wdOf w).isOpen = false → s.wdKey w 0xA3C5 = (s.wdViolation w 2, .ok)) ∧
      ((s.wdOf w).armed = false → s.wdKey w 0xA3C5 = (s.wdViolation w 3, .ok)) ∧
      (v ≠ 0x5C3A → v ≠ 0xA3C5 → s.wdKey w v = (s.wdViolation w 3, .ok))) ∧
    (s.el (Reg.WD_MODE w) = 2 → v ≤ 31 → bitOf (s.el (Reg.WD_TASKS w)) v = true →
      ∀ m t, m = setBit (s.wdOf w).slots v true → t = s.setWd w (fun x => { x with slots := m }) →
      (m &&& s.el (Reg.WD_TASKS w) ≠ s.el (Reg.WD_TASKS w) → s.wdCheckin w v = (t, .ok)) ∧
      (m &&& s.el (Reg.WD_TASKS w) = s.el (Reg.WD_TASKS w) →
        ((t.wdOf w).isOpen = true → s.wdCheckin w v = (t.wdServed w (s.el (Reg.WD_PERIOD w)), .ok)) ∧
        ((t.wdOf w).isOpen = false → s.wdCheckin w v = (t.setWd w (fun x => { x with held := true }), .ok))))) ∧
  (∀ (w : Fin 3) (s : State),
     ((s.wdOf w).grace = false → exec (.wdPeriodEnd w) s = .next ((s.wdReach w 8).wdViolation w 1)) ∧
     ((s.wdOf w).grace = true → exec (.wdGraceExpiry w) s = .next ((s.wdReach w 8).wdViolation w 5)) ∧
     (s.wdCounts w = true →
       exec (.wdClockStop w) s = .next ((s.wdTrip w 4).setWd w (fun x => { x with other := !x.other })) ∧
       ((s.wdOf w).isOpen = false → ∀ t, t = (s.wdReach w (s.el (Reg.WD_WIN w) % 8)).setWd w (fun x => { x with isOpen := true }) →
         ((t.wdOf w).held = false → exec (.wdWindowOpen w) s = .next t) ∧
         ((t.wdOf w).held = true → exec (.wdWindowOpen w) s = .next (t.wdServed w (t.el (Reg.WD_PERIOD w)))))) ∧
     (∀ code shadow : Nat,
       (wdSound code shadow = true → exec (.wdStateIllegal w code shadow) s = .next s) ∧
       (wdSound code shadow = false → s.mainPower = true → (s.wdOf w).st ≠ wdTripped →
         exec (.wdStateIllegal w code shadow) s = .next (((s.tamperOn 10 (0x11 + w)).wdTrip w 6).tamperOff 10))) ∧
     ((s.wdOf w).rsto = true → ∀ t, t = s.reach (s.el (Reg.WD_LAST_TRIP w) / 2 ^ 64 + stMs (s.el (Reg.WD_RSTO w))) →
       exec (.wdRstoEnd w) s = .next ((t.setWd w (fun x => { x with rsto := false })).wdSync t)) ∧
     (s.runs .cr = true → exec (.wdKeyArm none) s = .next (s.wdKey 0 0x5C3A).1 ∧
       exec (.wdKeyService none) s = .next (s.wdKey 0 0xA3C5).1))

/-- The first violation of a channel in RUN warns and starts a period; one from WARNED, and a clock that stops or a state that
is illegal, trips it. What does not count is no violation. A trip of a host's channel asserts its reset output, ends the claims
of its target, and is counted and kept with its instant and cause. -/
def Obligations.WatchdogViolations : Prop :=
  (∀ (s : State) (w cause : Nat),
     (s.wdCounts w = false → s.wdViolation w cause = s) ∧
     (s.wdCounts w = true → w < 3 → s.wd.length = 3 → cause < 256 →
       ((s.wdOf w).st = wdWarned → s.wdViolation w cause = s.wdTrip w cause) ∧
       (cause = 4 ∨ cause = 6 → s.wdViolation w cause = s.wdTrip w cause) ∧
       ((s.wdOf w).st = wdRun → cause ≠ 4 → cause ≠ 6 → ∀ t, t = s.wdViolation w cause →
         (t.wdOf w).st = wdWarned ∧ (t.wdOf w).cause = cause ∧ (t.wdOf w).began = s.now ∧
         (s.el (Reg.WD_WARNS w) < 2 ^ 32 - 1 → t.el (Reg.WD_WARNS w) = s.el (Reg.WD_WARNS w) + 1) ∧
         (∀ x, x ≠ w → t.wdOf x = s.wdOf x)))) ∧
  (∀ (s t : State) (w cause : Nat), w = 1 ∨ w = 2 → s.wd.length = 3 → t = s.wdTrip w cause →
     (t.wdOf w).st = wdTripped ∧ (t.wdOf w).rsto = true ∧ (t.wdOf w).cause = cause ∧
     (s.el (Reg.WD_TRIPS w) < 2 ^ 32 - 1 → t.el (Reg.WD_TRIPS w) = s.el (Reg.WD_TRIPS w) + 1) ∧
     t.el (Reg.WD_LAST_TRIP w) = s.now * 2 ^ 64 + cause * 2 ^ 56 ∧
     (∀ c ∈ t.dlv.claims, c.target ≠ w))

/-! ### Chapter 18: tamper and evidence -/

/-- A tamper source that is sensed asserts and releases; only its first assertion counts. While it is asserted TMP_ACTIVE shows
it, TMP_STICKY keeps it after the release, and each change leaves one entry in BK's ring, which never holds more than eight: of
this tick edge, unless an entry of a higher source stands at it already, when it is of the next (log entry 85).
TMP_CLEAR waits for its entry: CONFLICT while a source named is asserted, SEALED on a sealed chain. A host hold ends at its
time. A shadow mismatch asserts source 9, resolves TMP_STICKY toward set and releases it once the keeper has reloaded the
copies. A test of a source: none but one at a time, of a source that is not asserted; under it the source shows nothing, and at
its end the finding is kept, recorded and logged. -/
def Obligations.Tamper : Prop :=
  (∀ (src : Fin 13) (detail : Nat) (s : State), s.tamperSensed src = true → src.val ≠ 8 →
    (s.tamperIs src = true → exec (.tamperAssert src detail) s = .next s) ∧
    (s.tamperIs src = false → exec (.tamperAssert src detail) s = .next (s.tamperSet src detail)) ∧
    (s.tamperIs src = false → s.tmp.testing ≠ some src.val → exec (.tamperRelease src) s = .next s) ∧
    (src.val ≠ 9 → exec (.tamperRelease src) s = .next (s.tamperOff src))) ∧
  (∀ (src detail : Nat) (s t : State), src < 16 → s.tmp.testing ≠ some src → s.bk.ring.length ≤ 8 →
    (t = s.tamperSet src detail → bitOf (t.el Reg.TMP_ACTIVE) src = true ∧ bitOf (t.el Reg.TMP_STICKY) src = true ∧
      t.bk.ring.length = min (s.bk.ring.length + 1) 8 ∧
      (∃ e, e ∈ t.bk.ring ∧ e.source = src ∧ e.asserted = true ∧ e.detail = detail % 256 ∧
        (s.ringAtEdge (fun x => decide (src < x.source)) = false → e.stamp = s.clk.v * 8192) ∧
        e.seq = s.bk.ringSeq)) ∧
    (t = s.tamperOff src → s.tamperIs src = true → bitOf (t.el Reg.TMP_ACTIVE) src = false ∧
      t.el Reg.TMP_STICKY = s.el Reg.TMP_STICKY ∧
      (∃ e, e ∈ t.bk.ring ∧ e.source = src ∧ e.asserted = false ∧ e.detail = 0))) ∧
  (∀ (r : Req) (s t : State) (w : Who) (m : Nat), r.addr = Reg.TMP_CLEAR → LetThrough s r false t w →
    m = bytesToNum r.value % 65536 →
    (t.el Reg.TMP_ACTIVE &&& m ≠ 0 → exec (.tmpClearWrite r) s = .next (t.answer r 2 (.conflict 3) [])) ∧
    (t.el Reg.TMP_ACTIVE &&& m = 0 → t.sealed 0 = true → exec (.tmpClearWrite r) s = .next (t.answer r 2 .sealed [])) ∧
    (t.el Reg.TMP_ACTIVE &&& m = 0 → t.sealed 0 = false → exec (.tmpClearWrite r) s =
      .next ((t.logStation 0x0D w.cid [payload10 (numToBytes 2 m)] (.clearSticky m (some r))).beginProgress r.cid))) ∧
  (∀ (m : Nat) (r : Option Req) (s t : State), t = s.onStored (.clearSticky m r) →
    t.el Reg.TMP_STICKY &&& m = 0 ∧ t.el Reg.ZEROIZE_DONE &&& m = 0 ∧ (∀ h ∈ t.tmp.holds, bitOf m h.1 = false)) ∧
  (∀ (src : Fin 16) (h : Nat × Nat × Nat × Nat × Nat) (l : List (Nat × Nat × Nat × Nat × Nat)) (s t : State),
    s.tmp.holds.find? (fun h => h.1 == src.val && h.2.2.1 != 0 && h.2.2.2.2 != 0) = some h → t = s.reach h.2.2.2.2 →
    l = t.tmp.holds.map (fun x => if x.1 = src.val then (x.1, x.2.1, 0, x.2.2.2.1, 0) else x) →
    exec (.tamperHoldExpiry src) s = .next (({ t with tmp := { t.tmp with holds := l } }).wdSync s)) ∧
  (∀ (g : Fin 6) (sticky : Nat) (s t : State), s.mainPower = true → g.val ≠ 0 →
    t = (if g.val = 1 then s.put Reg.TMP_STICKY (s.el Reg.TMP_STICKY ||| sticky % 65536) else s).tamperOn 9 g →
    (t.boot.firmware = true → g.val ≠ 2 → t.votedOut = false →
      exec (.shadowMismatch g sticky) s = .next (t.tamperOff 9)) ∧
    (t.boot.firmware = false ∨ g.val = 2 → exec (.shadowMismatch g sticky) s = .next t)) ∧
  (∀ (r : Req) (s t : State) (w : Who) (v : Nat), r.addr = Reg.TMP_TEST → LetThrough s r false t w → v = bytesToNum r.value →
    (12 < v → exec (.tmpTestWrite r) s = .next (t.answer r 2 (.range 2 0) [])) ∧
    (v ≤ 12 → t.tamperIs v = true ∨ t.tmp.testing.isSome = true →
      exec (.tmpTestWrite r) s = .next (t.answer r 2 (.conflict 3) [])) ∧
    (v ≤ 12 → t.tamperIs v = false → t.tmp.testing = none → exec (.tmpTestWrite r) s =
      .next (({ t with tmp :=
        { t.tmp with
          testing := some v
          testChanged := false
          testCid := w.cid
          testEnds := t.now + t.testSpan v } }).answer r 2 .ok []))) ∧
  (∀ (src detail : Nat) (s : State), s.tmp.testing = some src →
    s.tamperSet src detail = { s with tmp := { s.tmp with testChanged := true } } ∧
    s.tamperOff src = { s with tmp := { s.tmp with testChanged := true } }) ∧
  (∀ (detected : Bool) (src o : Nat) (s t : State), s.tmp.testing = some src →
    o = (if detected = false then 1 else if s.tmp.testChanged then 2 else 0) →
    t = { s.reach s.tmp.testEnds with tmp :=
      { (s.reach s.tmp.testEnds).tmp with
        testing := none
        testChanged := false
        testCid := 0
        testEnds := 0 } } →
    exec (.tmpTestEnd detected) s = .next (((t.put Reg.TMP_TEST_RES ((src * 256 + o) * 2 ^ 64 + t.now)).tamperRecord src 3
      o).logStation 0x0E s.tmp.testCid [payload10 (numToBytes 1 src ++ numToBytes 1 o)] .nothing))

/-- The field access port: a request asserts source 8 and sends a challenge, which a free value fills; a signature over it that
verifies under FAC_KEY while it is valid, or K1 or K2, zeroizes before the port opens, one that does not locks the port out for
10 s; a challenge lapses after 60 s, and an open port closes after 600 s without a frame. The oldest group that waits is appended and signed while CR runs, NV and SC serve and K0
signs; the ring's oldest entry is released once its append is stored, at
the next tick edge where an entry stands at this one. LOG_ARCHIVE frees a chain's entries up to its value. -/
def Obligations.FieldAndLog : Prop :=
  (∀ s t : State, s.mainPower = true → s.facEnabled = true → s.el Reg.FAC_STATE ≠ 2 → s.tmp.lockoutUntil ≤ s.now →
    t = s.tamperSet 8 1 →
    (t.entropyBad = true → exec .facOpenRequest s = .next (t.emit (.frame "FAC conflict" [0x03, 3]))) ∧
    (t.entropyBad = false → ∃ u, exec .facOpenRequest s = .next u ∧ u.el Reg.FAC_STATE = 1 ∧
      u.tmp.challengeAt = some t.now ∧
      u.out = t.out ++ [.frame "FAC challenge" [u.tmp.challenge, t.el Reg.DEV_UID, t.now]] ∧ u.tmp.challenge = t.free % 2 ^ 128)) ∧
  (∀ (x y a : Nat) (s t u : State), s.tmp.challengeAt = some a → t = s.unchallenged → u = t.tamperSet 8 2 →
    (s.now < a + 60 * stSecond → exec (.facSignature x y) s = .next (match s.facSigner x y with
      | some k => ((t.zeroize 2 0xFF 0).logKeeper 0x07 [payload10 (numToBytes 1 3 ++ numToBytes 1 k)] .openFac).tamperSet 8 3
      | none => { u with tmp := { u.tmp with lockoutUntil := u.now + 10 * stSecond } })) ∧
    (a + 60 * stSecond ≤ s.now → exec (.facSignature x y) s = .next (t.tamperOff 8))) ∧
  (∀ (x y : Nat) (d : Bytes) (s : State),
    d = Config.sha256 (ascii "MALNAN-FAC" ++ s.devUid ++ numToBytes 16 s.tmp.challenge) →
    ((s.facSigner x y).isSome = true ↔
      (s.el Reg.FAC_KEY ≠ 0 ∧ s.now < s.el Reg.FAC_UNTIL ∧ Config.ecdsaVerify (s.el Reg.FAC_KEY) d x y = true) ∨
      (s.rep.lostCopies.getD 1 0 < 2 ∧ Config.ecdsaVerify (Config.firmwareRoot false) d x y = true) ∨
      (s.rep.lostCopies.getD 2 0 < 2 ∧ Config.ecdsaVerify (Config.firmwareRoot true) d x y = true))) ∧
  (∀ (a : Nat) (s : State), s.tmp.challengeAt = some a →
    exec .facChallengeExpiry s = .next ((s.reach (a + 60 * stSecond)).unchallenged.tamperOff 8)) ∧
  (∀ s : State, s.unchallenged.tmp.challengeAt = none ∧ s.unchallenged.el Reg.FAC_STATE = 0) ∧
  (∀ s t : State, s.tmp.lockoutUntil ≠ 0 → t = s.reach s.tmp.lockoutUntil →
    exec .facLockoutEnd s = .next (({ t with tmp := { t.tmp with lockoutUntil := 0 } }).tamperOff 8)) ∧
  (∀ s : State, s.el Reg.FAC_STATE = 2 →
    exec .facIdleClose s = .next (((s.reach (s.tmp.lastFrame + 600 * stSecond)).put Reg.FAC_STATE 0).tamperOff 8)) ∧
  (∀ (g : LogGroup) (l : List LogGroup) (s : State), s.runs .cr = true → s.boot.firmware = true →
    s.crossing .sc 9 = .serve → s.crossing .nv 11 = .serve → s.el Reg.K0_USES ≠ 2 ^ 32 - 1 →
    s.rep.lostCopies.getD 0 0 < 2 → s.log.waiting = g :: l → exec .evidenceAppend s =
      .next (((({ s with log := { s.log with waiting := l } }).appendGroup g).serveReady).wdSync s)) ∧
  (∀ (q : Fin 256) (e : RingEntry) (l : List RingEntry) (s : State), s.bk.ring = e :: l →
    (e.seq = q.val → e.logged = true →
      (s.ringAtEdge (fun _ => true) = false →
        exec (.ringEntryRelease q) s = .next { s with bk := { s.bk with ring := l } }) ∧
      (s.ringAtEdge (fun _ => true) = true → ∀ t, t = s.nextEdge →
        exec (.ringEntryRelease q) s = .next { t with bk := { t.bk with ring := l } })) ∧
    (e.logged = false → exec (.ringEntryRelease q) s = .next s)) ∧
  (∀ (r : Req) (s t : State) (w : Who) (u : State × Stat), rowAddr r.addr = 0x500069 → LetThrough s r false t w →
    u = t.logArchive w r.addr (bytesToNum r.value) → exec (.logArchiveWrite r) s = .next (u.1.finish r 2 .q u.2 []))

/-- The log is append-only: a group that is appended leaves every entry stored before in place, of its own chain and of every
other; on a chain that takes it the head has moved on by the group's entries, each linked to the one before, and by one more
where the chain seals. -/
def Obligations.LogAppends : Prop :=
  ∀ (g : LogGroup) (s t : State), g.chain < 64 → t = s.appendGroup g →
    s.log.entries <+: t.log.entries ∧
    (∀ c, c < 64 → c ≠ g.chain → t.headSeq c = s.headSeq c ∧ t.headH c = s.headH c ∧ t.chain c = s.chain c) ∧
    (∀ p, s.sealed g.chain = false → g.payloads = [p] → s.el (Reg.LOG_USED g.chain) + 1 < s.logLimit g.chain - 1 →
      s.headSeq g.chain < 2 ^ 48 - 3 →
      ∃ e, t.log.entries = s.log.entries ++ [e] ∧ e.chain = g.chain ∧ e.stamp = g.stamp ∧ e.typ = g.typ ∧ e.payload = p ∧
        e.seq = s.headSeq g.chain + 1 ∧ t.headSeq g.chain = e.seq ∧ t.headH g.chain = e.h ∧
        e.h = chainNext (s.headH g.chain)
          (entryHead e.seq e.stamp e.typ g.flags g.chain g.cid p) % 2 ^ 256)

/-! ### Chapter 19: health and the lehr loops -/

/-- Whatever L1 and L2 read, the core voltage stays between 750 and 1,000 mV and moves by at most 10 mV up and 5 mV down at an
evaluation, and L2's threshold stays between 10 and 60 and moves by at most 1 up and 4 down. -/
def Obligations.LoopsStayInWindow : Prop :=
  (∀ (freqs : List Nat) (ts : List Int) (canary : Nat) (s t : State), 750 ≤ s.lehr.vcore → s.lehr.vcore ≤ 1000 →
    s.lehr.s3Top ≤ 1000 → exec (.l1Evaluate freqs ts canary) s = .next t →
    750 ≤ t.lehr.vcore ∧ t.lehr.vcore ≤ 1000 ∧ t.lehr.s3Top ≤ 1000 ∧ t.lehr.vcore ≤ s.lehr.vcore + 10 ∧
    s.lehr.vcore ≤ t.lehr.vcore + 5) ∧
  (∀ (canary : Bool) (stretched edges : Nat) (s t : State), 10 ≤ s.lehr.th → s.lehr.th ≤ 60 →
    exec (.l2Evaluate canary stretched edges) s = .next t →
    10 ≤ t.lehr.th ∧ t.lehr.th ≤ 60 ∧ t.lehr.th ≤ s.lehr.th + 1 ∧ s.lehr.th ≤ t.lehr.th + 4)

/-- L1 at an evaluation: a canary error or a bank without its margin asks for 10 mV more, every bank above the margin by more
than 4 % for 100 evaluations for 5 mV less; the answer is held to the window and to those steps. L2 at an evaluation: a canary
error lowers the threshold by 4; after 64 quiet evaluations with more than one edge in 256 stretched it rises by 1; its window
holds it. A voltage monitor that goes beyond a limit, or returns 1 % inside it, is recorded once. A loop that loses an input
holds and shows STALE, counted once; it goes on when the last one returns. -/
def Obligations.Loops : Prop :=
  (∀ (freqs : List Nat) (ts : List Int) (canary : Nat) (s t u : State) (v : Int) (w : Int × Int), s.runs .fb = true →
     t = (((((freqs.take 12).zipIdx).foldl (fun t p => t.put (Reg.PROC_F p.2) (min p.1 (2 ^ 32 - 1))) (s.readTs ts)).add 4
       Reg.CANARY canary).l1Rules (canary != 0)) → u = t.safety 1 t.l1Narrow → u.loopHolds 1 = false →
     v = (s.lehr.vcore : Int) → w = u.l1Window →
     ∃ x : State, exec (.l1Evaluate freqs ts canary) s = .next x ∧ x.clk = s.clk ∧ x.arb = s.arb ∧
       (canary ≠ 0 ∨ u.marginBelow freqs (u.el Reg.L1_MARGIN) = true →
         x.lehr.vcore = (clampInt (clampInt (v + 10) w.1 w.2) (v - 5) (v + 10)).toNat) ∧
       (canary = 0 → u.marginBelow freqs (u.el Reg.L1_MARGIN) = false →
         (u.marginAbove freqs (u.el Reg.L1_MARGIN + 4) = false ∨ s.lehr.calm + 1 < 100 →
           x.lehr.vcore = (clampInt (clampInt v w.1 w.2) (v - 5) (v + 10)).toNat) ∧
         (u.marginAbove freqs (u.el Reg.L1_MARGIN + 4) = true → 99 ≤ s.lehr.calm →
           x.lehr.vcore = (clampInt (clampInt (v - 5) w.1 w.2) (v - 5) (v + 10)).toNat))) ∧
  (∀ (canary : Bool) (stretched edges : Nat) (s : State) (w : Int × Int), s.runs .fb = true → s.loopHolds 2 = false →
     w = loopWindow (10, 60) (10, 60) s.l2Fence →
     ∃ t : State, exec (.l2Evaluate canary stretched edges) s = .next t ∧
       (canary = true → t.lehr.quiet = 0 ∧ t.lehr.th = (clampInt (clampInt ((s.lehr.th : Int) - 4) w.1 w.2)
         ((s.lehr.th : Int) - 4) ((s.lehr.th : Int) + 1)).toNat) ∧
       (canary = false → 63 ≤ s.lehr.quiet → edges < stretched * 256 → t.lehr.quiet = 0 ∧
         t.lehr.th = (clampInt (clampInt ((s.lehr.th : Int) + 1) w.1 w.2) ((s.lehr.th : Int) - 4)
           ((s.lehr.th : Int) + 1)).toNat) ∧
       (canary = false → s.lehr.quiet < 63 → t.lehr.quiet = s.lehr.quiet + 1)) ∧
  (∀ (m : Fin 8) (high : Bool) (mv : Nat) (s t : State), s.mainPower = true → t = s.put (Reg.VMON_MV m) (min mv (2 ^ 32 - 1)) →
    t.el (Reg.VMON_LIM m) / 2 ^ 32 ≠ 0 → t.el (Reg.VMON_LIM m) % 2 ^ 32 ≠ 0 →
    (high = false → mv < t.el (Reg.VMON_LIM m) / 2 ^ 32 → (m.val, high) ∉ s.lehr.bands → ∀ l, l = s.lehr.bands ++ [(m.val, high)] →
      exec (.vmonBandCross m high true mv) s =
        .next (({ t with lehr := { t.lehr with bands := l } }).loopRecord 7 (m * 256 + 1))) ∧
    (high = true → t.el (Reg.VMON_LIM m) % 2 ^ 32 < mv → (m.val, high) ∉ s.lehr.bands → ∀ l, l = s.lehr.bands ++ [(m.val, high)] →
      exec (.vmonBandCross m high true mv) s =
        .next (({ t with lehr := { t.lehr with bands := l } }).loopRecord 7 (m * 256 + 3))) ∧
    (high = false → t.el (Reg.VMON_LIM m) / 2 ^ 32 * 101 ≤ mv * 100 → (m.val, high) ∈ s.lehr.bands →
      exec (.vmonBandCross m high false mv) s =
        .next (({ t with lehr := { t.lehr with bands := t.lehr.bands.erase (m.val, high) } }).loopRecord 7 (m * 256))) ∧
    ((m.val, high) ∈ s.lehr.bands → exec (.vmonBandCross m high true mv) s = .next t)) ∧
  (∀ (k : Fin 7) (n mon : Nat) (s t : State), n = k.val + 1 → (n, mon) ∉ s.lehr.lost →
    t = ({ s with lehr := { s.lehr with lost := s.lehr.lost ++ [(n, mon)] } }).loopRecord 5 (n * 256 + mon % 256) →
    (t.loopHolds n = true → s.loopHolds n = false →
      exec (.loopInputLost k mon) s = .next ((t.inc 4 (Reg.LOOP_STALE k)).reshow n false false)) ∧
    (t.loopHolds n = false ∨ s.loopHolds n = true → exec (.loopInputLost k mon) s = .next (t.reshow n false false))) ∧
  (∀ (k : Fin 7) (n mon : Nat) (s t : State), n = k.val + 1 → (n, mon) ∈ s.lehr.lost →
    t = { s with lehr := { s.lehr with lost := s.lehr.lost.erase (n, mon) } } →
    exec (.loopInputReturn k mon) s =
      .next ((t.loopRecord 6 (n * 256 + mon % 256)).reshow n false (n == 5 && t.pwr.follow)))

/-! ### Chapter 20: redundancy and self-repair -/

/-- A pass over an SRAM memory: its corrections are counted and its instant kept; a row with an error in this pass and in one of
the three before it is a seed, unless no spare was left for it before. A seed takes a spare row, or stays in use, counted, where
none is free; a field repair is stored when CR runs and NV serves it; a block of the array due for retirement moves to a spare one. An
uncorrectable error: it is counted, its object's effect follows, the row of an SRAM memory is a seed at once, the scrubber
records its find, and the operation that met it ends with ECC_LOST and the memory's number. A lost record frees its slot and
holds no claim; a copy of a keeper slot's key that is lost is counted. -/
def Obligations.Repair : Prop :=
  (∀ (m : Fin 12) (rows programmed : List Nat) (corrected : Nat) (s : State), m.val ≠ 0 → m.val ≤ 6 → s.memThere m = true →
     s.now < 2 ^ 64 →
     ∃ t : State, exec (.scrubPassEnd m rows programmed corrected) s = .next t ∧
       field (t.el (Reg.ECC_STAT (m.val - 1))) 0 64 = s.now ∧
       field (t.el (Reg.ECC_STAT (m.val - 1))) 128 32 =
         min (field (s.el (Reg.ECC_STAT (m.val - 1))) 128 32 + max corrected rows.length) (2 ^ 32 - 1) ∧
       (∀ r ∈ rows, (∃ p ∈ s.passesOf m, r ∈ p) → (m.val, r) ∉ s.rep.unrepaired → (m.val, r) ∈ t.rep.seeds) ∧
       (∀ q ∈ t.rep.seeds, q ∈ s.rep.seeds ∨ (q.1 = m.val ∧ q.2 ∈ rows))) ∧
  (∀ (m : Fin 7) (p : Nat × Nat) (s : State), s.rep.seeds.find? (fun p => p.1 == m.val) = some p → s.memThere m = true →
    (s.repFree m = 0 → ∀ l, l = s.rep.unrepaired ++ [p] → exec (.seedRepair m) s =
      .next ((({ s with rep := { s.rep with seeds := s.rep.seeds.erase p, unrepaired := l } }).eccUnrepaired m).repairEvent
        0x11 m 0)) ∧
    (s.repFree m ≠ 0 → ∃ t : State, t.rep.seeds = s.rep.seeds.erase p ∧ t.rep.fresh = s.rep.fresh ++ [p] ∧
      (∀ q ∈ t.rep.passes, q.1 = m.val → p.2 ∉ q.2) ∧ t.dict = s.dict ∧
      exec (.seedRepair m) s = .next (t.repairEvent 0x10 m (t.repPct m)).repairCheck)) ∧
  (∀ (p : Nat × Nat) (l k : List (Nat × Nat)) (s : State), s.runs .cr = true → s.boot.firmware = true →
    s.crossing .nv 11 = .serve → s.isReadOnly 11 = false → s.rep.fresh = p :: l → k = s.rep.stored ++ [p] →
    exec .fieldRepairStore s = .next { s with rep := { s.rep with fresh := l, stored := k } }) ∧
  (∀ (k : Fin 4) (m b : Nat) (s : State), m = k.val + 8 → s.mainPower = true → b < memBlocks m → s.repFree m ≠ 0 →
    ∃ t : State, t.rep.due = s.rep.due.erase (m, b) ∧
      t.rep.retired = s.rep.retired.set k.val (s.rep.retired.getD k.val 0 + 1) ∧ t.dict = s.dict ∧
      exec (.blockRetire k b) s = .next ([8, 9, 10, 11].foldl State.regionFull
        (((t.programmed m b).cycle).repairEvent 0x13 m (t.repPct m)).repairCheck)) ∧
  (∀ (o : EccObj) (row op m : Nat) (scrub : Bool) (s t u : State), m = EccMem o → s.memThere m = true →
    t = (if m ≤ 6 then ((s.eccLost_ m).eccEffect o).seed m row else (s.eccLost_ m).eccEffect o) →
    u = (if scrub then t.repairEvent 0x12 m 0 else t) →
    exec (.eccUncorrectable o row scrub none op) s = .next (u.wdSync s) ∧
    (∀ (r : Req) (x : State) (w : Who), u.accept r op (if op = 5 ∨ op = 0x0D then .c else .q) false false false = .go x w →
      exec (.eccUncorrectable o row scrub (some r) op) s = .next ((x.finish r op .q (.eccLost m) []).wdSync s))) ∧
  (∀ (id : Nat) (s t : State), t = s.loseRec id → (∃ r, s.recOf id = some r) →
    t.recOf id = none ∧ (∀ c ∈ t.dlv.claims, c.rid ≠ id)) ∧
  (∀ (k : Fin 4) (s : State), (s.eccEffect (.keeperCopy k)).rep.lostCopies =
    s.rep.lostCopies.set k.val (min (s.rep.lostCopies.getD k.val 0 + 1) 3))

/-! ### Chapter 21: firmware images -/

/-- Every kind of IMAGE by a station admin, well formed and in range with NV there: each request of the session's owner starts
its idle time again; BEGIN, data, FINISH, ABORT and CONFIRM answer with their effect, and ACTIVATE, done, resets CR under its
drain after its response. A session: BEGIN opens one on the slot that does not run, empty and WRITING, unless another client has
one; a data block of the session's slot is stored in place of an earlier one of its number; ABORT, and 3,600 s without an IMAGE
of the owner, end it with the slot INVALID. FINISH answers OK only for an image that is complete, sound, signed under a root and
not below the anti-rollback floor; it ends the session. ACTIVATE makes the slot the one to start, as a trial where its image is
VERIFIED; a confirmation ends the trial and raises the floor to the image's security version, never lowering it; FW_TRIAL_S in
full service confirm a trial by themselves. -/
def Obligations.Images : Prop :=
  (∀ (r : Req) (s t u : State) (w : Who) (i : Nat), s.accept r 0x0D .c false false false = .go t w → t.isSa w = true →
     imFormed r = true → imInRange r = true → t.crossing .nv 11 = .serve → i = imSlot r - 1 →
     u = (if t.sessSlot ≠ 0 ∧ t.sessOwner = r.cid then t.put Reg.FW_SESSION (setField (t.el Reg.FW_SESSION) 0 64 t.now) else t) →
     (imBlock r = 0xFFF0 → exec (.imageBegin r) s =
       .next ((u.imageBegin r.cid i).1.finish r 0x0D .c (u.imageBegin r.cid i).2 [])) ∧
     (imBlock r < 0xFFF0 → exec (.imageData r) s = .next ((u.imageData r.cid i (imBlock r) (imData r)).1.finish r 0x0D .c
       (u.imageData r.cid i (imBlock r) (imData r)).2 [])) ∧
     (imBlock r = 0xFFF1 → exec (.imageFinish r) s =
       .next ((u.imageFinish r.cid i).1.finish r 0x0D .c (u.imageFinish r.cid i).2 [])) ∧
     (imBlock r = 0xFFF2 → exec (.imageAbort r) s =
       .next ((u.imageAbort r.cid i).1.finish r 0x0D .c (u.imageAbort r.cid i).2 [])) ∧
     (imBlock r = 0xFFF3 → ∀ e x, e = u.imageActivate r.cid i (bodyNum r.body 5 1 == 1) → x = e.1.finish r 0x0D .c e.2 [] →
       (e.2.code = 0 → exec (.imageActivate r) s = .next (x.activated.wdSync s)) ∧
       (e.2.code ≠ 0 → exec (.imageActivate r) s = .next (x.wdSync s))) ∧
     (imBlock r = 0xFFF4 → exec (.imageConfirm r) s =
       .next ((u.imageConfirm r.cid).1.finish r 0x0D .c (u.imageConfirm r.cid).2 []))) ∧
  (∀ (c i : Nat) (s : State), i < 2 → c < 1024 → s.now < 2 ^ 64 →
    (s.running = some i ∨ (s.sessSlot ≠ 0 ∧ s.sessOwner ≠ c) → s.imageBegin c i = (s, .conflict 3)) ∧
    (s.running ≠ some i → s.sessSlot = 0 ∨ s.sessOwner = c → s.isReadOnly (8 + i) = false → s.sealed 0 = false →
      ∃ t : State, s.imageBegin c i = (t, .ok) ∧ t.sessSlot = i + 1 ∧ t.sessOwner = c ∧ t.slotState i = slWriting ∧
        t.imageOf i = ⟨none, []⟩ ∧ t.imageOf (1 - i) = s.imageOf (1 - i)) ∧
    (s.ownsSession c i = false → (∀ n d, s.imageData c i n d = (s, .conflict 3)) ∧ s.imageAbort c i = (s, .conflict 3)) ∧
    (s.ownsSession c i = true → s.imageAbort c i = (s.endSession false, .ok)) ∧
    (∀ n d h, s.ownsSession c i = true → s.isReadOnly (8 + i) = false → n ≠ 0 → (s.imageOf i).hdr = some h → n < h.blocks →
      (d.length ≠ h.blockLen n → s.imageData c i n d = (s, .range 2 0)) ∧
      (d.length = h.blockLen n → ∃ t : State, s.imageData c i n d = (t, .ok) ∧ (t.imageOf i).hdr = some h ∧
        (t.imageOf i).blocks = (s.imageOf i).blocks.filter (fun p => p.1 != n) ++ [(n, d)]))) ∧
  (∀ (s : State) (k : Nat), s.sessSlot = k + 1 → k < 2 → (s.endSession false).sessSlot = 0 ∧
    (s.endSession false).slotState k = slInvalid) ∧
  (∀ s : State, s.sessSlot ≠ 0 → s.runs .cr = true → exec .fwSessionTimeout s =
    .next ((s.reach (field (s.el Reg.FW_SESSION) 0 64 + 3600 * stSecond)).endSession false)) ∧
  (∀ (c i : Nat) (s : State) (h : Image), i < 2 → s.now < 2 ^ 64 → s.ownsSession c i = true → s.hdrOf i = some h →
     (s.imageOf i).complete = true → s.sealed 0 = false →
     (64 < h.security → s.imageFinish c i = s.imageRefused c i (.exhausted 4)) ∧
     (h.security ≤ 64 → h.sound = false ∨ i ∈ s.rep.badSlots ∨ h.security < s.el Reg.FW_FLOOR →
       s.imageFinish c i = s.imageRefused c i (.conflict 3)) ∧
     (h.sound = true → i ∉ s.rep.badSlots → s.el Reg.FW_FLOOR ≤ h.security → h.version < 2 ^ 32 → h.schema < 2 ^ 16 →
       h.capability < 2 ^ 32 → ∃ t : State,
       s.imageFinish c i = (if s.verifies i h then (t, .ok) else s.imageRefused c i (.conflict 3)) ∧ t.sessSlot = 0 ∧
       t.slotState i = slVerified)) ∧
  (∀ (i : Nat) (s : State) (h : Image) (b d : Bytes), b = (s.imageOf i).bytes h → d = Config.sha256 (b.take 64 ++ b.drop 128) →
    (s.verifies i h = true ↔ s.rootVerifies 1 d (bodyNum b 64 32) (bodyNum b 96 32) = true ∨
      s.rootVerifies 2 d (bodyNum b 64 32) (bodyNum b 96 32) = true)) ∧
  (∀ (c i : Nat) (force : Bool) (s t : State), i < 2 → s.imageActivate c i force = (t, .ok) →
    t.el Reg.BOOT_PREF = i + 1 ∧ s.running ≠ some i ∧ (s.slotState i = slVerified ∨ s.slotState i = slConfirmed) ∧
    (s.slotState i = slVerified → t.slotState i = slTrial ∧ t.slotTrials i = 0) ∧
    (s.slotState i = slConfirmed → t.slotState i = slConfirmed)) ∧
  (∀ (i : Nat) (h : Image) (cid : Option Nat) (s t : State), i < 2 → s.fw.pendingFloor = none → t = s.confirm i h cid →
    t.slotState i = slConfirmed ∧ t.el Reg.FW_FLOOR = max (s.el Reg.FW_FLOOR) h.security ∧ t.fw.pendingFloor = none) ∧
  (∀ (k a : Nat) (h : Image) (s : State), s.runs .cr = true → s.boot.firmware = true → s.full = true → s.sealed 0 = false →
    s.running = some k → s.fw.since = some a → s.hdrOf k = some h → s.slotState k = slTrial →
    exec .fwAutoConfirm s = .next ((s.reach (a + s.el Reg.FW_TRIAL_S * stSecond)).confirm k h none))

/-! ### Chapter 22: the twin pair -/

/-- The bond link's own frames, while NW runs on a half of a pair: HELLOs until one is accepted, then heartbeats, SYNC exchanges
and a digest at each whole multiple of 10 s. While NW runs, a frame of the bond link that is unsound, comes without a session or
repeats a counter is dropped and counted in TWIN_LINK_ERR, whatever it carries, and has no other effect. A HELLO, which has no
counter of a session yet, is dropped when it is unsound (log entry 50). A HELLO of the peer whose identity TWIN_PEER_ID names,
with a signature that verifies under it, is answered where this half sends none and makes the session, whose key HKDF derives from
the points of both: the pair is LINKING, or ALONE with its reason where the roles or the capabilities do not fit; any other HELLO
changes nothing. A heartbeat accepted ends the misses and names the leader: the half
that alone is ready, else A; B's lent enables follow A's word, and a rail of A whose delay is over ramps once B's echo shows it. Three misses lose the link, and a pair that was linked or more
splits. An exchange accepted: the offset is the mean of the two ways. The leader shows 0 and follows nobody; the follower shows
the offset and follows: in LINKING it removes an offset beyond TWIN_JOIN_T, in JOINED it watches TWIN_T_THR. The peer's digest
is kept and, for this half's instant, compared: in JOINED a difference is DISCORD, in DISCORD agreement ends it. A record of the
peer is written here with REMOTE. What the halves ask of each other: a mirrored commit and a step are answered, and held when
both halves' checks pass; in DISCORD the chosen half's values are committed, or the first rule they violate is shown;
TWIN_RESOLVE names the half, in DISCORD alone. -/
def Obligations.BondLink : Prop :=
  (∀ s : State, s.bondServed = true → s.twin.helloing = true → s.crossing .sc 9 = .serve →
    s.el Reg.K0_USES ≠ 2 ^ 32 - 1 → s.rep.lostCopies.getD 0 0 < 2 →
    exec .twinHelloSend s = .next s.sendHello ∧ s.sendHello.el Reg.K0_USES = min (s.el Reg.K0_USES + 1) (2 ^ 32 - 1)) ∧
  (∀ (k : Nat) (s t : State), s.bondRuns = true → s.twin.key = some k →
    t = { s with twin := { s.twin with hbOut := (s.twin.hbOut + 1) % 65536 } } →
    exec .twinHeartbeatSend s = .next (t.bondSend "TWIN HEARTBEAT" [t.twinRole, t.el Reg.TWIN_STATE,
      if t.twinReady then 1 else 0, if t.twinRole = 1 then t.railWord else 0, t.twin.lent, t.twin.hbOut]) ∧
    (s.twinIs 2 = true ∨ s.twinTogether = true → exec .twinSyncSend s = .next (s.bondSend "TWIN SYNC" [s.now]))) ∧
  (∀ (k ten : Nat) (s t u : State), s.bondServed = true → s.twin.key = some k → ten = 10 * stSecond →
    t = s.reach ((s.now + ten - 1) / ten * ten) → u = (t.put Reg.TWIN_DIGEST t.twinDigest).put Reg.TWIN_DIGEST_AT t.now →
    t.twin.digestFor ≠ t.now → s.twinIs 2 = false →
    exec .twinDigestCompute s = .next (({ u with twin :=
      { u.twin with ownDigest := true, peerDigest := none, digestFor := t.now } }).bondSend "TWIN DIGEST"
        [t.now, t.twinDigest])) ∧
  (∀ (f : Bond) (s : State), s.bondRuns = true → s.bondTakes f = false →
    (∀ st w e c rd, exec (.twinHeartbeat f st w e c rd) s = .next s.bondDrop) ∧
    (∀ a b c d x y z l, exec (.twinSync f a b c d x y z l) s = .next s.bondDrop) ∧
    (∀ i d, exec (.twinDigest f i d) s = .next s.bondDrop) ∧
    (∀ st src k fl d, exec (.twinRecord f st src k fl d) s = .next s.bondDrop) ∧
    (∀ it sh b, exec (.twinCommit f it sh b) s = .next s.bondDrop) ∧
    (∀ d a fo b, exec (.twinStep f d a fo b) s = .next s.bondDrop) ∧
    (∀ it, exec (.twinValues f it) s = .next s.bondDrop)) ∧
  (∀ (f : Bond) (h : Hello) (s : State), s.bondRuns = true → f.sound = false → exec (.twinHello f h) s = .next s.bondDrop) ∧
  (∀ (f : Bond) (s : State), f.sound = false ∨ f.counter ≤ s.twin.rx → s.bondTakes f = false) ∧
  (∀ s : State, s.bondDrop.el Reg.TWIN_LINK_ERR = min (s.el Reg.TWIN_LINK_ERR + 1) (2 ^ 32 - 1) ∧
    OnlyEls [Reg.TWIN_LINK_ERR] s s.bondDrop) ∧
  (∀ (f : Bond) (h : Hello) (s t : State), s.bondServed = true → s.crossing .sc 9 = .serve → f.sound = true →
     t = (if (s.twin.helloing = false ∨ s.twin.eph = none) ∧ s.k0Signs = true then s.sendHello else s) →
     exec (.twinHello f h) s = .next (if s.knows h then (match t.sessionKey h with
       | some k => t.helloAccepted f h k
       | none => t) else s)) ∧
  (∀ (h : Hello) (s : State), s.knows h = true ↔ s.el Reg.TWIN_PEER_ID ≠ 0 ∧
     bytesToNum (Config.sha256 (numToBytes 64 h.identity)) = s.el Reg.TWIN_PEER_ID ∧
     Config.ecdsaVerify (Config.p256Compress h.identity) (Config.sha256 (helloSigned h)) h.sigR h.sigS = true) ∧
  (∀ (h : Hello) (e : Nat) (s : State), s.twin.eph = some e → s.twinRole = 1 →
     s.sessionKey h = (Config.p256Shared e (Config.p256Compress h.eph)).map (fun x =>
       bytesToNum (hkdf (s.devUid ++ numToBytes 16 h.uid) (numToBytes 32 x) (ascii "MALNAN-T") 32))) ∧
  (∀ (f : Bond) (h : Hello) (key : Nat) (s t : State), t = s.helloAccepted f h key →
     t.twin.key = some key ∧ t.twin.rx = f.counter ∧ t.twin.helloing = false ∧ t.twin.misses = 0 ∧ t.twin.peerReady = h.ready ∧
     (h.role = s.twinRole → t.el Reg.TWIN_STATE = 6 ∧ t.el Reg.TWIN_REASON = 1) ∧
     (h.role ≠ s.twinRole →
       (s.ownCap < h.least → t.el Reg.TWIN_STATE = 6 ∧ t.el Reg.TWIN_REASON = 2) ∧
       (h.least ≤ s.ownCap → h.cap < s.ownLeast → t.el Reg.TWIN_STATE = 6 ∧ t.el Reg.TWIN_REASON = 3) ∧
       (h.least ≤ s.ownCap → s.ownLeast ≤ h.cap → t.el Reg.TWIN_STATE = 2 ∧ t.el Reg.TWIN_REASON = 0))) ∧
  (∀ (f : Bond) (st word echo count lead : Nat) (ready : Bool) (s t : State), s.bondRuns = true → s.bondTakes f = true →
    lead = (if s.twinReady = true ∧ ready = false then s.twinRole else if ready = true ∧ s.twinReady = false
      then 3 - s.twinRole else 1) → t = s.bondTook f →
    exec (.twinHeartbeat f st word echo count ready) s = .next (State.echoed (State.lendRails { t with twin := { t.twin with
      hbAt := t.now
      misses := 0
      hbIn := count % 65536
      peerState := st
      peerReady := ready
      nextLeader := lead
      word := word % 256
      echo := echo % 256 } }))) ∧
  (∀ s : State, (s.twinRole ≠ 1 → s.echoed = s) ∧
    (∀ r, s.twinRole = 1 → s.runs .pw = true →
      s.sharedRails.filter (fun x => (s.outp x).state == oWaitUp && (s.outp x).upPassed && bitOf s.twin.echo x) = [r] →
      s.echoed = (s.outGo r oRamp 0 (fun y => { y with below := false })).settle)) ∧
  (∀ s t : State, s.bondRuns = true → s.twin.helloing = false →
    t = s.reach (s.twin.hbAt + stUs (250 + 1250 * (s.twin.misses + 1))) →
    (s.twin.misses < 2 → exec .twinHeartbeatMiss s = .next { t with twin := { t.twin with misses := s.twin.misses + 1 } }) ∧
    (2 ≤ s.twin.misses → exec .twinHeartbeatMiss s =
      .next (State.linkLost { t with twin := { t.twin with misses := s.twin.misses + 1 } }))) ∧
  (∀ (f : Bond) (t1 t2 t3 t4 d : Int) (st unc sg : Nat) (locked : Bool) (s t : State), s.bondRuns = true →
     s.runs .fb = true → s.twinTogether = true → s.bondTakes f = true → d = ((t2 - t1) - (t4 - t3)) / 2 →
     t = (s.bondTook f).applyLeader →
     (t.el Reg.TWIN_LEADER ≠ 3 - t.twinRole → ∃ u : State,
       exec (.twinSync f t1 t2 t3 t4 st unc sg locked) s = .next u ∧ u.el Reg.TWIN_OFFSET = 0 ∧ u.twin.follow = false) ∧
     (t.el Reg.TWIN_LEADER = 3 - t.twinRole → ∃ u : State,
       exec (.twinSync f t1 t2 t3 t4 st unc sg locked) s = .next u ∧ u.elS 4 Reg.TWIN_OFFSET = clampS 4 d ∧
       u.twin.follow = true ∧ u.twin.leadState = st ∧ u.twin.leadUnc = unc)) ∧
  (∀ (f : Bond) (i d : Nat) (s t : State), s.bondServed = true → s.bondTakes f = true →
    t = (s.bondTook f).put Reg.TWIN_PEER_DIGEST (d % 2 ^ 256) → ∀ u,
    u = { t with twin := { t.twin with peerDigest := some (d % 2 ^ 256), digestFor := max t.twin.digestFor i } } →
    (i ≠ t.el Reg.TWIN_DIGEST_AT → s.twinIs 2 = false → exec (.twinDigest f i d) s = .next u) ∧
    (i = t.el Reg.TWIN_DIGEST_AT → u.twin.ownDigest = true →
      (s.twinIs 3 = true → u.el Reg.TWIN_DIGEST ≠ d % 2 ^ 256 → exec (.twinDigest f i d) s = .next u.enterDiscord) ∧
      (s.twinIs 3 = true → u.el Reg.TWIN_DIGEST = d % 2 ^ 256 → exec (.twinDigest f i d) s = .next u) ∧
      (s.twinIs 4 = true → u.el Reg.TWIN_DIGEST = d % 2 ^ 256 → exec (.twinDigest f i d) s = .next u.leaveDiscord))) ∧
  (∀ (f : Bond) (st src k fl d : Nat) (s : State), s.bondRuns = true → s.twinTogether = true → s.bondTakes f = true →
    exec (.twinRecord f st src k fl d) s = .next ((s.bondTook f).record
      { source := src, cid := 0, kind := k, detail := d, stamp := st, flags := setBit (fl % 256) 5 true, hid := stationHid,
        route := 7, any := false, evid := false })) ∧
  (∀ (f : Bond) (items : List (Nat × Nat)) (shape : Nat) (both : Bool) (c : Commit) (s t u : State), s.bondServed = true →
    s.bondTakes f = true → t = s.bondTook f → s.twinIs 3 = true →
    c = t.twinCommit (items.filter (fun p => t.twinElement p.1)) shape 0 →
    u = t.bondSend "TWIN COMMIT" (shape :: violFields (t.twinViols c)) →
    (t.twinViols c = [] → both = true → c.items ≠ [] → exec (.twinCommit f items shape both) s = .next (u.addPending c)) ∧
    (t.twinViols c ≠ [] ∨ both = false → exec (.twinCommit f items shape both) s = .next u)) ∧
  (∀ (f : Bond) (d : Int) (a : Nat) (forced both : Bool) (s t : State), s.bondServed = true → s.bondTakes f = true →
    t = s.bondTook f → s.twinTied = true → forced = true ∨ t.unset = true →
    (t.tim.step = none → t.sealed 0 = false → stepRangeBad a d = false → ∀ u, u = t.bondSend "TWIN STEP" [0, 1] →
      (both = true → exec (.twinStep f d a forced both) s =
        .next { u with tim := { u.tim with step := some ⟨d, forced, a, 0, true, true⟩ } }) ∧
      (both = false → exec (.twinStep f d a forced both) s = .next u)) ∧
    (t.sealed 0 = true → exec (.twinStep f d a forced both) s = .next (t.bondSend "TWIN STEP" [0, 0]))) ∧
  (∀ (f : Bond) (items : List (Nat × Nat)) (c : Commit) (s t : State), s.bondServed = true → s.bondTakes f = true →
    t = s.bondTook f → s.twinIs 4 = true →
    c = t.twinCommit (items.filter (fun p => twinAddrs.contains p.1 && t.stagedEl p.1 != (t.wholeItem p).2))
      (boundaryFrom (t.now + stMsUp 10)) 1 →
    (t.twinViols c = [] → c.items ≠ [] → exec (.twinValues f items) s = .next (t.addPending c)) ∧
    (∀ v l, t.twinViols c = v :: l → exec (.twinValues f items) s = .next (t.put Reg.TWIN_RESOLVE v.rule))) ∧
  (∀ (r : Req) (s t : State) (w : Who) (v : Nat), r.addr = Reg.TWIN_RESOLVE → LetThrough s r false t w →
    v = bytesToNum r.value →
    (v ≠ 1 → v ≠ 2 → exec (.twinResolveWrite r) s = .next (t.answer r 2 (.range 2 0) [])) ∧
    (v = 1 ∨ v = 2 → t.twinIs 4 = false → exec (.twinResolveWrite r) s = .next (t.answer r 2 (.conflict 3) [])) ∧
    (v = 1 ∨ v = 2 → t.twinIs 4 = true → ∀ u, u = { (t.put Reg.TWIN_RESOLVE 0) with twin :=
        { t.twin with adopt := v, adoptCid := w.cid, adopted := 0 } } →
      (t.twinRole = v → exec (.twinResolveWrite r) s = .next (u.sendValues.answer r 2 .ok [])) ∧
      (t.twinRole ≠ v → exec (.twinResolveWrite r) s = .next (u.answer r 2 .ok []))))

/-- A split pair: TWIN_STATE shows it, no half leads, the follower follows no more, and its instant is kept. Outside JOINED and
DISCORD no twin-shared rail is on or on its way: B lends none, and A's have left WAIT_UP, RAMP, ON and WAIT_DOWN. -/
def Obligations.PairSplits : Prop :=
  (∀ s t : State, s.el Reg.TWIN_STATE ≠ 5 → t = s.twinSplit →
     t.el Reg.TWIN_STATE = 5 ∧ t.el Reg.TWIN_LEADER = 0 ∧ t.twin.follow = false ∧ t.el Reg.TWIN_LAST_SPLIT = s.now ∧
     t.el Reg.TWIN_SPLITS = min (s.el Reg.TWIN_SPLITS + 1) (2 ^ 32 - 1) ∧ (s.twinRole = 2 → t.twin.lent = 0)) ∧
  (∀ s t : State, s.twinTogether = false → t = s.dropShared →
     (s.twinRole = 2 → t.twin.lent = 0) ∧
     (s.twinRole = 1 → ∀ r ∈ s.sharedRails, (t.outp r).state ≠ oWaitUp ∧ (t.outp r).state ≠ oRamp ∧
       (t.outp r).state ≠ oOn ∧ (t.outp r).state ≠ oWaitDown))
end

