-- ==== Sys2Proof/Laws/Store.lean ====
section
/-! SUPPORT. The laws of the dictionary's store: a read after a write, and the canonical form, which every operation keeps. -/
namespace Sys2Proof.Machine
open Host

theorem dictInsert_mem {d : List (Nat × Nat)} {a v : Nat} {p : Nat × Nat} (h : p ∈ dictInsert d a v) :
    p = (a, v) ∨ p ∈ d := by
  induction d with
  | nil => simpa [dictInsert] using h
  | cons x t ih =>
    obtain ⟨b, w⟩ := x
    simp only [dictInsert] at h
    split at h
    · simpa using h
    · split at h
      · rcases List.mem_cons.mp h with h | h
        · exact .inl h
        · exact .inr (List.mem_cons_of_mem _ h)
      · rcases List.mem_cons.mp h with h | h
        · exact .inr (h ▸ List.mem_cons_self)
        · rcases ih h with h | h
          · exact .inl h
          · exact .inr (List.mem_cons_of_mem _ h)

theorem dictInsert_rising {d : List (Nat × Nat)} (a v : Nat) (h : d.Pairwise (fun p q => p.1 < q.1)) :
    (dictInsert d a v).Pairwise (fun p q => p.1 < q.1) := by
  induction d with
  | nil => simp [dictInsert]
  | cons x t ih =>
    obtain ⟨b, w⟩ := x
    obtain ⟨hx, ht⟩ := List.pairwise_cons.mp h
    simp only [dictInsert]
    split
    · rename_i hab
      refine List.pairwise_cons.mpr ⟨fun q hq => ?_, h⟩
      rcases List.mem_cons.mp hq with rfl | hq
      · exact hab
      · exact Nat.lt_trans hab (hx q hq)
    · split
      · rename_i _ hab
        exact List.pairwise_cons.mpr ⟨fun q hq => hab ▸ hx q hq, ht⟩
      · rename_i hab hne
        refine List.pairwise_cons.mpr ⟨fun q hq => ?_, ih ht⟩
        rcases dictInsert_mem hq with rfl | hq
        · simp only; omega
        · exact hx q hq

theorem dictWf_iff (d : List (Nat × Nat)) : dictWf d = true ↔
    d.Pairwise (fun p q => p.1 < q.1) ∧ ∀ p ∈ d, p.2 ≠ defaultOf p.1 := by
  simp [dictWf]

theorem dictWf_filter {d : List (Nat × Nat)} (p : Nat × Nat → Bool) (h : dictWf d = true) : dictWf (d.filter p) = true := by
  rw [dictWf_iff] at *
  exact ⟨h.1.filter p, fun q hq => h.2 q (List.mem_filter.mp hq).1⟩

/-- A write keeps the canonical form. -/
theorem dictWf_set {d : List (Nat × Nat)} (a v : Nat) (h : dictWf d = true) : dictWf (dictSet d a v) = true := by
  unfold dictSet
  split
  · exact dictWf_filter _ h
  · rename_i hv
    rw [dictWf_iff] at *
    refine ⟨dictInsert_rising a v h.1, fun q hq => ?_⟩
    rcases dictInsert_mem hq with rfl | hq
    · exact hv
    · exact h.2 q hq

theorem dictGet_insert_same (d : List (Nat × Nat)) (a v : Nat) : dictGet (dictInsert d a v) a = v := by
  induction d with
  | nil => simp [dictInsert, dictGet]
  | cons x t ih =>
    obtain ⟨b, w⟩ := x
    simp only [dictInsert]
    split
    · simp [dictGet]
    · split
      · simp [dictGet]
      · rename_i _ h
        have : (b == a) = false := by simpa using fun e : b = a => h e.symm
        simpa [dictGet, List.find?_cons, this] using ih

theorem dictGet_insert_ne (d : List (Nat × Nat)) {a b : Nat} (v : Nat) (h : b ≠ a) : dictGet (dictInsert d a v) b = dictGet d b := by
  have ha : (a == b) = false := by simpa using Ne.symm h
  induction d with
  | nil => simp [dictInsert, dictGet, ha]
  | cons x t ih =>
    obtain ⟨c, w⟩ := x
    simp only [dictInsert]
    split
    · simp [dictGet, List.find?_cons, ha]
    · split
      · rename_i _ hc
        have hcb : (c == b) = false := by simpa [← hc] using Ne.symm h
        simp [dictGet, ha, hcb]
      · simp only [dictGet, List.find?_cons] at ih ⊢
        cases c == b with
        | true => rfl
        | false => exact ih

theorem dictGet_erase_same (d : List (Nat × Nat)) (a : Nat) : dictGet (dictErase d a) a = defaultOf a := by
  have : (dictErase d a).find? (fun p => p.1 == a) = none := by
    simp [dictErase, List.find?_eq_none]
  simp [dictGet, this]

theorem find_filter {α : Type} (l : List α) (p q : α → Bool) (h : ∀ x, p x = true → q x = true) :
    (l.filter q).find? p = l.find? p := by
  induction l with
  | nil => rfl
  | cons x t ih =>
    cases hq : q x with
    | true => simp [hq, List.find?_cons, ih]
    | false =>
      have hp : p x = false := by
        cases hp : p x with
        | true => simp [h x hp] at hq
        | false => rfl
      simp [hq, hp, ih]

theorem dictGet_erase_ne (d : List (Nat × Nat)) {a b : Nat} (h : b ≠ a) : dictGet (dictErase d a) b = dictGet d b := by
  have : (dictErase d a).find? (fun p => p.1 == b) = d.find? (fun p => p.1 == b) := by
    refine find_filter d _ _ (fun x hx => ?_)
    have : x.1 = b := by simpa using hx
    simp [this, h]
  simp [dictGet, this]

theorem dictGet_set_same (d : List (Nat × Nat)) (a v : Nat) : dictGet (dictSet d a v) a = v := by
  unfold dictSet
  split
  · rename_i h; rw [dictGet_erase_same, h]
  · exact dictGet_insert_same d a v

theorem dictGet_set_ne (d : List (Nat × Nat)) {a b : Nat} (v : Nat) (h : b ≠ a) : dictGet (dictSet d a v) b = dictGet d b := by
  unfold dictSet
  split
  · exact dictGet_erase_ne d h
  · exact dictGet_insert_ne d v h

/-- A register reads what was written to it. -/
@[simp] theorem State.el_put_same (s : State) (a v : Nat) : (s.put a v).el a = v := dictGet_set_same s.dict a v

/-- A write leaves every other register as it was. -/
theorem State.el_put_ne (s : State) {a b : Nat} (v : Nat) (h : b ≠ a) : (s.put a v).el b = s.el b :=
  dictGet_set_ne s.dict v h

theorem State.el_put (s : State) (a v b : Nat) : (s.put a v).el b = if b = a then v else s.el b := by
  split
  · rename_i h; subst h; simp
  · rename_i h; exact s.el_put_ne v h

/-- A register dropped reads its default; the others read as before. -/
theorem State.el_dropEls (s : State) (p : Nat → Bool) (a : Nat) :
    (s.dropEls p).el a = if p a then defaultOf a else s.el a := by
  by_cases h : p a = true
  · have : (s.dict.filter (fun q => !p q.1)).find? (fun q => q.1 == a) = none := by
      rw [List.find?_eq_none]
      intro x hx e
      have e' : x.1 = a := by simpa using e
      have := (List.mem_filter.mp hx).2
      simp [e', h] at this
    simp [State.el, State.dropEls, dictGet, this, h]
  · have : (s.dict.filter (fun q => !p q.1)).find? (fun q => q.1 == a) = s.dict.find? (fun q => q.1 == a) := by
      refine find_filter s.dict _ _ (fun x hx => ?_)
      have : x.1 = a := by simpa using hx
      simp [this, h]
    simp [State.el, State.dropEls, dictGet, this, h]

end Sys2Proof.Machine
end

