-- ==== Sys2Proof/Laws/Keeps.lean ====
section
/-! SUPPORT. How Keeps is composed: it is reflexive and transitive, it goes through folds, and a change of any other field
keeps it. -/
namespace Sys2Proof.Machine
open Host

theorem Keeps.refl (s : State) : Keeps s s := ⟨id, rfl, List.prefix_rfl, Nat.le_refl _⟩

theorem Keeps.trans {s t u : State} (h : Keeps s t) (k : Keeps t u) : Keeps s u :=
  ⟨fun i => k.inv (h.inv i), k.pending.trans h.pending, h.out.trans k.out, Nat.le_trans h.free k.free⟩

/-- A change of fields that Keeps does not speak of. -/
theorem Keeps.upd {s t : State} (h : Keeps s t) {clk : Clk} {exch : ExchSt} {stage : StageSt} {arb : ArbSt} {tmr : TmrSt}
    {evt : EvtSt} {dlv : DlvSt} {port : PortSt} {key : KeySt} {log : LogSt} {tmp : TmpSt} {isl : IslSt} {boot : BootSt}
    {bk : BkSt} {osc : OscSt} {tim : TimSt} {pwr : PwrSt} {rail : RailSt} {wd : List Wd} {lehr : LehrSt} {rep : RepSt}
    {fw : FwSt} {twin : TwinSt}
    (hs : t.clk.st ≤ stMax → clk.st ≤ stMax := by with_reducible exact fun x => x)
    (hv : t.clk.v ≤ stMax / 8192 → clk.v ≤ stMax / 8192 := by with_reducible exact fun x => x)
    (ha : (∀ c, (t.exch.answered.filter (fun a => a.cid == c)).length ≤ 8) →
      ∀ c, (exch.answered.filter (fun a => a.cid == c)).length ≤ 8 := by with_reducible exact fun x => x)
    (hr : (∀ r ∈ t.dlv.recs, r.id < t.dlv.nextRec) → ∀ r ∈ dlv.recs, r.id < dlv.nextRec := by with_reducible exact fun x => x)
    (h0 : t.dlv.seq0 < 65536 → dlv.seq0 < 65536 := by with_reducible exact fun x => x)
    (h1 : t.dlv.seq1 < 65536 → dlv.seq1 < 65536 := by with_reducible exact fun x => x)
    (h2 : t.dlv.seq2 < 65536 → dlv.seq2 < 65536 := by with_reducible exact fun x => x)
    (h3 : t.dlv.seq3 < 65536 → dlv.seq3 < 65536 := by with_reducible exact fun x => x)
    (hc : t.port.canTx.length ≤ 8 → port.canTx.length ≤ 8 := by with_reducible exact fun x => x)
    (hi : t.isl.chans.length = 20 → isl.chans.length = 20 := by with_reducible exact fun x => x)
    (hb : t.bk.ring.length ≤ 8 → bk.ring.length ≤ 8 := by with_reducible exact fun x => x)
    (hl : t.rail.outs.length = 14 → rail.outs.length = 14 := by with_reducible exact fun x => x)
    (hw : t.wd.length = 3 → wd.length = 3 := by with_reducible exact fun x => x) :
    Keeps s
      { t with
        clk := clk, exch := exch, stage := stage, arb := arb, tmr := tmr, evt := evt, dlv := dlv, port := port, key := key
        log := log, tmp := tmp, isl := isl, boot := boot, bk := bk, osc := osc, tim := tim, pwr := pwr, rail := rail
        wd := wd, lehr := lehr, rep := rep, fw := fw, twin := twin } := by
  refine ⟨fun i => ?_, h.pending, h.out, h.free⟩
  have j := h.inv i
  exact ⟨j.dict, ha j.answered, hr j.recs, h0 j.seq0, h1 j.seq1, h2 j.seq2, h3 j.seq3, hb j.ring, hc j.canTx, hw j.wd,
    hl j.outs, hi j.chans, hs j.st, hv j.v⟩

theorem Keeps.pwr {s u : State} (h : Keeps s u) (p : PwrSt) : Keeps s { u with pwr := p } := Keeps.upd h

/-- A fold whose function keeps a property keeps it. -/
theorem Keeps.foldl {α : Type} {s t : State} {f : State → α → State} {l : List α}
    (hf : ∀ u x, Keeps s u → Keeps s (f u x)) (h : Keeps s t) : Keeps s (l.foldl f t) := by
  induction l generalizing t with
  | nil => exact h
  | cons x l ih => exact ih (hf t x h)

theorem Keeps.foldl1 {α β : Type} {s : State} {p : State × β} {f : State × β → α → State × β} {l : List α}
    (hf : ∀ u x, Keeps s u.1 → Keeps s (f u x).1) (h : Keeps s p.1) : Keeps s (l.foldl f p).1 := by
  induction l generalizing p with
  | nil => exact h
  | cons x l ih => exact ih (hf p x h)

/-- What admission answers keeps what every command keeps. -/
def Admit.keeps (s : State) : Admit → Prop
  | .done t => Keeps s t
  | .wait t _ _ _ => Keeps s t
  | .go t _ => Keeps s t

theorem Keeps.foldl11 {α β γ : Type} {s : State} {p : (State × β) × γ} {f : (State × β) × γ → α → (State × β) × γ}
    {l : List α} (hf : ∀ u x, Keeps s u.1.1 → Keeps s (f u x).1.1) (h : Keeps s p.1.1) : Keeps s (l.foldl f p).1.1 := by
  induction l generalizing p with
  | nil => exact h
  | cons x l ih => exact ih (hf p x h)

theorem Keeps.ite {s a b : State} {c : Prop} [Decidable c] (ha : Keeps s a) (hb : Keeps s b) :
    Keeps s (if c then a else b) := by
  split
  · exact ha
  · exact hb

theorem Keeps.ite1 {s : State} {β : Type} {a b : State × β} {c : Prop} [Decidable c] (ha : Keeps s a.1) (hb : Keeps s b.1) :
    Keeps s (if c then a else b).1 := by
  split
  · exact ha
  · exact hb

theorem Admit.keeps_ite {s : State} {a b : Admit} {c : Prop} [Decidable c] (ha : a.keeps s) (hb : b.keeps s) :
    (if c then a else b).keeps s := by
  split
  · exact ha
  · exact hb

theorem Admit.keeps_done {s t : State} (h : Keeps s t) : (Admit.done t).keeps s := h

theorem Admit.keeps_wait {s t : State} {i : Option Island} {ch : Nat} {w : Option Who} (h : Keeps s t) :
    (Admit.wait t i ch w).keeps s := h

theorem Admit.keeps_go {s t : State} (w : Who) (h : Keeps s t) : (Admit.go t w).keeps s := h

theorem Admit.of_done {s u : State} {m : Admit} (h : m.keeps s) (e : m = .done u) : Keeps s u := by
  subst e; exact h

theorem Admit.of_wait {s u : State} {i : Option Island} {ch : Nat} {w : Option Who} {m : Admit} (h : m.keeps s)
    (e : m = .wait u i ch w) : Keeps s u := by
  subst e; exact h

theorem Admit.of_go {s u : State} {w : Who} {m : Admit} (h : m.keeps s) (e : m = .go u w) : Keeps s u := by
  subst e; exact h

theorem Keeps.of_pair {s u : State} {β : Type} {x : β} {p : State × β} (h : Keeps s p.1) (e : p = (u, x)) : Keeps s u := by
  subst e; exact h

/-- A next state keeps what every command keeps. -/
def KeepsOut (s : State) : Outcome State Fault Refusal → Prop
  | .next t => Keeps s t
  | _ => True

theorem KeepsOut.next {s t : State} (h : Keeps s t) : KeepsOut s (.next t) := h

theorem KeepsOut.ite {s : State} {a b : Outcome State Fault Refusal} {c : Prop} [Decidable c] (ha : KeepsOut s a)
    (hb : KeepsOut s b) : KeepsOut s (if c then a else b) := by
  split
  · exact ha
  · exact hb

theorem KeepsOut.ite_next {s t : State} {b : Outcome State Fault Refusal} {c : Prop} [Decidable c] (ha : Keeps s t)
    (hb : KeepsOut s b) : KeepsOut s (if c then .next t else b) := KeepsOut.ite ha hb

theorem KeepsOut.of_next {s t : State} {o : Outcome State Fault Refusal} (h : KeepsOut s o) (e : o = .next t) : Keeps s t := by
  subst e; exact h

end Sys2Proof.Machine
end

