-- ==== Sys2Proof/Laws/KeepsDict.lean ====
section
/-! SUPPORT. Every operation of Machine/Dict.lean keeps what every command keeps (Safety.Keeps). -/
namespace Sys2Proof.Machine
open Host
set_option linter.all false
set_option Elab.async false

theorem State.put_keeps {s : State} (t : State) (a v : Nat) (h : Keeps s t) : Keeps s (State.put t a v) := by
  refine ⟨fun i => ?_, h.pending, h.out, h.free⟩
  have j := h.inv i
  exact ⟨dictWf_set a v j.dict, j.answered, j.recs, j.seq0, j.seq1, j.seq2, j.seq3, j.ring, j.canTx, j.wd, j.outs, j.chans,
    j.st, j.v⟩

theorem State.putS_keeps {s : State} (t : State) (n : Nat) (a : Nat) (v : Int) (h : Keeps s t) :
    Keeps s (State.putS t n a v) := by
  unfold State.putS
  repeat' with_reducible first
    | assumption | intro _ | apply State.put_keeps | apply Keeps.foldl | apply Keeps.foldl1 | apply Keeps.foldl11
    | apply Keeps.ite | apply Keeps.ite1 | dsimp only | split | refine Keeps.upd ?_

theorem State.putAll_keeps {s : State} (t : State) (l : List (Nat × Nat)) (h : Keeps s t) :
    Keeps s (State.putAll t l) := by
  unfold State.putAll
  repeat' with_reducible first
    | assumption | intro _ | apply State.put_keeps | apply Keeps.foldl | apply Keeps.foldl1 | apply Keeps.foldl11
    | apply Keeps.ite | apply Keeps.ite1 | dsimp only | split | refine Keeps.upd ?_

theorem State.inc_keeps {s : State} (t : State) (n : Nat) (a : Nat) (h : Keeps s t) :
    Keeps s (State.inc t n a) := by
  unfold State.inc
  repeat' with_reducible first
    | assumption | intro _ | apply State.put_keeps | apply Keeps.foldl | apply Keeps.foldl1 | apply Keeps.foldl11
    | apply Keeps.ite | apply Keeps.ite1 | dsimp only | split | refine Keeps.upd ?_

theorem State.add_keeps {s : State} (t : State) (n : Nat) (a : Nat) (x : Nat) (h : Keeps s t) :
    Keeps s (State.add t n a x) := by
  unfold State.add
  repeat' with_reducible first
    | assumption | intro _ | apply State.put_keeps | apply Keeps.foldl | apply Keeps.foldl1 | apply Keeps.foldl11
    | apply Keeps.ite | apply Keeps.ite1 | dsimp only | split | refine Keeps.upd ?_

theorem State.drawn_keeps {s : State} (t : State) (h : Keeps s t) : Keeps s (State.drawn t) := by
  refine ⟨fun i => ?_, h.pending, h.out, Nat.le_succ_of_le h.free⟩
  have j := h.inv i
  exact ⟨j.dict, j.answered, j.recs, j.seq0, j.seq1, j.seq2, j.seq3, j.ring, j.canTx, j.wd, j.outs, j.chans, j.st, j.v⟩

theorem State.emit_keeps {s : State} (t : State) (o : Out) (h : Keeps s t) : Keeps s (State.emit t o) := by
  refine ⟨fun i => ?_, h.pending, h.out.trans (List.prefix_append _ _), h.free⟩
  have j := h.inv i
  exact ⟨j.dict, j.answered, j.recs, j.seq0, j.seq1, j.seq2, j.seq3, j.ring, j.canTx, j.wd, j.outs, j.chans, j.st, j.v⟩

theorem State.dropEls_keeps {s : State} (t : State) (p : Nat → Bool) (h : Keeps s t) : Keeps s (State.dropEls t p) := by
  refine ⟨fun i => ?_, h.pending, h.out, h.free⟩
  have j := h.inv i
  exact ⟨dictWf_filter _ j.dict, j.answered, j.recs, j.seq0, j.seq1, j.seq2, j.seq3, j.ring, j.canTx, j.wd, j.outs, j.chans,
    j.st, j.v⟩

theorem State.setIsl_keeps {s : State} (t : State) (i : Island) (c : Nat) (h : Keeps s t) :
    Keeps s (State.setIsl t i c) := by
  unfold State.setIsl
  repeat' with_reducible first
    | assumption | intro _ | apply State.put_keeps | apply Keeps.foldl | apply Keeps.foldl1 | apply Keeps.foldl11
    | apply Keeps.ite | apply Keeps.ite1 | dsimp only | split | refine Keeps.upd ?_

end Sys2Proof.Machine
end

