-- ==== Sys2Proof/Laws/KeepsClock.lean ====
section
/-! SUPPORT. Every operation of Machine/Clock.lean keeps what every command keeps (Safety.Keeps). -/
namespace Sys2Proof.Machine
open Host
set_option linter.all false
set_option Elab.async false

theorem State.setV_keeps {s : State} (t : State) (v : Nat) (h : Keeps s t) : Keeps s (State.setV t v) := by
  unfold State.setV
  dsimp only
  split
  · exact h
  · exact Keeps.upd h (hv := fun _ => Nat.min_le_right _ _)

theorem State.pulsesTo_keeps {s : State} (t : State) (v : Nat) (h : Keeps s t) :
    Keeps s (State.pulsesTo t v) := by
  unfold State.pulsesTo
  repeat' with_reducible first
    | assumption | intro _ | apply Keeps.foldl | apply Keeps.foldl1 | apply Keeps.foldl11 | apply Keeps.ite
    | apply Keeps.ite1 | dsimp only | split | refine Keeps.upd ?_

theorem State.countTo_keeps {s : State} (t : State) (v : Nat) (h : Keeps s t) :
    Keeps s (State.countTo t v) := by
  unfold State.countTo
  repeat' with_reducible first
    | assumption | intro _ | apply State.pulsesTo_keeps | apply State.setV_keeps | apply State.add_keeps
    | apply Keeps.foldl | apply Keeps.foldl1 | apply Keeps.foldl11 | apply Keeps.ite | apply Keeps.ite1 | dsimp only
    | split | refine Keeps.upd ?_

theorem State.setCorr_keeps {s : State} (t : State) (x : Rat) (h : Keeps s t) :
    Keeps s (State.setCorr t x) := by
  unfold State.setCorr
  repeat' with_reducible first
    | assumption | intro _ | apply State.putS_keeps | apply Keeps.foldl | apply Keeps.foldl1 | apply Keeps.foldl11
    | apply Keeps.ite | apply Keeps.ite1 | dsimp only | split | refine Keeps.upd ?_

theorem State.setSlew_keeps {s : State} (t : State) (x : Rat) (h : Keeps s t) :
    Keeps s (State.setSlew t x) := by
  unfold State.setSlew
  repeat' with_reducible first
    | assumption | intro _ | apply State.putS_keeps | apply Keeps.foldl | apply Keeps.foldl1 | apply Keeps.foldl11
    | apply Keeps.ite | apply Keeps.ite1 | dsimp only | split | refine Keeps.upd ?_

theorem State.steer_keeps {s : State} (t : State) (h : Keeps s t) :
    Keeps s (State.steer t) := by
  unfold State.steer
  repeat' with_reducible first
    | assumption | intro _ | apply State.putS_keeps | apply Keeps.foldl | apply Keeps.foldl1 | apply Keeps.foldl11
    | apply Keeps.ite | apply Keeps.ite1 | dsimp only | split | refine Keeps.upd ?_

theorem State.slewPass_keeps {s : State} (t : State) (n : Rat) (h : Keeps s t) :
    Keeps s (State.slewPass t n) := by
  unfold State.slewPass
  repeat' with_reducible first
    | assumption | intro _ | apply State.steer_keeps | apply State.setSlew_keeps | apply State.setCorr_keeps
    | apply Keeps.foldl | apply Keeps.foldl1 | apply Keeps.foldl11 | apply Keeps.ite | apply Keeps.ite1 | dsimp only
    | split | refine Keeps.upd ?_

theorem State.phasePass_keeps {s : State} (t : State) (k : Nat) (h : Keeps s t) :
    Keeps s (State.phasePass t k) := by
  unfold State.phasePass
  repeat' with_reducible first
    | assumption | intro _ | apply Keeps.foldl | apply Keeps.foldl1 | apply Keeps.foldl11 | apply Keeps.ite
    | apply Keeps.ite1 | dsimp only | split | refine Keeps.upd ?_

theorem State.passTo_keeps {s : State} (t : State) (t0 : Nat) (h : Keeps s t) : Keeps s (State.passTo t t0) := by
  unfold State.passTo
  dsimp only
  split
  · exact State.countTo_keeps _ _ h
  · exact Keeps.upd (State.countTo_keeps _ _ (State.phasePass_keeps _ _ (State.slewPass_keeps _ _ h)))
      (hs := fun _ => Nat.min_le_right _ _)

theorem State.setTime_keeps {s : State} (t : State) (x : Nat) (h : Keeps s t) : Keeps s (State.setTime t x) := by
  unfold State.setTime
  dsimp only
  split
  · exact Keeps.upd (State.setV_keeps _ _ h) (hs := fun _ => Nat.min_le_right _ _)
  · exact State.setV_keeps _ _ h

theorem State.reach_keeps {s : State} (t : State) (t_ : Nat) (h : Keeps s t) :
    Keeps s (State.reach t t_) := by
  unfold State.reach
  repeat' with_reducible first
    | assumption | intro _ | apply State.passTo_keeps | apply Keeps.foldl | apply Keeps.foldl1 | apply Keeps.foldl11
    | apply Keeps.ite | apply Keeps.ite1 | dsimp only | split | refine Keeps.upd ?_

theorem State.servedAt_keeps {s : State} (t : State) (t_ : Nat) (f : State → State) (h : Keeps s t)
    (hf : ∀ u, Keeps s u → Keeps s (f u)) :
    Keeps s (State.servedAt t t_ f) := by
  unfold State.servedAt
  repeat' with_reducible first
    | assumption | intro _ | apply hf | apply State.reach_keeps | apply State.setTime_keeps | apply Keeps.foldl
    | apply Keeps.foldl1 | apply Keeps.foldl11 | apply Keeps.ite | apply Keeps.ite1 | dsimp only | split
    | refine Keeps.upd ?_

theorem State.fbStops_keeps {s : State} (t : State) (h : Keeps s t) :
    Keeps s (State.fbStops t) := by
  unfold State.fbStops
  repeat' with_reducible first
    | assumption | intro _ | apply State.setV_keeps | apply Keeps.foldl | apply Keeps.foldl1 | apply Keeps.foldl11
    | apply Keeps.ite | apply Keeps.ite1 | dsimp only | split | refine Keeps.upd ?_

theorem State.fbCycle_keeps {s : State} (t : State) (h : Keeps s t) : Keeps s (State.fbCycle t) := by
  unfold State.fbCycle
  dsimp only
  split
  · exact h
  · exact Keeps.upd (State.phasePass_keeps _ _ (State.slewPass_keeps _ _ h)) (hs := fun _ => Nat.min_le_right _ _)

end Sys2Proof.Machine
end

