-- ==== Sys2Proof/Laws/KeepsOps.lean ====
section
/-! SUPPORT. Every operation of Machine/Ops.lean keeps what every command keeps (Safety.Keeps). -/
namespace Sys2Proof.Machine
open Host
set_option linter.all false
set_option Elab.async false

/-- A change of the delivery state that neither renames records nor gives an identity out twice. -/
theorem State.dlvSet_keeps {s : State} (t : State) (d : DlvSt) (h : Keeps s t)
    (hr : (∀ r ∈ t.dlv.recs, r.id < t.dlv.nextRec) → ∀ r ∈ d.recs, r.id < d.nextRec)
    (h0 : t.dlv.seq0 < 65536 → d.seq0 < 65536) (h1 : t.dlv.seq1 < 65536 → d.seq1 < 65536)
    (h2 : t.dlv.seq2 < 65536 → d.seq2 < 65536) (h3 : t.dlv.seq3 < 65536 → d.seq3 < 65536) :
    Keeps s (State.dlvSet t d) := by
  refine ⟨fun i => ?_, h.pending, h.out, h.free⟩
  have j := h.inv i
  exact ⟨j.dict, j.answered, hr j.recs, h0 j.seq0, h1 j.seq1, h2 j.seq2, h3 j.seq3, j.ring, j.canTx, j.wd, j.outs, j.chans,
    j.st, j.v⟩

theorem State.freeRecs_keeps {s : State} (t : State) (h : Keeps s t) : Keeps s (State.freeRecs t) :=
  State.dlvSet_keeps _ _ h (fun i r m => i r (List.mem_filter.mp m).1) id id id id

theorem State.recMap_keeps {s : State} (t : State) (id : Nat) (f : Rec → Rec) (hf : ∀ r, (f r).id = r.id)
    (h : Keeps s t) : Keeps s (State.recMap t id f) := by
  refine State.dlvSet_keeps _ _ h (fun i r m => ?_) (fun x => x) (fun x => x) (fun x => x) (fun x => x)
  obtain ⟨x, hx, rfl⟩ := List.mem_map.mp m
  have := i x hx
  split <;> simpa [hf] using this

theorem State.completeAt_keeps {s : State} (t : State) (id : Nat) (t_ : Nat) (h : Keeps s t) :
    Keeps s (State.completeAt t id t_) := by
  unfold State.completeAt
  repeat' with_reducible first
    | assumption | intro _ | refine State.recMap_keeps _ _ _ (fun _ => rfl) ?_ | apply State.freeRecs_keeps
    | apply Keeps.foldl | apply Keeps.foldl1 | apply Keeps.foldl11 | apply Keeps.ite | apply Keeps.ite1 | dsimp only
    | split | dsimp only [id] | refine Keeps.upd ?_

theorem State.startGroup_keeps {s : State} (t : State) (g : Nat) (h : Keeps s t) :
    Keeps s (State.startGroup t g) := by
  unfold State.startGroup
  repeat' with_reducible first
    | assumption | intro _
    | refine State.dlvSet_keeps _ _ ?_ (fun x => x) (fun x => x) (fun x => x) (fun x => x) (fun x => x)
    | apply Keeps.foldl | apply Keeps.foldl1 | apply Keeps.foldl11 | apply Keeps.ite | apply Keeps.ite1 | dsimp only
    | split | refine Keeps.upd ?_

theorem State.takeSeq_keeps {s : State} (t : State) (k : Nat) (h : Keeps s t) : Keeps s (State.takeSeq t k) := by
  have b : (t.nextSeq k + 1) % 65536 < 65536 := Nat.mod_lt _ (by decide)
  unfold State.takeSeq
  split
  · exact State.dlvSet_keeps _ _ h id (fun _ => b) id id id
  · split
    · exact State.dlvSet_keeps _ _ h id id (fun _ => b) id id
    · split
      · exact State.dlvSet_keeps _ _ h id id id (fun _ => b) id
      · exact State.dlvSet_keeps _ _ h id id id id (fun _ => b)

theorem State.holdHints_keeps {s : State} (t : State) (h : Keeps s t) :
    Keeps s (State.holdHints t) := by
  unfold State.holdHints
  repeat' with_reducible first
    | assumption | intro _ | apply Keeps.foldl | apply Keeps.foldl1 | apply Keeps.foldl11 | apply Keeps.ite
    | apply Keeps.ite1 | dsimp only | split | refine Keeps.upd ?_

theorem State.wakeFb_keeps {s : State} (t : State) (h : Keeps s t) :
    Keeps s (State.wakeFb t) := by
  unfold State.wakeFb
  repeat' with_reducible first
    | assumption | intro _ | apply State.setIsl_keeps | apply Keeps.foldl | apply Keeps.foldl1 | apply Keeps.foldl11
    | apply Keeps.ite | apply Keeps.ite1 | dsimp only | split | refine Keeps.upd ?_

theorem State.wakeCr_keeps {s : State} (t : State) (h : Keeps s t) :
    Keeps s (State.wakeCr t) := by
  unfold State.wakeCr
  repeat' with_reducible first
    | assumption | intro _ | apply State.wakeFb_keeps | apply State.setIsl_keeps | apply Keeps.foldl
    | apply Keeps.foldl1 | apply Keeps.foldl11 | apply Keeps.ite | apply Keeps.ite1 | dsimp only | split
    | refine Keeps.upd ?_

theorem State.over_keeps {s : State} (t : State) (ch : Nat) (go : State → State) (h : Keeps s t)
    (hgo : ∀ u, Keeps s u → Keeps s (go u)) :
    Keeps s (State.over t ch go) := by
  unfold State.over
  repeat' with_reducible first
    | assumption | intro _ | apply hgo | apply State.inc_keeps | apply Keeps.foldl | apply Keeps.foldl1
    | apply Keeps.foldl11 | apply Keeps.ite | apply Keeps.ite1 | dsimp only | split | refine Keeps.upd ?_

theorem State.callCr_keeps {s : State} (t : State) (h : Keeps s t) :
    Keeps s (State.callCr t) := by
  unfold State.callCr
  repeat' with_reducible first
    | assumption | intro _ | apply State.over_keeps | apply State.wakeCr_keeps | apply Keeps.foldl
    | apply Keeps.foldl1 | apply Keeps.foldl11 | apply Keeps.ite | apply Keeps.ite1 | dsimp only | split
    | refine Keeps.upd ?_

theorem State.pushEntry_keeps {s : State} (t : State) (id : Nat) (t_ : Nat) (replay : Bool) (h : Keeps s t) :
    Keeps s (State.pushEntry t id t_ replay) := by
  unfold State.pushEntry
  repeat' with_reducible first
    | assumption | intro _ | apply State.callCr_keeps | apply State.takeSeq_keeps | apply State.completeAt_keeps
    | refine State.dlvSet_keeps _ _ ?_ (fun x => x) (fun x => x) (fun x => x) (fun x => x) (fun x => x)
    | apply Keeps.foldl | apply Keeps.foldl1 | apply Keeps.foldl11 | apply Keeps.ite | apply Keeps.ite1 | dsimp only
    | split | dsimp only [id] | refine Keeps.upd ?_

theorem State.addWait_keeps {s : State} (t : State) (w : Waiting) (h : Keeps s t) :
    Keeps s (State.addWait t w) := by
  unfold State.addWait
  repeat' with_reducible first
    | assumption | intro _
    | refine State.dlvSet_keeps _ _ ?_ (fun x => x) (fun x => x) (fun x => x) (fun x => x) (fun x => x)
    | apply Keeps.foldl | apply Keeps.foldl1 | apply Keeps.foldl11 | apply Keeps.ite | apply Keeps.ite1 | dsimp only
    | split | refine Keeps.upd ?_

theorem State.place_keeps {s : State} (t : State) (id : Nat) (st : Nat) (replay : Bool) (h : Keeps s t) :
    Keeps s (State.place t id st replay) := by
  unfold State.place
  repeat' with_reducible first
    | assumption | intro _ | apply State.addWait_keeps | apply State.pushEntry_keeps | apply State.completeAt_keeps
    | refine State.recMap_keeps _ _ _ (fun _ => rfl) ?_ | apply State.freeRecs_keeps | apply State.inc_keeps
    | apply Keeps.foldl | apply Keeps.foldl1 | apply Keeps.foldl11 | apply Keeps.ite | apply Keeps.ite1 | dsimp only
    | split | dsimp only [id] | refine Keeps.upd ?_

theorem State.arrive_keeps {s : State} (t : State) (id : Nat) (st : Nat) (h : Keeps s t) :
    Keeps s (State.arrive t id st) := by
  unfold State.arrive
  repeat' with_reducible first
    | assumption | intro _ | apply State.place_keeps | apply State.addWait_keeps | apply State.startGroup_keeps
    | apply Keeps.foldl | apply Keeps.foldl1 | apply Keeps.foldl11 | apply Keeps.ite | apply Keeps.ite1 | dsimp only
    | split | dsimp only [id] | refine Keeps.upd ?_

theorem State.dropWait_keeps {s : State} (t : State) (w : Waiting) (h : Keeps s t) :
    Keeps s (State.dropWait t w) := by
  unfold State.dropWait
  repeat' with_reducible first
    | assumption | intro _
    | refine State.dlvSet_keeps _ _ ?_ (fun x => x) (fun x => x) (fun x => x) (fun x => x) (fun x => x)
    | apply Keeps.foldl | apply Keeps.foldl1 | apply Keeps.foldl11 | apply Keeps.ite | apply Keeps.ite1 | dsimp only
    | split | refine Keeps.upd ?_

theorem State.advanceStream_keeps {s : State} (t : State) (src : Nat) (st : Nat) (hid : Nat) (h : Keeps s t) :
    Keeps s (State.advanceStream t src st hid) := by
  unfold State.advanceStream
  repeat' with_reducible first
    | assumption | intro _ | apply State.dropWait_keeps | apply State.place_keeps | apply Keeps.foldl
    | apply Keeps.foldl1 | apply Keeps.foldl11 | apply Keeps.ite | apply Keeps.ite1 | dsimp only | split
    | refine Keeps.upd ?_

theorem State.fillRoom_keeps {s : State} (t : State) (t_ : Nat) (h : Keeps s t) :
    Keeps s (State.fillRoom t t_) := by
  unfold State.fillRoom
  repeat' with_reducible first
    | assumption | intro _ | apply State.dropWait_keeps | apply State.pushEntry_keeps | apply Keeps.foldl
    | apply Keeps.foldl1 | apply Keeps.foldl11 | apply Keeps.ite | apply Keeps.ite1 | dsimp only | split
    | refine Keeps.upd ?_

theorem State.post_keeps {s : State} (t : State) (id : Nat) (h : Keeps s t) :
    Keeps s (State.post t id) := by
  unfold State.post
  repeat' with_reducible first
    | assumption | intro _ | apply State.arrive_keeps | apply Keeps.foldl | apply Keeps.foldl1 | apply Keeps.foldl11
    | apply Keeps.ite | apply Keeps.ite1 | dsimp only | split | dsimp only [id] | refine Keeps.upd ?_

theorem State.overrun_keeps {s : State} (t : State) (n : NewRec) (h : Keeps s t) :
    Keeps s (State.overrun t n) := by
  unfold State.overrun
  repeat' with_reducible first
    | assumption | intro _
    | refine State.dlvSet_keeps _ _ ?_ (fun x => x) (fun x => x) (fun x => x) (fun x => x) (fun x => x)
    | apply State.inc_keeps | apply Keeps.foldl | apply Keeps.foldl1 | apply Keeps.foldl11 | apply Keeps.ite
    | apply Keeps.ite1 | dsimp only | split | refine Keeps.upd ?_

theorem State.forward_keeps {s : State} (t : State) (r : Rec) (h : Keeps s t) :
    Keeps s (State.forward t r) := by
  unfold State.forward
  repeat' with_reducible first
    | assumption | intro _ | apply State.emit_keeps | apply Keeps.foldl | apply Keeps.foldl1 | apply Keeps.foldl11
    | apply Keeps.ite | apply Keeps.ite1 | dsimp only | split | refine Keeps.upd ?_

theorem State.record_keeps {s : State} (t : State) (n : NewRec) (h : Keeps s t) : Keeps s (State.record t n) := by
  unfold State.record
  split
  · exact h
  · dsimp only
    split
    · apply State.overrun_keeps; apply State.wakeFb_keeps; exact h
    · apply State.forward_keeps; apply State.freeRecs_keeps; apply State.post_keeps; apply State.put_keeps
      refine State.dlvSet_keeps _ _ (State.wakeFb_keeps _ h) (fun i r m => ?_) id id id id
      rcases List.mem_append.mp m with m | m
      · exact Nat.lt_succ_of_lt (i r m)
      · have : r.id = t.wakeFb.dlv.nextRec := by rw [List.mem_singleton.mp m]
        simp only [this]; omega

theorem State.stationRecord_keeps {s : State} (t : State) (src : Nat) (kind : Nat) (detail : Nat) (t0 : Bool)
    (h : Keeps s t) :
    Keeps s (State.stationRecord t src kind detail t0) := by
  unfold State.stationRecord
  repeat' with_reducible first
    | assumption | intro _ | apply State.record_keeps | apply Keeps.foldl | apply Keeps.foldl1 | apply Keeps.foldl11
    | apply Keeps.ite | apply Keeps.ite1 | dsimp only | split | refine Keeps.upd ?_

theorem State.powerEvent_keeps {s : State} (t : State) (src : Nat) (kind : Nat) (detail : Nat) (h : Keeps s t) :
    Keeps s (State.powerEvent t src kind detail) := by
  unfold State.powerEvent
  repeat' with_reducible first
    | assumption | intro _ | apply State.stationRecord_keeps | apply State.over_keeps | apply Keeps.foldl
    | apply Keeps.foldl1 | apply Keeps.foldl11 | apply Keeps.ite | apply Keeps.ite1 | dsimp only | split
    | refine Keeps.upd ?_

theorem State.clientRecord_keeps {s : State} (t : State) (src : Nat) (kind : Nat) (detail : Nat) (cid : Nat)
    (h : Keeps s t) :
    Keeps s (State.clientRecord t src kind detail cid) := by
  unfold State.clientRecord
  repeat' with_reducible first
    | assumption | intro _ | apply State.record_keeps | apply Keeps.foldl | apply Keeps.foldl1 | apply Keeps.foldl11
    | apply Keeps.ite | apply Keeps.ite1 | dsimp only | split | refine Keeps.upd ?_

theorem State.logEntry_keeps {s : State} (t : State) (g : LogGroup) (h : Keeps s t) :
    Keeps s (State.logEntry t g) := by
  unfold State.logEntry
  repeat' with_reducible first
    | assumption | intro _ | apply Keeps.foldl | apply Keeps.foldl1 | apply Keeps.foldl11 | apply Keeps.ite
    | apply Keeps.ite1 | dsimp only | split | refine Keeps.upd ?_

theorem State.logStation_keeps {s : State} (t : State) (typ : Nat) (cid : Nat) (payloads : List Bytes) (f : OnStored)
    (h : Keeps s t) :
    Keeps s (State.logStation t typ cid payloads f) := by
  unfold State.logStation
  repeat' with_reducible first
    | assumption | intro _ | apply State.logEntry_keeps | apply Keeps.foldl | apply Keeps.foldl1
    | apply Keeps.foldl11 | apply Keeps.ite | apply Keeps.ite1 | dsimp only | split | refine Keeps.upd ?_

theorem State.logKeeper_keeps {s : State} (t : State) (typ : Nat) (payloads : List Bytes) (f : OnStored)
    (h : Keeps s t) :
    Keeps s (State.logKeeper t typ payloads f) := by
  unfold State.logKeeper
  repeat' with_reducible first
    | assumption | intro _ | apply State.logEntry_keeps | apply Keeps.foldl | apply Keeps.foldl1
    | apply Keeps.foldl11 | apply Keeps.ite | apply Keeps.ite1 | dsimp only | split | refine Keeps.upd ?_

end Sys2Proof.Machine
end

