-- ==== Sys2Proof/Laws/KeepsGuards.lean ====
section
/-! SUPPORT. Every operation of Machine/Guards.lean keeps what every command keeps (Safety.Keeps). -/
namespace Sys2Proof.Machine
open Host
set_option linter.all false
set_option Elab.async false

theorem State.setWd_keeps {s : State} (t : State) (w : Nat) (f : Wd → Wd) (h : Keeps s t) : Keeps s (State.setWd t w f) :=
  Keeps.upd h (hw := fun e => by simpa using e)

theorem State.wdRecord_keeps {s : State} (t : State) (w : Nat) (kind : Nat) (detail : Nat) (h : Keeps s t) :
    Keeps s (State.wdRecord t w kind detail) := by
  unfold State.wdRecord
  repeat' with_reducible first
    | assumption | intro _ | apply State.stationRecord_keeps | apply Keeps.foldl | apply Keeps.foldl1
    | apply Keeps.foldl11 | apply Keeps.ite | apply Keeps.ite1 | dsimp only | split | refine Keeps.upd ?_

theorem State.startPeriod_keeps {s : State} (t : State) (w : Nat) (ms : Nat) (h : Keeps s t) :
    Keeps s (State.startPeriod t w ms) := by
  unfold State.startPeriod
  repeat' with_reducible first
    | assumption | intro _ | apply State.setWd_keeps | apply Keeps.foldl | apply Keeps.foldl1 | apply Keeps.foldl11
    | apply Keeps.ite | apply Keeps.ite1 | dsimp only | split | refine Keeps.upd ?_

theorem State.newPeriod_keeps {s : State} (t : State) (w : Nat) (h : Keeps s t) :
    Keeps s (State.newPeriod t w) := by
  unfold State.newPeriod
  repeat' with_reducible first
    | assumption | intro _ | apply State.startPeriod_keeps | apply Keeps.foldl | apply Keeps.foldl1
    | apply Keeps.foldl11 | apply Keeps.ite | apply Keeps.ite1 | dsimp only | split | refine Keeps.upd ?_

theorem State.startGrace_keeps {s : State} (t : State) (w : Nat) (h : Keeps s t) :
    Keeps s (State.startGrace t w) := by
  unfold State.startGrace
  repeat' with_reducible first
    | assumption | intro _ | apply State.startPeriod_keeps | apply State.wdRecord_keeps | apply State.setWd_keeps
    | apply Keeps.foldl | apply Keeps.foldl1 | apply Keeps.foldl11 | apply Keeps.ite | apply Keeps.ite1 | dsimp only
    | split | refine Keeps.upd ?_

theorem State.wdSync1_keeps {s : State} (t : State) (w : Nat) (released : Bool) (h : Keeps s t) :
    Keeps s (State.wdSync1 t w released) := by
  unfold State.wdSync1
  repeat' with_reducible first
    | assumption | intro _ | apply State.startGrace_keeps | apply State.newPeriod_keeps | apply State.setWd_keeps
    | apply Keeps.foldl | apply Keeps.foldl1 | apply Keeps.foldl11 | apply Keeps.ite | apply Keeps.ite1 | dsimp only
    | split | refine Keeps.upd ?_

theorem State.wdSync_keeps {s : State} (t : State) (before : State) (h : Keeps s t) :
    Keeps s (State.wdSync t before) := by
  unfold State.wdSync
  repeat' with_reducible first
    | assumption | intro _ | apply State.wdSync1_keeps | apply Keeps.foldl | apply Keeps.foldl1 | apply Keeps.foldl11
    | apply Keeps.ite | apply Keeps.ite1 | dsimp only | split | refine Keeps.upd ?_

theorem State.wd0Wakes_keeps {s : State} (t : State) (h : Keeps s t) :
    Keeps s (State.wd0Wakes t) := by
  unfold State.wd0Wakes
  repeat' with_reducible first
    | assumption | intro _ | apply State.startGrace_keeps | apply State.newPeriod_keeps | apply Keeps.foldl
    | apply Keeps.foldl1 | apply Keeps.foldl11 | apply Keeps.ite | apply Keeps.ite1 | dsimp only | split
    | refine Keeps.upd ?_

theorem State.wdStart_keeps {s : State} (t : State) (h : Keeps s t) :
    Keeps s (State.wdStart t) := by
  unfold State.wdStart
  repeat' with_reducible first
    | assumption | intro _ | apply State.newPeriod_keeps | apply State.setWd_keeps | apply Keeps.foldl
    | apply Keeps.foldl1 | apply Keeps.foldl11 | apply Keeps.ite | apply Keeps.ite1 | dsimp only | split
    | refine Keeps.upd ?_

end Sys2Proof.Machine
end

