-- ==== Sys2Proof/Laws/KeepsMac.lean ====
section
/-! SUPPORT. Every operation of Machine/Mac.lean keeps what every command keeps (Safety.Keeps). -/
namespace Sys2Proof.Machine
open Host
set_option linter.all false
set_option Elab.async false

theorem State.ethDrop_keeps {s : State} (t : State) (f : Eth) (h : Keeps s t) :
    Keeps s (State.ethDrop t f) := by
  unfold State.ethDrop
  repeat' with_reducible first
    | assumption | intro _ | apply State.inc_keeps | apply Keeps.foldl | apply Keeps.foldl1 | apply Keeps.foldl11
    | apply Keeps.ite | apply Keeps.ite1 | dsimp only | split | refine Keeps.upd ?_

theorem State.onFrame_keeps {s : State} (t : State) (f : Eth) (go : State → State) (h : Keeps s t)
    (hgo : ∀ u, Keeps s u → Keeps s (go u)) :
    Keeps s (State.onFrame t f go) := by
  unfold State.onFrame
  repeat' with_reducible first
    | assumption | intro _ | apply hgo | apply State.ethDrop_keeps | apply Keeps.foldl | apply Keeps.foldl1
    | apply Keeps.foldl11 | apply Keeps.ite | apply Keeps.ite1 | dsimp only | split | refine Keeps.upd ?_

end Sys2Proof.Machine
end

