-- ==== Sys2Proof/Laws/KeepsAccess.lean ====
section
/-! SUPPORT. Every operation of Machine/Access.lean keeps what every command keeps (Safety.Keeps). -/
namespace Sys2Proof.Machine
open Host
set_option linter.all false
set_option Elab.async false

theorem canInsert_length (m : CanMsg) (l : List CanMsg) : (canInsert m l).length = l.length + 1 := by
  induction l with
  | nil => rfl
  | cons x l ih => simp only [canInsert]; split <;> simp [ih]

theorem State.canSend_keeps {s : State} (t : State) (o : Out) (prio bytes : Nat) (ntf : Bool) (h : Keeps s t) :
    Keeps s (State.canSend t o prio bytes ntf) := by
  simp only [State.canSend]
  split
  · exact h
  · split
    · rename_i k
      exact Keeps.upd h (hc := fun _ => by rw [canInsert_length]; exact k)
    · split
      · exact State.inc_keeps _ _ _ h
      · exact Keeps.upd h

theorem State.send_keeps {s : State} (t : State) (p : Port) (src : Nat) (bytes : Nat) (o : Out) (h : Keeps s t) :
    Keeps s (State.send t p src bytes o) := by
  unfold State.send
  repeat' with_reducible first
    | assumption | intro _ | apply State.canSend_keeps | apply State.emit_keeps | apply Keeps.foldl
    | apply Keeps.foldl1 | apply Keeps.foldl11 | apply Keeps.ite | apply Keeps.ite1 | dsimp only | split
    | refine Keeps.upd ?_

theorem State.setSlot_keeps {s : State} (t : State) (x : Slot) (h : Keeps s t) :
    Keeps s (State.setSlot t x) := by
  unfold State.setSlot
  repeat' with_reducible first
    | assumption | intro _ | apply Keeps.foldl | apply Keeps.foldl1 | apply Keeps.foldl11 | apply Keeps.ite
    | apply Keeps.ite1 | dsimp only | split | refine Keeps.upd ?_

theorem State.keyRecord_keeps {s : State} (t : State) (kind : Nat) (h_ : Nat) (low : Nat) (h : Keeps s t) :
    Keeps s (State.keyRecord t kind h_ low) := by
  unfold State.keyRecord
  repeat' with_reducible first
    | assumption | intro _ | apply State.record_keeps | apply Keeps.foldl | apply Keeps.foldl1 | apply Keeps.foldl11
    | apply Keeps.ite | apply Keeps.ite1 | dsimp only | split | refine Keeps.upd ?_

theorem State.useKey_keeps {s : State} (t : State) (h_ : Nat) (h : Keeps s t) :
    Keeps s (State.useKey t h_) := by
  unfold State.useKey
  repeat' with_reducible first
    | assumption | intro _ | apply State.keyRecord_keeps | apply State.setSlot_keeps | apply State.put_keeps
    | apply Keeps.foldl | apply Keeps.foldl1 | apply Keeps.foldl11 | apply Keeps.ite | apply Keeps.ite1 | dsimp only
    | split | refine Keeps.upd ?_

theorem State.retire_keeps {s : State} (t : State) (h_ : Nat) (h : Keeps s t) :
    Keeps s (State.retire t h_) := by
  unfold State.retire
  repeat' with_reducible first
    | assumption | intro _ | apply State.keyRecord_keeps | apply State.put_keeps | apply Keeps.foldl
    | apply Keeps.foldl1 | apply Keeps.foldl11 | apply Keeps.ite | apply Keeps.ite1 | dsimp only | split
    | refine Keeps.upd ?_

theorem State.tagged_keeps {s : State} (t : State) (c : Nat) (gen : Nat) (key : Bytes) (covered : Bytes)
    (h : Keeps s t) :
    Keeps s (State.tagged t c gen key covered).1 := by
  unfold State.tagged
  repeat' with_reducible first
    | assumption | intro _ | apply State.useKey_keeps | apply State.inc_keeps | apply Keeps.foldl
    | apply Keeps.foldl1 | apply Keeps.foldl11 | apply Keeps.ite | apply Keeps.ite1 | dsimp only | split
    | refine Keeps.upd ?_

theorem State.sendReply_keeps {s : State} (t : State) (x : Reply) (h : Keeps s t) :
    Keeps s (State.sendReply t x) := by
  unfold State.sendReply
  repeat' with_reducible first
    | assumption | intro _ | apply State.tagged_keeps | apply State.send_keeps | apply Keeps.foldl
    | apply Keeps.foldl1 | apply Keeps.foldl11 | apply Keeps.ite | apply Keeps.ite1 | dsimp only | split
    | refine Keeps.upd ?_

theorem State.replyAs_keeps {s : State} (t : State) (r : Req) (op : Nat) (ring : Bool) (st : Stat) (body : Bytes)
    (h : Keeps s t) :
    Keeps s (State.replyAs t r op ring st body) := by
  unfold State.replyAs
  repeat' with_reducible first
    | assumption | intro _ | apply State.sendReply_keeps | apply Keeps.foldl | apply Keeps.foldl1
    | apply Keeps.foldl11 | apply Keeps.ite | apply Keeps.ite1 | dsimp only | split | refine Keeps.upd ?_

theorem State.reply_keeps {s : State} (t : State) (r : Req) (op : Nat) (st : Stat) (body : Bytes) (h : Keeps s t) :
    Keeps s (State.reply t r op st body) := by
  unfold State.reply
  repeat' with_reducible first
    | assumption | intro _ | apply State.replyAs_keeps | apply Keeps.foldl | apply Keeps.foldl1 | apply Keeps.foldl11
    | apply Keeps.ite | apply Keeps.ite1 | dsimp only | split | refine Keeps.upd ?_

theorem keepAnswered_le (l : List Answered) (a : Answered) (h : ∀ c, (l.filter (fun x => x.cid == c)).length ≤ 8) (c : Nat) :
    ((keepAnswered l a).filter (fun x => x.cid == c)).length ≤ 8 := by
  unfold keepAnswered
  dsimp only
  split
  · rename_i k
    by_cases e : a.cid = c
    · subst e; simp only [List.filter_append, List.length_append]
      have : (List.filter (fun x => x.cid == a.cid) [a]).length ≤ 1 := List.length_filter_le _ _
      omega
    · have : List.filter (fun x => x.cid == c) [a] = [] := by simp [e]
      simpa [List.filter_append, this] using h c
  · split
    · rename_i k x y e
      have hx : x ∈ l ∧ (x.cid == a.cid) = true := List.mem_filter.mp (e ▸ List.mem_cons_self)
      have hl : ((l.erase x).filter (fun z => z.cid == c)).length ≤ (l.filter (fun z => z.cid == c)).length :=
        ((List.erase_sublist).filter _).length_le
      by_cases ec : a.cid = c
      · subst ec
        have hp : (l.filter (fun z => z.cid == a.cid)).Perm ((x :: l.erase x).filter (fun z => z.cid == a.cid)) :=
          (List.perm_cons_erase hx.1).filter _
        have := hp.length_eq
        simp only [List.filter_cons, hx.2, if_true, List.length_cons] at this
        have h1 : (List.filter (fun x => x.cid == a.cid) [a]).length ≤ 1 := List.length_filter_le _ _
        have := h a.cid
        simp only [List.filter_append, List.length_append]; omega
      · have : List.filter (fun x => x.cid == c) [a] = [] := by simp [ec]
        simp only [List.filter_append, this, List.append_nil]
        exact Nat.le_trans hl (h c)
    · rename_i e
      simp_all

theorem State.keepReply_keeps {s : State} (t : State) (r : Req) (x : Reply) (late : Option Nat) (h : Keeps s t) :
    Keeps s (State.keepReply t r x late) :=
  Keeps.upd h (ha := fun i => keepAnswered_le _ _ i)

theorem State.answer_keeps {s : State} (t : State) (r : Req) (op : Nat) (st : Stat) (body : Bytes) (h : Keeps s t) :
    Keeps s (State.answer t r op st body) := by
  unfold State.answer
  repeat' with_reducible first
    | assumption | intro _ | apply State.keepReply_keeps | apply State.reply_keeps | apply Keeps.foldl
    | apply Keeps.foldl1 | apply Keeps.foldl11 | apply Keeps.ite | apply Keeps.ite1 | dsimp only | split
    | refine Keeps.upd ?_

theorem State.countRefusal_keeps {s : State} (t : State) (c : Nat) (h : Keeps s t) :
    Keeps s (State.countRefusal t c) := by
  unfold State.countRefusal
  repeat' with_reducible first
    | assumption | intro _ | apply State.inc_keeps | apply State.put_keeps | apply Keeps.foldl | apply Keeps.foldl1
    | apply Keeps.foldl11 | apply Keeps.ite | apply Keeps.ite1 | dsimp only | split | refine Keeps.upd ?_

theorem State.delayed_keeps {s : State} (t : State) (x : Reply) (us : Nat) (t0 : Nat) (h : Keeps s t) :
    Keeps s (State.delayed t x us t0) := by
  unfold State.delayed
  repeat' with_reducible first
    | assumption | intro _ | apply Keeps.foldl | apply Keeps.foldl1 | apply Keeps.foldl11 | apply Keeps.ite
    | apply Keeps.ite1 | dsimp only | split | refine Keeps.upd ?_

theorem State.refuseAs_keeps {s : State} (t : State) (r : Req) (op : Nat) (cls : Cls) (ring : Bool) (h : Keeps s t) :
    Keeps s (State.refuseAs t r op cls ring) := by
  unfold State.refuseAs
  repeat' with_reducible first
    | assumption | intro _ | apply State.delayed_keeps | apply State.countRefusal_keeps | apply Keeps.foldl
    | apply Keeps.foldl1 | apply Keeps.foldl11 | apply Keeps.ite | apply Keeps.ite1 | dsimp only | split
    | refine Keeps.upd ?_

theorem State.refuse_keeps {s : State} (t : State) (r : Req) (op : Nat) (cls : Cls) (h : Keeps s t) :
    Keeps s (State.refuse t r op cls) := by
  unfold State.refuse
  repeat' with_reducible first
    | assumption | intro _ | apply State.refuseAs_keeps | apply Keeps.foldl | apply Keeps.foldl1
    | apply Keeps.foldl11 | apply Keeps.ite | apply Keeps.ite1 | dsimp only | split | refine Keeps.upd ?_

theorem State.finish_keeps {s : State} (t : State) (r : Req) (op : Nat) (cls : Cls) (st : Stat) (body : Bytes)
    (h : Keeps s t) :
    Keeps s (State.finish t r op cls st body) := by
  unfold State.finish
  repeat' with_reducible first
    | assumption | intro _ | apply State.refuse_keeps | apply State.answer_keeps | apply Keeps.foldl
    | apply Keeps.foldl1 | apply Keeps.foldl11 | apply Keeps.ite | apply Keeps.ite1 | dsimp only | split
    | refine Keeps.upd ?_

theorem State.wakeIsl_keeps {s : State} (t : State) (i : Island) (h : Keeps s t) :
    Keeps s (State.wakeIsl t i) := by
  unfold State.wakeIsl
  repeat' with_reducible first
    | assumption | intro _ | apply State.wakeFb_keeps | apply State.setIsl_keeps | apply Keeps.foldl
    | apply Keeps.foldl1 | apply Keeps.foldl11 | apply Keeps.ite | apply Keeps.ite1 | dsimp only | split
    | refine Keeps.upd ?_

theorem State.beginProgress_keeps {s : State} (t : State) (c : Nat) (h : Keeps s t) :
    Keeps s (State.beginProgress t c) := by
  unfold State.beginProgress
  repeat' with_reducible first
    | assumption | intro _ | apply State.put_keeps | apply Keeps.foldl | apply Keeps.foldl1 | apply Keeps.foldl11
    | apply Keeps.ite | apply Keeps.ite1 | dsimp only | split | refine Keeps.upd ?_

theorem State.endProgress_keeps {s : State} (t : State) (c : Nat) (h : Keeps s t) :
    Keeps s (State.endProgress t c) := by
  unfold State.endProgress
  repeat' with_reducible first
    | assumption | intro _ | apply State.put_keeps | apply Keeps.foldl | apply Keeps.foldl1 | apply Keeps.foldl11
    | apply Keeps.ite | apply Keeps.ite1 | dsimp only | split | refine Keeps.upd ?_

theorem State.hold_keeps {s : State} (t : State) (h_ : Held) (h : Keeps s t) :
    Keeps s (State.hold t h_) := by
  unfold State.hold
  repeat' with_reducible first
    | assumption | intro _ | apply State.beginProgress_keeps | apply Keeps.foldl | apply Keeps.foldl1
    | apply Keeps.foldl11 | apply Keeps.ite | apply Keeps.ite1 | dsimp only | split | refine Keeps.upd ?_

theorem State.unhold_keeps {s : State} (t : State) (h_ : Held) (h : Keeps s t) :
    Keeps s (State.unhold t h_) := by
  unfold State.unhold
  repeat' with_reducible first
    | assumption | intro _ | apply State.endProgress_keeps | apply Keeps.foldl | apply Keeps.foldl1
    | apply Keeps.foldl11 | apply Keeps.ite | apply Keeps.ite1 | dsimp only | split | refine Keeps.upd ?_

theorem State.into_keeps {s : State} (t : State) (i : Island) (ch : Nat) (cmd : Instr) (cid : Nat) (who : Option Who)
    (shut : State → Stat → State) (go : State → State) (h : Keeps s t) (hshut : ∀ u a0, Keeps s u → Keeps s
    (shut u a0)) (hgo : ∀ u, Keeps s u → Keeps s (go u)) :
    Keeps s (State.into t i ch cmd cid who shut go) := by
  unfold State.into
  repeat' with_reducible first
    | assumption | intro _ | apply hshut | apply hgo | apply State.hold_keeps | apply State.wakeIsl_keeps
    | apply State.inc_keeps | apply Keeps.foldl | apply Keeps.foldl1 | apply Keeps.foldl11 | apply Keeps.ite
    | apply Keeps.ite1 | dsimp only | split | refine Keeps.upd ?_

theorem State.cross_keeps {s : State} (t : State) (i : Island) (ch : Nat) (go : State → State) (h : Keeps s t)
    (hgo : ∀ u, Keeps s u → Keeps s (go u)) :
    Keeps s (State.cross t i ch go) := by
  unfold State.cross
  repeat' with_reducible first
    | assumption | intro _ | apply hgo | apply State.wakeIsl_keeps | apply State.inc_keeps | apply Keeps.foldl
    | apply Keeps.foldl1 | apply Keeps.foldl11 | apply Keeps.ite | apply Keeps.ite1 | dsimp only | split
    | refine Keeps.upd ?_

theorem State.accepted_keeps {s : State} (t : State) (r : Req) (h : Keeps s t) :
    Keeps s (State.accepted t r) := by
  unfold State.accepted
  repeat' with_reducible first
    | assumption | intro _ | apply State.useKey_keeps | apply State.put_keeps | apply Keeps.foldl
    | apply Keeps.foldl1 | apply Keeps.foldl11 | apply Keeps.ite | apply Keeps.ite1 | dsimp only | split
    | refine Keeps.upd ?_

theorem State.takeFrame_keeps {s : State} (t : State) (r : Req) (h : Keeps s t) :
    Keeps s (State.takeFrame t r) := by
  unfold State.takeFrame
  repeat' with_reducible first
    | assumption | intro _ | apply Keeps.foldl | apply Keeps.foldl1 | apply Keeps.foldl11 | apply Keeps.ite
    | apply Keeps.ite1 | dsimp only | split | refine Keeps.upd ?_

theorem State.limited_keeps {s : State} (t : State) (r : Req) (op : Nat) (w : Who) (h : Keeps s t) :
    (State.limited t r op w).keeps s := by
  unfold State.limited
  repeat' with_reducible first
    | assumption | intro _ | apply State.delayed_keeps | apply State.reply_keeps | apply State.sendReply_keeps
    | apply Admit.keeps_ite | apply Admit.keeps_done | apply Admit.keeps_wait | apply Admit.keeps_go
    | apply Keeps.foldl | apply Keeps.foldl1 | apply Keeps.foldl11 | apply Keeps.ite | apply Keeps.ite1 | dsimp only
    | split | refine Keeps.upd ?_

theorem State.verified_keeps {s : State} (t : State) (r : Req) (op : Nat) (cls : Cls) (ring : Bool) (tagOk : Bool)
    (h : Keeps s t) :
    (State.verified t r op cls ring tagOk).keeps s := by
  unfold State.verified
  repeat' with_reducible first
    | assumption | intro _ | apply State.limited_keeps
    | (refine Admit.of_go ?_ (by assumption); apply State.limited_keeps)
    | (refine Admit.of_done ?_ (by assumption); apply State.limited_keeps)
    | (refine Admit.of_wait ?_ (by assumption); apply State.limited_keeps) | apply State.accepted_keeps
    | apply State.refuseAs_keeps | apply State.replyAs_keeps | apply State.retire_keeps | apply Admit.keeps_ite
    | apply Admit.keeps_done | apply Admit.keeps_wait | apply Admit.keeps_go | apply Keeps.foldl | apply Keeps.foldl1
    | apply Keeps.foldl11 | apply Keeps.ite | apply Keeps.ite1 | dsimp only | split | refine Keeps.upd ?_

theorem State.coreAbsent_keeps {s : State} (t : State) (r : Req) (op : Nat) (detail : Nat) (h : Keeps s t) :
    Keeps s (State.coreAbsent t r op detail) := by
  unfold State.coreAbsent
  repeat' with_reducible first
    | assumption | intro _ | apply State.sendReply_keeps | apply Keeps.foldl | apply Keeps.foldl1
    | apply Keeps.foldl11 | apply Keeps.ite | apply Keeps.ite1 | dsimp only | split | refine Keeps.upd ?_

theorem State.authenticate_keeps {s : State} (t : State) (r : Req) (op : Nat) (cls : Cls) (ring : Bool) (boot : Bool)
    (tagOk : Bool) (h : Keeps s t) :
    (State.authenticate t r op cls ring boot tagOk).keeps s := by
  unfold State.authenticate
  repeat' with_reducible first
    | assumption | intro _ | apply State.verified_keeps
    | (refine Admit.of_go ?_ (by assumption); apply State.verified_keeps)
    | (refine Admit.of_done ?_ (by assumption); apply State.verified_keeps)
    | (refine Admit.of_wait ?_ (by assumption); apply State.verified_keeps) | apply State.limited_keeps
    | (refine Admit.of_go ?_ (by assumption); apply State.limited_keeps)
    | (refine Admit.of_done ?_ (by assumption); apply State.limited_keeps)
    | (refine Admit.of_wait ?_ (by assumption); apply State.limited_keeps) | apply State.wakeIsl_keeps
    | apply State.refuseAs_keeps | apply State.inc_keeps | apply Admit.keeps_ite | apply Admit.keeps_done
    | apply Admit.keeps_wait | apply Admit.keeps_go | apply Keeps.foldl | apply Keeps.foldl1 | apply Keeps.foldl11
    | apply Keeps.ite | apply Keeps.ite1 | dsimp only | split | refine Keeps.upd ?_

theorem State.acceptWith_keeps {s : State} (t : State) (r : Req) (op : Nat) (cls : Cls) (fast : Bool) (ring : Bool)
    (boot : Bool) (tagOk : Bool) (h : Keeps s t) :
    (State.acceptWith t r op cls fast ring boot tagOk).keeps s := by
  unfold State.acceptWith
  repeat' with_reducible first
    | assumption | intro _ | apply State.authenticate_keeps
    | (refine Admit.of_go ?_ (by assumption); apply State.authenticate_keeps)
    | (refine Admit.of_done ?_ (by assumption); apply State.authenticate_keeps)
    | (refine Admit.of_wait ?_ (by assumption); apply State.authenticate_keeps) | apply State.coreAbsent_keeps
    | apply State.takeFrame_keeps | apply State.wakeIsl_keeps | apply State.ethDrop_keeps | apply State.inc_keeps
    | apply Admit.keeps_ite | apply Admit.keeps_done | apply Admit.keeps_wait | apply Admit.keeps_go
    | apply Keeps.foldl | apply Keeps.foldl1 | apply Keeps.foldl11 | apply Keeps.ite | apply Keeps.ite1 | dsimp only
    | split | refine Keeps.upd ?_

theorem State.accept_keeps {s : State} (t : State) (r : Req) (op : Nat) (cls : Cls) (fast : Bool) (ring : Bool)
    (boot : Bool) (h : Keeps s t) :
    (State.accept t r op cls fast ring boot).keeps s := by
  unfold State.accept
  repeat' with_reducible first
    | assumption | intro _ | apply State.acceptWith_keeps
    | (refine Admit.of_go ?_ (by assumption); apply State.acceptWith_keeps)
    | (refine Admit.of_done ?_ (by assumption); apply State.acceptWith_keeps)
    | (refine Admit.of_wait ?_ (by assumption); apply State.acceptWith_keeps) | apply Admit.keeps_ite
    | apply Admit.keeps_done | apply Admit.keeps_wait | apply Admit.keeps_go | apply Keeps.foldl | apply Keeps.foldl1
    | apply Keeps.foldl11 | apply Keeps.ite | apply Keeps.ite1 | dsimp only | split | refine Keeps.upd ?_

theorem State.holdRequest_keeps {s : State} (t : State) (cmd : Instr) (r : Req) (i : Option Island) (ch : Nat)
    (w : Option Who) (h : Keeps s t) :
    Keeps s (State.holdRequest t cmd r i ch w) := by
  unfold State.holdRequest
  repeat' with_reducible first
    | assumption | intro _ | apply State.hold_keeps | apply Keeps.foldl | apply Keeps.foldl1 | apply Keeps.foldl11
    | apply Keeps.ite | apply Keeps.ite1 | dsimp only | split | refine Keeps.upd ?_

theorem State.retryLater_keeps {s : State} (t : State) (r : Req) (op : Nat) (h : Keeps s t) :
    Keeps s (State.retryLater t r op) := by
  unfold State.retryLater
  repeat' with_reducible first
    | assumption | intro _ | apply State.beginProgress_keeps | apply Keeps.foldl | apply Keeps.foldl1
    | apply Keeps.foldl11 | apply Keeps.ite | apply Keeps.ite1 | dsimp only | split | refine Keeps.upd ?_

theorem State.abandon_keeps {s : State} (t : State) (h_ : Held) (d : Nat) (h : Keeps s t) :
    Keeps s (State.abandon t h_ d) := by
  unfold State.abandon
  repeat' with_reducible first
    | assumption | intro _ | apply State.retryLater_keeps | apply State.coreAbsent_keeps | apply State.unhold_keeps
    | apply State.finish_keeps | apply State.replyAs_keeps | apply State.inc_keeps | apply Keeps.foldl
    | apply Keeps.foldl1 | apply Keeps.foldl11 | apply Keeps.ite | apply Keeps.ite1 | dsimp only | split
    | refine Keeps.upd ?_

theorem State.dropHeld_keeps {s : State} (t : State) (p : Held → Bool) (h : Keeps s t) :
    Keeps s (State.dropHeld t p) := by
  unfold State.dropHeld
  repeat' with_reducible first
    | assumption | intro _ | apply State.unhold_keeps | apply Keeps.foldl | apply Keeps.foldl1 | apply Keeps.foldl11
    | apply Keeps.ite | apply Keeps.ite1 | dsimp only | split | refine Keeps.upd ?_

theorem State.abandonAll_keeps {s : State} (t : State) (p : Held → Bool) (d : Nat) (h : Keeps s t) :
    Keeps s (State.abandonAll t p d) := by
  unfold State.abandonAll
  repeat' with_reducible first
    | assumption | intro _ | apply State.abandon_keeps | apply Keeps.foldl | apply Keeps.foldl1 | apply Keeps.foldl11
    | apply Keeps.ite | apply Keeps.ite1 | dsimp only | split | refine Keeps.upd ?_

end Sys2Proof.Machine
end

