-- ==== Sys2Proof/Laws/KeepsLinks.lean ====
section
/-! SUPPORT. Every operation of Machine/Links.lean keeps what every command keeps (Safety.Keeps). -/
namespace Sys2Proof.Machine
open Host
set_option linter.all false
set_option Elab.async false

theorem State.portRecord_keeps {s : State} (t : State) (kind : Nat) (detail : Nat) (h : Keeps s t) :
    Keeps s (State.portRecord t kind detail) := by
  unfold State.portRecord
  repeat' with_reducible first
    | assumption | intro _ | apply State.stationRecord_keeps | apply Keeps.foldl | apply Keeps.foldl1
    | apply Keeps.foldl11 | apply Keeps.ite | apply Keeps.ite1 | dsimp only | split | refine Keeps.upd ?_

theorem State.ptpGo_keeps {s : State} (t : State) (v : Nat) (h : Keeps s t) :
    Keeps s (State.ptpGo t v) := by
  unfold State.ptpGo
  repeat' with_reducible first
    | assumption | intro _ | apply State.portRecord_keeps | apply State.put_keeps | apply Keeps.foldl
    | apply Keeps.foldl1 | apply Keeps.foldl11 | apply Keeps.ite | apply Keeps.ite1 | dsimp only | split
    | refine Keeps.upd ?_

theorem State.linkDown_keeps {s : State} (t : State) (h : Keeps s t) :
    Keeps s (State.linkDown t) := by
  unfold State.linkDown
  repeat' with_reducible first
    | assumption | intro _ | apply State.ptpGo_keeps | apply State.portRecord_keeps | apply State.inc_keeps
    | apply State.put_keeps | apply Keeps.foldl | apply Keeps.foldl1 | apply Keeps.foldl11 | apply Keeps.ite
    | apply Keeps.ite1 | dsimp only | split | refine Keeps.upd ?_

theorem State.startDad_keeps {s : State} (t : State) (h : Keeps s t) :
    Keeps s (State.startDad t) := by
  unfold State.startDad
  repeat' with_reducible first
    | assumption | intro _ | apply State.put_keeps | apply Keeps.foldl | apply Keeps.foldl1 | apply Keeps.foldl11
    | apply Keeps.ite | apply Keeps.ite1 | dsimp only | split | refine Keeps.upd ?_

theorem State.startCan_keeps {s : State} (t : State) (h : Keeps s t) :
    Keeps s (State.startCan t) := by
  unfold State.startCan
  repeat' with_reducible first
    | assumption | intro _ | apply State.put_keeps | apply Keeps.foldl | apply Keeps.foldl1 | apply Keeps.foldl11
    | apply Keeps.ite | apply Keeps.ite1 | dsimp only | split | refine Keeps.upd ?_
    | refine Keeps.upd ?_ (hc := fun _ => Nat.zero_le _)

theorem State.startT1l_keeps {s : State} (t : State) (h : Keeps s t) :
    Keeps s (State.startT1l t) := by
  unfold State.startT1l
  repeat' with_reducible first
    | assumption | intro _ | apply State.linkDown_keeps | apply State.ptpGo_keeps | apply State.put_keeps
    | apply Keeps.foldl | apply Keeps.foldl1 | apply Keeps.foldl11 | apply Keeps.ite | apply Keeps.ite1 | dsimp only
    | split | refine Keeps.upd ?_

theorem State.hostUp_keeps {s : State} (t : State) (h : Keeps s t) :
    Keeps s (State.hostUp t) := by
  unfold State.hostUp
  repeat' with_reducible first
    | assumption | intro _ | apply Keeps.foldl | apply Keeps.foldl1 | apply Keeps.foldl11 | apply Keeps.ite
    | apply Keeps.ite1 | dsimp only | split | refine Keeps.upd ?_

theorem State.takeI2c_keeps {s : State} (t : State) (h : Keeps s t) :
    Keeps s (State.takeI2c t) := by
  unfold State.takeI2c
  repeat' with_reducible first
    | assumption | intro _ | apply Keeps.foldl | apply Keeps.foldl1 | apply Keeps.foldl11 | apply Keeps.ite
    | apply Keeps.ite1 | dsimp only | split | refine Keeps.upd ?_

theorem State.startHost_keeps {s : State} (t : State) (h : Keeps s t) :
    Keeps s (State.startHost t) := by
  unfold State.startHost
  repeat' with_reducible first
    | assumption | intro _ | apply State.hostUp_keeps | apply State.put_keeps | apply Keeps.foldl
    | apply Keeps.foldl1 | apply Keeps.foldl11 | apply Keeps.ite | apply Keeps.ite1 | dsimp only | split
    | refine Keeps.upd ?_

theorem State.twinStart_keeps {s : State} (t : State) (h : Keeps s t) :
    Keeps s (State.twinStart t) := by
  unfold State.twinStart
  repeat' with_reducible first
    | assumption | intro _ | apply State.put_keeps | apply Keeps.foldl | apply Keeps.foldl1 | apply Keeps.foldl11
    | apply Keeps.ite | apply Keeps.ite1 | dsimp only | split | refine Keeps.upd ?_

theorem State.startPorts_keeps {s : State} (t : State) (h : Keeps s t) :
    Keeps s (State.startPorts t) := by
  unfold State.startPorts
  repeat' with_reducible first
    | assumption | intro _ | apply State.twinStart_keeps | apply State.startHost_keeps | apply State.startT1l_keeps
    | apply State.startCan_keeps | apply Keeps.foldl | apply Keeps.foldl1 | apply Keeps.foldl11 | apply Keeps.ite
    | apply Keeps.ite1 | dsimp only | split | refine Keeps.upd ?_

theorem State.busOff_keeps {s : State} (t : State) (h : Keeps s t) :
    Keeps s (State.busOff t) := by
  unfold State.busOff
  repeat' with_reducible first
    | assumption | intro _ | apply State.portRecord_keeps | apply State.inc_keeps | apply State.put_keeps
    | apply Keeps.foldl | apply Keeps.foldl1 | apply Keeps.foldl11 | apply Keeps.ite | apply Keeps.ite1 | dsimp only
    | split | refine Keeps.upd ?_ | refine Keeps.upd ?_ (hc := fun _ => Nat.zero_le _)

theorem State.canCounts_keeps {s : State} (t : State) (tec : Nat) (rec_ : Nat) (h : Keeps s t) :
    Keeps s (State.canCounts t tec rec_) := by
  unfold State.canCounts
  repeat' with_reducible first
    | assumption | intro _ | apply State.busOff_keeps | apply State.portRecord_keeps | apply State.put_keeps
    | apply Keeps.foldl | apply Keeps.foldl1 | apply Keeps.foldl11 | apply Keeps.ite | apply Keeps.ite1 | dsimp only
    | split | refine Keeps.upd ?_

theorem State.canRefill_keeps {s : State} (t : State) (h : Keeps s t) :
    Keeps s (State.canRefill t) := by
  unfold State.canRefill
  split
  · split
    · rename_i k
      exact Keeps.upd h (hc := fun _ => by rw [canInsert_length]; exact k)
    · exact h
  · exact h

end Sys2Proof.Machine
end

