-- ==== Sys2Proof/Laws/KeepsLoops.lean ====
section
/-! SUPPORT. Every operation of Machine/Loops.lean keeps what every command keeps (Safety.Keeps). -/
namespace Sys2Proof.Machine
open Host
set_option linter.all false
set_option Elab.async false

theorem State.loopRecord_keeps {s : State} (t : State) (kind : Nat) (detail : Nat) (h : Keeps s t) :
    Keeps s (State.loopRecord t kind detail) := by
  unfold State.loopRecord
  repeat' with_reducible first
    | assumption | intro _ | apply State.stationRecord_keeps | apply Keeps.foldl | apply Keeps.foldl1
    | apply Keeps.foldl11 | apply Keeps.ite | apply Keeps.ite1 | dsimp only | split | refine Keeps.upd ?_

theorem State.fence_keeps {s : State} (t : State) (n : Nat) (fenced : Bool) (high : Bool) (h : Keeps s t) :
    Keeps s (State.fence t n fenced high) := by
  unfold State.fence
  repeat' with_reducible first
    | assumption | intro _ | apply State.loopRecord_keeps | apply State.inc_keeps | apply Keeps.foldl
    | apply Keeps.foldl1 | apply Keeps.foldl11 | apply Keeps.ite | apply Keeps.ite1 | dsimp only | split
    | refine Keeps.upd ?_

theorem State.safety_keeps {s : State} (t : State) (n : Nat) (rules : List Nat) (h : Keeps s t) :
    Keeps s (State.safety t n rules) := by
  unfold State.safety
  repeat' with_reducible first
    | assumption | intro _ | apply State.loopRecord_keeps | apply Keeps.foldl | apply Keeps.foldl1
    | apply Keeps.foldl11 | apply Keeps.ite | apply Keeps.ite1 | dsimp only | split | refine Keeps.upd ?_

theorem State.ruleShown_keeps {s : State} (t : State) (r : Nat) (on : Bool) (h : Keeps s t) :
    Keeps s (State.ruleShown t r on) := by
  unfold State.ruleShown
  repeat' with_reducible first
    | assumption | intro _ | apply State.put_keeps | apply Keeps.foldl | apply Keeps.foldl1 | apply Keeps.foldl11
    | apply Keeps.ite | apply Keeps.ite1 | dsimp only | split | refine Keeps.upd ?_

theorem State.showLoop_keeps {s : State} (t : State) (n : Nat) (off : Bool) (following : Bool) (out : Int)
    (want : Int) (h : Keeps s t) :
    Keeps s (State.showLoop t n off following out want) := by
  unfold State.showLoop
  repeat' with_reducible first
    | assumption | intro _ | apply State.safety_keeps | apply State.hold_keeps | apply State.put_keeps
    | apply Keeps.foldl | apply Keeps.foldl1 | apply Keeps.foldl11 | apply Keeps.ite | apply Keeps.ite1 | dsimp only
    | split | refine Keeps.upd ?_

theorem State.reshow_keeps {s : State} (t : State) (n : Nat) (off : Bool) (following : Bool) (h : Keeps s t) :
    Keeps s (State.reshow t n off following) := by
  unfold State.reshow
  repeat' with_reducible first
    | assumption | intro _ | apply State.showLoop_keeps | apply Keeps.foldl | apply Keeps.foldl1
    | apply Keeps.foldl11 | apply Keeps.ite | apply Keeps.ite1 | dsimp only | split | refine Keeps.upd ?_

end Sys2Proof.Machine
end

