-- ==== Sys2Proof/Laws/KeepsRails.lean ====
section
/-! SUPPORT. Every operation of Machine/Rails.lean keeps what every command keeps (Safety.Keeps). -/
namespace Sys2Proof.Machine
open Host
set_option linter.all false
set_option Elab.async false

theorem State.setOut_keeps {s : State} (t : State) (o : Nat) (f : Output → Output) (h : Keeps s t) :
    Keeps s (State.setOut t o f) := by
  unfold State.setOut
  repeat' with_reducible first
    | assumption | intro _ | apply Keeps.foldl | apply Keeps.foldl1 | apply Keeps.foldl11 | apply Keeps.ite
    | apply Keeps.ite1 | dsimp only | split | refine Keeps.upd ?_
    | refine Keeps.upd ?_ (hl := fun e => by simpa using e)

theorem State.railRecord_keeps {s : State} (t : State) (kind : Nat) (detail : Nat) (h : Keeps s t) :
    Keeps s (State.railRecord t kind detail) := by
  unfold State.railRecord
  repeat' with_reducible first
    | assumption | intro _ | apply State.powerEvent_keeps | apply Keeps.foldl | apply Keeps.foldl1
    | apply Keeps.foldl11 | apply Keeps.ite | apply Keeps.ite1 | dsimp only | split | refine Keeps.upd ?_

theorem State.outClientRecords_keeps {s : State} (t : State) (o : Nat) (kind : Nat) (h : Keeps s t) :
    Keeps s (State.outClientRecords t o kind) := by
  unfold State.outClientRecords
  repeat' with_reducible first
    | assumption | intro _ | apply State.clientRecord_keeps | apply Keeps.foldl | apply Keeps.foldl1
    | apply Keeps.foldl11 | apply Keeps.ite | apply Keeps.ite1 | dsimp only | split | refine Keeps.upd ?_

theorem State.marginsOff_keeps {s : State} (t : State) (r : Nat) (h : Keeps s t) :
    Keeps s (State.marginsOff t r) := by
  unfold State.marginsOff
  repeat' with_reducible first
    | assumption | intro _ | apply State.put_keeps | apply Keeps.foldl | apply Keeps.foldl1 | apply Keeps.foldl11
    | apply Keeps.ite | apply Keeps.ite1 | dsimp only | split | refine Keeps.upd ?_

theorem State.outGo_keeps {s : State} (t : State) (o : Nat) (st : Nat) (cause : Nat) (f : Output → Output)
    (h : Keeps s t) :
    Keeps s (State.outGo t o st cause f) := by
  unfold State.outGo
  repeat' with_reducible first
    | assumption | intro _ | apply State.marginsOff_keeps | apply State.outClientRecords_keeps
    | apply State.railRecord_keeps | apply State.setOut_keeps | apply Keeps.foldl | apply Keeps.foldl1
    | apply Keeps.foldl11 | apply Keeps.ite | apply Keeps.ite1 | dsimp only | split | refine Keeps.upd ?_

theorem State.driveFlt_keeps {s : State} (t : State) (o : Nat) (cause : Nat) (h : Keeps s t) :
    Keeps s (State.driveFlt t o cause) := by
  unfold State.driveFlt
  repeat' with_reducible first
    | assumption | intro _ | apply Keeps.foldl | apply Keeps.foldl1 | apply Keeps.foldl11 | apply Keeps.ite
    | apply Keeps.ite1 | dsimp only | split | refine Keeps.upd ?_

theorem State.enterFault_keeps {s : State} (t : State) (o : Nat) (cause : Nat) (h : Keeps s t) :
    Keeps s (State.enterFault t o cause) := by
  unfold State.enterFault
  repeat' with_reducible first
    | assumption | intro _ | apply State.driveFlt_keeps | apply State.outGo_keeps | apply Keeps.foldl
    | apply Keeps.foldl1 | apply Keeps.foldl11 | apply Keeps.ite | apply Keeps.ite1 | dsimp only | split
    | refine Keeps.upd ?_

theorem State.retryOut_keeps {s : State} (t : State) (o : Nat) (h : Keeps s t) :
    Keeps s (State.retryOut t o) := by
  unfold State.retryOut
  repeat' with_reducible first
    | assumption | intro _ | apply State.outGo_keeps | apply Keeps.foldl | apply Keeps.foldl1 | apply Keeps.foldl11
    | apply Keeps.ite | apply Keeps.ite1 | dsimp only | split | refine Keeps.upd ?_

theorem State.settleOut_keeps {s : State} (t : State) (o : Nat) (h : Keeps s t) :
    Keeps s (State.settleOut t o) := by
  unfold State.settleOut
  repeat' with_reducible first
    | assumption | intro _ | apply State.retryOut_keeps | apply State.outGo_keeps | apply State.setOut_keeps
    | apply Keeps.foldl | apply Keeps.foldl1 | apply Keeps.foldl11 | apply Keeps.ite | apply Keeps.ite1 | dsimp only
    | split | dsimp only [id] | refine Keeps.upd ?_

theorem State.settlePass_keeps {s : State} (t : State) (h : Keeps s t) :
    Keeps s (State.settlePass t) := by
  unfold State.settlePass
  repeat' with_reducible first
    | assumption | intro _ | apply State.settleOut_keeps | apply Keeps.foldl | apply Keeps.foldl1
    | apply Keeps.foldl11 | apply Keeps.ite | apply Keeps.ite1 | dsimp only | split | refine Keeps.upd ?_

theorem State.settle_keeps {s : State} (t : State) (h : Keeps s t) :
    Keeps s (State.settle t) := by
  unfold State.settle
  repeat' with_reducible first
    | assumption | intro _ | apply State.settlePass_keeps | apply Keeps.foldl | apply Keeps.foldl1
    | apply Keeps.foldl11 | apply Keeps.ite | apply Keeps.ite1 | dsimp only | split | refine Keeps.upd ?_

theorem State.settleWoken_keeps {s : State} (t : State) (h : Keeps s t) :
    Keeps s (State.settleWoken t) := by
  unfold State.settleWoken
  repeat' with_reducible first
    | assumption | intro _ | apply State.settle_keeps | apply State.setIsl_keeps | apply Keeps.foldl
    | apply Keeps.foldl1 | apply Keeps.foldl11 | apply Keeps.ite | apply Keeps.ite1 | dsimp only | split
    | refine Keeps.upd ?_

theorem State.outputsChanged_keeps {s : State} (t : State) (h : Keeps s t) :
    Keeps s (State.outputsChanged t) := by
  unfold State.outputsChanged
  repeat' with_reducible first
    | assumption | intro _ | apply State.settleWoken_keeps | apply State.over_keeps | apply Keeps.foldl
    | apply Keeps.foldl1 | apply Keeps.foldl11 | apply Keeps.ite | apply Keeps.ite1 | dsimp only | split
    | refine Keeps.upd ?_

theorem execRailBandCross_keeps {s : State} (rail : Fin 8) (band : Fin 4) (entered : Bool) (mv : Nat) (t : State)
    (h : Keeps s t) :
    KeepsOut s (execRailBandCross rail band entered mv t) := by
  unfold execRailBandCross
  repeat' with_reducible first
    | assumption | intro _ | apply State.settle_keeps | apply State.enterFault_keeps | apply State.railRecord_keeps
    | apply State.setOut_keeps | apply State.put_keeps | apply KeepsOut.next | apply KeepsOut.ite | apply Keeps.foldl
    | apply Keeps.foldl1 | apply Keeps.foldl11 | apply Keeps.ite | apply Keeps.ite1 | dsimp only | split
    | refine Keeps.upd ?_

theorem execUpDelayExpiry_keeps {s : State} (rail : Fin 8) (t : State) (h : Keeps s t) :
    KeepsOut s (execUpDelayExpiry rail t) := by
  unfold execUpDelayExpiry
  repeat' with_reducible first
    | assumption | intro _ | apply State.settle_keeps | apply State.outGo_keeps | apply State.setOut_keeps
    | apply KeepsOut.next | apply KeepsOut.ite | apply Keeps.foldl | apply Keeps.foldl1 | apply Keeps.foldl11
    | apply Keeps.ite | apply Keeps.ite1 | dsimp only | split | refine Keeps.upd ?_

theorem execRailGood_keeps {s : State} (rail : Fin 8) (t : State) (h : Keeps s t) :
    KeepsOut s (execRailGood rail t) := by
  unfold execRailGood
  repeat' with_reducible first
    | assumption | intro _ | apply State.settle_keeps | apply State.outGo_keeps | apply KeepsOut.next
    | apply KeepsOut.ite | apply Keeps.foldl | apply Keeps.foldl1 | apply Keeps.foldl11 | apply Keeps.ite
    | apply Keeps.ite1 | dsimp only | split | dsimp only [id] | refine Keeps.upd ?_

theorem execRampTimeout_keeps {s : State} (rail : Fin 8) (t : State) (h : Keeps s t) :
    KeepsOut s (execRampTimeout rail t) := by
  unfold execRampTimeout
  repeat' with_reducible first
    | assumption | intro _ | apply State.settle_keeps | apply State.enterFault_keeps | apply KeepsOut.next
    | apply KeepsOut.ite | apply Keeps.foldl | apply Keeps.foldl1 | apply Keeps.foldl11 | apply Keeps.ite
    | apply Keeps.ite1 | dsimp only | split | refine Keeps.upd ?_

theorem execDownDelayExpiry_keeps {s : State} (rail : Fin 8) (t : State) (h : Keeps s t) :
    KeepsOut s (execDownDelayExpiry rail t) := by
  unfold execDownDelayExpiry
  repeat' with_reducible first
    | assumption | intro _ | apply State.settle_keeps | apply State.outGo_keeps | apply KeepsOut.next
    | apply KeepsOut.ite | apply Keeps.foldl | apply Keeps.foldl1 | apply Keeps.foldl11 | apply Keeps.ite
    | apply Keeps.ite1 | dsimp only | split | refine Keeps.upd ?_

theorem execRailOffReached_keeps {s : State} (rail : Fin 8) (t : State) (h : Keeps s t) :
    KeepsOut s (execRailOffReached rail t) := by
  unfold execRailOffReached
  repeat' with_reducible first
    | assumption | intro _ | apply State.settle_keeps | apply State.outGo_keeps | apply State.setOut_keeps
    | apply KeepsOut.next | apply KeepsOut.ite | apply Keeps.foldl | apply Keeps.foldl1 | apply Keeps.foldl11
    | apply Keeps.ite | apply Keeps.ite1 | dsimp only | split | refine Keeps.upd ?_

theorem execDischargeTimeout_keeps {s : State} (rail : Fin 8) (t : State) (h : Keeps s t) :
    KeepsOut s (execDischargeTimeout rail t) := by
  unfold execDischargeTimeout
  repeat' with_reducible first
    | assumption | intro _ | apply State.settle_keeps | apply State.outGo_keeps | apply KeepsOut.next
    | apply KeepsOut.ite | apply Keeps.foldl | apply Keeps.foldl1 | apply Keeps.foldl11 | apply Keeps.ite
    | apply Keeps.ite1 | dsimp only | split | dsimp only [id] | refine Keeps.upd ?_

theorem execFltNAsserted_keeps {s : State} (t : State) (h : Keeps s t) :
    KeepsOut s (execFltNAsserted t) := by
  unfold execFltNAsserted
  repeat' with_reducible first
    | assumption | intro _ | apply State.settle_keeps | apply State.railRecord_keeps | apply State.logKeeper_keeps
    | apply State.inc_keeps | apply KeepsOut.next | apply KeepsOut.ite | apply Keeps.foldl | apply Keeps.foldl1
    | apply Keeps.foldl11 | apply Keeps.ite | apply Keeps.ite1 | dsimp only | split | refine Keeps.upd ?_

theorem execFltNRelease_keeps {s : State} (lineHigh : Bool) (t : State) (h : Keeps s t) :
    KeepsOut s (execFltNRelease lineHigh t) := by
  unfold execFltNRelease
  repeat' with_reducible first
    | assumption | intro _ | apply State.railRecord_keeps | apply KeepsOut.next | apply KeepsOut.ite
    | apply Keeps.foldl | apply Keeps.foldl1 | apply Keeps.foldl11 | apply Keeps.ite | apply Keeps.ite1 | dsimp only
    | split | refine Keeps.upd ?_

theorem execFltNLineReleased_keeps {s : State} (t : State) (h : Keeps s t) :
    KeepsOut s (execFltNLineReleased t) := by
  unfold execFltNLineReleased
  repeat' with_reducible first
    | assumption | intro _ | apply State.railRecord_keeps | apply KeepsOut.next | apply KeepsOut.ite
    | apply Keeps.foldl | apply Keeps.foldl1 | apply Keeps.foldl11 | apply Keeps.ite | apply Keeps.ite1 | dsimp only
    | split | refine Keeps.upd ?_

theorem execFltHoldExpiry_keeps {s : State} (cool : Nat) (t : State) (h : Keeps s t) :
    KeepsOut s (execFltHoldExpiry cool t) := by
  unfold execFltHoldExpiry
  repeat' with_reducible first
    | assumption | intro _ | apply State.settle_keeps | apply State.setOut_keeps | apply KeepsOut.next
    | apply KeepsOut.ite | apply Keeps.foldl | apply Keeps.foldl1 | apply Keeps.foldl11 | apply Keeps.ite
    | apply Keeps.ite1 | dsimp only | split | refine Keeps.upd ?_

theorem State.seqClear_keeps {s : State} (t : State) (h : Keeps s t) :
    Keeps s (State.seqClear t) := by
  unfold State.seqClear
  repeat' with_reducible first
    | assumption | intro _ | apply State.settle_keeps | apply State.outGo_keeps | apply Keeps.foldl
    | apply Keeps.foldl1 | apply Keeps.foldl11 | apply Keeps.ite | apply Keeps.ite1 | dsimp only | split
    | dsimp only [id] | refine Keeps.upd ?_ | refine Keeps.upd ?_ (hl := fun e => by simpa using e)

theorem execRetryRestore_keeps {s : State} (o : Fin 14) (t : State) (h : Keeps s t) :
    KeepsOut s (execRetryRestore o t) := by
  unfold execRetryRestore
  repeat' with_reducible first
    | assumption | intro _ | apply State.setOut_keeps | apply KeepsOut.next | apply KeepsOut.ite | apply Keeps.foldl
    | apply Keeps.foldl1 | apply Keeps.foldl11 | apply Keeps.ite | apply Keeps.ite1 | dsimp only | split
    | refine Keeps.upd ?_

theorem execLswRampDone_keeps {s : State} (k : Fin 6) (t : State) (h : Keeps s t) :
    KeepsOut s (execLswRampDone k t) := by
  unfold execLswRampDone
  repeat' with_reducible first
    | assumption | intro _ | apply State.settle_keeps | apply State.outGo_keeps | apply KeepsOut.next
    | apply KeepsOut.ite | apply Keeps.foldl | apply Keeps.foldl1 | apply Keeps.foldl11 | apply Keeps.ite
    | apply Keeps.ite1 | dsimp only | split | dsimp only [id] | refine Keeps.upd ?_

theorem execLswCurrentLimit_keeps {s : State} (k : Fin 6) (t : State) (h : Keeps s t) :
    KeepsOut s (execLswCurrentLimit k t) := by
  unfold execLswCurrentLimit
  repeat' with_reducible first
    | assumption | intro _ | apply State.settle_keeps | apply State.enterFault_keeps | apply KeepsOut.next
    | apply KeepsOut.ite | apply Keeps.foldl | apply Keeps.foldl1 | apply Keeps.foldl11 | apply Keeps.ite
    | apply Keeps.ite1 | dsimp only | split | refine Keeps.upd ?_

theorem execLswOvertemp_keeps {s : State} (k : Fin 6) (t : State) (h : Keeps s t) :
    KeepsOut s (execLswOvertemp k t) := by
  unfold execLswOvertemp
  repeat' with_reducible first
    | assumption | intro _ | apply State.settle_keeps | apply State.enterFault_keeps | apply State.setOut_keeps
    | apply KeepsOut.next | apply KeepsOut.ite | apply Keeps.foldl | apply Keeps.foldl1 | apply Keeps.foldl11
    | apply Keeps.ite | apply Keeps.ite1 | dsimp only | split | refine Keeps.upd ?_

theorem execLswLoadCheck_keeps {s : State} (k : Fin 6) (ma : Nat) (meanMw : Nat) (t : State) (h : Keeps s t) :
    KeepsOut s (execLswLoadCheck k ma meanMw t) := by
  unfold execLswLoadCheck
  repeat' with_reducible first
    | assumption | intro _ | apply State.railRecord_keeps | apply State.setOut_keeps | apply State.put_keeps
    | apply KeepsOut.next | apply KeepsOut.ite | apply Keeps.foldl | apply Keeps.foldl1 | apply Keeps.foldl11
    | apply Keeps.ite | apply Keeps.ite1 | dsimp only | split | refine Keeps.upd ?_

theorem execMargTargetReached_keeps {s : State} (m : Fin 4) (t : State) (h : Keeps s t) :
    KeepsOut s (execMargTargetReached m t) := by
  unfold execMargTargetReached
  repeat' with_reducible first
    | assumption | intro _ | apply State.railRecord_keeps | apply State.put_keeps | apply KeepsOut.next
    | apply KeepsOut.ite | apply Keeps.foldl | apply Keeps.foldl1 | apply Keeps.foldl11 | apply Keeps.ite
    | apply Keeps.ite1 | dsimp only | split | refine Keeps.upd ?_

theorem State.writeMargReq_keeps {s : State} (t : State) (cid : Nat) (m : Nat) (v : Nat) (h : Keeps s t) :
    Keeps s (State.writeMargReq t cid m v).1 := by
  unfold State.writeMargReq
  repeat' with_reducible first
    | assumption | intro _ | apply State.put_keeps | apply Keeps.foldl | apply Keeps.foldl1 | apply Keeps.foldl11
    | apply Keeps.ite | apply Keeps.ite1 | dsimp only | split | refine Keeps.upd ?_

end Sys2Proof.Machine
end

