-- ==== Sys2Proof/Laws/KeepsBudget.lean ====
section
/-! SUPPORT. Every operation of Machine/Budget.lean keeps what every command keeps (Safety.Keeps). -/
namespace Sys2Proof.Machine
open Host
set_option linter.all false
set_option Elab.async false

theorem State.computeBudget_keeps {s : State} (t : State) (h : Keeps s t) :
    Keeps s (State.computeBudget t) := by
  unfold State.computeBudget
  repeat' with_reducible first
    | assumption | intro _ | apply State.stationRecord_keeps | apply State.put_keeps | apply Keeps.foldl
    | apply Keeps.foldl1 | apply Keeps.foldl11 | apply Keeps.ite | apply Keeps.ite1 | dsimp only | split
    | refine Keeps.upd ?_

end Sys2Proof.Machine
end

