-- ==== Sys2Proof/Laws/KeepsArbiter.lean ====
section
/-! SUPPORT. Every operation of Machine/Arbiter.lean keeps what every command keeps (Safety.Keeps). -/
namespace Sys2Proof.Machine
open Host
set_option linter.all false
set_option Elab.async false

theorem State.bundleMap_keeps {s : State} (t : State) (c : Nat) (n : Nat) (f : Bundle → Bundle) (h : Keeps s t) :
    Keeps s (State.bundleMap t c n f) := by
  unfold State.bundleMap
  repeat' with_reducible first
    | assumption | intro _ | apply Keeps.foldl | apply Keeps.foldl1 | apply Keeps.foldl11 | apply Keeps.ite
    | apply Keeps.ite1 | dsimp only | split | refine Keeps.upd ?_

theorem State.leaseRecord_keeps {s : State} (t : State) (kind : Nat) (b : Bundle) (h : Keeps s t) :
    Keeps s (State.leaseRecord t kind b) := by
  unfold State.leaseRecord
  repeat' with_reducible first
    | assumption | intro _ | apply State.clientRecord_keeps | apply Keeps.foldl | apply Keeps.foldl1
    | apply Keeps.foldl11 | apply Keeps.ite | apply Keeps.ite1 | dsimp only | split | refine Keeps.upd ?_

theorem State.inputZero_keeps {s : State} (t : State) (c : Nat) (i : Nat) (h : Keeps s t) :
    Keeps s (State.inputZero t c i) := by
  unfold State.inputZero
  repeat' with_reducible first
    | assumption | intro _ | apply State.put_keeps | apply Keeps.foldl | apply Keeps.foldl1 | apply Keeps.foldl11
    | apply Keeps.ite | apply Keeps.ite1 | dsimp only | split | refine Keeps.upd ?_

theorem State.grantInput_keeps {s : State} (t : State) (c : Nat) (i : Nat) (h : Keeps s t) :
    Keeps s (State.grantInput t c i) := by
  unfold State.grantInput
  repeat' with_reducible first
    | assumption | intro _ | apply State.inputZero_keeps | apply Keeps.foldl | apply Keeps.foldl1
    | apply Keeps.foldl11 | apply Keeps.ite | apply Keeps.ite1 | dsimp only | split | refine Keeps.upd ?_

theorem State.endInput_keeps {s : State} (t : State) (c : Nat) (i : Nat) (h : Keeps s t) :
    Keeps s (State.endInput t c i) := by
  unfold State.endInput
  repeat' with_reducible first
    | assumption | intro _ | apply State.inputZero_keeps | apply Keeps.foldl | apply Keeps.foldl1
    | apply Keeps.foldl11 | apply Keeps.ite | apply Keeps.ite1 | dsimp only | split | refine Keeps.upd ?_

theorem State.cancelOvfTimers_keeps {s : State} (t : State) (c : Nat) (h : Keeps s t) :
    Keeps s (State.cancelOvfTimers t c) := by
  unfold State.cancelOvfTimers
  repeat' with_reducible first
    | assumption | intro _ | apply State.clientRecord_keeps | apply Keeps.foldl | apply Keeps.foldl1
    | apply Keeps.foldl11 | apply Keeps.ite | apply Keeps.ite1 | dsimp only | split | refine Keeps.upd ?_

theorem State.dropOvfRecs_keeps {s : State} (t : State) (c : Nat) (h : Keeps s t) :
    Keeps s (State.dropOvfRecs t c) := by
  unfold State.dropOvfRecs
  repeat' with_reducible first
    | assumption | intro _ | apply State.advanceStream_keeps
    | refine State.dlvSet_keeps _ _ ?_ (fun x => x) (fun x => x) (fun x => x) (fun x => x) (fun x => x)
    | refine State.dlvSet_keeps _ _ ?_ (fun i r m => i r (List.mem_filter.mp m).1) (fun x => x) (fun x => x) (fun x => x) (fun x => x)
    | apply State.add_keeps | apply Keeps.foldl | apply Keeps.foldl1 | apply Keeps.foldl11 | apply Keeps.ite
    | apply Keeps.ite1 | dsimp only | split | dsimp only [id] | refine Keeps.upd ?_

theorem State.loseItems_keeps {s : State} (t : State) (b : Bundle) (h : Keeps s t) :
    Keeps s (State.loseItems t b) := by
  unfold State.loseItems
  repeat' with_reducible first
    | assumption | intro _ | apply State.dropOvfRecs_keeps | apply State.cancelOvfTimers_keeps
    | apply State.endInput_keeps | apply Keeps.foldl | apply Keeps.foldl1 | apply Keeps.foldl11 | apply Keeps.ite
    | apply Keeps.ite1 | dsimp only | split | refine Keeps.upd ?_

theorem State.endBundle_keeps {s : State} (t : State) (b : Bundle) (reason : Nat) (kind : Nat) (h : Keeps s t) :
    Keeps s (State.endBundle t b reason kind) := by
  unfold State.endBundle
  repeat' with_reducible first
    | assumption | intro _ | apply State.loseItems_keeps | apply State.leaseRecord_keeps
    | apply State.bundleMap_keeps | apply Keeps.foldl | apply Keeps.foldl1 | apply Keeps.foldl11 | apply Keeps.ite
    | apply Keeps.ite1 | dsimp only | split | refine Keeps.upd ?_

theorem State.noteBypass_keeps {s : State} (t : State × List (Nat × Nat)) (x : Bundle) (h : Keeps s t.1) :
    Keeps s (State.noteBypass t x).1 := by
  unfold State.noteBypass
  repeat' with_reducible first
    | assumption | intro _ | apply State.leaseRecord_keeps | apply State.bundleMap_keeps | apply Keeps.foldl
    | apply Keeps.foldl1 | apply Keeps.foldl11 | apply Keeps.ite | apply Keeps.ite1 | dsimp only | split
    | refine Keeps.upd ?_

theorem State.grant_keeps {s : State} (t : State × List (Nat × Nat)) (b : Bundle) (h : Keeps s t.1) :
    Keeps s (State.grant t b).1 := by
  unfold State.grant
  repeat' with_reducible first
    | assumption | intro _ | apply State.noteBypass_keeps | apply State.grantInput_keeps
    | apply State.leaseRecord_keeps | apply State.bundleMap_keeps | apply State.inc_keeps | apply State.put_keeps
    | apply Keeps.foldl | apply Keeps.foldl1 | apply Keeps.foldl11 | apply Keeps.ite | apply Keeps.ite1 | dsimp only
    | split | refine Keeps.upd ?_

theorem State.grantReserved_keeps {s : State} (t : State × List (Nat × Nat)) (h : Keeps s t.1) :
    Keeps s (State.grantReserved t).1 := by
  unfold State.grantReserved
  repeat' with_reducible first
    | assumption | intro _ | apply State.grant_keeps | apply State.putS_keeps | apply Keeps.foldl
    | apply Keeps.foldl1 | apply Keeps.foldl11 | apply Keeps.ite | apply Keeps.ite1 | dsimp only | split
    | refine Keeps.upd ?_

theorem State.grantStanding_keeps {s : State} (t : State) (h : Keeps s t) :
    Keeps s (State.grantStanding t) := by
  unfold State.grantStanding
  repeat' with_reducible first
    | assumption | intro _ | apply State.record_keeps | apply State.drawn_keeps | apply Keeps.foldl
    | apply Keeps.foldl1 | apply Keeps.foldl11 | apply Keeps.ite | apply Keeps.ite1 | dsimp only | split
    | refine Keeps.upd ?_

theorem State.holderTurn_keeps {s : State} (t : State × List (Nat × Nat)) (h_ : Nat) (h : Keeps s t.1) :
    Keeps s (State.holderTurn t h_).1 := by
  unfold State.holderTurn
  repeat' with_reducible first
    | assumption | intro _ | apply State.grant_keeps | apply State.putS_keeps | apply State.put_keeps
    | apply Keeps.foldl | apply Keeps.foldl1 | apply Keeps.foldl11 | apply Keeps.ite | apply Keeps.ite1 | dsimp only
    | split | refine Keeps.upd ?_

theorem State.round_keeps {s : State} (t : State × List (Nat × Nat)) (h : Keeps s t.1) :
    Keeps s (State.round t).1 := by
  unfold State.round
  repeat' with_reducible first
    | assumption | intro _ | apply State.holderTurn_keeps | apply Keeps.foldl | apply Keeps.foldl1
    | apply Keeps.foldl11 | apply Keeps.ite | apply Keeps.ite1 | dsimp only | split | refine Keeps.upd ?_

theorem State.rounds_keeps {s : State} (n : Nat) (p : State × List (Nat × Nat)) (h : Keeps s p.1) : Keeps s (State.rounds n p).1 := by
  induction n generalizing p with
  | zero => exact h
  | succ n ih =>
    rw [State.rounds]
    exact Keeps.ite1 (ih _ (State.round_keeps _ h)) (State.round_keeps _ h)

theorem State.serveExpiries_keeps {s : State} (t : State) (h : Keeps s t) :
    Keeps s (State.serveExpiries t) := by
  unfold State.serveExpiries
  repeat' with_reducible first
    | assumption | intro _ | apply State.endBundle_keeps | apply State.inc_keeps | apply Keeps.foldl
    | apply Keeps.foldl1 | apply Keeps.foldl11 | apply Keeps.ite | apply Keeps.ite1 | dsimp only | split
    | refine Keeps.upd ?_

theorem State.serveTimeouts_keeps {s : State} (t : State) (h : Keeps s t) :
    Keeps s (State.serveTimeouts t) := by
  unfold State.serveTimeouts
  repeat' with_reducible first
    | assumption | intro _ | apply State.endBundle_keeps | apply Keeps.foldl | apply Keeps.foldl1
    | apply Keeps.foldl11 | apply Keeps.ite | apply Keeps.ite1 | dsimp only | split | refine Keeps.upd ?_

theorem State.revokeNow_keeps {s : State} (t : State) (b : Bundle) (h : Keeps s t) :
    Keeps s (State.revokeNow t b) := by
  unfold State.revokeNow
  repeat' with_reducible first
    | assumption | intro _ | apply State.endBundle_keeps | apply State.inc_keeps | apply Keeps.foldl
    | apply Keeps.foldl1 | apply Keeps.foldl11 | apply Keeps.ite | apply Keeps.ite1 | dsimp only | split
    | refine Keeps.upd ?_ | refine Keeps.upd ?_ (hl := fun e => by simpa using e)

theorem State.giveNotice_keeps {s : State} (t : State) (b : Bundle) (h : Keeps s t) :
    Keeps s (State.giveNotice t b) := by
  unfold State.giveNotice
  repeat' with_reducible first
    | assumption | intro _ | apply State.leaseRecord_keeps | apply State.bundleMap_keeps | apply Keeps.foldl
    | apply Keeps.foldl1 | apply Keeps.foldl11 | apply Keeps.ite | apply Keeps.ite1 | dsimp only | split
    | refine Keeps.upd ?_

theorem State.revokeQueued_keeps {s : State} (t : State) (h : Keeps s t) :
    Keeps s (State.revokeQueued t) := by
  unfold State.revokeQueued
  repeat' with_reducible first
    | assumption | intro _ | apply State.endBundle_keeps | apply State.inc_keeps | apply Keeps.foldl
    | apply Keeps.foldl1 | apply Keeps.foldl11 | apply Keeps.ite | apply Keeps.ite1 | dsimp only | split
    | refine Keeps.upd ?_

theorem State.noticeStanding_keeps {s : State} (t : State) (i : Nat) (h : Keeps s t) :
    Keeps s (State.noticeStanding t i) := by
  unfold State.noticeStanding
  repeat' with_reducible first
    | assumption | intro _ | apply Keeps.foldl | apply Keeps.foldl1 | apply Keeps.foldl11 | apply Keeps.ite
    | apply Keeps.ite1 | dsimp only | split | refine Keeps.upd ?_

theorem State.shedEnergy_keeps {s : State} (t : State) (h : Keeps s t) :
    Keeps s (State.shedEnergy t) := by
  unfold State.shedEnergy
  repeat' with_reducible first
    | assumption | intro _ | apply State.noticeStanding_keeps | apply State.giveNotice_keeps | apply Keeps.foldl
    | apply Keeps.foldl1 | apply Keeps.foldl11 | apply Keeps.ite | apply Keeps.ite1 | dsimp only | split
    | refine Keeps.upd ?_

theorem State.budget_keeps {s : State} (t : State) (now_ : Bool) (h : Keeps s t) :
    Keeps s (State.budget t now_) := by
  unfold State.budget
  repeat' with_reducible first
    | assumption | intro _ | apply State.shedEnergy_keeps | apply State.revokeQueued_keeps
    | apply State.computeBudget_keeps | apply Keeps.foldl | apply Keeps.foldl1 | apply Keeps.foldl11
    | apply Keeps.ite | apply Keeps.ite1 | dsimp only | split | refine Keeps.upd ?_

theorem State.obtainBudget_keeps {s : State} (t : State) (h : Keeps s t) :
    Keeps s (State.obtainBudget t) := by
  unfold State.obtainBudget
  repeat' with_reducible first
    | assumption | intro _ | apply State.budget_keeps | apply State.wakeIsl_keeps | apply State.inc_keeps
    | apply Keeps.foldl | apply Keeps.foldl1 | apply Keeps.foldl11 | apply Keeps.ite | apply Keeps.ite1 | dsimp only
    | split | refine Keeps.upd ?_

theorem State.pass_keeps {s : State} (t : State) (h : Keeps s t) :
    Keeps s (State.pass t) := by
  unfold State.pass
  repeat' with_reducible first
    | assumption | intro _ | apply State.obtainBudget_keeps | apply State.serveTimeouts_keeps
    | apply State.serveExpiries_keeps | apply State.rounds_keeps | apply State.grantStanding_keeps
    | apply State.grantReserved_keeps | apply State.noteBypass_keeps | apply State.outputsChanged_keeps
    | apply State.settle_keeps | apply Keeps.foldl | apply Keeps.foldl1 | apply Keeps.foldl11 | apply Keeps.ite
    | apply Keeps.ite1 | dsimp only | split | refine Keeps.upd ?_

theorem State.queueBundle_keeps {s : State} (t : State) (c : Nat) (a : LeaseAsk) (h : Keeps s t) :
    Keeps s (State.queueBundle t c a).1 := by
  unfold State.queueBundle
  repeat' with_reducible first
    | assumption | intro _ | apply State.pass_keeps | apply State.endBundle_keeps | apply Keeps.foldl
    | apply Keeps.foldl1 | apply Keeps.foldl11 | apply Keeps.ite | apply Keeps.ite1 | dsimp only | split
    | refine Keeps.upd ?_

theorem State.nameEnded_keeps {s : State} (t : State) (c : Nat) (n : Nat) (h : Keeps s t) :
    Keeps s (State.nameEnded t c n).1 := by
  unfold State.nameEnded
  repeat' with_reducible first
    | assumption | intro _ | apply Keeps.foldl | apply Keeps.foldl1 | apply Keeps.foldl11 | apply Keeps.ite
    | apply Keeps.ite1 | dsimp only | split | refine Keeps.upd ?_

theorem State.release_keeps {s : State} (t : State) (c : Nat) (n : Nat) (h : Keeps s t) :
    Keeps s (State.release t c n).1 := by
  unfold State.release
  repeat' with_reducible first
    | assumption | intro _ | apply State.nameEnded_keeps | apply State.pass_keeps | apply State.endBundle_keeps
    | apply Keeps.foldl | apply Keeps.foldl1 | apply Keeps.foldl11 | apply Keeps.ite | apply Keeps.ite1 | dsimp only
    | split | refine Keeps.upd ?_

theorem State.renew_keeps {s : State} (t : State) (c : Nat) (n : Nat) (d : Nat) (h : Keeps s t) :
    Keeps s (State.renew t c n d).1 := by
  unfold State.renew
  repeat' with_reducible first
    | assumption | intro _ | apply State.nameEnded_keeps | apply State.pass_keeps | apply State.bundleMap_keeps
    | apply Keeps.foldl | apply Keeps.foldl1 | apply Keeps.foldl11 | apply Keeps.ite | apply Keeps.ite1 | dsimp only
    | split | refine Keeps.upd ?_

theorem execLeaseExpiry_keeps {s : State} (cid : Nat) (num : Nat) (t : State) (h : Keeps s t) :
    KeepsOut s (execLeaseExpiry cid num t) := by
  unfold execLeaseExpiry
  repeat' with_reducible first
    | assumption | intro _ | apply State.pass_keeps | apply State.servedAt_keeps | apply KeepsOut.next
    | apply KeepsOut.ite | apply Keeps.foldl | apply Keeps.foldl1 | apply Keeps.foldl11 | apply Keeps.ite
    | apply Keeps.ite1 | dsimp only | split | refine Keeps.upd ?_

theorem execLeaseRequestTimeout_keeps {s : State} (cid : Nat) (num : Nat) (t : State) (h : Keeps s t) :
    KeepsOut s (execLeaseRequestTimeout cid num t) := by
  unfold execLeaseRequestTimeout
  repeat' with_reducible first
    | assumption | intro _ | apply State.pass_keeps | apply State.servedAt_keeps | apply KeepsOut.next
    | apply KeepsOut.ite | apply Keeps.foldl | apply Keeps.foldl1 | apply Keeps.foldl11 | apply Keeps.ite
    | apply Keeps.ite1 | dsimp only | split | refine Keeps.upd ?_

theorem State.revokeStanding_keeps {s : State} (t : State) (i : Nat) (x : Standing) (h : Keeps s t) :
    Keeps s (State.revokeStanding t i x) := by
  unfold State.revokeStanding
  repeat' with_reducible first
    | assumption | intro _ | apply State.inc_keeps | apply Keeps.foldl | apply Keeps.foldl1 | apply Keeps.foldl11
    | apply Keeps.ite | apply Keeps.ite1 | dsimp only | split | refine Keeps.upd ?_

theorem execRevocationEffect_keeps {s : State} (cid : Nat) (num : Nat) (t : State) (h : Keeps s t) :
    KeepsOut s (execRevocationEffect cid num t) := by
  unfold execRevocationEffect
  repeat' with_reducible first
    | assumption | intro _ | apply State.revokeStanding_keeps | apply State.pass_keeps | apply State.revokeNow_keeps
    | apply State.servedAt_keeps | apply KeepsOut.next | apply KeepsOut.ite | apply Keeps.foldl | apply Keeps.foldl1
    | apply Keeps.foldl11 | apply Keeps.ite | apply Keeps.ite1 | dsimp only | split | refine Keeps.upd ?_

theorem execEndedSlotExpiry_keeps {s : State} (cid : Nat) (num : Nat) (t : State) (h : Keeps s t) :
    KeepsOut s (execEndedSlotExpiry cid num t) := by
  unfold execEndedSlotExpiry
  repeat' with_reducible first
    | assumption | intro _ | apply State.reach_keeps | apply KeepsOut.next | apply KeepsOut.ite | apply Keeps.foldl
    | apply Keeps.foldl1 | apply Keeps.foldl11 | apply Keeps.ite | apply Keeps.ite1 | dsimp only | split
    | refine Keeps.upd ?_

end Sys2Proof.Machine
end

