-- ==== Sys2Proof/Laws/KeepsReserve.lean ====
section
/-! SUPPORT. Every operation of Machine/Reserve.lean keeps what every command keeps (Safety.Keeps). -/
namespace Sys2Proof.Machine
open Host
set_option linter.all false
set_option Elab.async false

theorem State.repairEvent_keeps {s : State} (t : State) (kind : Nat) (mem : Nat) (low : Nat) (h : Keeps s t) :
    Keeps s (State.repairEvent t kind mem low) := by
  unfold State.repairEvent
  repeat' with_reducible first
    | assumption | intro _ | apply State.stationRecord_keeps | apply Keeps.foldl | apply Keeps.foldl1
    | apply Keeps.foldl11 | apply Keeps.ite | apply Keeps.ite1 | dsimp only | split | refine Keeps.upd ?_

theorem State.repairCheck_keeps {s : State} (t : State) (h : Keeps s t) :
    Keeps s (State.repairCheck t) := by
  unfold State.repairCheck
  repeat' with_reducible first
    | assumption | intro _ | apply State.repairEvent_keeps | apply State.logKeeper_keeps | apply State.drawn_keeps
    | apply Keeps.foldl | apply Keeps.foldl1 | apply Keeps.foldl11 | apply Keeps.ite | apply Keeps.ite1 | dsimp only
    | split | refine Keeps.upd ?_

theorem State.ageTo_keeps {s : State} (t : State) (h : Keeps s t) :
    Keeps s (State.ageTo t) := by
  unfold State.ageTo
  repeat' with_reducible first
    | assumption | intro _ | apply Keeps.foldl | apply Keeps.foldl1 | apply Keeps.foldl11 | apply Keeps.ite
    | apply Keeps.ite1 | dsimp only | split | refine Keeps.upd ?_

theorem State.ageRead_keeps {s : State} (t : State) (t_ : Int) (h : Keeps s t) :
    Keeps s (State.ageRead t t_) := by
  unfold State.ageRead
  repeat' with_reducible first
    | assumption | intro _ | apply State.ageTo_keeps | apply Keeps.foldl | apply Keeps.foldl1 | apply Keeps.foldl11
    | apply Keeps.ite | apply Keeps.ite1 | dsimp only | split | refine Keeps.upd ?_

theorem State.ageOut_keeps {s : State} (t : State) (h : Keeps s t) :
    Keeps s (State.ageOut t) := by
  unfold State.ageOut
  repeat' with_reducible first
    | assumption | intro _ | apply State.ageTo_keeps | apply Keeps.foldl | apply Keeps.foldl1 | apply Keeps.foldl11
    | apply Keeps.ite | apply Keeps.ite1 | dsimp only | split | refine Keeps.upd ?_

theorem State.readTs_keeps {s : State} (t : State) (ts : List Int) (h : Keeps s t) :
    Keeps s (State.readTs t ts) := by
  unfold State.readTs
  repeat' with_reducible first
    | assumption | intro _ | apply State.ageRead_keeps | apply State.putS_keeps | apply State.put_keeps
    | apply Keeps.foldl | apply Keeps.foldl1 | apply Keeps.foldl11 | apply Keeps.ite | apply Keeps.ite1 | dsimp only
    | split | refine Keeps.upd ?_

theorem State.ageUnknown_keeps {s : State} (t : State) (h : Keeps s t) :
    Keeps s (State.ageUnknown t) := by
  unfold State.ageUnknown
  repeat' with_reducible first
    | assumption | intro _ | apply Keeps.foldl | apply Keeps.foldl1 | apply Keeps.foldl11 | apply Keeps.ite
    | apply Keeps.ite1 | dsimp only | split | refine Keeps.upd ?_

theorem State.cycle_keeps {s : State} (t : State) (h : Keeps s t) :
    Keeps s (State.cycle t) := by
  unfold State.cycle
  repeat' with_reducible first
    | assumption | intro _ | apply State.drawn_keeps | apply State.add_keeps | apply Keeps.foldl | apply Keeps.foldl1
    | apply Keeps.foldl11 | apply Keeps.ite | apply Keeps.ite1 | dsimp only | split | refine Keeps.upd ?_

theorem State.programmed_keeps {s : State} (t : State) (mem : Nat) (b : Nat) (h : Keeps s t) :
    Keeps s (State.programmed t mem b) := by
  unfold State.programmed
  repeat' with_reducible first
    | assumption | intro _ | apply Keeps.foldl | apply Keeps.foldl1 | apply Keeps.foldl11 | apply Keeps.ite
    | apply Keeps.ite1 | dsimp only | split | refine Keeps.upd ?_

theorem State.setSlotState_keeps {s : State} (t : State) (i : Nat) (st : Nat) (h : Keeps s t) :
    Keeps s (State.setSlotState t i st) := by
  unfold State.setSlotState
  repeat' with_reducible first
    | assumption | intro _ | apply State.put_keeps | apply Keeps.foldl | apply Keeps.foldl1 | apply Keeps.foldl11
    | apply Keeps.ite | apply Keeps.ite1 | dsimp only | split | refine Keeps.upd ?_

theorem State.setSlotTrials_keeps {s : State} (t : State) (i : Nat) (n : Nat) (h : Keeps s t) :
    Keeps s (State.setSlotTrials t i n) := by
  unfold State.setSlotTrials
  repeat' with_reducible first
    | assumption | intro _ | apply State.put_keeps | apply Keeps.foldl | apply Keeps.foldl1 | apply Keeps.foldl11
    | apply Keeps.ite | apply Keeps.ite1 | dsimp only | split | refine Keeps.upd ?_

theorem State.endSession_keeps {s : State} (t : State) (good : Bool) (h : Keeps s t) :
    Keeps s (State.endSession t good) := by
  unfold State.endSession
  repeat' with_reducible first
    | assumption | intro _ | apply State.setSlotState_keeps | apply State.put_keeps | apply Keeps.foldl
    | apply Keeps.foldl1 | apply Keeps.foldl11 | apply Keeps.ite | apply Keeps.ite1 | dsimp only | split
    | refine Keeps.upd ?_

end Sys2Proof.Machine
end

