-- ==== Sys2Proof/Laws/KeepsTimers.lean ====
section
/-! SUPPORT. Every operation of Machine/Timers.lean keeps what every command keeps (Safety.Keeps). -/
namespace Sys2Proof.Machine
open Host
set_option linter.all false
set_option Elab.async false

theorem State.postSource_keeps {s : State} (t : State) (src : Nat) (cid : Nat) (kind : Nat) (detail : Nat)
    (h : Keeps s t) :
    Keeps s (State.postSource t src cid kind detail) := by
  unfold State.postSource
  repeat' with_reducible first
    | assumption | intro _ | apply State.record_keeps | apply Keeps.foldl | apply Keeps.foldl1 | apply Keeps.foldl11
    | apply Keeps.ite | apply Keeps.ite1 | dsimp only | split | refine Keeps.upd ?_

theorem State.setTimer_keeps {s : State} (t : State) (t_ : Tmr) (h : Keeps s t) :
    Keeps s (State.setTimer t t_) := by
  unfold State.setTimer
  repeat' with_reducible first
    | assumption | intro _ | apply Keeps.foldl | apply Keeps.foldl1 | apply Keeps.foldl11 | apply Keeps.ite
    | apply Keeps.ite1 | dsimp only | split | refine Keeps.upd ?_

theorem State.fireTimer_keeps {s : State} (t : State) (t_ : Tmr) (present : Nat) (h : Keeps s t) :
    Keeps s (State.fireTimer t t_ present) := by
  unfold State.fireTimer
  repeat' with_reducible first
    | assumption | intro _ | apply State.setTimer_keeps | apply State.postSource_keeps | apply State.record_keeps
    | apply State.post_keeps | apply State.inc_keeps | apply Keeps.foldl | apply Keeps.foldl1 | apply Keeps.foldl11
    | apply Keeps.ite | apply Keeps.ite1 | dsimp only | split | refine Keeps.upd ?_

theorem State.writeTmr_keeps {s : State} (t : State) (cid : Nat) (handle : Nat) (v : Nat) (h : Keeps s t) :
    Keeps s (State.writeTmr t cid handle v).1 := by
  unfold State.writeTmr
  repeat' with_reducible first
    | assumption | intro _ | apply State.fireTimer_keeps | apply State.setTimer_keeps | apply Keeps.foldl
    | apply Keeps.foldl1 | apply Keeps.foldl11 | apply Keeps.ite | apply Keeps.ite1 | dsimp only | split
    | refine Keeps.upd ?_

theorem State.setIdleBank_keeps {s : State} (t : State) (b : List (Nat × Nat)) (h : Keeps s t) :
    Keeps s (State.setIdleBank t b) := by
  unfold State.setIdleBank
  repeat' with_reducible first
    | assumption | intro _ | apply Keeps.foldl | apply Keeps.foldl1 | apply Keeps.foldl11 | apply Keeps.ite
    | apply Keeps.ite1 | dsimp only | split | refine Keeps.upd ?_

theorem State.setIdleSeam_keeps {s : State} (t : State) (n : Nat) (h : Keeps s t) :
    Keeps s (State.setIdleSeam t n) := by
  unfold State.setIdleSeam
  repeat' with_reducible first
    | assumption | intro _ | apply Keeps.foldl | apply Keeps.foldl1 | apply Keeps.foldl11 | apply Keeps.ite
    | apply Keeps.ite1 | dsimp only | split | refine Keeps.upd ?_

theorem State.planPending_keeps {s : State} (t : State) (shape : Nat) (h : Keeps s t) :
    Keeps s (State.planPending t shape) := by
  unfold State.planPending
  repeat' with_reducible first
    | assumption | intro _ | apply State.put_keeps | apply Keeps.foldl | apply Keeps.foldl1 | apply Keeps.foldl11
    | apply Keeps.ite | apply Keeps.ite1 | dsimp only | split | refine Keeps.upd ?_

theorem State.planLoad_keeps {s : State} (t : State) (h : Keeps s t) :
    Keeps s (State.planLoad t) := by
  unfold State.planLoad
  repeat' with_reducible first
    | assumption | intro _ | apply State.record_keeps | apply Keeps.foldl | apply Keeps.foldl1 | apply Keeps.foldl11
    | apply Keeps.ite | apply Keeps.ite1 | dsimp only | split | refine Keeps.upd ?_

theorem State.storeAnchors_keeps {s : State} (t : State) (h : Keeps s t) :
    Keeps s (State.storeAnchors t) := by
  unfold State.storeAnchors
  repeat' with_reducible first
    | assumption | intro _ | apply Keeps.foldl | apply Keeps.foldl1 | apply Keeps.foldl11 | apply Keeps.ite
    | apply Keeps.ite1 | dsimp only | split | refine Keeps.upd ?_

theorem execTimerFire_keeps {s : State} (cid : Nat) (handle : Nat) (t : State) (h : Keeps s t) :
    KeepsOut s (execTimerFire cid handle t) := by
  unfold execTimerFire
  repeat' with_reducible first
    | assumption | intro _ | apply State.fireTimer_keeps | apply State.servedAt_keeps | apply KeepsOut.next
    | apply KeepsOut.ite | apply Keeps.foldl | apply Keeps.foldl1 | apply Keeps.foldl11 | apply Keeps.ite
    | apply Keeps.ite1 | dsimp only | split | refine Keeps.upd ?_

theorem State.planRecord_keeps {s : State} (t : State) (src : Nat) (kind : Nat) (detail : Nat) (cid : Nat) (h_ : Nat)
    (h : Keeps s t) :
    Keeps s (State.planRecord t src kind detail cid h_) := by
  unfold State.planRecord
  repeat' with_reducible first
    | assumption | intro _ | apply State.record_keeps | apply Keeps.foldl | apply Keeps.foldl1 | apply Keeps.foldl11
    | apply Keeps.ite | apply Keeps.ite1 | dsimp only | split | refine Keeps.upd ?_

theorem State.planExchange_keeps {s : State} (t : State) (h : Keeps s t) :
    Keeps s (State.planExchange t) := by
  unfold State.planExchange
  repeat' with_reducible first
    | assumption | intro _ | apply State.planRecord_keeps | apply State.storeAnchors_keeps | apply State.inc_keeps
    | apply State.put_keeps | apply Keeps.foldl | apply Keeps.foldl1 | apply Keeps.foldl11 | apply Keeps.ite
    | apply Keeps.ite1 | dsimp only | split | refine Keeps.upd ?_

theorem execPlanExchange_keeps {s : State} (t : State) (h : Keeps s t) :
    KeepsOut s (execPlanExchange t) := by
  unfold execPlanExchange
  repeat' with_reducible first
    | assumption | intro _ | apply State.planExchange_keeps | apply State.servedAt_keeps | apply KeepsOut.next
    | apply KeepsOut.ite | apply Keeps.foldl | apply Keeps.foldl1 | apply Keeps.foldl11 | apply Keeps.ite
    | apply Keeps.ite1 | dsimp only | split | refine Keeps.upd ?_

theorem State.planFail_keeps {s : State} (t : State) (h_ : Nat) (tag : Nat) (cid : Nat) (st : Stat) (h : Keeps s t) :
    Keeps s (State.planFail t h_ tag cid st) := by
  unfold State.planFail
  repeat' with_reducible first
    | assumption | intro _ | apply State.planRecord_keeps | apply State.put_keeps | apply Keeps.foldl
    | apply Keeps.foldl1 | apply Keeps.foldl11 | apply Keeps.ite | apply Keeps.ite1 | dsimp only | split
    | refine Keeps.upd ?_

theorem State.planLease_keeps {s : State} (t : State) (v : Nat) (h : Keeps s t) :
    Keeps s (State.planLease t v).1 := by
  unfold State.planLease
  repeat' with_reducible first
    | assumption | intro _ | apply State.renew_keeps | apply State.queueBundle_keeps | apply Keeps.foldl
    | apply Keeps.foldl1 | apply Keeps.foldl11 | apply Keeps.ite | apply Keeps.ite1 | dsimp only | split
    | refine Keeps.upd ?_

theorem State.firePlan_keeps {s : State} (t : State) (p : PlanTimer) (v : Nat) (h : Keeps s t) :
    Keeps s (State.firePlan t p v) := by
  unfold State.firePlan
  repeat' with_reducible first
    | assumption | intro _ | apply State.planLease_keeps | apply State.planFail_keeps | apply State.planRecord_keeps
    | apply State.postSource_keeps | apply State.inc_keeps | apply Keeps.foldl | apply Keeps.foldl1
    | apply Keeps.foldl11 | apply Keeps.ite | apply Keeps.ite1 | dsimp only | split | refine Keeps.upd ?_

theorem execPlanEntryFire_keeps {s : State} (hid : Nat) (tag : Nat) (t : State) (h : Keeps s t) :
    KeepsOut s (execPlanEntryFire hid tag t) := by
  unfold execPlanEntryFire
  repeat' with_reducible first
    | assumption | intro _ | apply State.firePlan_keeps | apply State.servedAt_keeps | apply KeepsOut.next
    | apply KeepsOut.ite | apply Keeps.foldl | apply Keeps.foldl1 | apply Keeps.foldl11 | apply Keeps.ite
    | apply Keeps.ite1 | dsimp only | split | refine Keeps.upd ?_

end Sys2Proof.Machine
end

