-- ==== Sys2Proof/Laws/KeepsCommits.lean ====
section
/-! SUPPORT. Every operation of Machine/Commits.lean keeps what every command keeps (Safety.Keeps). -/
namespace Sys2Proof.Machine
open Host
set_option linter.all false
set_option Elab.async false

theorem State.zeroKxEls_keeps {s : State} (t : State) (c : Nat) (h : Keeps s t) :
    Keeps s (State.zeroKxEls t c) := by
  unfold State.zeroKxEls
  repeat' with_reducible first
    | assumption | intro _ | apply State.dropEls_keeps | apply Keeps.foldl | apply Keeps.foldl1 | apply Keeps.foldl11
    | apply Keeps.ite | apply Keeps.ite1 | dsimp only | split | refine Keeps.upd ?_

theorem State.eraseKx_keeps {s : State} (t : State) (c : Nat) (h : Keeps s t) :
    Keeps s (State.eraseKx t c) := by
  unfold State.eraseKx
  repeat' with_reducible first
    | assumption | intro _ | apply State.zeroKxEls_keeps | apply Keeps.foldl | apply Keeps.foldl1
    | apply Keeps.foldl11 | apply Keeps.ite | apply Keeps.ite1 | dsimp only | split | refine Keeps.upd ?_

theorem State.applyItem_keeps {s : State} (t : State) (p : Nat × Nat) (h : Keeps s t) :
    Keeps s (State.applyItem t p) := by
  unfold State.applyItem
  repeat' with_reducible first
    | assumption | intro _ | apply State.setIdleSeam_keeps | apply State.setIdleBank_keeps | apply State.put_keeps
    | apply Keeps.foldl | apply Keeps.foldl1 | apply Keeps.foldl11 | apply Keeps.ite | apply Keeps.ite1 | dsimp only
    | split | refine Keeps.upd ?_

theorem State.applyItems_keeps {s : State} (t : State) (l : List (Nat × Nat)) (h : Keeps s t) :
    Keeps s (State.applyItems t l) := by
  unfold State.applyItems
  repeat' with_reducible first
    | assumption | intro _ | apply State.applyItem_keeps | apply Keeps.foldl | apply Keeps.foldl1
    | apply Keeps.foldl11 | apply Keeps.ite | apply Keeps.ite1 | dsimp only | split | refine Keeps.upd ?_

theorem State.commitMap_keeps {s : State} (t : State) (c : Commit) (f : Commit → Commit) (h : Keeps s t) :
    Keeps s (State.commitMap t c f) := by
  unfold State.commitMap
  repeat' with_reducible first
    | assumption | intro _ | apply Keeps.foldl | apply Keeps.foldl1 | apply Keeps.foldl11 | apply Keeps.ite
    | apply Keeps.ite1 | dsimp only | split | refine Keeps.upd ?_

theorem State.dropCommit_keeps {s : State} (t : State) (c : Commit) (h : Keeps s t) :
    Keeps s (State.dropCommit t c) := by
  unfold State.dropCommit
  repeat' with_reducible first
    | assumption | intro _ | apply Keeps.foldl | apply Keeps.foldl1 | apply Keeps.foldl11 | apply Keeps.ite
    | apply Keeps.ite1 | dsimp only | split | refine Keeps.upd ?_

theorem State.commitRecord_keeps {s : State} (t : State) (c : Commit) (kind : Nat) (h : Keeps s t) :
    Keeps s (State.commitRecord t c kind) := by
  unfold State.commitRecord
  repeat' with_reducible first
    | assumption | intro _ | apply State.record_keeps | apply Keeps.foldl | apply Keeps.foldl1 | apply Keeps.foldl11
    | apply Keeps.ite | apply Keeps.ite1 | dsimp only | split | refine Keeps.upd ?_

theorem State.commitEntry_keeps {s : State} (t : State) (c : Commit) (ph : Phase) (st : Nat) (h : Keeps s t) :
    Keeps s (State.commitEntry t c ph st) := by
  unfold State.commitEntry
  repeat' with_reducible first
    | assumption | intro _ | apply State.logEntry_keeps | apply Keeps.foldl | apply Keeps.foldl1
    | apply Keeps.foldl11 | apply Keeps.ite | apply Keeps.ite1 | dsimp only | split | refine Keeps.upd ?_

theorem State.setLast_keeps {s : State} (t : State) (c : Commit) (ph : Phase) (st : Nat) (detail : Nat) (rule : Nat)
    (h : Keeps s t) :
    Keeps s (State.setLast t c ph st detail rule) := by
  unfold State.setLast
  repeat' with_reducible first
    | assumption | intro _ | apply Keeps.foldl | apply Keeps.foldl1 | apply Keeps.foldl11 | apply Keeps.ite
    | apply Keeps.ite1 | dsimp only | split | refine Keeps.upd ?_

theorem State.endCommit_keeps {s : State} (t : State) (c : Commit) (ph : Phase) (st : Nat) (detail : Nat) (rule : Nat)
    (h : Keeps s t) :
    Keeps s (State.endCommit t c ph st detail rule) := by
  unfold State.endCommit
  repeat' with_reducible first
    | assumption | intro _ | apply State.setLast_keeps | apply State.commitEntry_keeps
    | apply State.commitRecord_keeps | apply State.dropCommit_keeps | apply State.eraseKx_keeps
    | apply State.inc_keeps | apply Keeps.foldl | apply Keeps.foldl1 | apply Keeps.foldl11 | apply Keeps.ite
    | apply Keeps.ite1 | dsimp only | split | refine Keeps.upd ?_

theorem State.failUnprepared_keeps {s : State} (t : State) (h : Keeps s t) :
    Keeps s (State.failUnprepared t) := by
  unfold State.failUnprepared
  repeat' with_reducible first
    | assumption | intro _ | apply State.endCommit_keeps | apply Keeps.foldl | apply Keeps.foldl1
    | apply Keeps.foldl11 | apply Keeps.ite | apply Keeps.ite1 | dsimp only | split | refine Keeps.upd ?_

end Sys2Proof.Machine
end

