-- ==== Sys2Proof/Laws/KeepsEvents.lean ====
section
/-! SUPPORT. Every operation of Machine/Events.lean keeps what every command keeps (Safety.Keeps). -/
namespace Sys2Proof.Machine
open Host
set_option linter.all false
set_option Elab.async false

theorem State.writeEdge_keeps {s : State} (t : State) (e : EvtWait) (flags : Nat) (h : Keeps s t) :
    Keeps s (State.writeEdge t e flags) := by
  unfold State.writeEdge
  repeat' with_reducible first
    | assumption | intro _ | apply State.record_keeps | apply State.inc_keeps | apply Keeps.foldl
    | apply Keeps.foldl1 | apply Keeps.foldl11 | apply Keeps.ite | apply Keeps.ite1 | dsimp only | split
    | refine Keeps.upd ?_

theorem State.loseStamp_keeps {s : State} (t : State) (c : Nat) (i : Nat) (h : Keeps s t) :
    Keeps s (State.loseStamp t c i) := by
  unfold State.loseStamp
  repeat' with_reducible first
    | assumption | intro _ | apply State.overrun_keeps
    | refine State.dlvSet_keeps _ _ ?_ (fun x => x) (fun x => x) (fun x => x) (fun x => x) (fun x => x)
    | apply State.inc_keeps | apply Keeps.foldl | apply Keeps.foldl1 | apply Keeps.foldl11 | apply Keeps.ite
    | apply Keeps.ite1 | dsimp only | split | refine Keeps.upd ?_

theorem State.comparator_keeps {s : State} (t : State) (i : Nat) (c : Nat) (rising : Bool) (at_ : Nat)
    (h : Keeps s t) :
    Keeps s (State.comparator t i c rising at_) := by
  unfold State.comparator
  repeat' with_reducible first
    | assumption | intro _ | apply Keeps.foldl | apply Keeps.foldl1 | apply Keeps.foldl11 | apply Keeps.ite
    | apply Keeps.ite1 | dsimp only | split | refine Keeps.upd ?_

theorem execEvtRawTransition_keeps {s : State} (input : Fin 24) (rising : Bool) (upper : Bool) (at_ : Nat) (t : State)
    (h : Keeps s t) :
    KeepsOut s (execEvtRawTransition input rising upper at_ t) := by
  unfold execEvtRawTransition
  repeat' with_reducible first
    | assumption | intro _ | apply State.comparator_keeps | apply State.loseStamp_keeps | apply State.reach_keeps
    | apply State.drawn_keeps | apply KeepsOut.next | apply KeepsOut.ite | apply Keeps.foldl | apply Keeps.foldl1
    | apply Keeps.foldl11 | apply Keeps.ite | apply Keeps.ite1 | dsimp only | split | refine Keeps.upd ?_

theorem execEvtEdgeQualify_keeps {s : State} (input : Fin 24) (held : Bool) (t : State) (h : Keeps s t) :
    KeepsOut s (execEvtEdgeQualify input held t) := by
  unfold execEvtEdgeQualify
  repeat' with_reducible first
    | assumption | intro _ | apply State.writeEdge_keeps | apply State.reach_keeps | apply KeepsOut.next
    | apply KeepsOut.ite | apply Keeps.foldl | apply Keeps.foldl1 | apply Keeps.foldl11 | apply Keeps.ite
    | apply Keeps.ite1 | dsimp only | split | refine Keeps.upd ?_

theorem execLatchEdge_keeps {s : State} (input : Fin 24) (rising : Bool) (upper : Bool) (answered : Bool)
    (cycles : Nat) (t : State) (h : Keeps s t) :
    KeepsOut s (execLatchEdge input rising upper answered cycles t) := by
  unfold execLatchEdge
  repeat' with_reducible first
    | assumption | intro _ | apply State.comparator_keeps | apply State.loseStamp_keeps | apply State.over_keeps
    | apply State.wakeFb_keeps | apply State.inc_keeps | apply KeepsOut.next | apply KeepsOut.ite | apply Keeps.foldl
    | apply Keeps.foldl1 | apply Keeps.foldl11 | apply Keeps.ite | apply Keeps.ite1 | dsimp only | split
    | refine Keeps.upd ?_

theorem execLatchHandover_keeps {s : State} (t : State) (h : Keeps s t) :
    KeepsOut s (execLatchHandover t) := by
  unfold execLatchHandover
  repeat' with_reducible first
    | assumption | intro _ | apply State.writeEdge_keeps | apply State.inc_keeps | apply KeepsOut.next
    | apply KeepsOut.ite | apply Keeps.foldl | apply Keeps.foldl1 | apply Keeps.foldl11 | apply Keeps.ite
    | apply Keeps.ite1 | dsimp only | split | refine Keeps.upd ?_

theorem execGrantLevelTake_keeps {s : State} (input : Fin 24) (level : Bool) (retake : Bool) (t : State)
    (h : Keeps s t) :
    KeepsOut s (execGrantLevelTake input level retake t) := by
  unfold execGrantLevelTake
  repeat' with_reducible first
    | assumption | intro _ | apply State.record_keeps | apply State.reach_keeps | apply KeepsOut.next
    | apply KeepsOut.ite | apply Keeps.foldl | apply Keeps.foldl1 | apply Keeps.foldl11 | apply Keeps.ite
    | apply Keeps.ite1 | dsimp only | split | refine Keeps.upd ?_

theorem State.l4Settle_keeps {s : State} (t : State) (c : Nat) (x : L4) (want : Nat) (th : Nat) (p : Nat) (nf : Nat)
    (h : Keeps s t) :
    Keeps s (State.l4Settle t c x want th p nf) := by
  unfold State.l4Settle
  repeat' with_reducible first
    | assumption | intro _ | apply State.record_keeps | apply State.inc_keeps | apply State.put_keeps
    | apply Keeps.foldl | apply Keeps.foldl1 | apply Keeps.foldl11 | apply Keeps.ite | apply Keeps.ite1 | dsimp only
    | split | refine Keeps.upd ?_

theorem State.l4Fixed_keeps {s : State} (t : State) (c : Nat) (x : L4) (h : Keeps s t) :
    Keeps s (State.l4Fixed t c x) := by
  unfold State.l4Fixed
  repeat' with_reducible first
    | assumption | intro _ | apply State.l4Settle_keeps | apply Keeps.foldl | apply Keeps.foldl1
    | apply Keeps.foldl11 | apply Keeps.ite | apply Keeps.ite1 | dsimp only | split | refine Keeps.upd ?_

theorem State.l4Changed_keeps {s : State} (t : State) (i : Nat) (h : Keeps s t) :
    Keeps s (State.l4Changed t i) := by
  unfold State.l4Changed
  repeat' with_reducible first
    | assumption | intro _ | apply State.l4Fixed_keeps | apply Keeps.foldl | apply Keeps.foldl1 | apply Keeps.foldl11
    | apply Keeps.ite | apply Keeps.ite1 | dsimp only | split | refine Keeps.upd ?_

theorem execL4Evaluate_keeps {s : State} (input : Fin 8) (p : Nat) (t : State) (h : Keeps s t) :
    KeepsOut s (execL4Evaluate input p t) := by
  unfold execL4Evaluate
  repeat' with_reducible first
    | assumption | intro _ | apply State.l4Fixed_keeps | apply State.l4Settle_keeps | apply KeepsOut.next
    | apply KeepsOut.ite | apply Keeps.foldl | apply Keeps.foldl1 | apply Keeps.foldl11 | apply Keeps.ite
    | apply Keeps.ite1 | dsimp only | split | refine Keeps.upd ?_

theorem execFbRefRunExpiry_keeps {s : State} (t : State) (h : Keeps s t) :
    KeepsOut s (execFbRefRunExpiry t) := by
  unfold execFbRefRunExpiry
  repeat' with_reducible first
    | assumption | intro _ | apply KeepsOut.next | apply KeepsOut.ite | apply Keeps.foldl | apply Keeps.foldl1
    | apply Keeps.foldl11 | apply Keeps.ite | apply Keeps.ite1 | dsimp only | split | refine Keeps.upd ?_

theorem State.pinChanged_keeps {s : State} (t : State) (i : Nat) (h : Keeps s t) :
    Keeps s (State.pinChanged t i) := by
  unfold State.pinChanged
  repeat' with_reducible first
    | assumption | intro _ | apply Keeps.foldl | apply Keeps.foldl1 | apply Keeps.foldl11 | apply Keeps.ite
    | apply Keeps.ite1 | dsimp only | split | refine Keeps.upd ?_

end Sys2Proof.Machine
end

