-- ==== Sys2Proof/Laws/KeepsDelivery.lean ====
section
/-! SUPPORT. Every operation of Machine/Delivery.lean keeps what every command keeps (Safety.Keeps). -/
namespace Sys2Proof.Machine
open Host
set_option linter.all false
set_option Elab.async false

theorem State.consume_keeps {s : State} (t : State) (e : Entry) (h : Keeps s t) :
    Keeps s (State.consume t e) := by
  unfold State.consume
  repeat' with_reducible first
    | assumption | intro _ | apply State.fillRoom_keeps
    | refine State.dlvSet_keeps _ _ ?_ (fun x => x) (fun x => x) (fun x => x) (fun x => x) (fun x => x)
    | apply Keeps.foldl | apply Keeps.foldl1 | apply Keeps.foldl11 | apply Keeps.ite | apply Keeps.ite1 | dsimp only
    | split | refine Keeps.upd ?_

theorem State.voidOthers_keeps {s : State} (t : State) (r : Rec) (seq : Nat) (target : Nat) (h : Keeps s t) :
    Keeps s (State.voidOthers t r seq target) := by
  unfold State.voidOthers
  repeat' with_reducible first
    | assumption | intro _
    | refine State.dlvSet_keeps _ _ ?_ (fun x => x) (fun x => x) (fun x => x) (fun x => x) (fun x => x)
    | apply Keeps.foldl | apply Keeps.foldl1 | apply Keeps.foldl11 | apply Keeps.ite | apply Keeps.ite1 | dsimp only
    | split | dsimp only [id] | refine Keeps.upd ?_

theorem State.claimAt_keeps {s : State} (t : State) (t_ : Nat) (h : Keeps s t) :
    Keeps s (State.claimAt t t_).1 := by
  unfold State.claimAt
  repeat' with_reducible first
    | assumption | intro _ | apply State.voidOthers_keeps | apply State.consume_keeps
    | refine State.dlvSet_keeps _ _ ?_ (fun x => x) (fun x => x) (fun x => x) (fun x => x) (fun x => x)
    | apply Keeps.foldl | apply Keeps.foldl1 | apply Keeps.foldl11 | apply Keeps.ite | apply Keeps.ite1 | dsimp only
    | split | refine Keeps.upd ?_

theorem State.completeClaim_keeps {s : State} (t : State) (t_ : Nat) (seq : Nat) (h : Keeps s t) :
    Keeps s (State.completeClaim t t_ seq).1 := by
  unfold State.completeClaim
  repeat' with_reducible first
    | assumption | intro _ | apply State.advanceStream_keeps | apply State.completeAt_keeps
    | refine State.dlvSet_keeps _ _ ?_ (fun x => x) (fun x => x) (fun x => x) (fun x => x) (fun x => x)
    | apply Keeps.foldl | apply Keeps.foldl1 | apply Keeps.foldl11 | apply Keeps.ite | apply Keeps.ite1 | dsimp only
    | split | dsimp only [id] | refine Keeps.upd ?_

theorem State.returnClaim_keeps {s : State} (t : State) (c : Claim) (h : Keeps s t) :
    Keeps s (State.returnClaim t c) := by
  unfold State.returnClaim
  repeat' with_reducible first
    | assumption | intro _ | apply State.place_keeps
    | refine State.dlvSet_keeps _ _ ?_ (fun x => x) (fun x => x) (fun x => x) (fun x => x) (fun x => x)
    | apply State.inc_keeps | apply Keeps.foldl | apply Keeps.foldl1 | apply Keeps.foldl11 | apply Keeps.ite
    | apply Keeps.ite1 | dsimp only | split | dsimp only [id] | refine Keeps.upd ?_

theorem State.returnClaims_keeps {s : State} (t : State) (t_ : Nat) (h : Keeps s t) :
    Keeps s (State.returnClaims t t_) := by
  unfold State.returnClaims
  repeat' with_reducible first
    | assumption | intro _ | apply State.returnClaim_keeps | apply Keeps.foldl | apply Keeps.foldl1
    | apply Keeps.foldl11 | apply Keeps.ite | apply Keeps.ite1 | dsimp only | split | refine Keeps.upd ?_

theorem execClaimTimeout_keeps {s : State} (target : Fin 3) (seq : Nat) (t : State) (h : Keeps s t) :
    KeepsOut s (execClaimTimeout target seq t) := by
  unfold execClaimTimeout
  repeat' with_reducible first
    | assumption | intro _ | apply State.returnClaim_keeps | apply State.reach_keeps | apply KeepsOut.next
    | apply KeepsOut.ite | apply Keeps.foldl | apply Keeps.foldl1 | apply Keeps.foldl11 | apply Keeps.ite
    | apply Keeps.ite1 | dsimp only | split | refine Keeps.upd ?_

theorem State.endGroup_keeps {s : State} (t : State) (g : Nat) (h : Keeps s t) :
    Keeps s (State.endGroup t g) := by
  unfold State.endGroup
  repeat' with_reducible first
    | assumption | intro _ | apply State.place_keeps | apply State.addWait_keeps | apply State.startGroup_keeps
    | refine State.dlvSet_keeps _ _ ?_ (fun x => x) (fun x => x) (fun x => x) (fun x => x) (fun x => x)
    | apply Keeps.foldl | apply Keeps.foldl1 | apply Keeps.foldl11 | apply Keeps.ite | apply Keeps.ite1 | dsimp only
    | split | refine Keeps.upd ?_

theorem execHoldoffEnd_keeps {s : State} (g : Fin 32) (t : State) (h : Keeps s t) :
    KeepsOut s (execHoldoffEnd g t) := by
  unfold execHoldoffEnd
  repeat' with_reducible first
    | assumption | intro _ | apply State.endGroup_keeps | apply State.servedAt_keeps | apply KeepsOut.next
    | apply KeepsOut.ite | apply Keeps.foldl | apply Keeps.foldl1 | apply Keeps.foldl11 | apply Keeps.ite
    | apply Keeps.ite1 | dsimp only | split | refine Keeps.upd ?_

theorem State.placeWaiting_keeps {s : State} (t : State) (src : Nat) (h : Keeps s t) :
    Keeps s (State.placeWaiting t src) := by
  unfold State.placeWaiting
  repeat' with_reducible first
    | assumption | intro _ | apply State.dropWait_keeps | apply State.arrive_keeps | apply Keeps.foldl
    | apply Keeps.foldl1 | apply Keeps.foldl11 | apply Keeps.ite | apply Keeps.ite1 | dsimp only | split
    | refine Keeps.upd ?_

theorem State.setEnable_keeps {s : State} (t : State) (src : Nat) (b : Bool) (h : Keeps s t) :
    Keeps s (State.setEnable t src b) := by
  unfold State.setEnable
  repeat' with_reducible first
    | assumption | intro _ | apply State.placeWaiting_keeps | apply State.fillRoom_keeps | apply State.put_keeps
    | apply Keeps.foldl | apply Keeps.foldl1 | apply Keeps.foldl11 | apply Keeps.ite | apply Keeps.ite1 | dsimp only
    | split | refine Keeps.upd ?_

theorem State.withdraw_keeps {s : State} (t : State) (src : Nat) (hid : Nat) (reason : Nat) (h : Keeps s t) :
    Keeps s (State.withdraw t src hid reason) := by
  unfold State.withdraw
  refine State.freeRecs_keeps _ (State.dlvSet_keeps _ _ h (fun i r m => ?_) (fun x => x) (fun x => x) (fun x => x) (fun x => x))
  obtain ⟨x, hx, rfl⟩ := List.mem_map.mp m
  have := i x hx
  split <;> exact this

theorem State.writeDoorbell_keeps {s : State} (t : State) (w : Who) (src : Nat) (h : Keeps s t) :
    Keeps s (State.writeDoorbell t w src).1 := by
  unfold State.writeDoorbell
  repeat' with_reducible first
    | assumption | intro _ | apply State.postSource_keeps | apply Keeps.foldl | apply Keeps.foldl1
    | apply Keeps.foldl11 | apply Keeps.ite | apply Keeps.ite1 | dsimp only | split | refine Keeps.upd ?_

theorem State.writePendSet_keeps {s : State} (t : State) (w : Who) (src : Nat) (h : Keeps s t) :
    Keeps s (State.writePendSet t w src).1 := by
  unfold State.writePendSet
  repeat' with_reducible first
    | assumption | intro _ | apply State.postSource_keeps | apply Keeps.foldl | apply Keeps.foldl1
    | apply Keeps.foldl11 | apply Keeps.ite | apply Keeps.ite1 | dsimp only | split | refine Keeps.upd ?_

theorem State.writeEnSet_keeps {s : State} (t : State) (w : Who) (src : Nat) (h : Keeps s t) :
    Keeps s (State.writeEnSet t w src).1 := by
  unfold State.writeEnSet
  repeat' with_reducible first
    | assumption | intro _ | apply State.setEnable_keeps | apply Keeps.foldl | apply Keeps.foldl1
    | apply Keeps.foldl11 | apply Keeps.ite | apply Keeps.ite1 | dsimp only | split | refine Keeps.upd ?_

theorem State.writeEnClr_keeps {s : State} (t : State) (w : Who) (src : Nat) (h : Keeps s t) :
    Keeps s (State.writeEnClr t w src).1 := by
  unfold State.writeEnClr
  repeat' with_reducible first
    | assumption | intro _ | apply State.setEnable_keeps | apply Keeps.foldl | apply Keeps.foldl1
    | apply Keeps.foldl11 | apply Keeps.ite | apply Keeps.ite1 | dsimp only | split | refine Keeps.upd ?_

theorem State.writePendClr_keeps {s : State} (t : State) (w : Who) (src : Nat) (h : Keeps s t) :
    Keeps s (State.writePendClr t w src).1 := by
  unfold State.writePendClr
  repeat' with_reducible first
    | assumption | intro _ | apply State.withdraw_keeps | apply Keeps.foldl | apply Keeps.foldl1
    | apply Keeps.foldl11 | apply Keeps.ite | apply Keeps.ite1 | dsimp only | split | refine Keeps.upd ?_

theorem State.ownerChanged_keeps {s : State} (t : State) (t_ : Nat) (old : Nat) (h : Keeps s t) :
    Keeps s (State.ownerChanged t t_ old) := by
  unfold State.ownerChanged
  repeat' with_reducible first
    | assumption | intro _ | apply State.completeAt_keeps
    | refine State.dlvSet_keeps _ _ ?_ (fun x => x) (fun x => x) (fun x => x) (fun x => x) (fun x => x)
    | apply Keeps.foldl | apply Keeps.foldl1 | apply Keeps.foldl11 | apply Keeps.ite | apply Keeps.ite1 | dsimp only
    | split | dsimp only [id] | refine Keeps.upd ?_

theorem State.releaseHeld_keeps {s : State} (t : State) (f : Rec → Nat → Bool) (h : Keeps s t) :
    Keeps s (State.releaseHeld t f) := by
  unfold State.releaseHeld
  repeat' with_reducible first
    | assumption | intro _ | apply State.dropWait_keeps | apply State.arrive_keeps | apply Keeps.foldl
    | apply Keeps.foldl1 | apply Keeps.foldl11 | apply Keeps.ite | apply Keeps.ite1 | dsimp only | split
    | refine Keeps.upd ?_

theorem execT0Claim_keeps {s : State} (t : State) (h : Keeps s t) :
    KeepsOut s (execT0Claim t) := by
  unfold execT0Claim
  repeat' with_reducible first
    | assumption | intro _ | apply State.completeClaim_keeps | apply State.claimAt_keeps | apply State.logEntry_keeps
    | apply State.inc_keeps | apply KeepsOut.next | apply KeepsOut.ite | apply Keeps.foldl | apply Keeps.foldl1
    | apply Keeps.foldl11 | apply Keeps.ite | apply Keeps.ite1 | dsimp only | split | dsimp only [id]
    | refine Keeps.upd ?_

theorem State.notify_keeps {s : State} (t : State) (x : Subscr) (kind : Nat) (payload : Bytes) (h : Keeps s t) :
    Keeps s (State.notify t x kind payload) := by
  unfold State.notify
  repeat' with_reducible first
    | assumption | intro _ | apply State.wakeIsl_keeps | apply State.tagged_keeps | apply State.canSend_keeps
    | apply State.emit_keeps | apply State.inc_keeps | apply Keeps.foldl | apply Keeps.foldl1 | apply Keeps.foldl11
    | apply Keeps.ite | apply Keeps.ite1 | dsimp only | split | refine Keeps.upd ?_

theorem execNotifierClaim_keeps {s : State} (t : State) (h : Keeps s t) :
    KeepsOut s (execNotifierClaim t) := by
  unfold execNotifierClaim
  repeat' with_reducible first
    | assumption | intro _ | apply State.notify_keeps | apply State.completeClaim_keeps | apply State.claimAt_keeps
    | apply State.inc_keeps | apply KeepsOut.next | apply KeepsOut.ite | apply Keeps.foldl | apply Keeps.foldl1
    | apply Keeps.foldl11 | apply Keeps.ite | apply Keeps.ite1 | dsimp only | split | refine Keeps.upd ?_

end Sys2Proof.Machine
end

