-- ==== Sys2Proof/Laws/KeepsEvidence.lean ====
section
/-! SUPPORT. Every operation of Machine/Evidence.lean keeps what every command keeps (Safety.Keeps). -/
namespace Sys2Proof.Machine
open Host
set_option linter.all false
set_option Elab.async false

theorem State.storeEntry_keeps {s : State} (t : State) (c : Nat) (stamp : Nat) (typ : Nat) (flags : Nat) (cid : Nat)
    (payload : Bytes) (last : Bool) (h : Keeps s t) :
    Keeps s (State.storeEntry t c stamp typ flags cid payload last) := by
  unfold State.storeEntry
  repeat' with_reducible first
    | assumption | intro _ | apply State.put_keeps | apply Keeps.foldl | apply Keeps.foldl1 | apply Keeps.foldl11
    | apply Keeps.ite | apply Keeps.ite1 | dsimp only | split | refine Keeps.upd ?_

theorem State.signK0_keeps {s : State} (t : State) (b : Bytes) (h : Keeps s t) :
    Keeps s (State.signK0 t b).1 := by
  unfold State.signK0
  repeat' with_reducible first
    | assumption | intro _ | apply State.drawn_keeps | apply State.inc_keeps | apply Keeps.foldl | apply Keeps.foldl1
    | apply Keeps.foldl11 | apply Keeps.ite | apply Keeps.ite1 | dsimp only | split | refine Keeps.upd ?_

theorem State.signHead_keeps {s : State} (t : State) (c : Nat) (h : Keeps s t) :
    Keeps s (State.signHead t c) := by
  unfold State.signHead
  repeat' with_reducible first
    | assumption | intro _ | apply State.signK0_keeps | apply State.put_keeps | apply Keeps.foldl
    | apply Keeps.foldl1 | apply Keeps.foldl11 | apply Keeps.ite | apply Keeps.ite1 | dsimp only | split
    | refine Keeps.upd ?_

theorem State.logRecord_keeps {s : State} (t : State) (kind : Nat) (c : Nat) (h : Keeps s t) :
    Keeps s (State.logRecord t kind c) := by
  unfold State.logRecord
  repeat' with_reducible first
    | assumption | intro _ | apply State.stationRecord_keeps | apply State.record_keeps | apply Keeps.foldl
    | apply Keeps.foldl1 | apply Keeps.foldl11 | apply Keeps.ite | apply Keeps.ite1 | dsimp only | split
    | refine Keeps.upd ?_

theorem State.sealChain_keeps {s : State} (t : State) (c : Nat) (cause : Nat) (h : Keeps s t) :
    Keeps s (State.sealChain t c cause) := by
  unfold State.sealChain
  repeat' with_reducible first
    | assumption | intro _ | apply State.logRecord_keeps | apply State.signHead_keeps | apply State.storeEntry_keeps
    | apply State.put_keeps | apply Keeps.foldl | apply Keeps.foldl1 | apply Keeps.foldl11 | apply Keeps.ite
    | apply Keeps.ite1 | dsimp only | split | refine Keeps.upd ?_

theorem State.storeGroup_keeps {s : State} (t : State) (g : LogGroup) (h : Keeps s t) :
    Keeps s (State.storeGroup t g) := by
  unfold State.storeGroup
  repeat' with_reducible first
    | assumption | intro _ | apply State.storeEntry_keeps | apply Keeps.foldl | apply Keeps.foldl1
    | apply Keeps.foldl11 | apply Keeps.ite | apply Keeps.ite1 | dsimp only | split | refine Keeps.upd ?_

theorem State.loseEvidence_keeps {s : State} (t : State) (c : Nat) (h : Keeps s t) :
    Keeps s (State.loseEvidence t c) := by
  unfold State.loseEvidence
  repeat' with_reducible first
    | assumption | intro _ | apply State.logRecord_keeps | apply State.inc_keeps | apply Keeps.foldl
    | apply Keeps.foldl1 | apply Keeps.foldl11 | apply Keeps.ite | apply Keeps.ite1 | dsimp only | split
    | refine Keeps.upd ?_

theorem State.onStored_keeps {s : State} (t : State) (c0 : OnStored) (h : Keeps s t) :
    Keeps s (State.onStored t c0) := by
  unfold State.onStored
  repeat' with_reducible first
    | assumption | intro _ | refine State.recMap_keeps _ _ _ (fun _ => rfl) ?_ | apply State.freeRecs_keeps
    | apply State.inc_keeps | apply State.put_keeps | apply Keeps.foldl | apply Keeps.foldl1 | apply Keeps.foldl11
    | apply Keeps.ite | apply Keeps.ite1 | dsimp only | split | dsimp only [id] | refine Keeps.upd ?_
    | refine Keeps.upd ?_ (hb := fun e => by simpa [markLogged] using e)

theorem State.answerStored_keeps {s : State} (t : State) (o : OnStored) (st : Stat) (h : Keeps s t) :
    Keeps s (State.answerStored t o st) := by
  unfold State.answerStored
  repeat' with_reducible first
    | assumption | intro _ | apply State.endProgress_keeps | apply State.answer_keeps | apply Keeps.foldl
    | apply Keeps.foldl1 | apply Keeps.foldl11 | apply Keeps.ite | apply Keeps.ite1 | dsimp only | split
    | refine Keeps.upd ?_

theorem State.keepRing_keeps {s : State} (t : State) (o : OnStored) (h : Keeps s t) :
    Keeps s (State.keepRing t o) := by
  unfold State.keepRing
  repeat' with_reducible first
    | assumption | intro _ | apply Keeps.foldl | apply Keeps.foldl1 | apply Keeps.foldl11 | apply Keeps.ite
    | apply Keeps.ite1 | dsimp only | split | refine Keeps.upd ?_
    | refine Keeps.upd ?_ (hb := fun e => by simpa [markLogged] using e)

theorem State.appendGroup_keeps {s : State} (t : State) (g : LogGroup) (h : Keeps s t) :
    Keeps s (State.appendGroup t g) := by
  unfold State.appendGroup
  repeat' with_reducible first
    | assumption | intro _ | apply State.keepRing_keeps | apply State.answerStored_keeps | apply State.onStored_keeps
    | apply State.loseEvidence_keeps | apply State.storeGroup_keeps | apply State.sealChain_keeps
    | apply State.logRecord_keeps | apply State.signHead_keeps | apply Keeps.foldl | apply Keeps.foldl1
    | apply Keeps.foldl11 | apply Keeps.ite | apply Keeps.ite1 | dsimp only | split | dsimp only [id]
    | refine Keeps.upd ?_

theorem State.appendOldest_keeps {s : State} (t : State) (h : Keeps s t) :
    Keeps s (State.appendOldest t) := by
  unfold State.appendOldest
  repeat' with_reducible first
    | assumption | intro _ | apply State.appendGroup_keeps | apply State.cross_keeps | apply Keeps.foldl
    | apply Keeps.foldl1 | apply Keeps.foldl11 | apply Keeps.ite | apply Keeps.ite1 | dsimp only | split
    | refine Keeps.upd ?_

theorem State.ringLog_keeps {s : State} (t : State) (e : RingEntry) (h : Keeps s t) :
    Keeps s (State.ringLog t e) := by
  unfold State.ringLog
  repeat' with_reducible first
    | assumption | intro _ | apply State.onStored_keeps | apply State.logEntry_keeps | apply Keeps.foldl
    | apply Keeps.foldl1 | apply Keeps.foldl11 | apply Keeps.ite | apply Keeps.ite1 | dsimp only | split
    | refine Keeps.upd ?_ | refine Keeps.upd ?_ (hb := fun e => by simpa [markLogged] using e)

theorem State.ringLogAll_keeps {s : State} (t : State) (h : Keeps s t) :
    Keeps s (State.ringLogAll t) := by
  unfold State.ringLogAll
  repeat' with_reducible first
    | assumption | intro _ | apply State.ringLog_keeps | apply Keeps.foldl | apply Keeps.foldl1 | apply Keeps.foldl11
    | apply Keeps.ite | apply Keeps.ite1 | dsimp only | split | refine Keeps.upd ?_

theorem State.archive_keeps {s : State} (t : State) (c : Nat) (seq : Nat) (cid : Nat) (keeper : Bool)
    (h : Keeps s t) :
    Keeps s (State.archive t c seq cid keeper).1 := by
  unfold State.archive
  repeat' with_reducible first
    | assumption | intro _ | apply State.ringLogAll_keeps | apply State.onStored_keeps | apply State.logRecord_keeps
    | apply State.signK0_keeps | apply State.logEntry_keeps | apply State.put_keeps | apply Keeps.foldl
    | apply Keeps.foldl1 | apply Keeps.foldl11 | apply Keeps.ite | apply Keeps.ite1 | dsimp only | split
    | refine Keeps.upd ?_

end Sys2Proof.Machine
end

