-- ==== Sys2Proof/Laws/KeepsOperands.lean ====
section
/-! SUPPORT. Every operation of Machine/Operands.lean keeps what every command keeps (Safety.Keeps). -/
namespace Sys2Proof.Machine
open Host
set_option linter.all false
set_option Elab.async false

theorem State.rightsWrite_keeps {s : State} (t : State) (cmd : Instr) (r : Req) (mine : Nat → Bool) (fast : Bool)
    (boot : Bool) (rights : State → Who → Nat → Nat → Bool) (eff : Effect) (h : Keeps s t)
    (heff : ∀ u a b c, Keeps s u → Keeps s (eff u a b c).1) :
    Keeps s (State.rightsWrite t cmd r mine fast boot rights eff) := by
  unfold State.rightsWrite
  repeat' with_reducible first
    | assumption | intro _ | apply heff | apply State.holdRequest_keeps | apply State.accept_keeps
    | (refine Admit.of_go ?_ (by assumption); apply State.accept_keeps)
    | (refine Admit.of_done ?_ (by assumption); apply State.accept_keeps)
    | (refine Admit.of_wait ?_ (by assumption); apply State.accept_keeps) | apply State.into_keeps
    | apply State.beginProgress_keeps | apply State.finish_keeps | refine Keeps.of_pair ?_ (by assumption)
    | apply Keeps.foldl | apply Keeps.foldl1 | apply Keeps.foldl11 | apply Keeps.ite | apply Keeps.ite1 | dsimp only
    | split | refine Keeps.upd ?_

theorem State.ownWrite_keeps {s : State} (t : State) (cmd : Instr) (r : Req) (mine : Nat → Bool) (boot : Bool)
    (eff : Effect) (h : Keeps s t) (heff : ∀ u a b c, Keeps s u → Keeps s (eff u a b c).1) :
    Keeps s (State.ownWrite t cmd r mine boot eff) := by
  unfold State.ownWrite
  repeat' with_reducible first
    | assumption | intro _ | apply heff | apply State.rightsWrite_keeps | apply Keeps.foldl | apply Keeps.foldl1
    | apply Keeps.foldl11 | apply Keeps.ite | apply Keeps.ite1 | dsimp only | split | refine Keeps.upd ?_

theorem atOnce_keeps {s : State} {f : State → Who → Nat → Nat → State × Stat} {u : State} {w : Who} {a v : Nat}
    (hf : ∀ u w a v, Keeps s u → Keeps s (f u w a v).1) (h : Keeps s u) : Keeps s (atOnce f u w a v).1 := hf u w a v h

end Sys2Proof.Machine
end

