-- ==== Sys2Proof/Laws/KeepsKeys.lean ====
section
/-! SUPPORT. Every operation of Machine/Keys.lean keeps what every command keeps (Safety.Keeps). -/
namespace Sys2Proof.Machine
open Host
set_option linter.all false
set_option Elab.async false

theorem State.clearCtrIn_keeps {s : State} (t : State) (h_ : Nat) (h : Keeps s t) :
    Keeps s (State.clearCtrIn t h_) := by
  unfold State.clearCtrIn
  repeat' with_reducible first
    | assumption | intro _ | apply State.dropEls_keeps | apply Keeps.foldl | apply Keeps.foldl1 | apply Keeps.foldl11
    | apply Keeps.ite | apply Keeps.ite1 | dsimp only | split | refine Keeps.upd ?_

theorem State.setProv_keeps {s : State} (t : State) (h : Keeps s t) :
    Keeps s (State.setProv t) := by
  unfold State.setProv
  repeat' with_reducible first
    | assumption | intro _ | apply State.put_keeps | apply Keeps.foldl | apply Keeps.foldl1 | apply Keeps.foldl11
    | apply Keeps.ite | apply Keeps.ite1 | dsimp only | split | refine Keeps.upd ?_

theorem State.emptySlot_keeps {s : State} (t : State) (h_ : Nat) (h : Keeps s t) :
    Keeps s (State.emptySlot t h_) := by
  unfold State.emptySlot
  repeat' with_reducible first
    | assumption | intro _ | apply State.setSlot_keeps | apply State.put_keeps | apply Keeps.foldl
    | apply Keeps.foldl1 | apply Keeps.foldl11 | apply Keeps.ite | apply Keeps.ite1 | dsimp only | split
    | refine Keeps.upd ?_

theorem State.copyKey_keeps {s : State} (t : State) (h_ : Nat) (h : Keeps s t) :
    Keeps s (State.copyKey t h_) := by
  unfold State.copyKey
  repeat' with_reducible first
    | assumption | intro _ | apply Keeps.foldl | apply Keeps.foldl1 | apply Keeps.foldl11 | apply Keeps.ite
    | apply Keeps.ite1 | dsimp only | split | refine Keeps.upd ?_

theorem State.eraseSlot_keeps {s : State} (t : State) (h_ : Nat) (h : Keeps s t) :
    Keeps s (State.eraseSlot t h_) := by
  unfold State.eraseSlot
  repeat' with_reducible first
    | assumption | intro _ | apply State.copyKey_keeps | apply State.emptySlot_keeps | apply State.setProv_keeps
    | apply State.clearCtrIn_keeps | apply State.keyRecord_keeps | apply State.setSlot_keeps | apply Keeps.foldl
    | apply Keeps.foldl1 | apply Keeps.foldl11 | apply Keeps.ite | apply Keeps.ite1 | dsimp only | split
    | refine Keeps.upd ?_

theorem State.storeBlobs_keeps {s : State} (t : State) (h : Keeps s t) :
    Keeps s (State.storeBlobs t) := by
  unfold State.storeBlobs
  repeat' with_reducible first
    | assumption | intro _ | apply Keeps.foldl | apply Keeps.foldl1 | apply Keeps.foldl11 | apply Keeps.ite
    | apply Keeps.ite1 | dsimp only | split | refine Keeps.upd ?_

theorem State.sessionLoss_keeps {s : State} (t : State) (h : Keeps s t) :
    Keeps s (State.sessionLoss t) := by
  unfold State.sessionLoss
  repeat' with_reducible first
    | assumption | intro _ | apply State.dropEls_keeps | apply State.put_keeps | apply Keeps.foldl
    | apply Keeps.foldl1 | apply Keeps.foldl11 | apply Keeps.ite | apply Keeps.ite1 | dsimp only | split
    | refine Keeps.upd ?_

theorem State.dropRequests_keeps {s : State} (t : State) (h : Keeps s t) :
    Keeps s (State.dropRequests t) := by
  unfold State.dropRequests
  repeat' with_reducible first
    | assumption | intro _ | apply State.dropHeld_keeps | apply State.endProgress_keeps | apply Keeps.foldl
    | apply Keeps.foldl1 | apply Keeps.foldl11 | apply Keeps.ite | apply Keeps.ite1 | dsimp only | split
    | refine Keeps.upd ?_

theorem State.zeroize_keeps {s : State} (t : State) (cause : Nat) (source : Nat) (cid : Nat) (h : Keeps s t) :
    Keeps s (State.zeroize t cause source cid) := by
  unfold State.zeroize
  repeat' with_reducible first
    | assumption | intro _ | apply State.dropRequests_keeps | apply State.sessionLoss_keeps
    | apply State.emptySlot_keeps | apply State.setProv_keeps | apply State.eraseKx_keeps
    | apply State.logKeeper_keeps | apply State.logStation_keeps | apply State.stationRecord_keeps
    | apply State.drawn_keeps | apply State.inc_keeps | apply State.put_keeps | apply Keeps.foldl
    | apply Keeps.foldl1 | apply Keeps.foldl11 | apply Keeps.ite | apply Keeps.ite1 | dsimp only | split
    | refine Keeps.upd ?_

theorem State.owedZeroizes_keeps {s : State} (t : State) (h : Keeps s t) :
    Keeps s (State.owedZeroizes t) := by
  unfold State.owedZeroizes
  repeat' with_reducible first
    | assumption | intro _ | apply State.zeroize_keeps | apply Keeps.foldl | apply Keeps.foldl1 | apply Keeps.foldl11
    | apply Keeps.ite | apply Keeps.ite1 | dsimp only | split | refine Keeps.upd ?_

theorem State.kxStart_keeps {s : State} (t : State) (c : Nat) (v : Nat) (h : Keeps s t) :
    Keeps s (State.kxStart t c v).1 := by
  unfold State.kxStart
  repeat' with_reducible first
    | assumption | intro _ | apply State.eraseKx_keeps | apply State.signK0_keeps | apply State.drawn_keeps
    | apply State.put_keeps | apply Keeps.foldl | apply Keeps.foldl1 | apply Keeps.foldl11 | apply Keeps.ite
    | apply Keeps.ite1 | dsimp only | split | refine Keeps.upd ?_

theorem State.kxPeer_keeps {s : State} (t : State) (c : Nat) (v : Nat) (h : Keeps s t) :
    Keeps s (State.kxPeer t c v).1 := by
  unfold State.kxPeer
  repeat' with_reducible first
    | assumption | intro _ | apply State.put_keeps | apply Keeps.foldl | apply Keeps.foldl1 | apply Keeps.foldl11
    | apply Keeps.ite | apply Keeps.ite1 | dsimp only | split | refine Keeps.upd ?_

theorem State.keyFlip_keeps {s : State} (t : State) (c : Nat) (wrap : Nat) (h : Keeps s t) :
    Keeps s (State.keyFlip t c wrap) := by
  unfold State.keyFlip
  repeat' with_reducible first
    | assumption | intro _ | apply State.copyKey_keeps | apply State.setProv_keeps | apply State.clearCtrIn_keeps
    | apply State.eraseKx_keeps | apply State.keyRecord_keeps | apply State.setSlot_keeps | apply State.put_keeps
    | apply Keeps.foldl | apply Keeps.foldl1 | apply Keeps.foldl11 | apply Keeps.ite | apply Keeps.ite1 | dsimp only
    | split | refine Keeps.upd ?_

theorem State.unwrapSlot_keeps {s : State} (t : State) (x : Slot) (h : Keeps s t) :
    Keeps s (State.unwrapSlot t x) := by
  unfold State.unwrapSlot
  repeat' with_reducible first
    | assumption | intro _ | apply State.emptySlot_keeps | apply State.setSlot_keeps
    | apply State.stationRecord_keeps | apply State.putAll_keeps | apply State.put_keeps | apply Keeps.foldl
    | apply Keeps.foldl1 | apply Keeps.foldl11 | apply Keeps.ite | apply Keeps.ite1 | dsimp only | split
    | refine Keeps.upd ?_

theorem State.unwrapKeys_keeps {s : State} (t : State) (h : Keeps s t) :
    Keeps s (State.unwrapKeys t) := by
  unfold State.unwrapKeys
  repeat' with_reducible first
    | assumption | intro _ | apply State.unwrapSlot_keeps | apply State.setProv_keeps | apply Keeps.foldl
    | apply Keeps.foldl1 | apply Keeps.foldl11 | apply Keeps.ite | apply Keeps.ite1 | dsimp only | split
    | refine Keeps.upd ?_

theorem State.scStarts_keeps {s : State} (t : State) (h : Keeps s t) : Keeps s (State.scStarts t) := by
  unfold State.scStarts
  split
  · refine State.put_keeps _ _ _ ⟨fun i => ?_, h.pending, h.out, Nat.le_trans h.free (Nat.le_add_right _ _)⟩
    have j := h.inv i
    exact ⟨j.dict, j.answered, j.recs, j.seq0, j.seq1, j.seq2, j.seq3, j.ring, j.canTx, j.wd, j.outs, j.chans, j.st, j.v⟩
  · exact h

theorem execKxStartWrite_keeps {s : State} (r : Req) (t : State) (h : Keeps s t) :
    KeepsOut s (execKxStartWrite r t) := by
  unfold execKxStartWrite
  repeat' with_reducible first
    | assumption | intro _ | apply State.kxStart_keeps | apply atOnce_keeps | apply State.rightsWrite_keeps
    | apply KeepsOut.next | apply KeepsOut.ite | apply Keeps.foldl | apply Keeps.foldl1 | apply Keeps.foldl11
    | apply Keeps.ite | apply Keeps.ite1 | dsimp only | split | refine Keeps.upd ?_

theorem execKxPeerWrite_keeps {s : State} (r : Req) (t : State) (h : Keeps s t) :
    KeepsOut s (execKxPeerWrite r t) := by
  unfold execKxPeerWrite
  repeat' with_reducible first
    | assumption | intro _ | apply State.kxPeer_keeps | apply atOnce_keeps | apply State.rightsWrite_keeps
    | apply KeepsOut.next | apply KeepsOut.ite | apply Keeps.foldl | apply Keeps.foldl1 | apply Keeps.foldl11
    | apply Keeps.ite | apply Keeps.ite1 | dsimp only | split | refine Keeps.upd ?_

theorem execKxExpiry_keeps {s : State} (cid : Nat) (t : State) (h : Keeps s t) :
    KeepsOut s (execKxExpiry cid t) := by
  unfold execKxExpiry
  repeat' with_reducible first
    | assumption | intro _ | apply State.eraseKx_keeps | apply State.reach_keeps | apply KeepsOut.next
    | apply KeepsOut.ite | apply Keeps.foldl | apply Keeps.foldl1 | apply Keeps.foldl11 | apply Keeps.ite
    | apply Keeps.ite1 | dsimp only | split | refine Keeps.upd ?_

theorem execZeroizeWrite_keeps {s : State} (r : Req) (t : State) (h : Keeps s t) :
    KeepsOut s (execZeroizeWrite r t) := by
  unfold execZeroizeWrite
  repeat' with_reducible first
    | assumption | intro _ | apply State.zeroize_keeps | apply atOnce_keeps | apply State.ownWrite_keeps
    | apply KeepsOut.next | apply KeepsOut.ite | apply Keeps.foldl | apply Keeps.foldl1 | apply Keeps.foldl11
    | apply Keeps.ite | apply Keeps.ite1 | dsimp only | split | refine Keeps.upd ?_

theorem execEntropyFault_keeps {s : State} (t : State) (h : Keeps s t) :
    KeepsOut s (execEntropyFault t) := by
  unfold execEntropyFault
  repeat' with_reducible first
    | assumption | intro _ | apply State.stationRecord_keeps | apply State.put_keeps | apply KeepsOut.next
    | apply KeepsOut.ite | apply Keeps.foldl | apply Keeps.foldl1 | apply Keeps.foldl11 | apply Keeps.ite
    | apply Keeps.ite1 | dsimp only | split | refine Keeps.upd ?_

theorem execKeyTableRebuilt_keeps {s : State} (t : State) (h : Keeps s t) :
    KeepsOut s (execKeyTableRebuilt t) := by
  unfold execKeyTableRebuilt
  repeat' with_reducible first
    | assumption | intro _ | apply KeepsOut.next | apply KeepsOut.ite | apply Keeps.foldl | apply Keeps.foldl1
    | apply Keeps.foldl11 | apply Keeps.ite | apply Keeps.ite1 | dsimp only | split | refine Keeps.upd ?_

end Sys2Proof.Machine
end

