-- ==== Sys2Proof/Laws/State.lean ====
section
/-! SUPPORT. What the updates of the state leave alone, one lemma for each field and each update. -/
namespace Sys2Proof.Machine
open Host

@[simp] theorem State.put_pending (s : State) (a v : Nat) : (s.put a v).pending = s.pending := rfl
@[simp] theorem State.put_freeN (s : State) (a v : Nat) : (s.put a v).freeN = s.freeN := rfl
@[simp] theorem State.put_clk (s : State) (a v : Nat) : (s.put a v).clk = s.clk := rfl
@[simp] theorem State.put_exch (s : State) (a v : Nat) : (s.put a v).exch = s.exch := rfl
@[simp] theorem State.put_stage (s : State) (a v : Nat) : (s.put a v).stage = s.stage := rfl
@[simp] theorem State.put_arb (s : State) (a v : Nat) : (s.put a v).arb = s.arb := rfl
@[simp] theorem State.put_tmr (s : State) (a v : Nat) : (s.put a v).tmr = s.tmr := rfl
@[simp] theorem State.put_evt (s : State) (a v : Nat) : (s.put a v).evt = s.evt := rfl
@[simp] theorem State.put_dlv (s : State) (a v : Nat) : (s.put a v).dlv = s.dlv := rfl
@[simp] theorem State.put_port (s : State) (a v : Nat) : (s.put a v).port = s.port := rfl
@[simp] theorem State.put_key (s : State) (a v : Nat) : (s.put a v).key = s.key := rfl
@[simp] theorem State.put_log (s : State) (a v : Nat) : (s.put a v).log = s.log := rfl
@[simp] theorem State.put_tmp (s : State) (a v : Nat) : (s.put a v).tmp = s.tmp := rfl
@[simp] theorem State.put_isl (s : State) (a v : Nat) : (s.put a v).isl = s.isl := rfl
@[simp] theorem State.put_boot (s : State) (a v : Nat) : (s.put a v).boot = s.boot := rfl
@[simp] theorem State.put_bk (s : State) (a v : Nat) : (s.put a v).bk = s.bk := rfl
@[simp] theorem State.put_osc (s : State) (a v : Nat) : (s.put a v).osc = s.osc := rfl
@[simp] theorem State.put_tim (s : State) (a v : Nat) : (s.put a v).tim = s.tim := rfl
@[simp] theorem State.put_pwr (s : State) (a v : Nat) : (s.put a v).pwr = s.pwr := rfl
@[simp] theorem State.put_rail (s : State) (a v : Nat) : (s.put a v).rail = s.rail := rfl
@[simp] theorem State.put_wd (s : State) (a v : Nat) : (s.put a v).wd = s.wd := rfl
@[simp] theorem State.put_lehr (s : State) (a v : Nat) : (s.put a v).lehr = s.lehr := rfl
@[simp] theorem State.put_rep (s : State) (a v : Nat) : (s.put a v).rep = s.rep := rfl
@[simp] theorem State.put_fw (s : State) (a v : Nat) : (s.put a v).fw = s.fw := rfl
@[simp] theorem State.put_twin (s : State) (a v : Nat) : (s.put a v).twin = s.twin := rfl
@[simp] theorem State.put_out (s : State) (a v : Nat) : (s.put a v).out = s.out := rfl

@[simp] theorem State.dropEls_pending (s : State) (p : Nat → Bool) : (s.dropEls p).pending = s.pending := rfl
@[simp] theorem State.dropEls_freeN (s : State) (p : Nat → Bool) : (s.dropEls p).freeN = s.freeN := rfl
@[simp] theorem State.dropEls_clk (s : State) (p : Nat → Bool) : (s.dropEls p).clk = s.clk := rfl
@[simp] theorem State.dropEls_exch (s : State) (p : Nat → Bool) : (s.dropEls p).exch = s.exch := rfl
@[simp] theorem State.dropEls_stage (s : State) (p : Nat → Bool) : (s.dropEls p).stage = s.stage := rfl
@[simp] theorem State.dropEls_arb (s : State) (p : Nat → Bool) : (s.dropEls p).arb = s.arb := rfl
@[simp] theorem State.dropEls_tmr (s : State) (p : Nat → Bool) : (s.dropEls p).tmr = s.tmr := rfl
@[simp] theorem State.dropEls_evt (s : State) (p : Nat → Bool) : (s.dropEls p).evt = s.evt := rfl
@[simp] theorem State.dropEls_dlv (s : State) (p : Nat → Bool) : (s.dropEls p).dlv = s.dlv := rfl
@[simp] theorem State.dropEls_port (s : State) (p : Nat → Bool) : (s.dropEls p).port = s.port := rfl
@[simp] theorem State.dropEls_key (s : State) (p : Nat → Bool) : (s.dropEls p).key = s.key := rfl
@[simp] theorem State.dropEls_log (s : State) (p : Nat → Bool) : (s.dropEls p).log = s.log := rfl
@[simp] theorem State.dropEls_tmp (s : State) (p : Nat → Bool) : (s.dropEls p).tmp = s.tmp := rfl
@[simp] theorem State.dropEls_isl (s : State) (p : Nat → Bool) : (s.dropEls p).isl = s.isl := rfl
@[simp] theorem State.dropEls_boot (s : State) (p : Nat → Bool) : (s.dropEls p).boot = s.boot := rfl
@[simp] theorem State.dropEls_bk (s : State) (p : Nat → Bool) : (s.dropEls p).bk = s.bk := rfl
@[simp] theorem State.dropEls_osc (s : State) (p : Nat → Bool) : (s.dropEls p).osc = s.osc := rfl
@[simp] theorem State.dropEls_tim (s : State) (p : Nat → Bool) : (s.dropEls p).tim = s.tim := rfl
@[simp] theorem State.dropEls_pwr (s : State) (p : Nat → Bool) : (s.dropEls p).pwr = s.pwr := rfl
@[simp] theorem State.dropEls_rail (s : State) (p : Nat → Bool) : (s.dropEls p).rail = s.rail := rfl
@[simp] theorem State.dropEls_wd (s : State) (p : Nat → Bool) : (s.dropEls p).wd = s.wd := rfl
@[simp] theorem State.dropEls_lehr (s : State) (p : Nat → Bool) : (s.dropEls p).lehr = s.lehr := rfl
@[simp] theorem State.dropEls_rep (s : State) (p : Nat → Bool) : (s.dropEls p).rep = s.rep := rfl
@[simp] theorem State.dropEls_fw (s : State) (p : Nat → Bool) : (s.dropEls p).fw = s.fw := rfl
@[simp] theorem State.dropEls_twin (s : State) (p : Nat → Bool) : (s.dropEls p).twin = s.twin := rfl
@[simp] theorem State.dropEls_out (s : State) (p : Nat → Bool) : (s.dropEls p).out = s.out := rfl

@[simp] theorem State.drawn_pending (s : State) : (s.drawn).pending = s.pending := rfl
@[simp] theorem State.drawn_dict (s : State) : (s.drawn).dict = s.dict := rfl
@[simp] theorem State.drawn_clk (s : State) : (s.drawn).clk = s.clk := rfl
@[simp] theorem State.drawn_exch (s : State) : (s.drawn).exch = s.exch := rfl
@[simp] theorem State.drawn_stage (s : State) : (s.drawn).stage = s.stage := rfl
@[simp] theorem State.drawn_arb (s : State) : (s.drawn).arb = s.arb := rfl
@[simp] theorem State.drawn_tmr (s : State) : (s.drawn).tmr = s.tmr := rfl
@[simp] theorem State.drawn_evt (s : State) : (s.drawn).evt = s.evt := rfl
@[simp] theorem State.drawn_dlv (s : State) : (s.drawn).dlv = s.dlv := rfl
@[simp] theorem State.drawn_port (s : State) : (s.drawn).port = s.port := rfl
@[simp] theorem State.drawn_key (s : State) : (s.drawn).key = s.key := rfl
@[simp] theorem State.drawn_log (s : State) : (s.drawn).log = s.log := rfl
@[simp] theorem State.drawn_tmp (s : State) : (s.drawn).tmp = s.tmp := rfl
@[simp] theorem State.drawn_isl (s : State) : (s.drawn).isl = s.isl := rfl
@[simp] theorem State.drawn_boot (s : State) : (s.drawn).boot = s.boot := rfl
@[simp] theorem State.drawn_bk (s : State) : (s.drawn).bk = s.bk := rfl
@[simp] theorem State.drawn_osc (s : State) : (s.drawn).osc = s.osc := rfl
@[simp] theorem State.drawn_tim (s : State) : (s.drawn).tim = s.tim := rfl
@[simp] theorem State.drawn_pwr (s : State) : (s.drawn).pwr = s.pwr := rfl
@[simp] theorem State.drawn_rail (s : State) : (s.drawn).rail = s.rail := rfl
@[simp] theorem State.drawn_wd (s : State) : (s.drawn).wd = s.wd := rfl
@[simp] theorem State.drawn_lehr (s : State) : (s.drawn).lehr = s.lehr := rfl
@[simp] theorem State.drawn_rep (s : State) : (s.drawn).rep = s.rep := rfl
@[simp] theorem State.drawn_fw (s : State) : (s.drawn).fw = s.fw := rfl
@[simp] theorem State.drawn_twin (s : State) : (s.drawn).twin = s.twin := rfl
@[simp] theorem State.drawn_out (s : State) : (s.drawn).out = s.out := rfl
@[simp] theorem State.el_drawn (s : State) (k : Nat) : (s.drawn).el k = s.el k := rfl
@[simp] theorem State.elS_drawn (s : State) (n_ k : Nat) : (s.drawn).elS n_ k = s.elS n_ k := rfl

@[simp] theorem State.emit_pending (s : State) (o : Out) : (s.emit o).pending = s.pending := rfl
@[simp] theorem State.emit_dict (s : State) (o : Out) : (s.emit o).dict = s.dict := rfl
@[simp] theorem State.emit_freeN (s : State) (o : Out) : (s.emit o).freeN = s.freeN := rfl
@[simp] theorem State.emit_clk (s : State) (o : Out) : (s.emit o).clk = s.clk := rfl
@[simp] theorem State.emit_exch (s : State) (o : Out) : (s.emit o).exch = s.exch := rfl
@[simp] theorem State.emit_stage (s : State) (o : Out) : (s.emit o).stage = s.stage := rfl
@[simp] theorem State.emit_arb (s : State) (o : Out) : (s.emit o).arb = s.arb := rfl
@[simp] theorem State.emit_tmr (s : State) (o : Out) : (s.emit o).tmr = s.tmr := rfl
@[simp] theorem State.emit_evt (s : State) (o : Out) : (s.emit o).evt = s.evt := rfl
@[simp] theorem State.emit_dlv (s : State) (o : Out) : (s.emit o).dlv = s.dlv := rfl
@[simp] theorem State.emit_port (s : State) (o : Out) : (s.emit o).port = s.port := rfl
@[simp] theorem State.emit_key (s : State) (o : Out) : (s.emit o).key = s.key := rfl
@[simp] theorem State.emit_log (s : State) (o : Out) : (s.emit o).log = s.log := rfl
@[simp] theorem State.emit_tmp (s : State) (o : Out) : (s.emit o).tmp = s.tmp := rfl
@[simp] theorem State.emit_isl (s : State) (o : Out) : (s.emit o).isl = s.isl := rfl
@[simp] theorem State.emit_boot (s : State) (o : Out) : (s.emit o).boot = s.boot := rfl
@[simp] theorem State.emit_bk (s : State) (o : Out) : (s.emit o).bk = s.bk := rfl
@[simp] theorem State.emit_osc (s : State) (o : Out) : (s.emit o).osc = s.osc := rfl
@[simp] theorem State.emit_tim (s : State) (o : Out) : (s.emit o).tim = s.tim := rfl
@[simp] theorem State.emit_pwr (s : State) (o : Out) : (s.emit o).pwr = s.pwr := rfl
@[simp] theorem State.emit_rail (s : State) (o : Out) : (s.emit o).rail = s.rail := rfl
@[simp] theorem State.emit_wd (s : State) (o : Out) : (s.emit o).wd = s.wd := rfl
@[simp] theorem State.emit_lehr (s : State) (o : Out) : (s.emit o).lehr = s.lehr := rfl
@[simp] theorem State.emit_rep (s : State) (o : Out) : (s.emit o).rep = s.rep := rfl
@[simp] theorem State.emit_fw (s : State) (o : Out) : (s.emit o).fw = s.fw := rfl
@[simp] theorem State.emit_twin (s : State) (o : Out) : (s.emit o).twin = s.twin := rfl
@[simp] theorem State.el_emit (s : State) (o : Out) (k : Nat) : (s.emit o).el k = s.el k := rfl
@[simp] theorem State.elS_emit (s : State) (o : Out) (n_ k : Nat) : (s.emit o).elS n_ k = s.elS n_ k := rfl

@[simp] theorem State.dlvSet_pending (s : State) (d : DlvSt) : (s.dlvSet d).pending = s.pending := rfl
@[simp] theorem State.dlvSet_dict (s : State) (d : DlvSt) : (s.dlvSet d).dict = s.dict := rfl
@[simp] theorem State.dlvSet_freeN (s : State) (d : DlvSt) : (s.dlvSet d).freeN = s.freeN := rfl
@[simp] theorem State.dlvSet_clk (s : State) (d : DlvSt) : (s.dlvSet d).clk = s.clk := rfl
@[simp] theorem State.dlvSet_exch (s : State) (d : DlvSt) : (s.dlvSet d).exch = s.exch := rfl
@[simp] theorem State.dlvSet_stage (s : State) (d : DlvSt) : (s.dlvSet d).stage = s.stage := rfl
@[simp] theorem State.dlvSet_arb (s : State) (d : DlvSt) : (s.dlvSet d).arb = s.arb := rfl
@[simp] theorem State.dlvSet_tmr (s : State) (d : DlvSt) : (s.dlvSet d).tmr = s.tmr := rfl
@[simp] theorem State.dlvSet_evt (s : State) (d : DlvSt) : (s.dlvSet d).evt = s.evt := rfl
@[simp] theorem State.dlvSet_port (s : State) (d : DlvSt) : (s.dlvSet d).port = s.port := rfl
@[simp] theorem State.dlvSet_key (s : State) (d : DlvSt) : (s.dlvSet d).key = s.key := rfl
@[simp] theorem State.dlvSet_log (s : State) (d : DlvSt) : (s.dlvSet d).log = s.log := rfl
@[simp] theorem State.dlvSet_tmp (s : State) (d : DlvSt) : (s.dlvSet d).tmp = s.tmp := rfl
@[simp] theorem State.dlvSet_isl (s : State) (d : DlvSt) : (s.dlvSet d).isl = s.isl := rfl
@[simp] theorem State.dlvSet_boot (s : State) (d : DlvSt) : (s.dlvSet d).boot = s.boot := rfl
@[simp] theorem State.dlvSet_bk (s : State) (d : DlvSt) : (s.dlvSet d).bk = s.bk := rfl
@[simp] theorem State.dlvSet_osc (s : State) (d : DlvSt) : (s.dlvSet d).osc = s.osc := rfl
@[simp] theorem State.dlvSet_tim (s : State) (d : DlvSt) : (s.dlvSet d).tim = s.tim := rfl
@[simp] theorem State.dlvSet_pwr (s : State) (d : DlvSt) : (s.dlvSet d).pwr = s.pwr := rfl
@[simp] theorem State.dlvSet_rail (s : State) (d : DlvSt) : (s.dlvSet d).rail = s.rail := rfl
@[simp] theorem State.dlvSet_wd (s : State) (d : DlvSt) : (s.dlvSet d).wd = s.wd := rfl
@[simp] theorem State.dlvSet_lehr (s : State) (d : DlvSt) : (s.dlvSet d).lehr = s.lehr := rfl
@[simp] theorem State.dlvSet_rep (s : State) (d : DlvSt) : (s.dlvSet d).rep = s.rep := rfl
@[simp] theorem State.dlvSet_fw (s : State) (d : DlvSt) : (s.dlvSet d).fw = s.fw := rfl
@[simp] theorem State.dlvSet_twin (s : State) (d : DlvSt) : (s.dlvSet d).twin = s.twin := rfl
@[simp] theorem State.dlvSet_out (s : State) (d : DlvSt) : (s.dlvSet d).out = s.out := rfl
@[simp] theorem State.el_dlvSet (s : State) (d : DlvSt) (k : Nat) : (s.dlvSet d).el k = s.el k := rfl
@[simp] theorem State.elS_dlvSet (s : State) (d : DlvSt) (n_ k : Nat) : (s.dlvSet d).elS n_ k = s.elS n_ k := rfl

@[simp] theorem State.setWd_pending (s : State) (w : Nat) (f : Wd → Wd) : (s.setWd w f).pending = s.pending := rfl
@[simp] theorem State.setWd_dict (s : State) (w : Nat) (f : Wd → Wd) : (s.setWd w f).dict = s.dict := rfl
@[simp] theorem State.setWd_freeN (s : State) (w : Nat) (f : Wd → Wd) : (s.setWd w f).freeN = s.freeN := rfl
@[simp] theorem State.setWd_clk (s : State) (w : Nat) (f : Wd → Wd) : (s.setWd w f).clk = s.clk := rfl
@[simp] theorem State.setWd_exch (s : State) (w : Nat) (f : Wd → Wd) : (s.setWd w f).exch = s.exch := rfl
@[simp] theorem State.setWd_stage (s : State) (w : Nat) (f : Wd → Wd) : (s.setWd w f).stage = s.stage := rfl
@[simp] theorem State.setWd_arb (s : State) (w : Nat) (f : Wd → Wd) : (s.setWd w f).arb = s.arb := rfl
@[simp] theorem State.setWd_tmr (s : State) (w : Nat) (f : Wd → Wd) : (s.setWd w f).tmr = s.tmr := rfl
@[simp] theorem State.setWd_evt (s : State) (w : Nat) (f : Wd → Wd) : (s.setWd w f).evt = s.evt := rfl
@[simp] theorem State.setWd_dlv (s : State) (w : Nat) (f : Wd → Wd) : (s.setWd w f).dlv = s.dlv := rfl
@[simp] theorem State.setWd_port (s : State) (w : Nat) (f : Wd → Wd) : (s.setWd w f).port = s.port := rfl
@[simp] theorem State.setWd_key (s : State) (w : Nat) (f : Wd → Wd) : (s.setWd w f).key = s.key := rfl
@[simp] theorem State.setWd_log (s : State) (w : Nat) (f : Wd → Wd) : (s.setWd w f).log = s.log := rfl
@[simp] theorem State.setWd_tmp (s : State) (w : Nat) (f : Wd → Wd) : (s.setWd w f).tmp = s.tmp := rfl
@[simp] theorem State.setWd_isl (s : State) (w : Nat) (f : Wd → Wd) : (s.setWd w f).isl = s.isl := rfl
@[simp] theorem State.setWd_boot (s : State) (w : Nat) (f : Wd → Wd) : (s.setWd w f).boot = s.boot := rfl
@[simp] theorem State.setWd_bk (s : State) (w : Nat) (f : Wd → Wd) : (s.setWd w f).bk = s.bk := rfl
@[simp] theorem State.setWd_osc (s : State) (w : Nat) (f : Wd → Wd) : (s.setWd w f).osc = s.osc := rfl
@[simp] theorem State.setWd_tim (s : State) (w : Nat) (f : Wd → Wd) : (s.setWd w f).tim = s.tim := rfl
@[simp] theorem State.setWd_pwr (s : State) (w : Nat) (f : Wd → Wd) : (s.setWd w f).pwr = s.pwr := rfl
@[simp] theorem State.setWd_rail (s : State) (w : Nat) (f : Wd → Wd) : (s.setWd w f).rail = s.rail := rfl
@[simp] theorem State.setWd_lehr (s : State) (w : Nat) (f : Wd → Wd) : (s.setWd w f).lehr = s.lehr := rfl
@[simp] theorem State.setWd_rep (s : State) (w : Nat) (f : Wd → Wd) : (s.setWd w f).rep = s.rep := rfl
@[simp] theorem State.setWd_fw (s : State) (w : Nat) (f : Wd → Wd) : (s.setWd w f).fw = s.fw := rfl
@[simp] theorem State.setWd_twin (s : State) (w : Nat) (f : Wd → Wd) : (s.setWd w f).twin = s.twin := rfl
@[simp] theorem State.setWd_out (s : State) (w : Nat) (f : Wd → Wd) : (s.setWd w f).out = s.out := rfl
@[simp] theorem State.el_setWd (s : State) (w : Nat) (f : Wd → Wd) (k : Nat) : (s.setWd w f).el k = s.el k := rfl
@[simp] theorem State.elS_setWd (s : State) (w : Nat) (f : Wd → Wd) (n_ k : Nat) : (s.setWd w f).elS n_ k = s.elS n_ k := rfl

@[simp] theorem State.logEntry_pending (s : State) (g : LogGroup) : (s.logEntry g).pending = s.pending := rfl
@[simp] theorem State.logEntry_dict (s : State) (g : LogGroup) : (s.logEntry g).dict = s.dict := rfl
@[simp] theorem State.logEntry_freeN (s : State) (g : LogGroup) : (s.logEntry g).freeN = s.freeN := rfl
@[simp] theorem State.logEntry_clk (s : State) (g : LogGroup) : (s.logEntry g).clk = s.clk := rfl
@[simp] theorem State.logEntry_exch (s : State) (g : LogGroup) : (s.logEntry g).exch = s.exch := rfl
@[simp] theorem State.logEntry_stage (s : State) (g : LogGroup) : (s.logEntry g).stage = s.stage := rfl
@[simp] theorem State.logEntry_arb (s : State) (g : LogGroup) : (s.logEntry g).arb = s.arb := rfl
@[simp] theorem State.logEntry_tmr (s : State) (g : LogGroup) : (s.logEntry g).tmr = s.tmr := rfl
@[simp] theorem State.logEntry_evt (s : State) (g : LogGroup) : (s.logEntry g).evt = s.evt := rfl
@[simp] theorem State.logEntry_dlv (s : State) (g : LogGroup) : (s.logEntry g).dlv = s.dlv := rfl
@[simp] theorem State.logEntry_port (s : State) (g : LogGroup) : (s.logEntry g).port = s.port := rfl
@[simp] theorem State.logEntry_key (s : State) (g : LogGroup) : (s.logEntry g).key = s.key := rfl
@[simp] theorem State.logEntry_tmp (s : State) (g : LogGroup) : (s.logEntry g).tmp = s.tmp := rfl
@[simp] theorem State.logEntry_isl (s : State) (g : LogGroup) : (s.logEntry g).isl = s.isl := rfl
@[simp] theorem State.logEntry_boot (s : State) (g : LogGroup) : (s.logEntry g).boot = s.boot := rfl
@[simp] theorem State.logEntry_bk (s : State) (g : LogGroup) : (s.logEntry g).bk = s.bk := rfl
@[simp] theorem State.logEntry_osc (s : State) (g : LogGroup) : (s.logEntry g).osc = s.osc := rfl
@[simp] theorem State.logEntry_tim (s : State) (g : LogGroup) : (s.logEntry g).tim = s.tim := rfl
@[simp] theorem State.logEntry_pwr (s : State) (g : LogGroup) : (s.logEntry g).pwr = s.pwr := rfl
@[simp] theorem State.logEntry_rail (s : State) (g : LogGroup) : (s.logEntry g).rail = s.rail := rfl
@[simp] theorem State.logEntry_wd (s : State) (g : LogGroup) : (s.logEntry g).wd = s.wd := rfl
@[simp] theorem State.logEntry_lehr (s : State) (g : LogGroup) : (s.logEntry g).lehr = s.lehr := rfl
@[simp] theorem State.logEntry_rep (s : State) (g : LogGroup) : (s.logEntry g).rep = s.rep := rfl
@[simp] theorem State.logEntry_fw (s : State) (g : LogGroup) : (s.logEntry g).fw = s.fw := rfl
@[simp] theorem State.logEntry_twin (s : State) (g : LogGroup) : (s.logEntry g).twin = s.twin := rfl
@[simp] theorem State.logEntry_out (s : State) (g : LogGroup) : (s.logEntry g).out = s.out := rfl
@[simp] theorem State.el_logEntry (s : State) (g : LogGroup) (k : Nat) : (s.logEntry g).el k = s.el k := rfl
@[simp] theorem State.elS_logEntry (s : State) (g : LogGroup) (n_ k : Nat) : (s.logEntry g).elS n_ k = s.elS n_ k := rfl

@[simp] theorem State.setIsl_pending (s : State) (i : Island) (c : Nat) : (s.setIsl i c).pending = s.pending := rfl
@[simp] theorem State.setIsl_freeN (s : State) (i : Island) (c : Nat) : (s.setIsl i c).freeN = s.freeN := rfl
@[simp] theorem State.setIsl_clk (s : State) (i : Island) (c : Nat) : (s.setIsl i c).clk = s.clk := rfl
@[simp] theorem State.setIsl_exch (s : State) (i : Island) (c : Nat) : (s.setIsl i c).exch = s.exch := rfl
@[simp] theorem State.setIsl_stage (s : State) (i : Island) (c : Nat) : (s.setIsl i c).stage = s.stage := rfl
@[simp] theorem State.setIsl_arb (s : State) (i : Island) (c : Nat) : (s.setIsl i c).arb = s.arb := rfl
@[simp] theorem State.setIsl_tmr (s : State) (i : Island) (c : Nat) : (s.setIsl i c).tmr = s.tmr := rfl
@[simp] theorem State.setIsl_evt (s : State) (i : Island) (c : Nat) : (s.setIsl i c).evt = s.evt := rfl
@[simp] theorem State.setIsl_dlv (s : State) (i : Island) (c : Nat) : (s.setIsl i c).dlv = s.dlv := rfl
@[simp] theorem State.setIsl_port (s : State) (i : Island) (c : Nat) : (s.setIsl i c).port = s.port := rfl
@[simp] theorem State.setIsl_key (s : State) (i : Island) (c : Nat) : (s.setIsl i c).key = s.key := rfl
@[simp] theorem State.setIsl_log (s : State) (i : Island) (c : Nat) : (s.setIsl i c).log = s.log := rfl
@[simp] theorem State.setIsl_tmp (s : State) (i : Island) (c : Nat) : (s.setIsl i c).tmp = s.tmp := rfl
@[simp] theorem State.setIsl_boot (s : State) (i : Island) (c : Nat) : (s.setIsl i c).boot = s.boot := rfl
@[simp] theorem State.setIsl_bk (s : State) (i : Island) (c : Nat) : (s.setIsl i c).bk = s.bk := rfl
@[simp] theorem State.setIsl_osc (s : State) (i : Island) (c : Nat) : (s.setIsl i c).osc = s.osc := rfl
@[simp] theorem State.setIsl_tim (s : State) (i : Island) (c : Nat) : (s.setIsl i c).tim = s.tim := rfl
@[simp] theorem State.setIsl_pwr (s : State) (i : Island) (c : Nat) : (s.setIsl i c).pwr = s.pwr := rfl
@[simp] theorem State.setIsl_rail (s : State) (i : Island) (c : Nat) : (s.setIsl i c).rail = s.rail := rfl
@[simp] theorem State.setIsl_wd (s : State) (i : Island) (c : Nat) : (s.setIsl i c).wd = s.wd := rfl
@[simp] theorem State.setIsl_lehr (s : State) (i : Island) (c : Nat) : (s.setIsl i c).lehr = s.lehr := rfl
@[simp] theorem State.setIsl_rep (s : State) (i : Island) (c : Nat) : (s.setIsl i c).rep = s.rep := rfl
@[simp] theorem State.setIsl_fw (s : State) (i : Island) (c : Nat) : (s.setIsl i c).fw = s.fw := rfl
@[simp] theorem State.setIsl_twin (s : State) (i : Island) (c : Nat) : (s.setIsl i c).twin = s.twin := rfl
@[simp] theorem State.setIsl_out (s : State) (i : Island) (c : Nat) : (s.setIsl i c).out = s.out := rfl

@[simp] theorem State.inc_pending (s : State) (n a : Nat) : (s.inc n a).pending = s.pending := rfl
@[simp] theorem State.inc_freeN (s : State) (n a : Nat) : (s.inc n a).freeN = s.freeN := rfl
@[simp] theorem State.inc_clk (s : State) (n a : Nat) : (s.inc n a).clk = s.clk := rfl
@[simp] theorem State.inc_exch (s : State) (n a : Nat) : (s.inc n a).exch = s.exch := rfl
@[simp] theorem State.inc_stage (s : State) (n a : Nat) : (s.inc n a).stage = s.stage := rfl
@[simp] theorem State.inc_arb (s : State) (n a : Nat) : (s.inc n a).arb = s.arb := rfl
@[simp] theorem State.inc_tmr (s : State) (n a : Nat) : (s.inc n a).tmr = s.tmr := rfl
@[simp] theorem State.inc_evt (s : State) (n a : Nat) : (s.inc n a).evt = s.evt := rfl
@[simp] theorem State.inc_dlv (s : State) (n a : Nat) : (s.inc n a).dlv = s.dlv := rfl
@[simp] theorem State.inc_port (s : State) (n a : Nat) : (s.inc n a).port = s.port := rfl
@[simp] theorem State.inc_key (s : State) (n a : Nat) : (s.inc n a).key = s.key := rfl
@[simp] theorem State.inc_log (s : State) (n a : Nat) : (s.inc n a).log = s.log := rfl
@[simp] theorem State.inc_tmp (s : State) (n a : Nat) : (s.inc n a).tmp = s.tmp := rfl
@[simp] theorem State.inc_isl (s : State) (n a : Nat) : (s.inc n a).isl = s.isl := rfl
@[simp] theorem State.inc_boot (s : State) (n a : Nat) : (s.inc n a).boot = s.boot := rfl
@[simp] theorem State.inc_bk (s : State) (n a : Nat) : (s.inc n a).bk = s.bk := rfl
@[simp] theorem State.inc_osc (s : State) (n a : Nat) : (s.inc n a).osc = s.osc := rfl
@[simp] theorem State.inc_tim (s : State) (n a : Nat) : (s.inc n a).tim = s.tim := rfl
@[simp] theorem State.inc_pwr (s : State) (n a : Nat) : (s.inc n a).pwr = s.pwr := rfl
@[simp] theorem State.inc_rail (s : State) (n a : Nat) : (s.inc n a).rail = s.rail := rfl
@[simp] theorem State.inc_wd (s : State) (n a : Nat) : (s.inc n a).wd = s.wd := rfl
@[simp] theorem State.inc_lehr (s : State) (n a : Nat) : (s.inc n a).lehr = s.lehr := rfl
@[simp] theorem State.inc_rep (s : State) (n a : Nat) : (s.inc n a).rep = s.rep := rfl
@[simp] theorem State.inc_fw (s : State) (n a : Nat) : (s.inc n a).fw = s.fw := rfl
@[simp] theorem State.inc_twin (s : State) (n a : Nat) : (s.inc n a).twin = s.twin := rfl
@[simp] theorem State.inc_out (s : State) (n a : Nat) : (s.inc n a).out = s.out := rfl

@[simp] theorem State.add_pending (s : State) (n a x : Nat) : (s.add n a x).pending = s.pending := rfl
@[simp] theorem State.add_freeN (s : State) (n a x : Nat) : (s.add n a x).freeN = s.freeN := rfl
@[simp] theorem State.add_clk (s : State) (n a x : Nat) : (s.add n a x).clk = s.clk := rfl
@[simp] theorem State.add_exch (s : State) (n a x : Nat) : (s.add n a x).exch = s.exch := rfl
@[simp] theorem State.add_stage (s : State) (n a x : Nat) : (s.add n a x).stage = s.stage := rfl
@[simp] theorem State.add_arb (s : State) (n a x : Nat) : (s.add n a x).arb = s.arb := rfl
@[simp] theorem State.add_tmr (s : State) (n a x : Nat) : (s.add n a x).tmr = s.tmr := rfl
@[simp] theorem State.add_evt (s : State) (n a x : Nat) : (s.add n a x).evt = s.evt := rfl
@[simp] theorem State.add_dlv (s : State) (n a x : Nat) : (s.add n a x).dlv = s.dlv := rfl
@[simp] theorem State.add_port (s : State) (n a x : Nat) : (s.add n a x).port = s.port := rfl
@[simp] theorem State.add_key (s : State) (n a x : Nat) : (s.add n a x).key = s.key := rfl
@[simp] theorem State.add_log (s : State) (n a x : Nat) : (s.add n a x).log = s.log := rfl
@[simp] theorem State.add_tmp (s : State) (n a x : Nat) : (s.add n a x).tmp = s.tmp := rfl
@[simp] theorem State.add_isl (s : State) (n a x : Nat) : (s.add n a x).isl = s.isl := rfl
@[simp] theorem State.add_boot (s : State) (n a x : Nat) : (s.add n a x).boot = s.boot := rfl
@[simp] theorem State.add_bk (s : State) (n a x : Nat) : (s.add n a x).bk = s.bk := rfl
@[simp] theorem State.add_osc (s : State) (n a x : Nat) : (s.add n a x).osc = s.osc := rfl
@[simp] theorem State.add_tim (s : State) (n a x : Nat) : (s.add n a x).tim = s.tim := rfl
@[simp] theorem State.add_pwr (s : State) (n a x : Nat) : (s.add n a x).pwr = s.pwr := rfl
@[simp] theorem State.add_rail (s : State) (n a x : Nat) : (s.add n a x).rail = s.rail := rfl
@[simp] theorem State.add_wd (s : State) (n a x : Nat) : (s.add n a x).wd = s.wd := rfl
@[simp] theorem State.add_lehr (s : State) (n a x : Nat) : (s.add n a x).lehr = s.lehr := rfl
@[simp] theorem State.add_rep (s : State) (n a x : Nat) : (s.add n a x).rep = s.rep := rfl
@[simp] theorem State.add_fw (s : State) (n a x : Nat) : (s.add n a x).fw = s.fw := rfl
@[simp] theorem State.add_twin (s : State) (n a x : Nat) : (s.add n a x).twin = s.twin := rfl
@[simp] theorem State.add_out (s : State) (n a x : Nat) : (s.add n a x).out = s.out := rfl

@[simp] theorem State.setV_pending (s : State) (v : Nat) : (s.setV v).pending = s.pending := by unfold State.setV; dsimp only; split <;> rfl
@[simp] theorem State.setV_dict (s : State) (v : Nat) : (s.setV v).dict = s.dict := by unfold State.setV; dsimp only; split <;> rfl
@[simp] theorem State.setV_freeN (s : State) (v : Nat) : (s.setV v).freeN = s.freeN := by unfold State.setV; dsimp only; split <;> rfl
@[simp] theorem State.setV_exch (s : State) (v : Nat) : (s.setV v).exch = s.exch := by unfold State.setV; dsimp only; split <;> rfl
@[simp] theorem State.setV_stage (s : State) (v : Nat) : (s.setV v).stage = s.stage := by unfold State.setV; dsimp only; split <;> rfl
@[simp] theorem State.setV_arb (s : State) (v : Nat) : (s.setV v).arb = s.arb := by unfold State.setV; dsimp only; split <;> rfl
@[simp] theorem State.setV_tmr (s : State) (v : Nat) : (s.setV v).tmr = s.tmr := by unfold State.setV; dsimp only; split <;> rfl
@[simp] theorem State.setV_evt (s : State) (v : Nat) : (s.setV v).evt = s.evt := by unfold State.setV; dsimp only; split <;> rfl
@[simp] theorem State.setV_dlv (s : State) (v : Nat) : (s.setV v).dlv = s.dlv := by unfold State.setV; dsimp only; split <;> rfl
@[simp] theorem State.setV_port (s : State) (v : Nat) : (s.setV v).port = s.port := by unfold State.setV; dsimp only; split <;> rfl
@[simp] theorem State.setV_key (s : State) (v : Nat) : (s.setV v).key = s.key := by unfold State.setV; dsimp only; split <;> rfl
@[simp] theorem State.setV_log (s : State) (v : Nat) : (s.setV v).log = s.log := by unfold State.setV; dsimp only; split <;> rfl
@[simp] theorem State.setV_tmp (s : State) (v : Nat) : (s.setV v).tmp = s.tmp := by unfold State.setV; dsimp only; split <;> rfl
@[simp] theorem State.setV_isl (s : State) (v : Nat) : (s.setV v).isl = s.isl := by unfold State.setV; dsimp only; split <;> rfl
@[simp] theorem State.setV_boot (s : State) (v : Nat) : (s.setV v).boot = s.boot := by unfold State.setV; dsimp only; split <;> rfl
@[simp] theorem State.setV_osc (s : State) (v : Nat) : (s.setV v).osc = s.osc := by unfold State.setV; dsimp only; split <;> rfl
@[simp] theorem State.setV_tim (s : State) (v : Nat) : (s.setV v).tim = s.tim := by unfold State.setV; dsimp only; split <;> rfl
@[simp] theorem State.setV_pwr (s : State) (v : Nat) : (s.setV v).pwr = s.pwr := by unfold State.setV; dsimp only; split <;> rfl
@[simp] theorem State.setV_rail (s : State) (v : Nat) : (s.setV v).rail = s.rail := by unfold State.setV; dsimp only; split <;> rfl
@[simp] theorem State.setV_wd (s : State) (v : Nat) : (s.setV v).wd = s.wd := by unfold State.setV; dsimp only; split <;> rfl
@[simp] theorem State.setV_lehr (s : State) (v : Nat) : (s.setV v).lehr = s.lehr := by unfold State.setV; dsimp only; split <;> rfl
@[simp] theorem State.setV_rep (s : State) (v : Nat) : (s.setV v).rep = s.rep := by unfold State.setV; dsimp only; split <;> rfl
@[simp] theorem State.setV_fw (s : State) (v : Nat) : (s.setV v).fw = s.fw := by unfold State.setV; dsimp only; split <;> rfl
@[simp] theorem State.setV_twin (s : State) (v : Nat) : (s.setV v).twin = s.twin := by unfold State.setV; dsimp only; split <;> rfl
@[simp] theorem State.setV_out (s : State) (v : Nat) : (s.setV v).out = s.out := by unfold State.setV; dsimp only; split <;> rfl

@[simp] theorem State.setTime_pending (s : State) (x : Nat) : (s.setTime x).pending = s.pending := by unfold State.setTime; dsimp only; split <;> simp
@[simp] theorem State.setTime_dict (s : State) (x : Nat) : (s.setTime x).dict = s.dict := by unfold State.setTime; dsimp only; split <;> simp
@[simp] theorem State.setTime_freeN (s : State) (x : Nat) : (s.setTime x).freeN = s.freeN := by unfold State.setTime; dsimp only; split <;> simp
@[simp] theorem State.setTime_exch (s : State) (x : Nat) : (s.setTime x).exch = s.exch := by unfold State.setTime; dsimp only; split <;> simp
@[simp] theorem State.setTime_stage (s : State) (x : Nat) : (s.setTime x).stage = s.stage := by unfold State.setTime; dsimp only; split <;> simp
@[simp] theorem State.setTime_arb (s : State) (x : Nat) : (s.setTime x).arb = s.arb := by unfold State.setTime; dsimp only; split <;> simp
@[simp] theorem State.setTime_tmr (s : State) (x : Nat) : (s.setTime x).tmr = s.tmr := by unfold State.setTime; dsimp only; split <;> simp
@[simp] theorem State.setTime_evt (s : State) (x : Nat) : (s.setTime x).evt = s.evt := by unfold State.setTime; dsimp only; split <;> simp
@[simp] theorem State.setTime_dlv (s : State) (x : Nat) : (s.setTime x).dlv = s.dlv := by unfold State.setTime; dsimp only; split <;> simp
@[simp] theorem State.setTime_port (s : State) (x : Nat) : (s.setTime x).port = s.port := by unfold State.setTime; dsimp only; split <;> simp
@[simp] theorem State.setTime_key (s : State) (x : Nat) : (s.setTime x).key = s.key := by unfold State.setTime; dsimp only; split <;> simp
@[simp] theorem State.setTime_log (s : State) (x : Nat) : (s.setTime x).log = s.log := by unfold State.setTime; dsimp only; split <;> simp
@[simp] theorem State.setTime_tmp (s : State) (x : Nat) : (s.setTime x).tmp = s.tmp := by unfold State.setTime; dsimp only; split <;> simp
@[simp] theorem State.setTime_isl (s : State) (x : Nat) : (s.setTime x).isl = s.isl := by unfold State.setTime; dsimp only; split <;> simp
@[simp] theorem State.setTime_boot (s : State) (x : Nat) : (s.setTime x).boot = s.boot := by unfold State.setTime; dsimp only; split <;> simp
@[simp] theorem State.setTime_osc (s : State) (x : Nat) : (s.setTime x).osc = s.osc := by unfold State.setTime; dsimp only; split <;> simp
@[simp] theorem State.setTime_tim (s : State) (x : Nat) : (s.setTime x).tim = s.tim := by unfold State.setTime; dsimp only; split <;> simp
@[simp] theorem State.setTime_pwr (s : State) (x : Nat) : (s.setTime x).pwr = s.pwr := by unfold State.setTime; dsimp only; split <;> simp
@[simp] theorem State.setTime_rail (s : State) (x : Nat) : (s.setTime x).rail = s.rail := by unfold State.setTime; dsimp only; split <;> simp
@[simp] theorem State.setTime_wd (s : State) (x : Nat) : (s.setTime x).wd = s.wd := by unfold State.setTime; dsimp only; split <;> simp
@[simp] theorem State.setTime_lehr (s : State) (x : Nat) : (s.setTime x).lehr = s.lehr := by unfold State.setTime; dsimp only; split <;> simp
@[simp] theorem State.setTime_rep (s : State) (x : Nat) : (s.setTime x).rep = s.rep := by unfold State.setTime; dsimp only; split <;> simp
@[simp] theorem State.setTime_fw (s : State) (x : Nat) : (s.setTime x).fw = s.fw := by unfold State.setTime; dsimp only; split <;> simp
@[simp] theorem State.setTime_twin (s : State) (x : Nat) : (s.setTime x).twin = s.twin := by unfold State.setTime; dsimp only; split <;> simp
@[simp] theorem State.setTime_out (s : State) (x : Nat) : (s.setTime x).out = s.out := by unfold State.setTime; dsimp only; split <;> simp
@[simp] theorem State.el_setV (s : State) (v k : Nat) : (s.setV v).el k = s.el k := by simp [State.el]
@[simp] theorem State.el_setTime (s : State) (x k : Nat) : (s.setTime x).el k = s.el k := by simp [State.el]
@[simp] theorem State.elS_setTime (s : State) (x n_ k : Nat) : (s.setTime x).elS n_ k = s.elS n_ k := by simp [State.elS]

@[simp] theorem State.pulsesTo_pending (s : State) (v : Nat) : (s.pulsesTo v).pending = s.pending := by unfold State.pulsesTo; split <;> rfl
@[simp] theorem State.pulsesTo_dict (s : State) (v : Nat) : (s.pulsesTo v).dict = s.dict := by unfold State.pulsesTo; split <;> rfl
@[simp] theorem State.pulsesTo_freeN (s : State) (v : Nat) : (s.pulsesTo v).freeN = s.freeN := by unfold State.pulsesTo; split <;> rfl
@[simp] theorem State.pulsesTo_clk (s : State) (v : Nat) : (s.pulsesTo v).clk = s.clk := by unfold State.pulsesTo; split <;> rfl
@[simp] theorem State.pulsesTo_exch (s : State) (v : Nat) : (s.pulsesTo v).exch = s.exch := by unfold State.pulsesTo; split <;> rfl
@[simp] theorem State.pulsesTo_stage (s : State) (v : Nat) : (s.pulsesTo v).stage = s.stage := by unfold State.pulsesTo; split <;> rfl
@[simp] theorem State.pulsesTo_arb (s : State) (v : Nat) : (s.pulsesTo v).arb = s.arb := by unfold State.pulsesTo; split <;> rfl
@[simp] theorem State.pulsesTo_tmr (s : State) (v : Nat) : (s.pulsesTo v).tmr = s.tmr := by unfold State.pulsesTo; split <;> rfl
@[simp] theorem State.pulsesTo_evt (s : State) (v : Nat) : (s.pulsesTo v).evt = s.evt := by unfold State.pulsesTo; split <;> rfl
@[simp] theorem State.pulsesTo_dlv (s : State) (v : Nat) : (s.pulsesTo v).dlv = s.dlv := by unfold State.pulsesTo; split <;> rfl
@[simp] theorem State.pulsesTo_port (s : State) (v : Nat) : (s.pulsesTo v).port = s.port := by unfold State.pulsesTo; split <;> rfl
@[simp] theorem State.pulsesTo_key (s : State) (v : Nat) : (s.pulsesTo v).key = s.key := by unfold State.pulsesTo; split <;> rfl
@[simp] theorem State.pulsesTo_log (s : State) (v : Nat) : (s.pulsesTo v).log = s.log := by unfold State.pulsesTo; split <;> rfl
@[simp] theorem State.pulsesTo_isl (s : State) (v : Nat) : (s.pulsesTo v).isl = s.isl := by unfold State.pulsesTo; split <;> rfl
@[simp] theorem State.pulsesTo_boot (s : State) (v : Nat) : (s.pulsesTo v).boot = s.boot := by unfold State.pulsesTo; split <;> rfl
@[simp] theorem State.pulsesTo_bk (s : State) (v : Nat) : (s.pulsesTo v).bk = s.bk := by unfold State.pulsesTo; split <;> rfl
@[simp] theorem State.pulsesTo_osc (s : State) (v : Nat) : (s.pulsesTo v).osc = s.osc := by unfold State.pulsesTo; split <;> rfl
@[simp] theorem State.pulsesTo_tim (s : State) (v : Nat) : (s.pulsesTo v).tim = s.tim := by unfold State.pulsesTo; split <;> rfl
@[simp] theorem State.pulsesTo_pwr (s : State) (v : Nat) : (s.pulsesTo v).pwr = s.pwr := by unfold State.pulsesTo; split <;> rfl
@[simp] theorem State.pulsesTo_rail (s : State) (v : Nat) : (s.pulsesTo v).rail = s.rail := by unfold State.pulsesTo; split <;> rfl
@[simp] theorem State.pulsesTo_wd (s : State) (v : Nat) : (s.pulsesTo v).wd = s.wd := by unfold State.pulsesTo; split <;> rfl
@[simp] theorem State.pulsesTo_lehr (s : State) (v : Nat) : (s.pulsesTo v).lehr = s.lehr := by unfold State.pulsesTo; split <;> rfl
@[simp] theorem State.pulsesTo_rep (s : State) (v : Nat) : (s.pulsesTo v).rep = s.rep := by unfold State.pulsesTo; split <;> rfl
@[simp] theorem State.pulsesTo_fw (s : State) (v : Nat) : (s.pulsesTo v).fw = s.fw := by unfold State.pulsesTo; split <;> rfl
@[simp] theorem State.pulsesTo_twin (s : State) (v : Nat) : (s.pulsesTo v).twin = s.twin := by unfold State.pulsesTo; split <;> rfl
@[simp] theorem State.pulsesTo_out (s : State) (v : Nat) : (s.pulsesTo v).out = s.out := by unfold State.pulsesTo; split <;> rfl

@[simp] theorem State.countTo_pending (s : State) (v : Nat) : (s.countTo v).pending = s.pending := by unfold State.countTo; dsimp only; split <;> simp
@[simp] theorem State.countTo_freeN (s : State) (v : Nat) : (s.countTo v).freeN = s.freeN := by unfold State.countTo; dsimp only; split <;> simp
@[simp] theorem State.countTo_exch (s : State) (v : Nat) : (s.countTo v).exch = s.exch := by unfold State.countTo; dsimp only; split <;> simp
@[simp] theorem State.countTo_stage (s : State) (v : Nat) : (s.countTo v).stage = s.stage := by unfold State.countTo; dsimp only; split <;> simp
@[simp] theorem State.countTo_arb (s : State) (v : Nat) : (s.countTo v).arb = s.arb := by unfold State.countTo; dsimp only; split <;> simp
@[simp] theorem State.countTo_tmr (s : State) (v : Nat) : (s.countTo v).tmr = s.tmr := by unfold State.countTo; dsimp only; split <;> simp
@[simp] theorem State.countTo_evt (s : State) (v : Nat) : (s.countTo v).evt = s.evt := by unfold State.countTo; dsimp only; split <;> simp
@[simp] theorem State.countTo_dlv (s : State) (v : Nat) : (s.countTo v).dlv = s.dlv := by unfold State.countTo; dsimp only; split <;> simp
@[simp] theorem State.countTo_port (s : State) (v : Nat) : (s.countTo v).port = s.port := by unfold State.countTo; dsimp only; split <;> simp
@[simp] theorem State.countTo_key (s : State) (v : Nat) : (s.countTo v).key = s.key := by unfold State.countTo; dsimp only; split <;> simp
@[simp] theorem State.countTo_log (s : State) (v : Nat) : (s.countTo v).log = s.log := by unfold State.countTo; dsimp only; split <;> simp
@[simp] theorem State.countTo_isl (s : State) (v : Nat) : (s.countTo v).isl = s.isl := by unfold State.countTo; dsimp only; split <;> simp
@[simp] theorem State.countTo_boot (s : State) (v : Nat) : (s.countTo v).boot = s.boot := by unfold State.countTo; dsimp only; split <;> simp
@[simp] theorem State.countTo_tim (s : State) (v : Nat) : (s.countTo v).tim = s.tim := by unfold State.countTo; dsimp only; split <;> simp
@[simp] theorem State.countTo_pwr (s : State) (v : Nat) : (s.countTo v).pwr = s.pwr := by unfold State.countTo; dsimp only; split <;> simp
@[simp] theorem State.countTo_rail (s : State) (v : Nat) : (s.countTo v).rail = s.rail := by unfold State.countTo; dsimp only; split <;> simp
@[simp] theorem State.countTo_wd (s : State) (v : Nat) : (s.countTo v).wd = s.wd := by unfold State.countTo; dsimp only; split <;> simp
@[simp] theorem State.countTo_lehr (s : State) (v : Nat) : (s.countTo v).lehr = s.lehr := by unfold State.countTo; dsimp only; split <;> simp
@[simp] theorem State.countTo_rep (s : State) (v : Nat) : (s.countTo v).rep = s.rep := by unfold State.countTo; dsimp only; split <;> simp
@[simp] theorem State.countTo_fw (s : State) (v : Nat) : (s.countTo v).fw = s.fw := by unfold State.countTo; dsimp only; split <;> simp
@[simp] theorem State.countTo_twin (s : State) (v : Nat) : (s.countTo v).twin = s.twin := by unfold State.countTo; dsimp only; split <;> simp
@[simp] theorem State.countTo_out (s : State) (v : Nat) : (s.countTo v).out = s.out := by unfold State.countTo; dsimp only; split <;> simp

@[simp] theorem State.slewPass_pending (s : State) (n : Rat) : (s.slewPass n).pending = s.pending := by unfold State.slewPass; split <;> rfl
@[simp] theorem State.slewPass_freeN (s : State) (n : Rat) : (s.slewPass n).freeN = s.freeN := by unfold State.slewPass; split <;> rfl
@[simp] theorem State.slewPass_clk (s : State) (n : Rat) : (s.slewPass n).clk = s.clk := by unfold State.slewPass; split <;> rfl
@[simp] theorem State.slewPass_exch (s : State) (n : Rat) : (s.slewPass n).exch = s.exch := by unfold State.slewPass; split <;> rfl
@[simp] theorem State.slewPass_stage (s : State) (n : Rat) : (s.slewPass n).stage = s.stage := by unfold State.slewPass; split <;> rfl
@[simp] theorem State.slewPass_arb (s : State) (n : Rat) : (s.slewPass n).arb = s.arb := by unfold State.slewPass; split <;> rfl
@[simp] theorem State.slewPass_tmr (s : State) (n : Rat) : (s.slewPass n).tmr = s.tmr := by unfold State.slewPass; split <;> rfl
@[simp] theorem State.slewPass_evt (s : State) (n : Rat) : (s.slewPass n).evt = s.evt := by unfold State.slewPass; split <;> rfl
@[simp] theorem State.slewPass_dlv (s : State) (n : Rat) : (s.slewPass n).dlv = s.dlv := by unfold State.slewPass; split <;> rfl
@[simp] theorem State.slewPass_port (s : State) (n : Rat) : (s.slewPass n).port = s.port := by unfold State.slewPass; split <;> rfl
@[simp] theorem State.slewPass_key (s : State) (n : Rat) : (s.slewPass n).key = s.key := by unfold State.slewPass; split <;> rfl
@[simp] theorem State.slewPass_log (s : State) (n : Rat) : (s.slewPass n).log = s.log := by unfold State.slewPass; split <;> rfl
@[simp] theorem State.slewPass_tmp (s : State) (n : Rat) : (s.slewPass n).tmp = s.tmp := by unfold State.slewPass; split <;> rfl
@[simp] theorem State.slewPass_isl (s : State) (n : Rat) : (s.slewPass n).isl = s.isl := by unfold State.slewPass; split <;> rfl
@[simp] theorem State.slewPass_boot (s : State) (n : Rat) : (s.slewPass n).boot = s.boot := by unfold State.slewPass; split <;> rfl
@[simp] theorem State.slewPass_bk (s : State) (n : Rat) : (s.slewPass n).bk = s.bk := by unfold State.slewPass; split <;> rfl
@[simp] theorem State.slewPass_tim (s : State) (n : Rat) : (s.slewPass n).tim = s.tim := by unfold State.slewPass; split <;> rfl
@[simp] theorem State.slewPass_pwr (s : State) (n : Rat) : (s.slewPass n).pwr = s.pwr := by unfold State.slewPass; split <;> rfl
@[simp] theorem State.slewPass_rail (s : State) (n : Rat) : (s.slewPass n).rail = s.rail := by unfold State.slewPass; split <;> rfl
@[simp] theorem State.slewPass_wd (s : State) (n : Rat) : (s.slewPass n).wd = s.wd := by unfold State.slewPass; split <;> rfl
@[simp] theorem State.slewPass_lehr (s : State) (n : Rat) : (s.slewPass n).lehr = s.lehr := by unfold State.slewPass; split <;> rfl
@[simp] theorem State.slewPass_rep (s : State) (n : Rat) : (s.slewPass n).rep = s.rep := by unfold State.slewPass; split <;> rfl
@[simp] theorem State.slewPass_fw (s : State) (n : Rat) : (s.slewPass n).fw = s.fw := by unfold State.slewPass; split <;> rfl
@[simp] theorem State.slewPass_twin (s : State) (n : Rat) : (s.slewPass n).twin = s.twin := by unfold State.slewPass; split <;> rfl
@[simp] theorem State.slewPass_out (s : State) (n : Rat) : (s.slewPass n).out = s.out := by unfold State.slewPass; split <;> rfl

@[simp] theorem State.phasePass_pending (s : State) (k : Nat) : (s.phasePass k).pending = s.pending := by unfold State.phasePass; split <;> rfl
@[simp] theorem State.phasePass_dict (s : State) (k : Nat) : (s.phasePass k).dict = s.dict := by unfold State.phasePass; split <;> rfl
@[simp] theorem State.phasePass_freeN (s : State) (k : Nat) : (s.phasePass k).freeN = s.freeN := by unfold State.phasePass; split <;> rfl
@[simp] theorem State.phasePass_clk (s : State) (k : Nat) : (s.phasePass k).clk = s.clk := by unfold State.phasePass; split <;> rfl
@[simp] theorem State.phasePass_exch (s : State) (k : Nat) : (s.phasePass k).exch = s.exch := by unfold State.phasePass; split <;> rfl
@[simp] theorem State.phasePass_stage (s : State) (k : Nat) : (s.phasePass k).stage = s.stage := by unfold State.phasePass; split <;> rfl
@[simp] theorem State.phasePass_arb (s : State) (k : Nat) : (s.phasePass k).arb = s.arb := by unfold State.phasePass; split <;> rfl
@[simp] theorem State.phasePass_tmr (s : State) (k : Nat) : (s.phasePass k).tmr = s.tmr := by unfold State.phasePass; split <;> rfl
@[simp] theorem State.phasePass_evt (s : State) (k : Nat) : (s.phasePass k).evt = s.evt := by unfold State.phasePass; split <;> rfl
@[simp] theorem State.phasePass_dlv (s : State) (k : Nat) : (s.phasePass k).dlv = s.dlv := by unfold State.phasePass; split <;> rfl
@[simp] theorem State.phasePass_port (s : State) (k : Nat) : (s.phasePass k).port = s.port := by unfold State.phasePass; split <;> rfl
@[simp] theorem State.phasePass_key (s : State) (k : Nat) : (s.phasePass k).key = s.key := by unfold State.phasePass; split <;> rfl
@[simp] theorem State.phasePass_log (s : State) (k : Nat) : (s.phasePass k).log = s.log := by unfold State.phasePass; split <;> rfl
@[simp] theorem State.phasePass_tmp (s : State) (k : Nat) : (s.phasePass k).tmp = s.tmp := by unfold State.phasePass; split <;> rfl
@[simp] theorem State.phasePass_isl (s : State) (k : Nat) : (s.phasePass k).isl = s.isl := by unfold State.phasePass; split <;> rfl
@[simp] theorem State.phasePass_boot (s : State) (k : Nat) : (s.phasePass k).boot = s.boot := by unfold State.phasePass; split <;> rfl
@[simp] theorem State.phasePass_bk (s : State) (k : Nat) : (s.phasePass k).bk = s.bk := by unfold State.phasePass; split <;> rfl
@[simp] theorem State.phasePass_tim (s : State) (k : Nat) : (s.phasePass k).tim = s.tim := by unfold State.phasePass; split <;> rfl
@[simp] theorem State.phasePass_pwr (s : State) (k : Nat) : (s.phasePass k).pwr = s.pwr := by unfold State.phasePass; split <;> rfl
@[simp] theorem State.phasePass_rail (s : State) (k : Nat) : (s.phasePass k).rail = s.rail := by unfold State.phasePass; split <;> rfl
@[simp] theorem State.phasePass_wd (s : State) (k : Nat) : (s.phasePass k).wd = s.wd := by unfold State.phasePass; split <;> rfl
@[simp] theorem State.phasePass_lehr (s : State) (k : Nat) : (s.phasePass k).lehr = s.lehr := by unfold State.phasePass; split <;> rfl
@[simp] theorem State.phasePass_rep (s : State) (k : Nat) : (s.phasePass k).rep = s.rep := by unfold State.phasePass; split <;> rfl
@[simp] theorem State.phasePass_fw (s : State) (k : Nat) : (s.phasePass k).fw = s.fw := by unfold State.phasePass; split <;> rfl
@[simp] theorem State.phasePass_twin (s : State) (k : Nat) : (s.phasePass k).twin = s.twin := by unfold State.phasePass; split <;> rfl
@[simp] theorem State.phasePass_out (s : State) (k : Nat) : (s.phasePass k).out = s.out := by unfold State.phasePass; split <;> rfl

@[simp] theorem State.passTo_pending (s : State) (x : Nat) : (s.passTo x).pending = s.pending := by unfold State.passTo; dsimp only; split <;> simp
@[simp] theorem State.passTo_freeN (s : State) (x : Nat) : (s.passTo x).freeN = s.freeN := by unfold State.passTo; dsimp only; split <;> simp
@[simp] theorem State.passTo_exch (s : State) (x : Nat) : (s.passTo x).exch = s.exch := by unfold State.passTo; dsimp only; split <;> simp
@[simp] theorem State.passTo_stage (s : State) (x : Nat) : (s.passTo x).stage = s.stage := by unfold State.passTo; dsimp only; split <;> simp
@[simp] theorem State.passTo_arb (s : State) (x : Nat) : (s.passTo x).arb = s.arb := by unfold State.passTo; dsimp only; split <;> simp
@[simp] theorem State.passTo_tmr (s : State) (x : Nat) : (s.passTo x).tmr = s.tmr := by unfold State.passTo; dsimp only; split <;> simp
@[simp] theorem State.passTo_evt (s : State) (x : Nat) : (s.passTo x).evt = s.evt := by unfold State.passTo; dsimp only; split <;> simp
@[simp] theorem State.passTo_dlv (s : State) (x : Nat) : (s.passTo x).dlv = s.dlv := by unfold State.passTo; dsimp only; split <;> simp
@[simp] theorem State.passTo_port (s : State) (x : Nat) : (s.passTo x).port = s.port := by unfold State.passTo; dsimp only; split <;> simp
@[simp] theorem State.passTo_key (s : State) (x : Nat) : (s.passTo x).key = s.key := by unfold State.passTo; dsimp only; split <;> simp
@[simp] theorem State.passTo_log (s : State) (x : Nat) : (s.passTo x).log = s.log := by unfold State.passTo; dsimp only; split <;> simp
@[simp] theorem State.passTo_isl (s : State) (x : Nat) : (s.passTo x).isl = s.isl := by unfold State.passTo; dsimp only; split <;> simp
@[simp] theorem State.passTo_boot (s : State) (x : Nat) : (s.passTo x).boot = s.boot := by unfold State.passTo; dsimp only; split <;> simp
@[simp] theorem State.passTo_tim (s : State) (x : Nat) : (s.passTo x).tim = s.tim := by unfold State.passTo; dsimp only; split <;> simp
@[simp] theorem State.passTo_pwr (s : State) (x : Nat) : (s.passTo x).pwr = s.pwr := by unfold State.passTo; dsimp only; split <;> simp
@[simp] theorem State.passTo_rail (s : State) (x : Nat) : (s.passTo x).rail = s.rail := by unfold State.passTo; dsimp only; split <;> simp
@[simp] theorem State.passTo_wd (s : State) (x : Nat) : (s.passTo x).wd = s.wd := by unfold State.passTo; dsimp only; split <;> simp
@[simp] theorem State.passTo_lehr (s : State) (x : Nat) : (s.passTo x).lehr = s.lehr := by unfold State.passTo; dsimp only; split <;> simp
@[simp] theorem State.passTo_rep (s : State) (x : Nat) : (s.passTo x).rep = s.rep := by unfold State.passTo; dsimp only; split <;> simp
@[simp] theorem State.passTo_fw (s : State) (x : Nat) : (s.passTo x).fw = s.fw := by unfold State.passTo; dsimp only; split <;> simp
@[simp] theorem State.passTo_twin (s : State) (x : Nat) : (s.passTo x).twin = s.twin := by unfold State.passTo; dsimp only; split <;> simp
@[simp] theorem State.passTo_out (s : State) (x : Nat) : (s.passTo x).out = s.out := by unfold State.passTo; dsimp only; split <;> simp

@[simp] theorem State.reach_pending (s : State) (x : Nat) : (s.reach x).pending = s.pending := by unfold State.reach; split <;> simp
@[simp] theorem State.reach_freeN (s : State) (x : Nat) : (s.reach x).freeN = s.freeN := by unfold State.reach; split <;> simp
@[simp] theorem State.reach_exch (s : State) (x : Nat) : (s.reach x).exch = s.exch := by unfold State.reach; split <;> simp
@[simp] theorem State.reach_stage (s : State) (x : Nat) : (s.reach x).stage = s.stage := by unfold State.reach; split <;> simp
@[simp] theorem State.reach_arb (s : State) (x : Nat) : (s.reach x).arb = s.arb := by unfold State.reach; split <;> simp
@[simp] theorem State.reach_tmr (s : State) (x : Nat) : (s.reach x).tmr = s.tmr := by unfold State.reach; split <;> simp
@[simp] theorem State.reach_evt (s : State) (x : Nat) : (s.reach x).evt = s.evt := by unfold State.reach; split <;> simp
@[simp] theorem State.reach_dlv (s : State) (x : Nat) : (s.reach x).dlv = s.dlv := by unfold State.reach; split <;> simp
@[simp] theorem State.reach_port (s : State) (x : Nat) : (s.reach x).port = s.port := by unfold State.reach; split <;> simp
@[simp] theorem State.reach_key (s : State) (x : Nat) : (s.reach x).key = s.key := by unfold State.reach; split <;> simp
@[simp] theorem State.reach_log (s : State) (x : Nat) : (s.reach x).log = s.log := by unfold State.reach; split <;> simp
@[simp] theorem State.reach_isl (s : State) (x : Nat) : (s.reach x).isl = s.isl := by unfold State.reach; split <;> simp
@[simp] theorem State.reach_boot (s : State) (x : Nat) : (s.reach x).boot = s.boot := by unfold State.reach; split <;> simp
@[simp] theorem State.reach_tim (s : State) (x : Nat) : (s.reach x).tim = s.tim := by unfold State.reach; split <;> simp
@[simp] theorem State.reach_pwr (s : State) (x : Nat) : (s.reach x).pwr = s.pwr := by unfold State.reach; split <;> simp
@[simp] theorem State.reach_rail (s : State) (x : Nat) : (s.reach x).rail = s.rail := by unfold State.reach; split <;> simp
@[simp] theorem State.reach_wd (s : State) (x : Nat) : (s.reach x).wd = s.wd := by unfold State.reach; split <;> simp
@[simp] theorem State.reach_lehr (s : State) (x : Nat) : (s.reach x).lehr = s.lehr := by unfold State.reach; split <;> simp
@[simp] theorem State.reach_rep (s : State) (x : Nat) : (s.reach x).rep = s.rep := by unfold State.reach; split <;> simp
@[simp] theorem State.reach_fw (s : State) (x : Nat) : (s.reach x).fw = s.fw := by unfold State.reach; split <;> simp
@[simp] theorem State.reach_twin (s : State) (x : Nat) : (s.reach x).twin = s.twin := by unfold State.reach; split <;> simp
@[simp] theorem State.reach_out (s : State) (x : Nat) : (s.reach x).out = s.out := by unfold State.reach; split <;> simp

/-- The passing of time leaves the backup capture ring alone. -/
@[simp] theorem State.setV_ring (s : State) (v : Nat) : (s.setV v).bk.ring = s.bk.ring := by
  unfold State.setV; dsimp only; split <;> rfl
@[simp] theorem State.countTo_ring (s : State) (v : Nat) : (s.countTo v).bk.ring = s.bk.ring := by
  unfold State.countTo; dsimp only; split <;> simp
@[simp] theorem State.passTo_ring (s : State) (x : Nat) : (s.passTo x).bk.ring = s.bk.ring := by
  unfold State.passTo; dsimp only; split <;> simp
@[simp] theorem State.reach_ring (s : State) (x : Nat) : (s.reach x).bk.ring = s.bk.ring := by
  unfold State.reach; split <;> simp

/-- BK's count has its 51 bits. -/
theorem State.setV_v (s : State) (v : Nat) : (s.setV v).clk.v = min v (stMax / 8192) := by
  unfold State.setV; dsimp only; split
  · rename_i h; exact h.symm
  · rfl
theorem State.countTo_v_le (s : State) (v : Nat) : (s.countTo v).clk.v ≤ stMax / 8192 := by
  unfold State.countTo; dsimp only; split <;> simp only [State.add_clk, State.setV_v] <;> exact Nat.min_le_right _ _

@[simp] theorem State.emit_out (s : State) (o : Out) : (s.emit o).out = s.out ++ [o] := rfl
@[simp] theorem State.drawn_freeN (s : State) : s.drawn.freeN = s.freeN + 1 := rfl
@[simp] theorem State.dlvSet_dlv (s : State) (d : DlvSt) : (s.dlvSet d).dlv = d := rfl
@[simp] theorem State.setWd_wd (s : State) (w : Nat) (f : Wd → Wd) : (s.setWd w f).wd = s.wd.modify w f := rfl

/-- A register of an island's state reads what was set; the others read as before. -/
theorem State.el_setIsl (s : State) (i : Island) (c k : Nat) :
    (s.setIsl i c).el k = if k = Reg.ISL_STATE (islNum i) then c else s.el k := s.el_put _ _ _

theorem State.el_inc (s : State) (n a k : Nat) :
    (s.inc n a).el k = if k = a then min (s.el a + 1) (2 ^ (8 * n) - 1) else s.el k := s.el_put _ _ _

theorem State.el_add (s : State) (n a x k : Nat) :
    (s.add n a x).el k = if k = a then min (s.el a + x) (2 ^ (8 * n) - 1) else s.el k := s.el_put _ _ _

/-- A register write changes nothing of an equal state but the dictionary. -/
theorem State.put_rest (s : State) (a v : Nat) : { s.put a v with dict := s.dict } = s := rfl

end Sys2Proof.Machine
end

