-- ==== Sys2Proof/Laws/KeepsTamper.lean ====
section
/-! SUPPORT. Every operation of Machine/Tamper.lean keeps what every command keeps (Safety.Keeps). -/
namespace Sys2Proof.Machine
open Host
set_option linter.all false
set_option Elab.async false

theorem State.nextEdge_keeps {s : State} (t : State) (h : Keeps s t) :
    Keeps s (State.nextEdge t) := by
  unfold State.nextEdge
  repeat' with_reducible first
    | assumption | intro _ | apply State.reach_keeps | apply Keeps.foldl | apply Keeps.foldl1 | apply Keeps.foldl11
    | apply Keeps.ite | apply Keeps.ite1 | dsimp only | split | refine Keeps.upd ?_

theorem State.ringWrite_keeps {s : State} (t : State) (src : Nat) (detail : Nat) (asserted : Bool) (h : Keeps s t) :
    Keeps s (State.ringWrite t src detail asserted) := by
  unfold State.ringWrite
  have h := Keeps.ite (c := t.ringAtEdge (fun e => decide (src < e.source)) = true) (State.nextEdge_keeps t h) h
  generalize (if t.ringAtEdge (fun e => decide (src < e.source)) = true then t.nextEdge else t) = t at h
  dsimp only
  apply Keeps.ite
  · apply State.inc_keeps
    refine Keeps.upd h (hb := fun _ => ?_)
    dsimp only
    split
    · simp only [List.length_append, List.length_take, List.length_singleton]; omega
    · rename_i k
      have := of_decide_eq_false (eq_false_of_ne_true k)
      simp only [List.length_append, List.length_singleton]; omega
  · refine Keeps.upd h (hb := fun _ => ?_)
    dsimp only
    split
    · simp only [List.length_append, List.length_take, List.length_singleton]; omega
    · rename_i k
      have := of_decide_eq_false (eq_false_of_ne_true k)
      simp only [List.length_append, List.length_singleton]; omega

theorem State.trickleSet_keeps {s : State} (t : State) (h : Keeps s t) :
    Keeps s (State.trickleSet t) := by
  unfold State.trickleSet
  repeat' with_reducible first
    | assumption | intro _ | apply Keeps.foldl | apply Keeps.foldl1 | apply Keeps.foldl11 | apply Keeps.ite
    | apply Keeps.ite1 | dsimp only | split | refine Keeps.upd ?_

theorem State.tamperRecord_keeps {s : State} (t : State) (src : Nat) (kind : Nat) (detail : Nat) (h : Keeps s t) :
    Keeps s (State.tamperRecord t src kind detail) := by
  unfold State.tamperRecord
  repeat' with_reducible first
    | assumption | intro _ | apply State.record_keeps | apply Keeps.foldl | apply Keeps.foldl1 | apply Keeps.foldl11
    | apply Keeps.ite | apply Keeps.ite1 | dsimp only | split | refine Keeps.upd ?_

theorem State.holdFor_keeps {s : State} (t : State) (src : Nat) (h : Keeps s t) :
    Keeps s (State.holdFor t src) := by
  unfold State.holdFor
  repeat' with_reducible first
    | assumption | intro _ | apply Keeps.foldl | apply Keeps.foldl1 | apply Keeps.foldl11 | apply Keeps.ite
    | apply Keeps.ite1 | dsimp only | split | refine Keeps.upd ?_

theorem State.shedFor_keeps {s : State} (t : State) (src : Nat) (h : Keeps s t) :
    Keeps s (State.shedFor t src) := by
  unfold State.shedFor
  repeat' with_reducible first
    | assumption | intro _ | apply State.pass_keeps | apply State.revokeNow_keeps | apply Keeps.foldl
    | apply Keeps.foldl1 | apply Keeps.foldl11 | apply Keeps.ite | apply Keeps.ite1 | dsimp only | split
    | refine Keeps.upd ?_

theorem State.zeroizeFor_keeps {s : State} (t : State) (src : Nat) (h : Keeps s t) :
    Keeps s (State.zeroizeFor t src) := by
  unfold State.zeroizeFor
  repeat' with_reducible first
    | assumption | intro _ | apply State.zeroize_keeps | apply State.callCr_keeps | apply Keeps.foldl
    | apply Keeps.foldl1 | apply Keeps.foldl11 | apply Keeps.ite | apply Keeps.ite1 | dsimp only | split
    | refine Keeps.upd ?_

theorem State.respond_keeps {s : State} (t : State) (src : Nat) (detail : Nat) (h : Keeps s t) :
    Keeps s (State.respond t src detail) := by
  unfold State.respond
  repeat' with_reducible first
    | assumption | intro _ | apply State.zeroizeFor_keeps | apply State.shedFor_keeps | apply State.holdFor_keeps
    | apply State.tamperRecord_keeps | apply State.ringLog_keeps | apply Keeps.foldl | apply Keeps.foldl1
    | apply Keeps.foldl11 | apply Keeps.ite | apply Keeps.ite1 | dsimp only | split | refine Keeps.upd ?_

theorem State.tamperSet_keeps {s : State} (t : State) (src : Nat) (detail : Nat) (h : Keeps s t) :
    Keeps s (State.tamperSet t src detail) := by
  unfold State.tamperSet
  repeat' with_reducible first
    | assumption | intro _ | apply State.respond_keeps | apply State.ringWrite_keeps | apply State.wdSync_keeps
    | apply State.put_keeps | apply Keeps.foldl | apply Keeps.foldl1 | apply Keeps.foldl11 | apply Keeps.ite
    | apply Keeps.ite1 | dsimp only | split | refine Keeps.upd ?_

theorem State.tamperOn_keeps {s : State} (t : State) (src : Nat) (detail : Nat) (h : Keeps s t) :
    Keeps s (State.tamperOn t src detail) := by
  unfold State.tamperOn
  repeat' with_reducible first
    | assumption | intro _ | apply State.tamperSet_keeps | apply Keeps.foldl | apply Keeps.foldl1
    | apply Keeps.foldl11 | apply Keeps.ite | apply Keeps.ite1 | dsimp only | split | refine Keeps.upd ?_

theorem State.tamperOff_keeps {s : State} (t : State) (src : Nat) (h : Keeps s t) :
    Keeps s (State.tamperOff t src) := by
  unfold State.tamperOff
  repeat' with_reducible first
    | assumption | intro _ | apply State.tamperRecord_keeps | apply State.ringWrite_keeps | apply State.ringLog_keeps
    | apply State.put_keeps | apply Keeps.foldl | apply Keeps.foldl1 | apply Keeps.foldl11 | apply Keeps.ite
    | apply Keeps.ite1 | dsimp only | split | refine Keeps.upd ?_

theorem State.tamperStart_keeps {s : State} (t : State) (h : Keeps s t) :
    Keeps s (State.tamperStart t) := by
  unfold State.tamperStart
  repeat' with_reducible first
    | assumption | intro _ | apply State.shedFor_keeps | apply State.holdFor_keeps | apply State.tamperRecord_keeps
    | apply State.owedZeroizes_keeps | apply State.ringLog_keeps | apply Keeps.foldl | apply Keeps.foldl1
    | apply Keeps.foldl11 | apply Keeps.ite | apply Keeps.ite1 | dsimp only | split | refine Keeps.upd ?_

theorem execTamperAssert_keeps {s : State} (src : Fin 13) (detail : Nat) (t : State) (h : Keeps s t) :
    KeepsOut s (execTamperAssert src detail t) := by
  unfold execTamperAssert
  repeat' with_reducible first
    | assumption | intro _ | apply State.tamperOn_keeps | apply KeepsOut.next | apply KeepsOut.ite
    | apply Keeps.foldl | apply Keeps.foldl1 | apply Keeps.foldl11 | apply Keeps.ite | apply Keeps.ite1 | dsimp only
    | split | refine Keeps.upd ?_

theorem execTamperRelease_keeps {s : State} (src : Fin 13) (t : State) (h : Keeps s t) :
    KeepsOut s (execTamperRelease src t) := by
  unfold execTamperRelease
  repeat' with_reducible first
    | assumption | intro _ | apply State.tamperOff_keeps | apply KeepsOut.next | apply KeepsOut.ite
    | apply Keeps.foldl | apply Keeps.foldl1 | apply Keeps.foldl11 | apply Keeps.ite | apply Keeps.ite1 | dsimp only
    | split | refine Keeps.upd ?_

theorem State.tmpClear_keeps {s : State} (t : State) (w : Who) (r : Option Req) (v : Nat) (h : Keeps s t) :
    Keeps s (State.tmpClear t w r v).1 := by
  unfold State.tmpClear
  repeat' with_reducible first
    | assumption | intro _ | apply State.logStation_keeps | apply Keeps.foldl | apply Keeps.foldl1
    | apply Keeps.foldl11 | apply Keeps.ite | apply Keeps.ite1 | dsimp only | split | refine Keeps.upd ?_

theorem execTmpClearWrite_keeps {s : State} (r : Req) (t : State) (h : Keeps s t) :
    KeepsOut s (execTmpClearWrite r t) := by
  unfold execTmpClearWrite
  repeat' with_reducible first
    | assumption | intro _ | apply State.tmpClear_keeps | apply State.ownWrite_keeps | apply KeepsOut.next
    | apply KeepsOut.ite | apply Keeps.foldl | apply Keeps.foldl1 | apply Keeps.foldl11 | apply Keeps.ite
    | apply Keeps.ite1 | dsimp only | split | refine Keeps.upd ?_

theorem execTamperHoldExpiry_keeps {s : State} (src : Fin 16) (t : State) (h : Keeps s t) :
    KeepsOut s (execTamperHoldExpiry src t) := by
  unfold execTamperHoldExpiry
  repeat' with_reducible first
    | assumption | intro _ | apply State.wdSync_keeps | apply State.reach_keeps | apply KeepsOut.next
    | apply KeepsOut.ite | apply Keeps.foldl | apply Keeps.foldl1 | apply Keeps.foldl11 | apply Keeps.ite
    | apply Keeps.ite1 | dsimp only | split | refine Keeps.upd ?_

theorem execShadowMismatch_keeps {s : State} (group : Fin 6) (sticky : Nat) (t : State) (h : Keeps s t) :
    KeepsOut s (execShadowMismatch group sticky t) := by
  unfold execShadowMismatch
  repeat' with_reducible first
    | assumption | intro _ | apply State.tamperOff_keeps | apply State.tamperOn_keeps | apply State.put_keeps
    | apply KeepsOut.next | apply KeepsOut.ite | apply Keeps.foldl | apply Keeps.foldl1 | apply Keeps.foldl11
    | apply Keeps.ite | apply Keeps.ite1 | dsimp only | split | refine Keeps.upd ?_

theorem State.tmpTest_keeps {s : State} (t : State) (w : Who) (v : Nat) (h : Keeps s t) :
    Keeps s (State.tmpTest t w v).1 := by
  unfold State.tmpTest
  repeat' with_reducible first
    | assumption | intro _ | apply Keeps.foldl | apply Keeps.foldl1 | apply Keeps.foldl11 | apply Keeps.ite
    | apply Keeps.ite1 | dsimp only | split | refine Keeps.upd ?_

theorem execTmpTestWrite_keeps {s : State} (r : Req) (t : State) (h : Keeps s t) :
    KeepsOut s (execTmpTestWrite r t) := by
  unfold execTmpTestWrite
  repeat' with_reducible first
    | assumption | intro _ | apply State.tmpTest_keeps | apply atOnce_keeps | apply State.ownWrite_keeps
    | apply KeepsOut.next | apply KeepsOut.ite | apply Keeps.foldl | apply Keeps.foldl1 | apply Keeps.foldl11
    | apply Keeps.ite | apply Keeps.ite1 | dsimp only | split | refine Keeps.upd ?_

theorem execTmpTestEnd_keeps {s : State} (detected : Bool) (t : State) (h : Keeps s t) :
    KeepsOut s (execTmpTestEnd detected t) := by
  unfold execTmpTestEnd
  repeat' with_reducible first
    | assumption | intro _ | apply State.tamperRecord_keeps | apply State.logStation_keeps | apply State.reach_keeps
    | apply State.put_keeps | apply KeepsOut.next | apply KeepsOut.ite | apply Keeps.foldl | apply Keeps.foldl1
    | apply Keeps.foldl11 | apply Keeps.ite | apply Keeps.ite1 | dsimp only | split | refine Keeps.upd ?_

theorem execFacOpenRequest_keeps {s : State} (t : State) (h : Keeps s t) :
    KeepsOut s (execFacOpenRequest t) := by
  unfold execFacOpenRequest
  repeat' with_reducible first
    | assumption | intro _ | apply State.tamperSet_keeps | apply State.emit_keeps | apply State.drawn_keeps
    | apply State.put_keeps | apply KeepsOut.next | apply KeepsOut.ite | apply Keeps.foldl | apply Keeps.foldl1
    | apply Keeps.foldl11 | apply Keeps.ite | apply Keeps.ite1 | dsimp only | split | refine Keeps.upd ?_

theorem State.unchallenged_keeps {s : State} (t : State) (h : Keeps s t) :
    Keeps s (State.unchallenged t) := by
  unfold State.unchallenged
  repeat' with_reducible first
    | assumption | intro _ | apply State.put_keeps | apply Keeps.foldl | apply Keeps.foldl1 | apply Keeps.foldl11
    | apply Keeps.ite | apply Keeps.ite1 | dsimp only | split | refine Keeps.upd ?_

theorem execFacSignature_keeps {s : State} (r : Nat) (x : Nat) (t : State) (h : Keeps s t) :
    KeepsOut s (execFacSignature r x t) := by
  unfold execFacSignature
  repeat' with_reducible first
    | assumption | intro _ | apply State.unchallenged_keeps | apply State.tamperOff_keeps
    | apply State.tamperSet_keeps | apply State.zeroize_keeps | apply State.logKeeper_keeps | apply KeepsOut.next
    | apply KeepsOut.ite | apply Keeps.foldl | apply Keeps.foldl1 | apply Keeps.foldl11 | apply Keeps.ite
    | apply Keeps.ite1 | dsimp only | split | refine Keeps.upd ?_

theorem execFacChallengeExpiry_keeps {s : State} (t : State) (h : Keeps s t) :
    KeepsOut s (execFacChallengeExpiry t) := by
  unfold execFacChallengeExpiry
  repeat' with_reducible first
    | assumption | intro _ | apply State.unchallenged_keeps | apply State.tamperOff_keeps | apply State.reach_keeps
    | apply KeepsOut.next | apply KeepsOut.ite | apply Keeps.foldl | apply Keeps.foldl1 | apply Keeps.foldl11
    | apply Keeps.ite | apply Keeps.ite1 | dsimp only | split | refine Keeps.upd ?_

theorem execFacLockoutEnd_keeps {s : State} (t : State) (h : Keeps s t) :
    KeepsOut s (execFacLockoutEnd t) := by
  unfold execFacLockoutEnd
  repeat' with_reducible first
    | assumption | intro _ | apply State.tamperOff_keeps | apply State.reach_keeps | apply KeepsOut.next
    | apply KeepsOut.ite | apply Keeps.foldl | apply Keeps.foldl1 | apply Keeps.foldl11 | apply Keeps.ite
    | apply Keeps.ite1 | dsimp only | split | refine Keeps.upd ?_

theorem execFacIdleClose_keeps {s : State} (t : State) (h : Keeps s t) :
    KeepsOut s (execFacIdleClose t) := by
  unfold execFacIdleClose
  repeat' with_reducible first
    | assumption | intro _ | apply State.tamperOff_keeps | apply State.reach_keeps | apply State.put_keeps
    | apply KeepsOut.next | apply KeepsOut.ite | apply Keeps.foldl | apply Keeps.foldl1 | apply Keeps.foldl11
    | apply Keeps.ite | apply Keeps.ite1 | dsimp only | split | refine Keeps.upd ?_

theorem execRingEntryRelease_keeps {s : State} (seq : Fin 256) (t : State) (h : Keeps s t) :
    KeepsOut s (execRingEntryRelease seq t) := by
  unfold execRingEntryRelease
  split
  · rename_i e l q
    apply KeepsOut.ite
    · refine KeepsOut.next ?_
      have hr : (if t.ringAtEdge (fun _ => true) then t.nextEdge else t).bk.ring = e :: l := by
        split <;> simp [State.nextEdge, q]
      have h := Keeps.ite (c := t.ringAtEdge (fun _ => true) = true) (State.nextEdge_keeps t h) h
      generalize (if t.ringAtEdge (fun _ => true) = true then t.nextEdge else t) = u at h hr
      refine Keeps.upd h (hb := fun k => ?_)
      rw [hr, List.length_cons] at k
      exact Nat.le_of_succ_le k
    · exact h
  · exact h

theorem State.logArchive_keeps {s : State} (t : State) (w : Who) (a : Nat) (v : Nat) (h : Keeps s t) :
    Keeps s (State.logArchive t w a v).1 := by
  unfold State.logArchive
  repeat' with_reducible first
    | assumption | intro _ | apply State.archive_keeps | apply Keeps.foldl | apply Keeps.foldl1 | apply Keeps.foldl11
    | apply Keeps.ite | apply Keeps.ite1 | dsimp only | split | refine Keeps.upd ?_

theorem execLogArchiveWrite_keeps {s : State} (r : Req) (t : State) (h : Keeps s t) :
    KeepsOut s (execLogArchiveWrite r t) := by
  unfold execLogArchiveWrite
  repeat' with_reducible first
    | assumption | intro _ | apply State.logArchive_keeps | apply atOnce_keeps | apply State.ownWrite_keeps
    | apply KeepsOut.next | apply KeepsOut.ite | apply Keeps.foldl | apply Keeps.foldl1 | apply Keeps.foldl11
    | apply Keeps.ite | apply Keeps.ite1 | dsimp only | split | refine Keeps.upd ?_

end Sys2Proof.Machine
end

