-- ==== Sys2Proof/Laws/KeepsReset.lean ====
section
/-! SUPPORT. Every operation of Machine/Reset.lean keeps what every command keeps (Safety.Keeps). -/
namespace Sys2Proof.Machine
open Host
set_option linter.all false
set_option Elab.async false

theorem State.loseDict_keeps {s : State} (t : State) (i : Island) (h : Keeps s t) :
    Keeps s (State.loseDict t i) := by
  unfold State.loseDict
  repeat' with_reducible first
    | assumption | intro _ | apply State.dropEls_keeps | apply Keeps.foldl | apply Keeps.foldl1 | apply Keeps.foldl11
    | apply Keeps.ite | apply Keeps.ite1 | dsimp only | split | refine Keeps.upd ?_

theorem State.unstore_keeps {s : State} (t : State) (h : Keeps s t) :
    Keeps s (State.unstore t) := by
  unfold State.unstore
  repeat' with_reducible first
    | assumption | intro _ | apply State.applyItems_keeps | apply Keeps.foldl | apply Keeps.foldl1
    | apply Keeps.foldl11 | apply Keeps.ite | apply Keeps.ite1 | dsimp only | split | refine Keeps.upd ?_

theorem State.showHold_keeps {s : State} (t : State) (h : Keeps s t) :
    Keeps s (State.showHold t) := by
  unfold State.showHold
  repeat' with_reducible first
    | assumption | intro _ | apply State.put_keeps | apply Keeps.foldl | apply Keeps.foldl1 | apply Keeps.foldl11
    | apply Keeps.ite | apply Keeps.ite1 | dsimp only | split | refine Keeps.upd ?_

theorem State.resetReference_keeps {s : State} (t : State) (h : Keeps s t) :
    Keeps s (State.resetReference t) := by
  unfold State.resetReference
  repeat' with_reducible first
    | assumption | intro _ | apply State.showHold_keeps | apply State.accepted_keeps | apply State.putAll_keeps
    | apply State.put_keeps | apply Keeps.foldl | apply Keeps.foldl1 | apply Keeps.foldl11 | apply Keeps.ite
    | apply Keeps.ite1 | dsimp only | split | refine Keeps.upd ?_

theorem State.followLost_keeps {s : State} (t : State) (h : Keeps s t) :
    Keeps s (State.followLost t) := by
  unfold State.followLost
  repeat' with_reducible first
    | assumption | intro _ | apply Keeps.foldl | apply Keeps.foldl1 | apply Keeps.foldl11 | apply Keeps.ite
    | apply Keeps.ite1 | dsimp only | split | refine Keeps.upd ?_

theorem State.loseFields_keeps {s : State} (t : State) (x : Island) (h : Keeps s t) : Keeps s (State.loseFields t x) := by
  cases x <;> dsimp only [State.loseFields]
  · apply State.put_keeps
    exact Keeps.upd h (hs := fun _ => Nat.zero_le _) (hv := fun _ => Nat.zero_le _) (hb := fun _ => Nat.zero_le _)
  · exact Keeps.upd h (hw := fun _ => rfl)
  · apply State.resetReference_keeps
    exact Keeps.upd (State.fbStops_keeps _ (State.holdHints_keeps _ h)) (hr := fun _ r m => absurd m (List.not_mem_nil)) (h0 := fun _ => Nat.zero_lt_succ _)
      (h1 := fun _ => Nat.zero_lt_succ _) (h2 := fun _ => Nat.zero_lt_succ _) (h3 := fun _ => Nat.zero_lt_succ _)
  · refine Keeps.upd (State.failUnprepared_keeps _ h) (ha := fun _ c => Nat.zero_le _) (hb := fun e => by simpa using e)
  · apply State.sessionLoss_keeps
    apply Keeps.foldl
    · intro u k hu; exact State.zeroKxEls_keeps _ _ hu
    · exact Keeps.upd h
  · apply State.followLost_keeps
    exact Keeps.upd h (hc := fun _ => Nat.zero_le _)
  · apply State.put_keeps
    exact Keeps.upd h (hl := fun _ => rfl)
  · exact h

theorem State.loseIsland_keeps {s : State} (t : State) (i : Island) (h : Keeps s t) :
    Keeps s (State.loseIsland t i) := by
  unfold State.loseIsland
  repeat' with_reducible first
    | assumption | intro _ | apply State.loseFields_keeps | apply State.loseDict_keeps | apply State.endSession_keeps
    | apply State.put_keeps | apply Keeps.foldl | apply Keeps.foldl1 | apply Keeps.foldl11 | apply Keeps.ite
    | apply Keeps.ite1 | dsimp only | split | refine Keeps.upd ?_

theorem State.restart_keeps {s : State} (t : State) (l : List Island) (powered : Bool) (h : Keeps s t) :
    Keeps s (State.restart t l powered) := by
  unfold State.restart
  repeat' with_reducible first
    | assumption | intro _ | apply State.setIsl_keeps | apply Keeps.foldl | apply Keeps.foldl1 | apply Keeps.foldl11
    | apply Keeps.ite | apply Keeps.ite1 | dsimp only | split | refine Keeps.upd ?_

theorem State.scopeReset_keeps {s : State} (t : State) (sc : Scope) (cause : Nat) (drained : Bool) (h : Keeps s t) :
    Keeps s (State.scopeReset t sc cause drained) := by
  unfold State.scopeReset
  have h1 : Keeps s (mainIslands.foldl State.loseIsland t.unstore) :=
    Keeps.foldl (fun _ _ k => State.loseIsland_keeps _ _ k) (State.unstore_keeps _ h)
  generalize mainIslands.foldl State.loseIsland t.unstore = s1 at h1
  have h2 : Keeps s (if sc = Scope.full then s1.loseIsland .ao else s1) := Keeps.ite (State.loseIsland_keeps _ _ h1) h1
  dsimp only
  generalize (if sc = Scope.full then s1.loseIsland .ao else s1) = s2 at h2
  have h3 := State.restart_keeps _ mainIslands s2.boot.vcore (State.inc_keeps _ 4 Reg.RESET_COUNT h2)
  generalize (s2.inc 4 Reg.RESET_COUNT).restart mainIslands s2.boot.vcore = s3 at h3
  apply State.wdSync_keeps
  apply State.put_keeps
  apply State.put_keeps
  have hl (u : State) (e : u.isl.chans.length = 20) :
      ((u.isl.chans.zipIdx).map (fun p => chanAfter sc drained p.2 p.1)).length = 20 := by simp [e]
  split
  · exact Keeps.upd (State.dropEls_keeps _ _ h3) (hi := hl s3)
  · exact Keeps.upd (State.dropEls_keeps _ _ h3) (hi := hl s3)

theorem State.mainLoss_keeps {s : State} (t : State) (h : Keeps s t) :
    Keeps s (State.mainLoss t) := by
  unfold State.mainLoss
  have h1 : Keeps s ((mainIslands ++ [Island.ao]).foldl State.loseIsland t.unstore) :=
    Keeps.foldl (fun _ _ k => State.loseIsland_keeps _ _ k) (State.unstore_keeps _ h)
  exact Keeps.upd (State.dropEls_keeps _ _ (State.restart_keeps _ _ _ h1)) (hi := fun _ => rfl) (hl := fun _ => rfl)

theorem State.backupReset_keeps {s : State} (t : State) (h : Keeps s t) :
    Keeps s (State.backupReset t) := by
  unfold State.backupReset
  repeat' with_reducible first
    | assumption | intro _ | apply State.loseIsland_keeps | apply State.ageUnknown_keeps
    | apply State.repairCheck_keeps | apply State.setIsl_keeps | apply State.put_keeps | apply Keeps.foldl
    | apply Keeps.foldl1 | apply Keeps.foldl11 | apply Keeps.ite | apply Keeps.ite1 | dsimp only | split
    | refine Keeps.upd ?_

end Sys2Proof.Machine
end

