-- ==== Sys2Proof/Laws/KeepsIslands.lean ====
section
/-! SUPPORT. Every operation of Machine/Islands.lean keeps what every command keeps (Safety.Keeps). -/
namespace Sys2Proof.Machine
open Host
set_option linter.all false
set_option Elab.async false

theorem State.setChan_keeps {s : State} (t : State) (n : Nat) (c : Chan) (h : Keeps s t) :
    Keeps s (State.setChan t n c) := by
  unfold State.setChan
  repeat' with_reducible first
    | assumption | intro _ | apply State.put_keeps | apply Keeps.foldl | apply Keeps.foldl1 | apply Keeps.foldl11
    | apply Keeps.ite | apply Keeps.ite1 | dsimp only | split | refine Keeps.upd ?_
    | refine Keeps.upd ?_ (hi := fun e => by simpa using e)

theorem State.resetChans_keeps {s : State} (t : State) (i : Island) (lost : Bool) (h : Keeps s t) :
    Keeps s (State.resetChans t i lost) := by
  unfold State.resetChans
  repeat' with_reducible first
    | assumption | intro _ | apply State.setChan_keeps | apply Keeps.foldl | apply Keeps.foldl1 | apply Keeps.foldl11
    | apply Keeps.ite | apply Keeps.ite1 | dsimp only | split | refine Keeps.upd ?_

theorem State.startIsl_keeps {s : State} (t : State) (i : Island) (h : Keeps s t) :
    Keeps s (State.startIsl t i) := by
  unfold State.startIsl
  repeat' with_reducible first
    | assumption | intro _ | apply State.resetChans_keeps | apply State.setIsl_keeps | apply Keeps.foldl
    | apply Keeps.foldl1 | apply Keeps.foldl11 | apply Keeps.ite | apply Keeps.ite1 | dsimp only | split
    | refine Keeps.upd ?_

theorem State.islRecord_keeps {s : State} (t : State) (i : Island) (req : Nat) (st : Nat) (h : Keeps s t) :
    Keeps s (State.islRecord t i req st) := by
  unfold State.islRecord
  repeat' with_reducible first
    | assumption | intro _ | apply State.stationRecord_keeps | apply Keeps.foldl | apply Keeps.foldl1
    | apply Keeps.foldl11 | apply Keeps.ite | apply Keeps.ite1 | dsimp only | split | refine Keeps.upd ?_

theorem State.islDone_keeps {s : State} (t : State) (i : Island) (req : Nat) (st : Nat) (h : Keeps s t) :
    Keeps s (State.islDone t i req st) := by
  unfold State.islDone
  repeat' with_reducible first
    | assumption | intro _ | apply State.islRecord_keeps | apply State.put_keeps | apply Keeps.foldl
    | apply Keeps.foldl1 | apply Keeps.foldl11 | apply Keeps.ite | apply Keeps.ite1 | dsimp only | split
    | refine Keeps.upd ?_

theorem State.beginActing_keeps {s : State} (t : State) (i : Island) (req : Nat) (h : Keeps s t) :
    Keeps s (State.beginActing t i req) := by
  unfold State.beginActing
  repeat' with_reducible first
    | assumption | intro _ | apply Keeps.foldl | apply Keeps.foldl1 | apply Keeps.foldl11 | apply Keeps.ite
    | apply Keeps.ite1 | dsimp only | split | refine Keeps.upd ?_

theorem State.startDrain_keeps {s : State} (t : State) (i : Island) (d : DrainTo) (h : Keeps s t) :
    Keeps s (State.startDrain t i d) := by
  unfold State.startDrain
  repeat' with_reducible first
    | assumption | intro _ | apply State.holdHints_keeps | apply State.setIsl_keeps | apply Keeps.foldl
    | apply Keeps.foldl1 | apply Keeps.foldl11 | apply Keeps.ite | apply Keeps.ite1 | dsimp only | split
    | refine Keeps.upd ?_

theorem State.loadComparator_keeps {s : State} (t : State) (h : Keeps s t) :
    Keeps s (State.loadComparator t) := by
  unfold State.loadComparator
  repeat' with_reducible first
    | assumption | intro _ | apply State.comparator_keeps | apply Keeps.foldl | apply Keeps.foldl1
    | apply Keeps.foldl11 | apply Keeps.ite | apply Keeps.ite1 | dsimp only | split | refine Keeps.upd ?_

theorem State.resetIsl_keeps {s : State} (t : State) (i : Island) (lost : Bool) (h : Keeps s t) :
    Keeps s (State.resetIsl t i lost) := by
  unfold State.resetIsl
  repeat' with_reducible first
    | assumption | intro _ | apply State.resetChans_keeps | apply State.loseIsland_keeps | apply State.setIsl_keeps
    | apply Keeps.foldl | apply Keeps.foldl1 | apply Keeps.foldl11 | apply Keeps.ite | apply Keeps.ite1 | dsimp only
    | split | refine Keeps.upd ?_

theorem State.actRequest_keeps {s : State} (t : State) (i : Island) (req : Nat) (h : Keeps s t) :
    Keeps s (State.actRequest t i req) := by
  unfold State.actRequest
  repeat' with_reducible first
    | assumption | intro _ | apply State.resetIsl_keeps | apply State.loadComparator_keeps
    | apply State.startDrain_keeps | apply State.beginActing_keeps | apply State.islDone_keeps
    | apply State.inc_keeps | apply Keeps.foldl | apply Keeps.foldl1 | apply Keeps.foldl11 | apply Keeps.ite
    | apply Keeps.ite1 | dsimp only | split | refine Keeps.upd ?_

theorem State.actPending_keeps {s : State} (t : State) (i : Island) (h : Keeps s t) :
    Keeps s (State.actPending t i) := by
  unfold State.actPending
  repeat' with_reducible first
    | assumption | intro _ | apply State.actRequest_keeps | apply Keeps.foldl | apply Keeps.foldl1
    | apply Keeps.foldl11 | apply Keeps.ite | apply Keeps.ite1 | dsimp only | split | refine Keeps.upd ?_

theorem State.actAll_keeps {s : State} (t : State) (h : Keeps s t) :
    Keeps s (State.actAll t) := by
  unfold State.actAll
  repeat' with_reducible first
    | assumption | intro _ | apply State.actPending_keeps | apply Keeps.foldl | apply Keeps.foldl1
    | apply Keeps.foldl11 | apply Keeps.ite | apply Keeps.ite1 | dsimp only | split | refine Keeps.upd ?_

theorem State.islReq_keeps {s : State} (t : State) (i : Island) (v : Nat) (h : Keeps s t) :
    Keeps s (State.islReq t i v).1 := by
  unfold State.islReq
  repeat' with_reducible first
    | assumption | intro _ | apply State.beginActing_keeps | apply State.islDone_keeps | apply State.put_keeps
    | apply Keeps.foldl | apply Keeps.foldl1 | apply Keeps.foldl11 | apply Keeps.ite | apply Keeps.ite1 | dsimp only
    | split | refine Keeps.upd ?_

theorem State.islWrite_keeps {s : State} (t : State) (cmd : Instr) (r : Req) (f : Nat → Bool) (h : Keeps s t) :
    Keeps s (State.islWrite t cmd r f) := by
  unfold State.islWrite
  repeat' with_reducible first
    | assumption | intro _ | apply State.islReq_keeps | apply State.actAll_keeps | apply atOnce_keeps
    | apply State.ownWrite_keeps | apply Keeps.foldl | apply Keeps.foldl1 | apply Keeps.foldl11 | apply Keeps.ite
    | apply Keeps.ite1 | dsimp only | split | refine Keeps.upd ?_

theorem State.startScope_keeps {s : State} (t : State) (sc : Scope) (cause : Nat) (h : Keeps s t) :
    Keeps s (State.startScope t sc cause) := by
  unfold State.startScope
  repeat' with_reducible first
    | assumption | intro _ | apply State.startDrain_keeps | apply State.scopeReset_keeps | apply State.wdSync_keeps
    | apply Keeps.foldl | apply Keeps.foldl1 | apply Keeps.foldl11 | apply Keeps.ite | apply Keeps.ite1 | dsimp only
    | split | refine Keeps.upd ?_

theorem State.pendingResetActs_keeps {s : State} (t : State) (h : Keeps s t) :
    Keeps s (State.pendingResetActs t) := by
  unfold State.pendingResetActs
  repeat' with_reducible first
    | assumption | intro _ | apply State.startScope_keeps | apply Keeps.foldl | apply Keeps.foldl1
    | apply Keeps.foldl11 | apply Keeps.ite | apply Keeps.ite1 | dsimp only | split | refine Keeps.upd ?_

theorem State.endHold_keeps {s : State} (t : State) (i : Island) (h : Keeps s t) :
    Keeps s (State.endHold t i) := by
  unfold State.endHold
  repeat' with_reducible first
    | assumption | intro _ | apply State.pendingResetActs_keeps | apply State.actPending_keeps | apply Keeps.foldl
    | apply Keeps.foldl1 | apply Keeps.foldl11 | apply Keeps.ite | apply Keeps.ite1 | dsimp only | split
    | refine Keeps.upd ?_

theorem State.endHolds_keeps {s : State} (t : State) (h : Keeps s t) :
    Keeps s (State.endHolds t) := by
  unfold State.endHolds
  repeat' with_reducible first
    | assumption | intro _ | apply State.pendingResetActs_keeps | apply State.actAll_keeps | apply Keeps.foldl
    | apply Keeps.foldl1 | apply Keeps.foldl11 | apply Keeps.ite | apply Keeps.ite1 | dsimp only | split
    | refine Keeps.upd ?_

theorem State.drainCr_keeps {s : State} (t : State) (d : DrainTo) (h : Keeps s t) :
    Keeps s (State.drainCr t d) := by
  unfold State.drainCr
  repeat' with_reducible first
    | assumption | intro _ | apply State.endHolds_keeps | apply State.startDrain_keeps | apply State.wdSync_keeps
    | apply Keeps.foldl | apply Keeps.foldl1 | apply Keeps.foldl11 | apply Keeps.ite | apply Keeps.ite1 | dsimp only
    | split | refine Keeps.upd ?_

theorem State.leaveRequests_keeps {s : State} (t : State) (i : Island) (h : Keeps s t) :
    Keeps s (State.leaveRequests t i) := by
  unfold State.leaveRequests
  repeat' with_reducible first
    | assumption | intro _ | apply State.setChan_keeps | apply State.unhold_keeps | apply State.inc_keeps
    | apply Keeps.foldl | apply Keeps.foldl1 | apply Keeps.foldl11 | apply Keeps.ite | apply Keeps.ite1 | dsimp only
    | split | refine Keeps.upd ?_

theorem State.cutOff_keeps {s : State} (t : State) (i : Island) (h : Keeps s t) :
    Keeps s (State.cutOff t i) := by
  unfold State.cutOff
  repeat' with_reducible first
    | assumption | intro _ | apply State.setChan_keeps | apply State.dropHeld_keeps | apply State.abandon_keeps
    | apply State.endProgress_keeps | apply State.finish_keeps | apply State.inc_keeps | apply Keeps.foldl
    | apply Keeps.foldl1 | apply Keeps.foldl11 | apply Keeps.ite | apply Keeps.ite1 | dsimp only | split
    | refine Keeps.upd ?_

theorem State.loadNight_keeps {s : State} (t : State) (h : Keeps s t) :
    Keeps s (State.loadNight t) := by
  unfold State.loadNight
  repeat' with_reducible first
    | assumption | intro _ | apply Keeps.foldl | apply Keeps.foldl1 | apply Keeps.foldl11 | apply Keeps.ite
    | apply Keeps.ite1 | dsimp only | split | refine Keeps.upd ?_

theorem State.drainDone_keeps {s : State} (t : State) (i : Island) (h : Keeps s t) :
    Keeps s (State.drainDone t i) := by
  unfold State.drainDone
  repeat' with_reducible first
    | assumption | intro _ | apply State.loadNight_keeps | apply State.leaveRequests_keeps
    | apply State.endHolds_keeps | apply State.resetIsl_keeps | apply State.islDone_keeps
    | apply State.scopeReset_keeps | apply State.loseIsland_keeps | apply State.dropHeld_keeps
    | apply State.fbStops_keeps | apply State.setIsl_keeps | apply Keeps.foldl | apply Keeps.foldl1
    | apply Keeps.foldl11 | apply Keeps.ite | apply Keeps.ite1 | dsimp only | split | refine Keeps.upd ?_

theorem State.fbBack_keeps {s : State} (t : State) (h : Keeps s t) :
    Keeps s (State.fbBack t) := by
  unfold State.fbBack
  repeat' with_reducible first
    | assumption | intro _ | apply State.planLoad_keeps | apply State.pass_keeps | apply Keeps.foldl
    | apply Keeps.foldl1 | apply Keeps.foldl11 | apply Keeps.ite | apply Keeps.ite1 | dsimp only | split
    | refine Keeps.upd ?_

theorem execIllegalStateEncoding_keeps {s : State} (i : Island) (code : Nat) (shadow : Nat) (t : State)
    (h : Keeps s t) :
    KeepsOut s (execIllegalStateEncoding i code shadow t) := by
  unfold execIllegalStateEncoding
  repeat' with_reducible first
    | assumption | intro _ | apply State.endHolds_keeps | apply State.tamperOff_keeps | apply State.tamperOn_keeps
    | apply State.wdSync_keeps | apply State.holdHints_keeps | apply State.setIsl_keeps | apply KeepsOut.next
    | apply KeepsOut.ite | apply Keeps.foldl | apply Keeps.foldl1 | apply Keeps.foldl11 | apply Keeps.ite
    | apply Keeps.ite1 | dsimp only | split | refine Keeps.upd ?_

theorem State.holdsLost_keeps {s : State} (t : State) (i : Island) (h : Keeps s t) :
    Keeps s (State.holdsLost t i) := by
  unfold State.holdsLost
  repeat' with_reducible first
    | assumption | intro _ | apply State.endHolds_keeps | apply State.endHold_keeps | apply Keeps.foldl
    | apply Keeps.foldl1 | apply Keeps.foldl11 | apply Keeps.ite | apply Keeps.ite1 | dsimp only | split
    | refine Keeps.upd ?_

theorem State.leasesGone_keeps {s : State} (t : State) (i : Island) (h : Keeps s t) :
    Keeps s (State.leasesGone t i) := by
  unfold State.leasesGone
  repeat' with_reducible first
    | assumption | intro _ | apply State.settleWoken_keeps | apply Keeps.foldl | apply Keeps.foldl1
    | apply Keeps.foldl11 | apply Keeps.ite | apply Keeps.ite1 | dsimp only | split | refine Keeps.upd ?_

theorem execIslandSelfReset_keeps {s : State} (i : Island) (t : State) (h : Keeps s t) :
    KeepsOut s (execIslandSelfReset i t) := by
  unfold execIslandSelfReset
  repeat' with_reducible first
    | assumption | intro _ | apply State.leasesGone_keeps | apply State.holdsLost_keeps | apply State.cutOff_keeps
    | apply State.beginActing_keeps | apply State.startIsl_keeps | apply State.resetChans_keeps
    | apply State.loseIsland_keeps | apply State.tamperOff_keeps | apply State.wdSync_keeps | apply KeepsOut.next
    | apply KeepsOut.ite | apply Keeps.foldl | apply Keeps.foldl1 | apply Keeps.foldl11 | apply Keeps.ite
    | apply Keeps.ite1 | dsimp only | split | refine Keeps.upd ?_

theorem execIslandWake_keeps {s : State} (i : Island) (ch : Fin 20) (t : State) (h : Keeps s t) :
    KeepsOut s (execIslandWake i ch t) := by
  unfold execIslandWake
  repeat' with_reducible first
    | assumption | intro _ | apply State.hold_keeps | apply State.wakeIsl_keeps | apply KeepsOut.next
    | apply KeepsOut.ite | apply Keeps.foldl | apply Keeps.foldl1 | apply Keeps.foldl11 | apply Keeps.ite
    | apply Keeps.ite1 | dsimp only | split | refine Keeps.upd ?_

theorem execIslandIdleStop_keeps {s : State} (i : Island) (loaded : Bool) (t : State) (h : Keeps s t) :
    KeepsOut s (execIslandIdleStop i loaded t) := by
  unfold execIslandIdleStop
  repeat' with_reducible first
    | assumption | intro _ | apply State.drainCr_keeps | apply State.loadComparator_keeps
    | apply State.startDrain_keeps | apply State.wdSync_keeps | apply State.inc_keeps | apply KeepsOut.next
    | apply KeepsOut.ite | apply Keeps.foldl | apply Keeps.foldl1 | apply Keeps.foldl11 | apply Keeps.ite
    | apply Keeps.ite1 | dsimp only | split | refine Keeps.upd ?_

theorem execIslandSupplyFail_keeps {s : State} (i : Island) (t : State) (h : Keeps s t) :
    KeepsOut s (execIslandSupplyFail i t) := by
  unfold execIslandSupplyFail
  repeat' with_reducible first
    | assumption | intro _ | apply State.leasesGone_keeps | apply State.holdsLost_keeps | apply State.cutOff_keeps
    | apply State.islDone_keeps | apply State.loseIsland_keeps | apply State.wdSync_keeps | apply State.setIsl_keeps
    | apply KeepsOut.next | apply KeepsOut.ite | apply Keeps.foldl | apply Keeps.foldl1 | apply Keeps.foldl11
    | apply Keeps.ite | apply Keeps.ite1 | dsimp only | split | refine Keeps.upd ?_

theorem execIslReqGate_keeps {s : State} (r : Req) (t : State) (h : Keeps s t) :
    KeepsOut s (execIslReqGate r t) := by
  unfold execIslReqGate
  repeat' with_reducible first
    | assumption | intro _ | apply State.islWrite_keeps | apply KeepsOut.next | apply KeepsOut.ite
    | apply Keeps.foldl | apply Keeps.foldl1 | apply Keeps.foldl11 | apply Keeps.ite | apply Keeps.ite1 | dsimp only
    | split | refine Keeps.upd ?_

theorem execIslReqReset_keeps {s : State} (r : Req) (t : State) (h : Keeps s t) :
    KeepsOut s (execIslReqReset r t) := by
  unfold execIslReqReset
  repeat' with_reducible first
    | assumption | intro _ | apply State.islWrite_keeps | apply KeepsOut.next | apply KeepsOut.ite
    | apply Keeps.foldl | apply Keeps.foldl1 | apply Keeps.foldl11 | apply Keeps.ite | apply Keeps.ite1 | dsimp only
    | split | refine Keeps.upd ?_

theorem execIslReqWithdraw_keeps {s : State} (r : Req) (t : State) (h : Keeps s t) :
    KeepsOut s (execIslReqWithdraw r t) := by
  unfold execIslReqWithdraw
  repeat' with_reducible first
    | assumption | intro _ | apply State.islWrite_keeps | apply KeepsOut.next | apply KeepsOut.ite
    | apply Keeps.foldl | apply Keeps.foldl1 | apply Keeps.foldl11 | apply Keeps.ite | apply Keeps.ite1 | dsimp only
    | split | refine Keeps.upd ?_

theorem execIslandHoldTake_keeps {s : State} (i : Island) (ms : Nat) (t : State) (h : Keeps s t) :
    KeepsOut s (execIslandHoldTake i ms t) := by
  unfold execIslandHoldTake
  repeat' with_reducible first
    | assumption | intro _ | apply KeepsOut.next | apply KeepsOut.ite | apply Keeps.foldl | apply Keeps.foldl1
    | apply Keeps.foldl11 | apply Keeps.ite | apply Keeps.ite1 | dsimp only | split | refine Keeps.upd ?_

theorem Keeps.holds {s u : State} (h : Keeps s u) (l : List (Island × Nat × Bool)) :
    Keeps s { u with isl := { u.isl with holds := l } } := Keeps.upd h

theorem execHoldExpirySignal_keeps {s : State} (i : Island) (t : State) (h : Keeps s t) :
    KeepsOut s (execHoldExpirySignal i t) := by
  unfold execHoldExpirySignal
  split
  · exact KeepsOut.next (Keeps.holds (State.reach_keeps _ _ h) _)
  · exact h

theorem execWakeComparatorWake_keeps {s : State} (t : State) (h : Keeps s t) :
    KeepsOut s (execWakeComparatorWake t) := by
  unfold execWakeComparatorWake
  repeat' with_reducible first
    | assumption | intro _ | apply State.comparator_keeps | apply State.over_keeps | apply State.reach_keeps
    | apply State.setIsl_keeps | apply KeepsOut.next | apply KeepsOut.ite | apply Keeps.foldl | apply Keeps.foldl1
    | apply Keeps.foldl11 | apply Keeps.ite | apply Keeps.ite1 | dsimp only | split | refine Keeps.upd ?_

end Sys2Proof.Machine
end

