-- ==== Sys2Proof/Laws/KeepsFirmware.lean ====
section
/-! SUPPORT. Every operation of Machine/Firmware.lean keeps what every command keeps (Safety.Keeps). -/
namespace Sys2Proof.Machine
open Host
set_option linter.all false
set_option Elab.async false

theorem State.setImage_keeps {s : State} (t : State) (i : Nat) (x : ImageSlot) (h : Keeps s t) :
    Keeps s (State.setImage t i x) := by
  unfold State.setImage
  repeat' with_reducible first
    | assumption | intro _ | apply Keeps.foldl | apply Keeps.foldl1 | apply Keeps.foldl11 | apply Keeps.ite
    | apply Keeps.ite1 | dsimp only | split | refine Keeps.upd ?_

theorem State.fwRecord_keeps {s : State} (t : State) (kind : Nat) (detail : Nat) (h : Keeps s t) :
    Keeps s (State.fwRecord t kind detail) := by
  unfold State.fwRecord
  repeat' with_reducible first
    | assumption | intro _ | apply State.stationRecord_keeps | apply Keeps.foldl | apply Keeps.foldl1
    | apply Keeps.foldl11 | apply Keeps.ite | apply Keeps.ite1 | dsimp only | split | refine Keeps.upd ?_

theorem State.chooseImage_keeps {s : State} (t : State) (slot : Nat) (mode : Nat) (h : Keeps s t) :
    Keeps s (State.chooseImage t slot mode) := by
  unfold State.chooseImage
  repeat' with_reducible first
    | assumption | intro _ | apply State.put_keeps | apply Keeps.foldl | apply Keeps.foldl1 | apply Keeps.foldl11
    | apply Keeps.ite | apply Keeps.ite1 | dsimp only | split | refine Keeps.upd ?_

theorem execBootSlotTry_keeps {s : State} (t : State) (h : Keeps s t) :
    KeepsOut s (execBootSlotTry t) := by
  unfold execBootSlotTry
  repeat' with_reducible first
    | assumption | intro _ | apply State.chooseImage_keeps | apply State.setSlotTrials_keeps
    | apply State.wdSync_keeps | apply KeepsOut.next | apply KeepsOut.ite | apply Keeps.foldl | apply Keeps.foldl1
    | apply Keeps.foldl11 | apply Keeps.ite | apply Keeps.ite1 | dsimp only | split | refine Keeps.upd ?_

theorem State.putSet_keeps {s : State} (t : State) (x : Nat) (v : ValueSet) (h : Keeps s t) :
    Keeps s (State.putSet t x v) := by
  unfold State.putSet
  repeat' with_reducible first
    | assumption | intro _ | apply Keeps.foldl | apply Keeps.foldl1 | apply Keeps.foldl11 | apply Keeps.ite
    | apply Keeps.ite1 | dsimp only | split | refine Keeps.upd ?_

theorem State.saveSet_keeps {s : State} (t : State) (h : Keeps s t) :
    Keeps s (State.saveSet t) := by
  unfold State.saveSet
  repeat' with_reducible first
    | assumption | intro _ | apply State.putSet_keeps | apply Keeps.foldl | apply Keeps.foldl1 | apply Keeps.foldl11
    | apply Keeps.ite | apply Keeps.ite1 | dsimp only | split | refine Keeps.upd ?_

theorem State.loadSet_keeps {s : State} (t : State) (x : Nat) (h : Keeps s t) :
    Keeps s (State.loadSet t x) := by
  unfold State.loadSet
  repeat' with_reducible first
    | assumption | intro _ | apply State.dropEls_keeps | apply State.putAll_keeps | apply Keeps.foldl
    | apply Keeps.foldl1 | apply Keeps.foldl11 | apply Keeps.ite | apply Keeps.ite1 | dsimp only | split
    | refine Keeps.upd ?_

theorem State.setEntry_keeps {s : State} (t : State) (x : Nat) (from_ : Nat) (into : Nat) (kind : Nat)
    (h : Keeps s t) :
    Keeps s (State.setEntry t x from_ into kind) := by
  unfold State.setEntry
  repeat' with_reducible first
    | assumption | intro _ | apply State.fwRecord_keeps | apply State.into_keeps | apply State.logKeeper_keeps
    | apply Keeps.foldl | apply Keeps.foldl1 | apply Keeps.foldl11 | apply Keeps.ite | apply Keeps.ite1 | dsimp only
    | split | refine Keeps.upd ?_

theorem State.useSet_keeps {s : State} (t : State) (x : Nat) (n : Nat) (h : Keeps s t) :
    Keeps s (State.useSet t x n) := by
  unfold State.useSet
  repeat' with_reducible first
    | assumption | intro _ | apply State.putSet_keeps | apply Keeps.foldl | apply Keeps.foldl1 | apply Keeps.foldl11
    | apply Keeps.ite | apply Keeps.ite1 | dsimp only | split | refine Keeps.upd ?_

theorem State.chooseSet_keeps {s : State} (t : State) (x : Nat) (h_ : Image) (h : Keeps s t) :
    Keeps s (State.chooseSet t x h_) := by
  unfold State.chooseSet
  repeat' with_reducible first
    | assumption | intro _ | apply State.useSet_keeps | apply State.setEntry_keeps | apply State.loadSet_keeps
    | apply State.saveSet_keeps | apply State.putSet_keeps | apply State.put_keeps | apply Keeps.foldl
    | apply Keeps.foldl1 | apply Keeps.foldl11 | apply Keeps.ite | apply Keeps.ite1 | dsimp only | split
    | refine Keeps.upd ?_

theorem State.advanceFloor_keeps {s : State} (t : State) (h : Keeps s t) :
    Keeps s (State.advanceFloor t) := by
  unfold State.advanceFloor
  repeat' with_reducible first
    | assumption | intro _ | apply State.fwRecord_keeps | apply State.logKeeper_keeps | apply State.put_keeps
    | apply Keeps.foldl | apply Keeps.foldl1 | apply Keeps.foldl11 | apply Keeps.ite | apply Keeps.ite1 | dsimp only
    | split | refine Keeps.upd ?_

theorem State.lowerOther_keeps {s : State} (t : State) (i : Nat) (h : Keeps s t) :
    Keeps s (State.lowerOther t i) := by
  unfold State.lowerOther
  repeat' with_reducible first
    | assumption | intro _ | apply State.setSlotState_keeps | apply Keeps.foldl | apply Keeps.foldl1
    | apply Keeps.foldl11 | apply Keeps.ite | apply Keeps.ite1 | dsimp only | split | refine Keeps.upd ?_

theorem State.confirm_keeps {s : State} (t : State) (i : Nat) (h_ : Image) (cid : Option Nat) (h : Keeps s t) :
    Keeps s (State.confirm t i h_ cid) := by
  unfold State.confirm
  repeat' with_reducible first
    | assumption | intro _ | apply State.lowerOther_keeps | apply State.advanceFloor_keeps
    | apply State.fwRecord_keeps | apply State.setSlotState_keeps | apply State.logKeeper_keeps
    | apply State.logStation_keeps | apply Keeps.foldl | apply Keeps.foldl1 | apply Keeps.foldl11 | apply Keeps.ite
    | apply Keeps.ite1 | dsimp only | split | refine Keeps.upd ?_

theorem State.trialReject_keeps {s : State} (t : State) (i : Nat) (h : Keeps s t) :
    Keeps s (State.trialReject t i) := by
  unfold State.trialReject
  repeat' with_reducible first
    | assumption | intro _ | apply State.fwRecord_keeps | apply State.setSlotTrials_keeps
    | apply State.setSlotState_keeps | apply State.logKeeper_keeps | apply State.put_keeps | apply Keeps.foldl
    | apply Keeps.foldl1 | apply Keeps.foldl11 | apply Keeps.ite | apply Keeps.ite1 | dsimp only | split
    | refine Keeps.upd ?_

theorem State.restoreLost_keeps {s : State} (t : State) (h : Keeps s t) :
    Keeps s (State.restoreLost t) := by
  unfold State.restoreLost
  repeat' with_reducible first
    | assumption | intro _ | apply State.repairEvent_keeps | apply State.dropEls_keeps | apply Keeps.foldl
    | apply Keeps.foldl1 | apply Keeps.foldl11 | apply Keeps.ite | apply Keeps.ite1 | dsimp only | split
    | refine Keeps.upd ?_

theorem State.startImage_keeps {s : State} (t : State) (h : Keeps s t) :
    Keeps s (State.startImage t) := by
  unfold State.startImage
  repeat' with_reducible first
    | assumption | intro _ | apply State.restoreLost_keeps | apply State.trialReject_keeps
    | apply State.advanceFloor_keeps | apply State.chooseSet_keeps | apply State.put_keeps | apply Keeps.foldl
    | apply Keeps.foldl1 | apply Keeps.foldl11 | apply Keeps.ite | apply Keeps.ite1 | dsimp only | split
    | refine Keeps.upd ?_

theorem State.imageWay_keeps {s : State} (t : State) (cmd : Instr) (r : Req) (mine : Nat → Bool)
    (eff : State → Nat → Nat → State × Stat) (after : State → State) (h : Keeps s t)
    (heff : ∀ u a0 a1, Keeps s u → Keeps s (eff u a0 a1).1) (hafter : ∀ u, Keeps s u → Keeps s (after u)) :
    Keeps s (State.imageWay t cmd r mine eff after) := by
  unfold State.imageWay
  repeat' with_reducible first
    | assumption | intro _ | apply heff | apply hafter | apply State.retryLater_keeps | apply State.holdRequest_keeps
    | apply State.accept_keeps | (refine Admit.of_go ?_ (by assumption); apply State.accept_keeps)
    | (refine Admit.of_done ?_ (by assumption); apply State.accept_keeps)
    | (refine Admit.of_wait ?_ (by assumption); apply State.accept_keeps) | apply State.into_keeps
    | apply State.finish_keeps | apply State.put_keeps | apply Keeps.foldl | apply Keeps.foldl1 | apply Keeps.foldl11
    | apply Keeps.ite | apply Keeps.ite1 | dsimp only | split | refine Keeps.upd ?_

theorem State.imageBegin_keeps {s : State} (t : State) (c : Nat) (i : Nat) (h : Keeps s t) :
    Keeps s (State.imageBegin t c i).1 := by
  unfold State.imageBegin
  repeat' with_reducible first
    | assumption | intro _ | apply State.setImage_keeps | apply State.endSession_keeps
    | apply State.setSlotState_keeps | apply State.logStation_keeps | apply State.put_keeps | apply Keeps.foldl
    | apply Keeps.foldl1 | apply Keeps.foldl11 | apply Keeps.ite | apply Keeps.ite1 | dsimp only | split
    | refine Keeps.upd ?_

theorem State.imageData_keeps {s : State} (t : State) (c : Nat) (i : Nat) (n : Nat) (d : Bytes) (h : Keeps s t) :
    Keeps s (State.imageData t c i n d).1 := by
  unfold State.imageData
  repeat' with_reducible first
    | assumption | intro _ | apply State.setImage_keeps | apply State.programmed_keeps | apply State.cycle_keeps
    | apply State.put_keeps | apply Keeps.foldl | apply Keeps.foldl1 | apply Keeps.foldl11 | apply Keeps.ite
    | apply Keeps.ite1 | dsimp only | split | refine Keeps.upd ?_

theorem State.imageRefused_keeps {s : State} (t : State) (c : Nat) (i : Nat) (st : Stat) (h : Keeps s t) :
    Keeps s (State.imageRefused t c i st).1 := by
  unfold State.imageRefused
  repeat' with_reducible first
    | assumption | intro _ | apply State.fwRecord_keeps | apply State.endSession_keeps | apply State.logStation_keeps
    | apply Keeps.foldl | apply Keeps.foldl1 | apply Keeps.foldl11 | apply Keeps.ite | apply Keeps.ite1 | dsimp only
    | split | refine Keeps.upd ?_

theorem State.imageFinish_keeps {s : State} (t : State) (c : Nat) (i : Nat) (h : Keeps s t) :
    Keeps s (State.imageFinish t c i).1 := by
  unfold State.imageFinish
  repeat' with_reducible first
    | assumption | intro _ | apply State.imageRefused_keeps | apply State.fwRecord_keeps
    | apply State.endSession_keeps | apply State.logStation_keeps | apply State.put_keeps | apply Keeps.foldl
    | apply Keeps.foldl1 | apply Keeps.foldl11 | apply Keeps.ite | apply Keeps.ite1 | dsimp only | split
    | refine Keeps.upd ?_

theorem State.imageAbort_keeps {s : State} (t : State) (c : Nat) (i : Nat) (h : Keeps s t) :
    Keeps s (State.imageAbort t c i).1 := by
  unfold State.imageAbort
  repeat' with_reducible first
    | assumption | intro _ | apply State.endSession_keeps | apply Keeps.foldl | apply Keeps.foldl1
    | apply Keeps.foldl11 | apply Keeps.ite | apply Keeps.ite1 | dsimp only | split | refine Keeps.upd ?_

theorem State.imageActivate_keeps {s : State} (t : State) (c : Nat) (i : Nat) (force : Bool) (h : Keeps s t) :
    Keeps s (State.imageActivate t c i force).1 := by
  unfold State.imageActivate
  repeat' with_reducible first
    | assumption | intro _ | apply State.fwRecord_keeps | apply State.setSlotTrials_keeps
    | apply State.setSlotState_keeps | apply State.logStation_keeps | apply State.put_keeps | apply Keeps.foldl
    | apply Keeps.foldl1 | apply Keeps.foldl11 | apply Keeps.ite | apply Keeps.ite1 | dsimp only | split
    | refine Keeps.upd ?_

theorem State.imageConfirm_keeps {s : State} (t : State) (c : Nat) (h : Keeps s t) :
    Keeps s (State.imageConfirm t c).1 := by
  unfold State.imageConfirm
  repeat' with_reducible first
    | assumption | intro _ | apply State.confirm_keeps | apply Keeps.foldl | apply Keeps.foldl1 | apply Keeps.foldl11
    | apply Keeps.ite | apply Keeps.ite1 | dsimp only | split | refine Keeps.upd ?_

theorem execImageBegin_keeps {s : State} (r : Req) (t : State) (h : Keeps s t) :
    KeepsOut s (execImageBegin r t) := by
  unfold execImageBegin
  repeat' with_reducible first
    | assumption | intro _ | apply State.imageBegin_keeps | apply State.imageWay_keeps | apply KeepsOut.next
    | apply KeepsOut.ite | apply Keeps.foldl | apply Keeps.foldl1 | apply Keeps.foldl11 | apply Keeps.ite
    | apply Keeps.ite1 | dsimp only | split | dsimp only [id] | refine Keeps.upd ?_

theorem execImageData_keeps {s : State} (r : Req) (t : State) (h : Keeps s t) :
    KeepsOut s (execImageData r t) := by
  unfold execImageData
  repeat' with_reducible first
    | assumption | intro _ | apply State.imageData_keeps | apply State.imageWay_keeps | apply KeepsOut.next
    | apply KeepsOut.ite | apply Keeps.foldl | apply Keeps.foldl1 | apply Keeps.foldl11 | apply Keeps.ite
    | apply Keeps.ite1 | dsimp only | split | dsimp only [id] | refine Keeps.upd ?_

theorem execImageFinish_keeps {s : State} (r : Req) (t : State) (h : Keeps s t) :
    KeepsOut s (execImageFinish r t) := by
  unfold execImageFinish
  repeat' with_reducible first
    | assumption | intro _ | apply State.imageFinish_keeps | apply State.imageWay_keeps | apply KeepsOut.next
    | apply KeepsOut.ite | apply Keeps.foldl | apply Keeps.foldl1 | apply Keeps.foldl11 | apply Keeps.ite
    | apply Keeps.ite1 | dsimp only | split | dsimp only [id] | refine Keeps.upd ?_

theorem execImageAbort_keeps {s : State} (r : Req) (t : State) (h : Keeps s t) :
    KeepsOut s (execImageAbort r t) := by
  unfold execImageAbort
  repeat' with_reducible first
    | assumption | intro _ | apply State.imageAbort_keeps | apply State.imageWay_keeps | apply KeepsOut.next
    | apply KeepsOut.ite | apply Keeps.foldl | apply Keeps.foldl1 | apply Keeps.foldl11 | apply Keeps.ite
    | apply Keeps.ite1 | dsimp only | split | dsimp only [id] | refine Keeps.upd ?_

theorem State.activated_keeps {s : State} (t : State) (h : Keeps s t) :
    Keeps s (State.activated t) := by
  unfold State.activated
  repeat' with_reducible first
    | assumption | intro _ | apply State.drainCr_keeps | apply Keeps.foldl | apply Keeps.foldl1 | apply Keeps.foldl11
    | apply Keeps.ite | apply Keeps.ite1 | dsimp only | split | refine Keeps.upd ?_

theorem execImageActivate_keeps {s : State} (r : Req) (t : State) (h : Keeps s t) :
    KeepsOut s (execImageActivate r t) := by
  unfold execImageActivate
  repeat' with_reducible first
    | assumption | intro _ | apply State.activated_keeps | apply State.imageActivate_keeps
    | apply State.imageWay_keeps | apply State.wdSync_keeps | apply KeepsOut.next | apply KeepsOut.ite
    | apply Keeps.foldl | apply Keeps.foldl1 | apply Keeps.foldl11 | apply Keeps.ite | apply Keeps.ite1 | dsimp only
    | split | refine Keeps.upd ?_

theorem execImageConfirm_keeps {s : State} (r : Req) (t : State) (h : Keeps s t) :
    KeepsOut s (execImageConfirm r t) := by
  unfold execImageConfirm
  repeat' with_reducible first
    | assumption | intro _ | apply State.imageConfirm_keeps | apply State.imageWay_keeps | apply KeepsOut.next
    | apply KeepsOut.ite | apply Keeps.foldl | apply Keeps.foldl1 | apply Keeps.foldl11 | apply Keeps.ite
    | apply Keeps.ite1 | dsimp only | split | dsimp only [id] | refine Keeps.upd ?_

theorem execFwAutoConfirm_keeps {s : State} (t : State) (h : Keeps s t) :
    KeepsOut s (execFwAutoConfirm t) := by
  unfold execFwAutoConfirm
  repeat' with_reducible first
    | assumption | intro _ | apply State.confirm_keeps | apply State.reach_keeps | apply KeepsOut.next
    | apply KeepsOut.ite | apply Keeps.foldl | apply Keeps.foldl1 | apply Keeps.foldl11 | apply Keeps.ite
    | apply Keeps.ite1 | dsimp only | split | refine Keeps.upd ?_

theorem execFwSessionTimeout_keeps {s : State} (t : State) (h : Keeps s t) :
    KeepsOut s (execFwSessionTimeout t) := by
  unfold execFwSessionTimeout
  repeat' with_reducible first
    | assumption | intro _ | apply State.endSession_keeps | apply State.reach_keeps | apply KeepsOut.next
    | apply KeepsOut.ite | apply Keeps.foldl | apply Keeps.foldl1 | apply Keeps.foldl11 | apply Keeps.ite
    | apply Keeps.ite1 | dsimp only | split | refine Keeps.upd ?_

end Sys2Proof.Machine
end

