-- ==== Sys2Proof/Laws/KeepsTime.lean ====
section
/-! SUPPORT. Every operation of Machine/Time.lean keeps what every command keeps (Safety.Keeps). -/
namespace Sys2Proof.Machine
open Host
set_option linter.all false
set_option Elab.async false

theorem State.refRecord_keeps {s : State} (t : State) (kind : Nat) (h : Keeps s t) :
    Keeps s (State.refRecord t kind) := by
  unfold State.refRecord
  repeat' with_reducible first
    | assumption | intro _ | apply State.stationRecord_keeps | apply Keeps.foldl | apply Keeps.foldl1
    | apply Keeps.foldl11 | apply Keeps.ite | apply Keeps.ite1 | dsimp only | split | refine Keeps.upd ?_

theorem State.leapCheck_keeps {s : State} (t : State) (h : Keeps s t) :
    Keeps s (State.leapCheck t) := by
  unfold State.leapCheck
  repeat' with_reducible first
    | assumption | intro _ | apply State.refRecord_keeps | apply Keeps.foldl | apply Keeps.foldl1
    | apply Keeps.foldl11 | apply Keeps.ite | apply Keeps.ite1 | dsimp only | split | refine Keeps.upd ?_

theorem State.slewMore_keeps {s : State} (t : State) (ns : Int) (h : Keeps s t) :
    Keeps s (State.slewMore t ns) := by
  unfold State.slewMore
  repeat' with_reducible first
    | assumption | intro _ | apply State.steer_keeps | apply State.putS_keeps | apply Keeps.foldl
    | apply Keeps.foldl1 | apply Keeps.foldl11 | apply Keeps.ite | apply Keeps.ite1 | dsimp only | split
    | refine Keeps.upd ?_

theorem State.slewBy_keeps {s : State} (t : State) (ns : Int) (h : Keeps s t) :
    Keeps s (State.slewBy t ns) := by
  unfold State.slewBy
  repeat' with_reducible first
    | assumption | intro _ | apply State.slewMore_keeps | apply Keeps.foldl | apply Keeps.foldl1
    | apply Keeps.foldl11 | apply Keeps.ite | apply Keeps.ite1 | dsimp only | split | refine Keeps.upd ?_

theorem State.slewAdd_keeps {s : State} (t : State) (v : Nat) (h : Keeps s t) :
    Keeps s (State.slewAdd t v).1 := by
  unfold State.slewAdd
  repeat' with_reducible first
    | assumption | intro _ | apply State.slewMore_keeps | apply Keeps.foldl | apply Keeps.foldl1
    | apply Keeps.foldl11 | apply Keeps.ite | apply Keeps.ite1 | dsimp only | split | refine Keeps.upd ?_

theorem State.sendStep_keeps {s : State} (t : State) (d : Int) (a : Nat) (forced : Bool) (ok : Bool) (h : Keeps s t) :
    Keeps s (State.sendStep t d a forced ok) := by
  unfold State.sendStep
  repeat' with_reducible first
    | assumption | intro _ | apply State.emit_keeps | apply Keeps.foldl | apply Keeps.foldl1 | apply Keeps.foldl11
    | apply Keeps.ite | apply Keeps.ite1 | dsimp only | split | refine Keeps.upd ?_

theorem State.requestStep_keeps {s : State} (t : State) (d : Int) (forced : Bool) (set : Bool) (cid : Nat)
    (keeper : Bool) (peer : Option Nat) (h : Keeps s t) :
    Keeps s (State.requestStep t d forced set cid keeper peer).1 := by
  unfold State.requestStep
  repeat' with_reducible first
    | assumption | intro _ | apply State.sendStep_keeps | apply State.put_keeps | apply Keeps.foldl
    | apply Keeps.foldl1 | apply Keeps.foldl11 | apply Keeps.ite | apply Keeps.ite1 | dsimp only | split
    | refine Keeps.upd ?_

theorem State.timeStep_keeps {s : State} (t : State) (w : Who) (v : Nat) (forced : Bool) (peer : Option Nat)
    (h : Keeps s t) :
    Keeps s (State.timeStep t w v forced peer).1 := by
  unfold State.timeStep
  repeat' with_reducible first
    | assumption | intro _ | apply State.requestStep_keeps | apply Keeps.foldl | apply Keeps.foldl1
    | apply Keeps.foldl11 | apply Keeps.ite | apply Keeps.ite1 | dsimp only | split | refine Keeps.upd ?_

theorem State.timeSet_keeps {s : State} (t : State) (w : Who) (v : Nat) (peer : Option Nat) (h : Keeps s t) :
    Keeps s (State.timeSet t w v peer).1 := by
  unfold State.timeSet
  repeat' with_reducible first
    | assumption | intro _ | apply State.requestStep_keeps | apply Keeps.foldl | apply Keeps.foldl1
    | apply Keeps.foldl11 | apply Keeps.ite | apply Keeps.ite1 | dsimp only | split | refine Keeps.upd ?_

theorem execSlewAddWrite_keeps {s : State} (r : Req) (t : State) (h : Keeps s t) :
    KeepsOut s (execSlewAddWrite r t) := by
  unfold execSlewAddWrite
  repeat' with_reducible first
    | assumption | intro _ | apply State.slewAdd_keeps | apply atOnce_keeps | apply State.ownWrite_keeps
    | apply KeepsOut.next | apply KeepsOut.ite | apply Keeps.foldl | apply Keeps.foldl1 | apply Keeps.foldl11
    | apply Keeps.ite | apply Keeps.ite1 | dsimp only | split | refine Keeps.upd ?_

theorem execSlewComplete_keeps {s : State} (t : State) (h : Keeps s t) :
    KeepsOut s (execSlewComplete t) := by
  unfold execSlewComplete
  repeat' with_reducible first
    | assumption | intro _ | apply State.reach_keeps | apply State.steer_keeps | apply State.setSlew_keeps
    | apply State.setCorr_keeps | apply KeepsOut.next | apply KeepsOut.ite | apply Keeps.foldl | apply Keeps.foldl1
    | apply Keeps.foldl11 | apply Keeps.ite | apply Keeps.ite1 | dsimp only | split | refine Keeps.upd ?_

theorem execTimeStepWrite_keeps {s : State} (r : Req) (peer : Option Nat) (t : State) (h : Keeps s t) :
    KeepsOut s (execTimeStepWrite r peer t) := by
  unfold execTimeStepWrite
  repeat' with_reducible first
    | assumption | intro _ | apply State.timeStep_keeps | apply atOnce_keeps | apply State.ownWrite_keeps
    | apply KeepsOut.next | apply KeepsOut.ite | apply Keeps.foldl | apply Keeps.foldl1 | apply Keeps.foldl11
    | apply Keeps.ite | apply Keeps.ite1 | dsimp only | split | refine Keeps.upd ?_

theorem execTimeStepFWrite_keeps {s : State} (r : Req) (peer : Option Nat) (t : State) (h : Keeps s t) :
    KeepsOut s (execTimeStepFWrite r peer t) := by
  unfold execTimeStepFWrite
  repeat' with_reducible first
    | assumption | intro _ | apply State.timeStep_keeps | apply atOnce_keeps | apply State.ownWrite_keeps
    | apply KeepsOut.next | apply KeepsOut.ite | apply Keeps.foldl | apply Keeps.foldl1 | apply Keeps.foldl11
    | apply Keeps.ite | apply Keeps.ite1 | dsimp only | split | refine Keeps.upd ?_

theorem execTimeSetWrite_keeps {s : State} (r : Req) (peer : Option Nat) (t : State) (h : Keeps s t) :
    KeepsOut s (execTimeSetWrite r peer t) := by
  unfold execTimeSetWrite
  repeat' with_reducible first
    | assumption | intro _ | apply State.timeSet_keeps | apply atOnce_keeps | apply State.ownWrite_keeps
    | apply KeepsOut.next | apply KeepsOut.ite | apply Keeps.foldl | apply Keeps.foldl1 | apply Keeps.foldl11
    | apply Keeps.ite | apply Keeps.ite1 | dsimp only | split | refine Keeps.upd ?_

theorem execStepWithdraw_keeps {s : State} (r : Req) (t : State) (h : Keeps s t) :
    KeepsOut s (execStepWithdraw r t) := by
  unfold execStepWithdraw
  repeat' with_reducible first
    | assumption | intro _ | apply State.timeStep_keeps | apply atOnce_keeps | apply State.ownWrite_keeps
    | apply KeepsOut.next | apply KeepsOut.ite | apply Keeps.foldl | apply Keeps.foldl1 | apply Keeps.foldl11
    | apply Keeps.ite | apply Keeps.ite1 | dsimp only | split | refine Keeps.upd ?_

theorem execRangeEndReached_keeps {s : State} (t : State) (h : Keeps s t) :
    KeepsOut s (execRangeEndReached t) := by
  unfold execRangeEndReached
  repeat' with_reducible first
    | assumption | intro _ | apply State.refRecord_keeps | apply State.setTime_keeps | apply KeepsOut.next
    | apply KeepsOut.ite | apply Keeps.foldl | apply Keeps.foldl1 | apply Keeps.foldl11 | apply Keeps.ite
    | apply Keeps.ite1 | dsimp only | split | refine Keeps.upd ?_

theorem execLeapTableExpired_keeps {s : State} (t : State) (h : Keeps s t) :
    KeepsOut s (execLeapTableExpired t) := by
  unfold execLeapTableExpired
  repeat' with_reducible first
    | assumption | intro _ | apply State.reach_keeps | apply KeepsOut.next | apply KeepsOut.ite | apply Keeps.foldl
    | apply Keeps.foldl1 | apply Keeps.foldl11 | apply Keeps.ite | apply Keeps.ite1 | dsimp only | split
    | refine Keeps.upd ?_

end Sys2Proof.Machine
end

