-- ==== Sys2Proof/Laws/KeepsPower.lean ====
section
/-! SUPPORT. Every operation of Machine/Power.lean keeps what every command keeps (Safety.Keeps). -/
namespace Sys2Proof.Machine
open Host
set_option linter.all false
set_option Elab.async false

theorem State.powerRecord_keeps {s : State} (t : State) (kind : Nat) (detail : Nat) (h : Keeps s t) :
    Keeps s (State.powerRecord t kind detail) := by
  unfold State.powerRecord
  repeat' with_reducible first
    | assumption | intro _ | apply State.powerEvent_keeps | apply Keeps.foldl | apply Keeps.foldl1
    | apply Keeps.foldl11 | apply Keeps.ite | apply Keeps.ite1 | dsimp only | split | refine Keeps.upd ?_

theorem State.stopConverter_keeps {s : State} (t : State) (h : Keeps s t) :
    Keeps s (State.stopConverter t) := by
  unfold State.stopConverter
  repeat' with_reducible first
    | assumption | intro _ | apply State.reshow_keeps | apply State.ruleShown_keeps | apply State.safety_keeps
    | apply Keeps.foldl | apply Keeps.foldl1 | apply Keeps.foldl11 | apply Keeps.ite | apply Keeps.ite1 | dsimp only
    | split | refine Keeps.upd ?_

theorem State.readVin_keeps {s : State} (t : State) (vin : Nat) (h : Keeps s t) :
    Keeps s (State.readVin t vin) := by
  unfold State.readVin
  repeat' with_reducible first
    | assumption | intro _ | apply State.put_keeps | apply Keeps.foldl | apply Keeps.foldl1 | apply Keeps.foldl11
    | apply Keeps.ite | apply Keeps.ite1 | dsimp only | split | refine Keeps.upd ?_

theorem State.readVsys_keeps {s : State} (t : State) (vsys : Nat) (h : Keeps s t) :
    Keeps s (State.readVsys t vsys) := by
  unfold State.readVsys
  repeat' with_reducible first
    | assumption | intro _ | apply State.put_keeps | apply Keeps.foldl | apply Keeps.foldl1 | apply Keeps.foldl11
    | apply Keeps.ite | apply Keeps.ite1 | dsimp only | split | refine Keeps.upd ?_

theorem State.readBus_keeps {s : State} (t : State) (vin : Nat) (vsys : Nat) (h : Keeps s t) :
    Keeps s (State.readBus t vin vsys) := by
  unfold State.readBus
  repeat' with_reducible first
    | assumption | intro _ | apply State.readVsys_keeps | apply State.readVin_keeps | apply Keeps.foldl
    | apply Keeps.foldl1 | apply Keeps.foldl11 | apply Keeps.ite | apply Keeps.ite1 | dsimp only | split
    | refine Keeps.upd ?_

theorem State.chgGo_keeps {s : State} (t : State) (c : Nat) (cause : Nat) (h : Keeps s t) :
    Keeps s (State.chgGo t c cause) := by
  unfold State.chgGo
  repeat' with_reducible first
    | assumption | intro _ | apply State.powerRecord_keeps | apply State.put_keeps | apply Keeps.foldl
    | apply Keeps.foldl1 | apply Keeps.foldl11 | apply Keeps.ite | apply Keeps.ite1 | dsimp only | split
    | refine Keeps.upd ?_

theorem State.evaluate_keeps {s : State} (t : State) (h : Keeps s t) :
    Keeps s (State.evaluate t) := by
  unfold State.evaluate
  repeat' with_reducible first
    | assumption | intro _ | apply State.chgGo_keeps | apply Keeps.foldl | apply Keeps.foldl1 | apply Keeps.foldl11
    | apply Keeps.ite | apply Keeps.ite1 | dsimp only | split | refine Keeps.upd ?_

theorem State.chgStep_keeps {s : State} (t : State) (ntcFault : Bool) (ibat : Int) (longAbsorb : Bool)
    (h : Keeps s t) :
    Keeps s (State.chgStep t ntcFault ibat longAbsorb) := by
  unfold State.chgStep
  repeat' with_reducible first
    | assumption | intro _ | apply State.evaluate_keeps | apply State.chgGo_keeps | apply State.stopConverter_keeps
    | apply Keeps.foldl | apply Keeps.foldl1 | apply Keeps.foldl11 | apply Keeps.ite | apply Keeps.ite1 | dsimp only
    | split | refine Keeps.upd ?_

theorem State.readTemp_keeps {s : State} (t : State) (temp : Int) (ntcFault : Bool) (h : Keeps s t) :
    Keeps s (State.readTemp t temp ntcFault) := by
  unfold State.readTemp
  repeat' with_reducible first
    | assumption | intro _ | apply State.putS_keeps | apply State.put_keeps | apply Keeps.foldl | apply Keeps.foldl1
    | apply Keeps.foldl11 | apply Keeps.ite | apply Keeps.ite1 | dsimp only | split | refine Keeps.upd ?_

theorem execChargeTransition_keeps {s : State} (vin : Nat) (vsys : Nat) (temp : Int) (ntcFault : Bool) (ibat : Int)
    (longAbsorb : Bool) (t : State) (h : Keeps s t) :
    KeepsOut s (execChargeTransition vin vsys temp ntcFault ibat longAbsorb t) := by
  unfold execChargeTransition
  repeat' with_reducible first
    | assumption | intro _ | apply State.readTemp_keeps | apply State.chgStep_keeps | apply State.readBus_keeps
    | apply State.putS_keeps | apply KeepsOut.next | apply KeepsOut.ite | apply Keeps.foldl | apply Keeps.foldl1
    | apply Keeps.foldl11 | apply Keeps.ite | apply Keeps.ite1 | dsimp only | split | refine Keeps.upd ?_

theorem execVinOvervoltage_keeps {s : State} (vin : Nat) (t : State) (h : Keeps s t) :
    KeepsOut s (execVinOvervoltage vin t) := by
  unfold execVinOvervoltage
  repeat' with_reducible first
    | assumption | intro _ | apply State.chgGo_keeps | apply State.readVin_keeps | apply State.stopConverter_keeps
    | apply KeepsOut.next | apply KeepsOut.ite | apply Keeps.foldl | apply Keeps.foldl1 | apply Keeps.foldl11
    | apply Keeps.ite | apply Keeps.ite1 | dsimp only | split | refine Keeps.upd ?_

theorem execVsysOvervoltage_keeps {s : State} (vsys : Nat) (t : State) (h : Keeps s t) :
    KeepsOut s (execVsysOvervoltage vsys t) := by
  unfold execVsysOvervoltage
  repeat' with_reducible first
    | assumption | intro _ | apply State.chgGo_keeps | apply State.readVsys_keeps | apply State.stopConverter_keeps
    | apply KeepsOut.next | apply KeepsOut.ite | apply Keeps.foldl | apply Keeps.foldl1 | apply Keeps.foldl11
    | apply Keeps.ite | apply Keeps.ite1 | dsimp only | split | refine Keeps.upd ?_

theorem execConverterVinLowStop_keeps {s : State} (vin : Nat) (vsys : Nat) (t : State) (h : Keeps s t) :
    KeepsOut s (execConverterVinLowStop vin vsys t) := by
  unfold execConverterVinLowStop
  repeat' with_reducible first
    | assumption | intro _ | apply State.readBus_keeps | apply State.stopConverter_keeps | apply KeepsOut.next
    | apply KeepsOut.ite | apply Keeps.foldl | apply Keeps.foldl1 | apply Keeps.foldl11 | apply Keeps.ite
    | apply Keeps.ite1 | dsimp only | split | refine Keeps.upd ?_

theorem execPrechargeTimeout_keeps {s : State} (t : State) (h : Keeps s t) :
    KeepsOut s (execPrechargeTimeout t) := by
  unfold execPrechargeTimeout
  repeat' with_reducible first
    | assumption | intro _ | apply State.chgGo_keeps | apply KeepsOut.next | apply KeepsOut.ite | apply Keeps.foldl
    | apply Keeps.foldl1 | apply Keeps.foldl11 | apply Keeps.ite | apply Keeps.ite1 | dsimp only | split
    | refine Keeps.upd ?_

theorem State.chgClear_keeps {s : State} (t : State) (v : Nat) (h : Keeps s t) :
    Keeps s (State.chgClear t v).1 := by
  unfold State.chgClear
  repeat' with_reducible first
    | assumption | intro _ | apply State.evaluate_keeps | apply Keeps.foldl | apply Keeps.foldl1
    | apply Keeps.foldl11 | apply Keeps.ite | apply Keeps.ite1 | dsimp only | split | refine Keeps.upd ?_

theorem execChgClearWrite_keeps {s : State} (r : Req) (t : State) (h : Keeps s t) :
    KeepsOut s (execChgClearWrite r t) := by
  unfold execChgClearWrite
  repeat' with_reducible first
    | assumption | intro _ | apply State.chgClear_keeps | apply atOnce_keeps | apply State.ownWrite_keeps
    | apply KeepsOut.next | apply KeepsOut.ite | apply Keeps.foldl | apply Keeps.foldl1 | apply Keeps.foldl11
    | apply Keeps.ite | apply Keeps.ite1 | dsimp only | split | refine Keeps.upd ?_

theorem State.converterRuns_keeps {s : State} (t : State) (h : Keeps s t) :
    Keeps s (State.converterRuns t) := by
  unfold State.converterRuns
  repeat' with_reducible first
    | assumption | intro _ | apply State.ruleShown_keeps | apply State.safety_keeps | apply Keeps.foldl
    | apply Keeps.foldl1 | apply Keeps.foldl11 | apply Keeps.ite | apply Keeps.ite1 | dsimp only | split
    | refine Keeps.upd ?_

theorem execL5Evaluate_keeps {s : State} (vin : Nat) (vsys : Nat) (ichg : Nat) (limited : Bool) (t : State) (h : Keeps s t) :
    KeepsOut s (execL5Evaluate vin vsys ichg limited t) := by
  unfold execL5Evaluate
  apply KeepsOut.ite_next h
  have h1 : Keeps s ((t.readBus vin vsys).put Reg.PV_MW
      (if (t.readBus vin vsys).pwr.on then min (vsys * ichg / 1000) (2 ^ 32 - 1) else 0)) :=
    State.put_keeps _ _ _ (State.readBus_keeps _ _ _ h)
  have h2 := State.converterRuns_keeps _ h1
  extract_lets
  apply KeepsOut.ite_next (State.reshow_keeps _ _ _ _ h1)
  apply KeepsOut.ite_next (State.showLoop_keeps _ _ _ _ _ _ h1)
  apply KeepsOut.ite_next (State.reshow_keeps _ _ _ _ h1)
  apply KeepsOut.next
  apply State.showLoop_keeps
  refine Keeps.pwr ?_ _
  exact Keeps.ite (State.put_keeps _ _ _ h2) h2

theorem execMpptSweep_keeps {s : State} (voc : Nat) (best : Nat) (t : State) (h : Keeps s t) :
    KeepsOut s (execMpptSweep voc best t) := by
  unfold execMpptSweep
  repeat' with_reducible first
    | assumption | intro _ | apply State.powerRecord_keeps | apply State.showLoop_keeps | apply State.fence_keeps
    | apply State.put_keeps | apply KeepsOut.next | apply KeepsOut.ite | apply Keeps.foldl | apply Keeps.foldl1
    | apply Keeps.foldl11 | apply Keeps.ite | apply Keeps.ite1 | dsimp only | split | refine Keeps.upd ?_

theorem State.countCharge_keeps {s : State} (t : State) (q : Int) (h : Keeps s t) :
    Keeps s (State.countCharge t q) := by
  unfold State.countCharge
  repeat' with_reducible first
    | assumption | intro _ | apply State.put_keeps | apply Keeps.foldl | apply Keeps.foldl1 | apply Keeps.foldl11
    | apply Keeps.ite | apply Keeps.ite1 | dsimp only | split | refine Keeps.upd ?_

theorem execL6Evaluate_keeps {s : State} (ib : Int) (devMw : Nat) (t : State) (h : Keeps s t) :
    KeepsOut s (execL6Evaluate ib devMw t) := by
  unfold execL6Evaluate
  apply KeepsOut.ite_next h
  extract_lets s1 heat net src s2 rules s3
  have h3 : Keeps s s3 := State.safety_keeps _ _ _ (State.ruleShown_keeps _ _ _
    (Keeps.pwr (State.countCharge_keeps _ _ (State.put_keeps _ _ _ (State.putS_keeps _ _ _ _ h))) _))
  clear_value s3
  apply KeepsOut.ite_next (State.reshow_keeps _ _ _ _ h3)
  have h5 : ∀ p b c n v, Keeps s (State.fence { s3.put n v with pwr := p } 6 b c) := fun p b c n v =>
    State.fence_keeps _ _ _ _ (Keeps.pwr (State.put_keeps _ _ _ h3) p)
  exact KeepsOut.next (State.showLoop_keeps _ _ _ _ _ _ (Keeps.ite (State.powerRecord_keeps _ _ _ (h5 _ _ _ _ _)) (h5 _ _ _ _ _)))

theorem execL7Evaluate_keeps {s : State} (temp : Int) (ntcFault : Bool) (t : State) (h : Keeps s t) :
    KeepsOut s (execL7Evaluate temp ntcFault t) := by
  unfold execL7Evaluate
  repeat' with_reducible first
    | assumption | intro _ | apply State.readTemp_keeps | apply State.powerRecord_keeps | apply State.reshow_keeps
    | apply State.showLoop_keeps | apply State.fence_keeps | apply KeepsOut.next | apply KeepsOut.ite
    | apply Keeps.foldl | apply Keeps.foldl1 | apply Keeps.foldl11 | apply Keeps.ite | apply Keeps.ite1 | dsimp only
    | split | refine Keeps.upd ?_

theorem execSocRestCorrection_keeps {s : State} (vsys : Nat) (t : State) (h : Keeps s t) :
    KeepsOut s (execSocRestCorrection vsys t) := by
  unfold execSocRestCorrection
  repeat' with_reducible first
    | assumption | intro _ | apply State.readVsys_keeps | apply State.drawn_keeps | apply State.put_keeps
    | apply KeepsOut.next | apply KeepsOut.ite | apply Keeps.foldl | apply Keeps.foldl1 | apply Keeps.foldl11
    | apply Keeps.ite | apply Keeps.ite1 | dsimp only | split | refine Keeps.upd ?_

theorem State.closeHours_keeps {s : State} (t : State) (h : Keeps s t) :
    Keeps s (State.closeHours t) := by
  unfold State.closeHours
  repeat' with_reducible first
    | assumption | intro _ | apply State.put_keeps | apply Keeps.foldl | apply Keeps.foldl1 | apply Keeps.foldl11
    | apply Keeps.ite | apply Keeps.ite1 | dsimp only | split | refine Keeps.upd ?_

theorem execHourBoundary_keeps {s : State} (t : State) (h : Keeps s t) :
    KeepsOut s (execHourBoundary t) := by
  unfold execHourBoundary
  repeat' with_reducible first
    | assumption | intro _ | apply State.closeHours_keeps | apply State.pass_keeps | apply State.budget_keeps
    | apply State.cross_keeps | apply State.reach_keeps | apply KeepsOut.next | apply KeepsOut.ite
    | apply Keeps.foldl | apply Keeps.foldl1 | apply Keeps.foldl11 | apply Keeps.ite | apply Keeps.ite1 | dsimp only
    | split | refine Keeps.upd ?_

theorem execBudgetCompute_keeps {s : State} (t : State) (h : Keeps s t) :
    KeepsOut s (execBudgetCompute t) := by
  unfold execBudgetCompute
  repeat' with_reducible first
    | assumption | intro _ | apply State.pass_keeps | apply State.budget_keeps | apply KeepsOut.next
    | apply KeepsOut.ite | apply Keeps.foldl | apply Keeps.foldl1 | apply Keeps.foldl11 | apply Keeps.ite
    | apply Keeps.ite1 | dsimp only | split | refine Keeps.upd ?_

theorem execBatAlarmChange_keeps {s : State} (vsys : Nat) (t : State) (h : Keeps s t) :
    KeepsOut s (execBatAlarmChange vsys t) := by
  unfold execBatAlarmChange
  repeat' with_reducible first
    | assumption | intro _ | apply State.readVsys_keeps | apply State.powerRecord_keeps | apply State.pass_keeps
    | apply State.budget_keeps | apply State.put_keeps | apply KeepsOut.next | apply KeepsOut.ite | apply Keeps.foldl
    | apply Keeps.foldl1 | apply Keeps.foldl11 | apply Keeps.ite | apply Keeps.ite1 | dsimp only | split
    | refine Keeps.upd ?_

theorem execSnowCheck_keeps {s : State} (t : State) (h : Keeps s t) :
    KeepsOut s (execSnowCheck t) := by
  unfold execSnowCheck
  repeat' with_reducible first
    | assumption | intro _ | apply State.powerRecord_keeps | apply State.wakeIsl_keeps | apply State.put_keeps
    | apply KeepsOut.next | apply KeepsOut.ite | apply Keeps.foldl | apply Keeps.foldl1 | apply Keeps.foldl11
    | apply Keeps.ite | apply Keeps.ite1 | dsimp only | split | refine Keeps.upd ?_

theorem execPwNightWake_keeps {s : State} (charge : Int) (vin : Nat) (vsys : Nat) (t : State) (h : Keeps s t) :
    KeepsOut s (execPwNightWake charge vin vsys t) := by
  unfold execPwNightWake
  repeat' with_reducible first
    | assumption | intro _ | apply State.countCharge_keeps | apply State.over_keeps | apply State.setIsl_keeps
    | apply KeepsOut.next | apply KeepsOut.ite | apply Keeps.foldl | apply Keeps.foldl1 | apply Keeps.foldl11
    | apply Keeps.ite | apply Keeps.ite1 | dsimp only | split | refine Keeps.upd ?_

theorem State.profileChanged_keeps {s : State} (t : State) (h : Keeps s t) :
    Keeps s (State.profileChanged t) := by
  unfold State.profileChanged
  repeat' with_reducible first
    | assumption | intro _ | apply State.evaluate_keeps | apply State.chgGo_keeps | apply Keeps.foldl
    | apply Keeps.foldl1 | apply Keeps.foldl11 | apply Keeps.ite | apply Keeps.ite1 | dsimp only | split
    | refine Keeps.upd ?_

end Sys2Proof.Machine
end

