-- ==== Sys2Proof/Laws/KeepsBringup.lean ====
section
/-! SUPPORT. Every operation of Machine/Bringup.lean keeps what every command keeps (Safety.Keeps). -/
namespace Sys2Proof.Machine
open Host
set_option linter.all false
set_option Elab.async false

theorem execMainPowerUp_keeps {s : State} (t : State) (h : Keeps s t) :
    KeepsOut s (execMainPowerUp t) := by
  unfold execMainPowerUp
  repeat' with_reducible first
    | assumption | intro _ | apply State.backupReset_keeps | apply KeepsOut.next | apply KeepsOut.ite
    | apply Keeps.foldl | apply Keeps.foldl1 | apply Keeps.foldl11 | apply Keeps.ite | apply Keeps.ite1 | dsimp only
    | split | refine Keeps.upd ?_

theorem execVdd5Good_keeps {s : State} (t : State) (h : Keeps s t) :
    KeepsOut s (execVdd5Good t) := by
  unfold execVdd5Good
  repeat' with_reducible first
    | assumption | intro _ | apply State.startIsl_keeps | apply State.setIsl_keeps | apply State.inc_keeps
    | apply KeepsOut.next | apply KeepsOut.ite | apply Keeps.foldl | apply Keeps.foldl1 | apply Keeps.foldl11
    | apply Keeps.ite | apply Keeps.ite1 | dsimp only | split | refine Keeps.upd ?_

theorem execVcoreGood_keeps {s : State} (t : State) (h : Keeps s t) :
    KeepsOut s (execVcoreGood t) := by
  unfold execVcoreGood
  repeat' with_reducible first
    | assumption | intro _ | apply State.startIsl_keeps | apply KeepsOut.next | apply KeepsOut.ite
    | apply Keeps.foldl | apply Keeps.foldl1 | apply Keeps.foldl11 | apply Keeps.ite | apply Keeps.ite1 | dsimp only
    | split | refine Keeps.upd ?_

theorem execRstNLow_keeps {s : State} (t : State) (h : Keeps s t) :
    KeepsOut s (execRstNLow t) := by
  unfold execRstNLow
  repeat' with_reducible first
    | assumption | intro _ | apply State.startScope_keeps | apply KeepsOut.next | apply KeepsOut.ite
    | apply Keeps.foldl | apply Keeps.foldl1 | apply Keeps.foldl11 | apply Keeps.ite | apply Keeps.ite1 | dsimp only
    | split | refine Keeps.upd ?_

theorem execRstNWiden_keeps {s : State} (t : State) (h : Keeps s t) :
    KeepsOut s (execRstNWiden t) := by
  unfold execRstNWiden
  repeat' with_reducible first
    | assumption | intro _ | apply State.scopeReset_keeps | apply State.put_keeps | apply KeepsOut.next
    | apply KeepsOut.ite | apply Keeps.foldl | apply Keeps.foldl1 | apply Keeps.foldl11 | apply Keeps.ite
    | apply Keeps.ite1 | dsimp only | split | refine Keeps.upd ?_

theorem execRstNRelease_keeps {s : State} (t : State) (h : Keeps s t) :
    KeepsOut s (execRstNRelease t) := by
  unfold execRstNRelease
  repeat' with_reducible first
    | assumption | intro _ | apply KeepsOut.next | apply KeepsOut.ite | apply Keeps.foldl | apply Keeps.foldl1
    | apply Keeps.foldl11 | apply Keeps.ite | apply Keeps.ite1 | dsimp only | split | refine Keeps.upd ?_

theorem execVcoreBrownout_keeps {s : State} (t : State) (h : Keeps s t) :
    KeepsOut s (execVcoreBrownout t) := by
  unfold execVcoreBrownout
  repeat' with_reducible first
    | assumption | intro _ | apply State.scopeReset_keeps | apply KeepsOut.next | apply KeepsOut.ite
    | apply Keeps.foldl | apply Keeps.foldl1 | apply Keeps.foldl11 | apply Keeps.ite | apply Keeps.ite1 | dsimp only
    | split | refine Keeps.upd ?_

theorem execKeeperMainReset_keeps {s : State} (t : State) (h : Keeps s t) :
    KeepsOut s (execKeeperMainReset t) := by
  unfold execKeeperMainReset
  repeat' with_reducible first
    | assumption | intro _ | apply State.startScope_keeps | apply KeepsOut.next | apply KeepsOut.ite
    | apply Keeps.foldl | apply Keeps.foldl1 | apply Keeps.foldl11 | apply Keeps.ite | apply Keeps.ite1 | dsimp only
    | split | refine Keeps.upd ?_

theorem execBackupPowerOn_keeps {s : State} (t : State) (h : Keeps s t) :
    KeepsOut s (execBackupPowerOn t) := by
  unfold execBackupPowerOn
  repeat' with_reducible first
    | assumption | intro _ | apply State.backupReset_keeps | apply KeepsOut.next | apply KeepsOut.ite
    | apply Keeps.foldl | apply Keeps.foldl1 | apply Keeps.foldl11 | apply Keeps.ite | apply Keeps.ite1 | dsimp only
    | split | refine Keeps.upd ?_

theorem execBankSupplyChange_keeps {s : State} (bankB : Bool) (good : Bool) (t : State) (h : Keeps s t) :
    KeepsOut s (execBankSupplyChange bankB good t) := by
  unfold execBankSupplyChange
  repeat' with_reducible first
    | assumption | intro _ | apply KeepsOut.next | apply KeepsOut.ite | apply Keeps.foldl | apply Keeps.foldl1
    | apply Keeps.foldl11 | apply Keeps.ite | apply Keeps.ite1 | dsimp only | split | refine Keeps.upd ?_

theorem State.devReset_keeps {s : State} (t : State) (sc : Scope) (h : Keeps s t) :
    Keeps s (State.devReset t sc).1 := by
  unfold State.devReset
  repeat' with_reducible first
    | assumption | intro _ | apply Keeps.foldl | apply Keeps.foldl1 | apply Keeps.foldl11 | apply Keeps.ite
    | apply Keeps.ite1 | dsimp only | split | refine Keeps.upd ?_

theorem State.devResetWrite_keeps {s : State} (t : State) (cmd : Instr) (r : Req) (f : Nat → Bool) (h : Keeps s t) :
    Keeps s (State.devResetWrite t cmd r f) := by
  unfold State.devResetWrite
  repeat' with_reducible first
    | assumption | intro _ | apply State.devReset_keeps | apply State.pendingResetActs_keeps | apply atOnce_keeps
    | apply State.ownWrite_keeps | apply Keeps.foldl | apply Keeps.foldl1 | apply Keeps.foldl11 | apply Keeps.ite
    | apply Keeps.ite1 | dsimp only | split | refine Keeps.upd ?_

theorem execDevResetMain_keeps {s : State} (r : Req) (t : State) (h : Keeps s t) :
    KeepsOut s (execDevResetMain r t) := by
  unfold execDevResetMain
  repeat' with_reducible first
    | assumption | intro _ | apply State.devResetWrite_keeps | apply KeepsOut.next | apply KeepsOut.ite
    | apply Keeps.foldl | apply Keeps.foldl1 | apply Keeps.foldl11 | apply Keeps.ite | apply Keeps.ite1 | dsimp only
    | split | refine Keeps.upd ?_

theorem execDevResetFull_keeps {s : State} (r : Req) (t : State) (h : Keeps s t) :
    KeepsOut s (execDevResetFull r t) := by
  unfold execDevResetFull
  repeat' with_reducible first
    | assumption | intro _ | apply State.devResetWrite_keeps | apply KeepsOut.next | apply KeepsOut.ite
    | apply Keeps.foldl | apply Keeps.foldl1 | apply Keeps.foldl11 | apply Keeps.ite | apply Keeps.ite1 | dsimp only
    | split | refine Keeps.upd ?_

theorem execStrapSample_keeps {s : State} (hostsel : Bool) (facEn : Bool) (twinUp : Bool) (twinDown : Bool)
    (t : State) (h : Keeps s t) :
    KeepsOut s (execStrapSample hostsel facEn twinUp twinDown t) := by
  unfold execStrapSample
  repeat' with_reducible first
    | assumption | intro _ | apply State.twinStart_keeps | apply State.put_keeps | apply KeepsOut.next
    | apply KeepsOut.ite | apply Keeps.foldl | apply Keeps.foldl1 | apply Keeps.foldl11 | apply Keeps.ite
    | apply Keeps.ite1 | dsimp only | split | refine Keeps.upd ?_

theorem execStrapDefaultTimeout_keeps {s : State} (t : State) (h : Keeps s t) :
    KeepsOut s (execStrapDefaultTimeout t) := by
  unfold execStrapDefaultTimeout
  repeat' with_reducible first
    | assumption | intro _ | apply State.put_keeps | apply KeepsOut.next | apply KeepsOut.ite | apply Keeps.foldl
    | apply Keeps.foldl1 | apply Keeps.foldl11 | apply Keeps.ite | apply Keeps.ite1 | dsimp only | split
    | refine Keeps.upd ?_

theorem execStationTimeLoad_keeps {s : State} (n : Nat) (t : State) (h : Keeps s t) :
    KeepsOut s (execStationTimeLoad n t) := by
  unfold execStationTimeLoad
  apply KeepsOut.ite_next h
  have hv := State.countTo_v_le t (min (t.clk.v + n + 1) (stMax / 8192))
  have h := State.countTo_keeps _ (min (t.clk.v + n + 1) (stMax / 8192)) h
  generalize t.countTo (min (t.clk.v + n + 1) (stMax / 8192)) = u at h hv
  refine KeepsOut.next (Keeps.upd h (hs := fun _ => ?_) (hv := fun _ => hv))
  exact Nat.le_trans (Nat.mul_le_mul_right _ hv) (Nat.div_mul_le_self _ _)

theorem State.loadSettings_keeps {s : State} (t : State) (h : Keeps s t) :
    Keeps s (State.loadSettings t) := by
  unfold State.loadSettings
  repeat' with_reducible first
    | assumption | intro _ | apply State.trickleSet_keeps | apply State.drawn_keeps | apply Keeps.foldl
    | apply Keeps.foldl1 | apply Keeps.foldl11 | apply Keeps.ite | apply Keeps.ite1 | dsimp only | split
    | refine Keeps.upd ?_

theorem State.startEntry_keeps {s : State} (t : State) (cause : Nat) (h : Keeps s t) :
    Keeps s (State.startEntry t cause) := by
  unfold State.startEntry
  repeat' with_reducible first
    | assumption | intro _ | apply State.logKeeper_keeps | apply Keeps.foldl | apply Keeps.foldl1
    | apply Keeps.foldl11 | apply Keeps.ite | apply Keeps.ite1 | dsimp only | split | refine Keeps.upd ?_

theorem State.repairTorn_keeps {s : State} (t : State) (c : Nat) (h : Keeps s t) :
    Keeps s (State.repairTorn t c) := by
  unfold State.repairTorn
  repeat' with_reducible first
    | assumption | intro _ | apply State.logRecord_keeps | apply State.signHead_keeps | apply State.storeEntry_keeps
    | apply State.drawn_keeps | apply Keeps.foldl | apply Keeps.foldl1 | apply Keeps.foldl11 | apply Keeps.ite
    | apply Keeps.ite1 | dsimp only | split | refine Keeps.upd ?_

theorem State.afterCollapse_keeps {s : State} (t : State) (cause : Nat) (torn : Option (Fin 64)) (h : Keeps s t) :
    Keeps s (State.afterCollapse t cause torn) := by
  unfold State.afterCollapse
  repeat' with_reducible first
    | assumption | intro _ | apply State.repairTorn_keeps | apply State.railRecord_keeps | apply State.inc_keeps
    | apply State.put_keeps | apply Keeps.foldl | apply Keeps.foldl1 | apply Keeps.foldl11 | apply Keeps.ite
    | apply Keeps.ite1 | dsimp only | split | refine Keeps.upd ?_

theorem State.measureBanks_keeps {s : State} (t : State) (ages : List Int) (h : Keeps s t) :
    Keeps s (State.measureBanks t ages) := by
  unfold State.measureBanks
  repeat' with_reducible first
    | assumption | intro _ | apply State.loopRecord_keeps | apply State.putS_keeps | apply Keeps.foldl
    | apply Keeps.foldl1 | apply Keeps.foldl11 | apply Keeps.ite | apply Keeps.ite1 | dsimp only | split
    | refine Keeps.upd ?_

theorem State.keysBack_keeps {s : State} (t : State) (h : Keeps s t) :
    Keeps s (State.keysBack t) := by
  unfold State.keysBack
  repeat' with_reducible first
    | assumption | intro _ | apply State.unwrapKeys_keeps | apply State.owedZeroizes_keeps | apply Keeps.foldl
    | apply Keeps.foldl1 | apply Keeps.foldl11 | apply Keeps.ite | apply Keeps.ite1 | dsimp only | split
    | refine Keeps.upd ?_

theorem State.loadPw_keeps {s : State} (t : State) (h : Keeps s t) :
    Keeps s (State.loadPw t) := by
  unfold State.loadPw
  repeat' with_reducible first
    | assumption | intro _ | apply Keeps.foldl | apply Keeps.foldl1 | apply Keeps.foldl11 | apply Keeps.ite
    | apply Keeps.ite1 | dsimp only | split | refine Keeps.upd ?_

theorem State.firmwareStart_keeps {s : State} (t : State) (torn : Option (Fin 64)) (ages : List Int) (h : Keeps s t) :
    Keeps s (State.firmwareStart t torn ages) := by
  unfold State.firmwareStart
  repeat' with_reducible first
    | assumption | intro _ | apply State.loadPw_keeps | apply State.keysBack_keeps | apply State.measureBanks_keeps
    | apply State.afterCollapse_keeps | apply State.startEntry_keeps | apply State.loadSettings_keeps
    | apply State.closeHours_keeps | apply State.startImage_keeps | apply State.startIsl_keeps
    | apply State.tamperStart_keeps | apply State.storeAnchors_keeps | apply State.planLoad_keeps
    | apply State.pass_keeps | apply State.twinStart_keeps | apply State.takeI2c_keeps | apply State.hostUp_keeps
    | apply State.wdStart_keeps | apply State.wdSync_keeps | apply State.put_keeps | apply Keeps.foldl
    | apply Keeps.foldl1 | apply Keeps.foldl11 | apply Keeps.ite | apply Keeps.ite1 | dsimp only | split
    | refine Keeps.upd ?_

theorem execRstoRelease_keeps {s : State} (t : State) (h : Keeps s t) :
    KeepsOut s (execRstoRelease t) := by
  unfold execRstoRelease
  repeat' with_reducible first
    | assumption | intro _ | apply State.wdSync_keeps | apply State.reach_keeps | apply KeepsOut.next
    | apply KeepsOut.ite | apply Keeps.foldl | apply Keeps.foldl1 | apply Keeps.foldl11 | apply Keeps.ite
    | apply Keeps.ite1 | dsimp only | split | refine Keeps.upd ?_

theorem execWakeNLow_keeps {s : State} (t : State) (h : Keeps s t) :
    KeepsOut s (execWakeNLow t) := by
  unfold execWakeNLow
  repeat' with_reducible first
    | assumption | intro _ | apply State.wakeCr_keeps | apply State.wakeFb_keeps | apply KeepsOut.next
    | apply KeepsOut.ite | apply Keeps.foldl | apply Keeps.foldl1 | apply Keeps.foldl11 | apply Keeps.ite
    | apply Keeps.ite1 | dsimp only | split | refine Keeps.upd ?_

theorem execWakeNHigh_keeps {s : State} (t : State) (h : Keeps s t) :
    KeepsOut s (execWakeNHigh t) := by
  unfold execWakeNHigh
  repeat' with_reducible first
    | assumption | intro _ | apply KeepsOut.next | apply KeepsOut.ite | apply Keeps.foldl | apply Keeps.foldl1
    | apply Keeps.foldl11 | apply Keeps.ite | apply Keeps.ite1 | dsimp only | split | refine Keeps.upd ?_

end Sys2Proof.Machine
end

