-- ==== Sys2Proof/Laws/KeepsBackup.lean ====
section
/-! SUPPORT. Every operation of Machine/Backup.lean keeps what every command keeps (Safety.Keeps). -/
namespace Sys2Proof.Machine
open Host
set_option linter.all false
set_option Elab.async false

theorem State.copyVoted_keeps {s : State} (t : State) (c : Nat) (h : Keeps s t) :
    Keeps s (State.copyVoted t c) := by
  unfold State.copyVoted
  repeat' with_reducible first
    | assumption | intro _ | apply State.inc_keeps | apply State.put_keeps | apply Keeps.foldl | apply Keeps.foldl1
    | apply Keeps.foldl11 | apply Keeps.ite | apply Keeps.ite1 | dsimp only | split | refine Keeps.upd ?_

theorem State.voteChecked_keeps {s : State} (t : State) (b : State) (h : Keeps s t) :
    Keeps s (State.voteChecked t b) := by
  unfold State.voteChecked
  repeat' with_reducible first
    | assumption | intro _ | apply State.repairCheck_keeps | apply State.tamperOn_keeps | apply Keeps.foldl
    | apply Keeps.foldl1 | apply Keeps.foldl11 | apply Keeps.ite | apply Keeps.ite1 | dsimp only | split
    | refine Keeps.upd ?_

theorem majority_mem {l : List Nat} {x : Nat} (h : majority l = some x) : x ∈ l := List.mem_of_find?_eq_some h

theorem State.tickEdge_keeps {s : State} (t : State) (h : Keeps s t) : Keeps s (State.tickEdge t) := by
  unfold State.tickEdge
  have h := State.pulsesTo_keeps _ (t.clk.v + 1) h
  generalize t.pulsesTo (t.clk.v + 1) = u at h
  apply State.voteChecked_keeps
  apply Keeps.foldl (fun _ _ k => State.copyVoted_keeps _ _ k)
  have h1 : ∀ k : Nat, Keeps s
      ({ u with
        clk := { u.clk with
          v := (majority ((((u.bk.copies.map (fun x => min (x + 1) (stMax / 8192))).zipIdx.filter
            (fun x => u.copyLive x.2)).map (fun x => x.1)))).getD (min (u.clk.v + 1) (stMax / 8192)) }
        bk := { u.bk with copies := u.bk.copies.map (fun x => min (x + 1) (stMax / 8192)) } } : State) := by
    intro _
    refine Keeps.upd h (hv := fun _ => ?_)
    dsimp only
    generalize e : majority _ = m
    cases m with
    | none => exact Nat.min_le_right _ _
    | some x =>
      have hx := majority_mem e
      simp only [List.mem_map, List.mem_filter, Prod.exists, exists_and_right, exists_eq_right] at hx
      obtain ⟨i, hi, -⟩ := hx
      have := List.mem_map.mp (List.fst_mem_of_mem_zipIdx hi)
      obtain ⟨y, -, rfl⟩ := this
      exact Nat.min_le_right _ _
  have h1 := h1 0
  dsimp only
  split
  · exact State.inc_keeps _ _ _ (State.put_keeps _ _ _ h1)
  · exact State.put_keeps _ _ _ h1

theorem State.bkCycle_keeps {s : State} (t : State) (h : Keeps s t) :
    Keeps s (State.bkCycle t) := by
  unfold State.bkCycle
  repeat' with_reducible first
    | assumption | intro _ | apply State.tickEdge_keeps | apply Keeps.foldl | apply Keeps.foldl1
    | apply Keeps.foldl11 | apply Keeps.ite | apply Keeps.ite1 | dsimp only | split | refine Keeps.upd ?_

theorem State.upset_keeps {s : State} (t : State) (c held : Nat) (voted : Option Nat) (h : Keeps s t) :
    Keeps s (State.upset t c held voted) :=
  Keeps.upd h (hv := fun _ => Nat.le_of_lt_succ (Nat.mod_lt _ (by decide)))

theorem execBkCopyReload_keeps {s : State} (copy : Fin 3) (held : Nat) (voted : Option Nat) (t : State)
    (h : Keeps s t) :
    KeepsOut s (execBkCopyReload copy held voted t) := by
  unfold execBkCopyReload
  repeat' with_reducible first
    | assumption | intro _ | apply State.upset_keeps | apply State.tickEdge_keeps | apply KeepsOut.next
    | apply KeepsOut.ite | apply Keeps.foldl | apply Keeps.foldl1 | apply Keeps.foldl11 | apply Keeps.ite
    | apply Keeps.ite1 | dsimp only | split | refine Keeps.upd ?_

theorem execBkCopyFailed_keeps {s : State} (copy : Fin 3) (held : Nat) (t : State) (h : Keeps s t) :
    KeepsOut s (execBkCopyFailed copy held t) := by
  unfold execBkCopyFailed
  repeat' with_reducible first
    | assumption | intro _ | apply State.upset_keeps | apply State.tickEdge_keeps | apply KeepsOut.next
    | apply KeepsOut.ite | apply Keeps.foldl | apply Keeps.foldl1 | apply Keeps.foldl11 | apply Keeps.ite
    | apply Keeps.ite1 | dsimp only | split | refine Keeps.upd ?_

theorem execSwitchoverToVbk_keeps {s : State} (t : State) (h : Keeps s t) :
    KeepsOut s (execSwitchoverToVbk t) := by
  unfold execSwitchoverToVbk
  repeat' with_reducible first
    | assumption | intro _ | apply State.mainLoss_keeps | apply State.ageOut_keeps | apply State.inc_keeps
    | apply State.put_keeps | apply KeepsOut.next | apply KeepsOut.ite | apply Keeps.foldl | apply Keeps.foldl1
    | apply Keeps.foldl11 | apply Keeps.ite | apply Keeps.ite1 | dsimp only | split | refine Keeps.upd ?_

theorem execSwitchoverToMain_keeps {s : State} (t : State) (h : Keeps s t) :
    KeepsOut s (execSwitchoverToMain t) := by
  unfold execSwitchoverToMain
  repeat' with_reducible first
    | assumption | intro _ | apply State.backupReset_keeps | apply State.tamperOn_keeps
    | apply State.trickleSet_keeps | apply State.put_keeps | apply KeepsOut.next | apply KeepsOut.ite
    | apply Keeps.foldl | apply Keeps.foldl1 | apply Keeps.foldl11 | apply Keeps.ite | apply Keeps.ite1 | dsimp only
    | split | refine Keeps.upd ?_

theorem execBkStateLoss_keeps {s : State} (t : State) (h : Keeps s t) :
    KeepsOut s (execBkStateLoss t) := by
  unfold execBkStateLoss
  repeat' with_reducible first
    | assumption | intro _ | apply State.loseIsland_keeps | apply State.setIsl_keeps | apply KeepsOut.next
    | apply KeepsOut.ite | apply Keeps.foldl | apply Keeps.foldl1 | apply Keeps.foldl11 | apply Keeps.ite
    | apply Keeps.ite1 | dsimp only | split | refine Keeps.upd ?_

theorem State.vbkSensed_keeps {s : State} (t : State) (mv : Nat) (h : Keeps s t) :
    Keeps s (State.vbkSensed t mv) := by
  unfold State.vbkSensed
  repeat' with_reducible first
    | assumption | intro _ | apply State.trickleSet_keeps | apply Keeps.foldl | apply Keeps.foldl1
    | apply Keeps.foldl11 | apply Keeps.ite | apply Keeps.ite1 | dsimp only | split | refine Keeps.upd ?_

theorem State.readVbk_keeps {s : State} (t : State) (mv : Nat) (h : Keeps s t) :
    Keeps s (State.readVbk t mv) := by
  unfold State.readVbk
  repeat' with_reducible first
    | assumption | intro _ | apply State.put_keeps | apply Keeps.foldl | apply Keeps.foldl1 | apply Keeps.foldl11
    | apply Keeps.ite | apply Keeps.ite1 | dsimp only | split | refine Keeps.upd ?_

theorem execVbkLowCheck_keeps {s : State} (mv : Nat) (t : State) (h : Keeps s t) :
    KeepsOut s (execVbkLowCheck mv t) := by
  unfold execVbkLowCheck
  repeat' with_reducible first
    | assumption | intro _ | apply State.readVbk_keeps | apply State.vbkSensed_keeps | apply State.tamperOff_keeps
    | apply State.tamperOn_keeps | apply KeepsOut.next | apply KeepsOut.ite | apply Keeps.foldl | apply Keeps.foldl1
    | apply Keeps.foldl11 | apply Keeps.ite | apply Keeps.ite1 | dsimp only | split | refine Keeps.upd ?_

theorem execTrickleStop_keeps {s : State} (t : State) (h : Keeps s t) :
    KeepsOut s (execTrickleStop t) := by
  unfold execTrickleStop
  repeat' with_reducible first
    | assumption | intro _ | apply State.vbkSensed_keeps | apply KeepsOut.next | apply KeepsOut.ite
    | apply Keeps.foldl | apply Keeps.foldl1 | apply Keeps.foldl11 | apply Keeps.ite | apply Keeps.ite1 | dsimp only
    | split | refine Keeps.upd ?_

theorem execTrickleRestart_keeps {s : State} (t : State) (h : Keeps s t) :
    KeepsOut s (execTrickleRestart t) := by
  unfold execTrickleRestart
  repeat' with_reducible first
    | assumption | intro _ | apply State.vbkSensed_keeps | apply KeepsOut.next | apply KeepsOut.ite
    | apply Keeps.foldl | apply Keeps.foldl1 | apply Keeps.foldl11 | apply Keeps.ite | apply Keeps.ite1 | dsimp only
    | split | refine Keeps.upd ?_

end Sys2Proof.Machine
end

