-- ==== Sys2Proof/Laws/KeepsLehr.lean ====
section
/-! SUPPORT. Every operation of Machine/Lehr.lean keeps what every command keeps (Safety.Keeps). -/
namespace Sys2Proof.Machine
open Host
set_option linter.all false
set_option Elab.async false

theorem State.l1Rules_keeps {s : State} (t : State) (canary : Bool) (h : Keeps s t) :
    Keeps s (State.l1Rules t canary) := by
  unfold State.l1Rules
  repeat' with_reducible first
    | assumption | intro _ | apply State.ruleShown_keeps | apply Keeps.foldl | apply Keeps.foldl1
    | apply Keeps.foldl11 | apply Keeps.ite | apply Keeps.ite1 | dsimp only | split | refine Keeps.upd ?_

theorem execL1Evaluate_keeps {s : State} (freqs : List Nat) (ts : List Int) (canary : Nat) (t : State)
    (h : Keeps s t) :
    KeepsOut s (execL1Evaluate freqs ts canary t) := by
  unfold execL1Evaluate
  repeat' with_reducible first
    | assumption | intro _ | apply State.l1Rules_keeps | apply State.readTs_keeps | apply State.reshow_keeps
    | apply State.showLoop_keeps | apply State.safety_keeps | apply State.fence_keeps | apply State.add_keeps
    | apply State.put_keeps | apply KeepsOut.next | apply KeepsOut.ite | apply Keeps.foldl | apply Keeps.foldl1
    | apply Keeps.foldl11 | apply Keeps.ite | apply Keeps.ite1 | dsimp only | split | refine Keeps.upd ?_

theorem execL2Evaluate_keeps {s : State} (canary : Bool) (stretched : Nat) (edges : Nat) (t : State) (h : Keeps s t) :
    KeepsOut s (execL2Evaluate canary stretched edges t) := by
  unfold execL2Evaluate
  repeat' with_reducible first
    | assumption | intro _ | apply State.reshow_keeps | apply State.showLoop_keeps | apply State.fence_keeps
    | apply KeepsOut.next | apply KeepsOut.ite | apply Keeps.foldl | apply Keeps.foldl1 | apply Keeps.foldl11
    | apply Keeps.ite | apply Keeps.ite1 | dsimp only | split | refine Keeps.upd ?_

theorem execL3Evaluate_keeps {s : State} (swing : Nat) (t : State) (h : Keeps s t) :
    KeepsOut s (execL3Evaluate swing t) := by
  unfold execL3Evaluate
  repeat' with_reducible first
    | assumption | intro _ | apply State.reshow_keeps | apply State.showLoop_keeps | apply State.ruleShown_keeps
    | apply State.safety_keeps | apply State.fence_keeps | apply State.put_keeps | apply KeepsOut.next
    | apply KeepsOut.ite | apply Keeps.foldl | apply Keeps.foldl1 | apply Keeps.foldl11 | apply Keeps.ite
    | apply Keeps.ite1 | dsimp only | split | refine Keeps.upd ?_

theorem execVmonBandCross_keeps {s : State} (mon : Fin 8) (high : Bool) (entered : Bool) (mv : Nat) (t : State)
    (h : Keeps s t) :
    KeepsOut s (execVmonBandCross mon high entered mv t) := by
  unfold execVmonBandCross
  repeat' with_reducible first
    | assumption | intro _ | apply State.loopRecord_keeps | apply State.put_keeps | apply KeepsOut.next
    | apply KeepsOut.ite | apply Keeps.foldl | apply Keeps.foldl1 | apply Keeps.foldl11 | apply Keeps.ite
    | apply Keeps.ite1 | dsimp only | split | refine Keeps.upd ?_

theorem execLoopInputLost_keeps {s : State} (loop : Fin 7) (monitor : Nat) (t : State) (h : Keeps s t) :
    KeepsOut s (execLoopInputLost loop monitor t) := by
  unfold execLoopInputLost
  repeat' with_reducible first
    | assumption | intro _ | apply State.reshow_keeps | apply State.loopRecord_keeps | apply State.inc_keeps
    | apply KeepsOut.next | apply KeepsOut.ite | apply Keeps.foldl | apply Keeps.foldl1 | apply Keeps.foldl11
    | apply Keeps.ite | apply Keeps.ite1 | dsimp only | split | refine Keeps.upd ?_

theorem execLoopInputReturn_keeps {s : State} (loop : Fin 7) (monitor : Nat) (t : State) (h : Keeps s t) :
    KeepsOut s (execLoopInputReturn loop monitor t) := by
  unfold execLoopInputReturn
  repeat' with_reducible first
    | assumption | intro _ | apply State.reshow_keeps | apply State.loopRecord_keeps | apply KeepsOut.next
    | apply KeepsOut.ite | apply Keeps.foldl | apply Keeps.foldl1 | apply Keeps.foldl11 | apply Keeps.ite
    | apply Keeps.ite1 | dsimp only | split | refine Keeps.upd ?_

end Sys2Proof.Machine
end

