-- ==== Sys2Proof/Laws/KeepsRepair.lean ====
section
/-! SUPPORT. Every operation of Machine/Repair.lean keeps what every command keeps (Safety.Keeps). -/
namespace Sys2Proof.Machine
open Host
set_option linter.all false
set_option Elab.async false

theorem State.eccAdd_keeps {s : State} (t : State) (m : Nat) (lo : Nat) (n : Nat) (x : Nat) (h : Keeps s t) :
    Keeps s (State.eccAdd t m lo n x) := by
  unfold State.eccAdd
  repeat' with_reducible first
    | assumption | intro _ | apply State.put_keeps | apply Keeps.foldl | apply Keeps.foldl1 | apply Keeps.foldl11
    | apply Keeps.ite | apply Keeps.ite1 | dsimp only | split | refine Keeps.upd ?_

theorem State.eccCorrected_keeps {s : State} (t : State) (m : Nat) (x : Nat) (h : Keeps s t) :
    Keeps s (State.eccCorrected t m x) := by
  unfold State.eccCorrected
  repeat' with_reducible first
    | assumption | intro _ | apply State.eccAdd_keeps | apply Keeps.foldl | apply Keeps.foldl1 | apply Keeps.foldl11
    | apply Keeps.ite | apply Keeps.ite1 | dsimp only | split | refine Keeps.upd ?_

theorem State.eccLost__keeps {s : State} (t : State) (m : Nat) (h : Keeps s t) :
    Keeps s (State.eccLost_ t m) := by
  unfold State.eccLost_
  repeat' with_reducible first
    | assumption | intro _ | apply State.eccAdd_keeps | apply Keeps.foldl | apply Keeps.foldl1 | apply Keeps.foldl11
    | apply Keeps.ite | apply Keeps.ite1 | dsimp only | split | refine Keeps.upd ?_

theorem State.eccSeeds_keeps {s : State} (t : State) (m : Nat) (x : Nat) (h : Keeps s t) :
    Keeps s (State.eccSeeds t m x) := by
  unfold State.eccSeeds
  repeat' with_reducible first
    | assumption | intro _ | apply State.eccAdd_keeps | apply Keeps.foldl | apply Keeps.foldl1 | apply Keeps.foldl11
    | apply Keeps.ite | apply Keeps.ite1 | dsimp only | split | refine Keeps.upd ?_

theorem State.eccUnrepaired_keeps {s : State} (t : State) (m : Nat) (h : Keeps s t) :
    Keeps s (State.eccUnrepaired t m) := by
  unfold State.eccUnrepaired
  repeat' with_reducible first
    | assumption | intro _ | apply State.eccAdd_keeps | apply Keeps.foldl | apply Keeps.foldl1 | apply Keeps.foldl11
    | apply Keeps.ite | apply Keeps.ite1 | dsimp only | split | refine Keeps.upd ?_

theorem State.keepPass_keeps {s : State} (t : State) (m : Nat) (rows : List Nat) (h : Keeps s t) :
    Keeps s (State.keepPass t m rows) := by
  unfold State.keepPass
  repeat' with_reducible first
    | assumption | intro _ | apply Keeps.foldl | apply Keeps.foldl1 | apply Keeps.foldl11 | apply Keeps.ite
    | apply Keeps.ite1 | dsimp only | split | refine Keeps.upd ?_

theorem State.seed_keeps {s : State} (t : State) (m : Nat) (r : Nat) (h : Keeps s t) :
    Keeps s (State.seed t m r) := by
  unfold State.seed
  repeat' with_reducible first
    | assumption | intro _ | apply State.eccSeeds_keeps | apply Keeps.foldl | apply Keeps.foldl1
    | apply Keeps.foldl11 | apply Keeps.ite | apply Keeps.ite1 | dsimp only | split | refine Keeps.upd ?_

theorem State.dueBlock_keeps {s : State} (t : State) (m : Nat) (b : Nat) (h : Keeps s t) :
    Keeps s (State.dueBlock t m b) := by
  unfold State.dueBlock
  repeat' with_reducible first
    | assumption | intro _ | apply Keeps.foldl | apply Keeps.foldl1 | apply Keeps.foldl11 | apply Keeps.ite
    | apply Keeps.ite1 | dsimp only | split | refine Keeps.upd ?_

theorem State.refresh_keeps {s : State} (t : State) (m : Nat) (h : Keeps s t) :
    Keeps s (State.refresh t m) := by
  unfold State.refresh
  repeat' with_reducible first
    | assumption | intro _ | apply State.programmed_keeps | apply State.cycle_keeps | apply State.inc_keeps
    | apply Keeps.foldl | apply Keeps.foldl1 | apply Keeps.foldl11 | apply Keeps.ite | apply Keeps.ite1 | dsimp only
    | split | refine Keeps.upd ?_

theorem execScrubPassEnd_keeps {s : State} (mem : Fin 12) (rows : List Nat) (programmed : List Nat) (corrected : Nat)
    (t : State) (h : Keeps s t) :
    KeepsOut s (execScrubPassEnd mem rows programmed corrected t) := by
  unfold execScrubPassEnd
  repeat' with_reducible first
    | assumption | intro _ | apply State.refresh_keeps | apply State.dueBlock_keeps | apply State.seed_keeps
    | apply State.keepPass_keeps | apply State.eccCorrected_keeps | apply State.programmed_keeps
    | apply State.ageTo_keeps | apply State.put_keeps | apply KeepsOut.next | apply KeepsOut.ite | apply Keeps.foldl
    | apply Keeps.foldl1 | apply Keeps.foldl11 | apply Keeps.ite | apply Keeps.ite1 | dsimp only | split
    | refine Keeps.upd ?_

theorem execSeedRepair_keeps {s : State} (mem : Fin 7) (t : State) (h : Keeps s t) :
    KeepsOut s (execSeedRepair mem t) := by
  unfold execSeedRepair
  repeat' with_reducible first
    | assumption | intro _ | apply State.eccUnrepaired_keeps | apply State.repairCheck_keeps
    | apply State.repairEvent_keeps | apply KeepsOut.next | apply KeepsOut.ite | apply Keeps.foldl
    | apply Keeps.foldl1 | apply Keeps.foldl11 | apply Keeps.ite | apply Keeps.ite1 | dsimp only | split
    | refine Keeps.upd ?_

theorem execFieldRepairStore_keeps {s : State} (t : State) (h : Keeps s t) :
    KeepsOut s (execFieldRepairStore t) := by
  unfold execFieldRepairStore
  repeat' with_reducible first
    | assumption | intro _ | apply State.cross_keeps | apply KeepsOut.next | apply KeepsOut.ite | apply Keeps.foldl
    | apply Keeps.foldl1 | apply Keeps.foldl11 | apply Keeps.ite | apply Keeps.ite1 | dsimp only | split
    | refine Keeps.upd ?_

theorem State.regionFull_keeps {s : State} (t : State) (m : Nat) (h : Keeps s t) :
    Keeps s (State.regionFull t m) := by
  unfold State.regionFull
  repeat' with_reducible first
    | assumption | intro _ | apply State.fwRecord_keeps | apply State.sealChain_keeps | apply State.logKeeper_keeps
    | apply Keeps.foldl | apply Keeps.foldl1 | apply Keeps.foldl11 | apply Keeps.ite | apply Keeps.ite1 | dsimp only
    | split | refine Keeps.upd ?_

theorem execBlockRetire_keeps {s : State} (mem : Fin 4) (block : Nat) (t : State) (h : Keeps s t) :
    KeepsOut s (execBlockRetire mem block t) := by
  unfold execBlockRetire
  repeat' with_reducible first
    | assumption | intro _ | apply State.regionFull_keeps | apply State.programmed_keeps | apply State.cycle_keeps
    | apply State.repairCheck_keeps | apply State.repairEvent_keeps | apply KeepsOut.next | apply KeepsOut.ite
    | apply Keeps.foldl | apply Keeps.foldl1 | apply Keeps.foldl11 | apply Keeps.ite | apply Keeps.ite1 | dsimp only
    | split | refine Keeps.upd ?_

theorem State.loseRec_keeps {s : State} (t : State) (id : Nat) (h : Keeps s t) :
    Keeps s (State.loseRec t id) := by
  unfold State.loseRec
  repeat' with_reducible first
    | assumption | intro _ | apply State.advanceStream_keeps
    | refine State.dlvSet_keeps _ _ ?_ (fun x => x) (fun x => x) (fun x => x) (fun x => x) (fun x => x)
    | refine State.dlvSet_keeps _ _ ?_ (fun i r m => i r (List.mem_filter.mp m).1) (fun x => x) (fun x => x) (fun x => x) (fun x => x)
    | apply Keeps.foldl | apply Keeps.foldl1 | apply Keeps.foldl11 | apply Keeps.ite | apply Keeps.ite1 | dsimp only
    | split | dsimp only [id] | refine Keeps.upd ?_

theorem State.freshStream_keeps {s : State} (t : State) (src : Nat) (target : Nat) (hid : Nat) (h : Keeps s t) :
    Keeps s (State.freshStream t src target hid) := by
  unfold State.freshStream
  repeat' with_reducible first
    | assumption | intro _ | apply State.placeWaiting_keeps | apply State.completeAt_keeps
    | refine State.dlvSet_keeps _ _ ?_ (fun x => x) (fun x => x) (fun x => x) (fun x => x) (fun x => x)
    | apply Keeps.foldl | apply Keeps.foldl1 | apply Keeps.foldl11 | apply Keeps.ite | apply Keeps.ite1 | dsimp only
    | split | dsimp only [id] | refine Keeps.upd ?_

theorem State.dropFrame_keeps {s : State} (t : State) (p : Port) (received : Bool) (h : Keeps s t) :
    Keeps s (State.dropFrame t p received) := by
  unfold State.dropFrame
  repeat' with_reducible first
    | assumption | intro _ | apply State.inc_keeps | apply Keeps.foldl | apply Keeps.foldl1 | apply Keeps.foldl11
    | apply Keeps.ite | apply Keeps.ite1 | dsimp only | split | refine Keeps.upd ?_
    | refine Keeps.upd ?_ (hc := fun e => by simp only [*, List.length_cons, List.length_drop] at e ⊢; omega)

theorem State.eccEffect_keeps {s : State} (t : State) (c0 : EccObj) (h : Keeps s t) :
    Keeps s (State.eccEffect t c0) := by
  unfold State.eccEffect
  repeat' with_reducible first
    | assumption | intro _ | apply State.dropFrame_keeps | apply State.freshStream_keeps | apply State.loseRec_keeps
    | apply State.startScope_keeps | apply State.startDrain_keeps | apply State.repairCheck_keeps
    | apply State.eraseKx_keeps | apply State.setTimer_keeps | apply State.pass_keeps | apply State.loseItems_keeps
    | apply State.bundleMap_keeps | apply State.record_keeps | apply State.completeAt_keeps
    | refine State.dlvSet_keeps _ _ ?_ (fun x => x) (fun x => x) (fun x => x) (fun x => x) (fun x => x)
    | apply Keeps.foldl | apply Keeps.foldl1 | apply Keeps.foldl11 | apply Keeps.ite | apply Keeps.ite1 | dsimp only
    | split | dsimp only [id] | refine Keeps.upd ?_

theorem execEccUncorrectable_keeps {s : State} (obj : EccObj) (row : Nat) (scrub : Bool) (victim : Option Req)
    (op : Nat) (t : State) (h : Keeps s t) :
    KeepsOut s (execEccUncorrectable obj row scrub victim op t) := by
  unfold execEccUncorrectable
  repeat' with_reducible first
    | assumption | intro _ | apply State.eccEffect_keeps | apply State.seed_keeps | apply State.eccLost__keeps
    | apply State.repairEvent_keeps | apply State.accept_keeps
    | (refine Admit.of_go ?_ (by assumption); apply State.accept_keeps)
    | (refine Admit.of_done ?_ (by assumption); apply State.accept_keeps)
    | (refine Admit.of_wait ?_ (by assumption); apply State.accept_keeps) | apply State.finish_keeps
    | apply State.wdSync_keeps | apply KeepsOut.next | apply KeepsOut.ite | apply Keeps.foldl | apply Keeps.foldl1
    | apply Keeps.foldl11 | apply Keeps.ite | apply Keeps.ite1 | dsimp only | split | refine Keeps.upd ?_

end Sys2Proof.Machine
end

