-- ==== Sys2Proof/Laws/KeepsOscillator.lean ====
section
/-! SUPPORT. Every operation of Machine/Oscillator.lean keeps what every command keeps (Safety.Keeps). -/
namespace Sys2Proof.Machine
open Host
set_option linter.all false
set_option Elab.async false

theorem State.growHold_keeps {s : State} (t : State) (y : Rat) (h : Keeps s t) :
    Keeps s (State.growHold t y) := by
  unfold State.growHold
  repeat' with_reducible first
    | assumption | intro _ | apply State.showHold_keeps | apply Keeps.foldl | apply Keeps.foldl1
    | apply Keeps.foldl11 | apply Keeps.ite | apply Keeps.ite1 | dsimp only | split | refine Keeps.upd ?_

theorem State.outageCorrection_keeps {s : State} (t : State) (temp : Int) (h : Keeps s t) :
    Keeps s (State.outageCorrection t temp) := by
  unfold State.outageCorrection
  repeat' with_reducible first
    | assumption | intro _ | apply State.setCorr_keeps | apply Keeps.foldl | apply Keeps.foldl1 | apply Keeps.foldl11
    | apply Keeps.ite | apply Keeps.ite1 | dsimp only | split | refine Keeps.upd ?_

theorem State.learnBand_keeps {s : State} (t : State) (h : Keeps s t) :
    Keeps s (State.learnBand t) := by
  unfold State.learnBand
  repeat' with_reducible first
    | assumption | intro _ | apply State.putS_keeps | apply State.put_keeps | apply Keeps.foldl | apply Keeps.foldl1
    | apply Keeps.foldl11 | apply Keeps.ite | apply Keeps.ite1 | dsimp only | split | refine Keeps.upd ?_

theorem State.closeEpisode_keeps {s : State} (t : State) (h : Keeps s t) :
    Keeps s (State.closeEpisode t) := by
  unfold State.closeEpisode
  repeat' with_reducible first
    | assumption | intro _ | apply State.learnBand_keeps | apply Keeps.foldl | apply Keeps.foldl1
    | apply Keeps.foldl11 | apply Keeps.ite | apply Keeps.ite1 | dsimp only | split | refine Keeps.upd ?_

theorem State.openEpisode_keeps {s : State} (t : State) (h : Keeps s t) :
    Keeps s (State.openEpisode t) := by
  unfold State.openEpisode
  repeat' with_reducible first
    | assumption | intro _ | apply Keeps.foldl | apply Keeps.foldl1 | apply Keeps.foldl11 | apply Keeps.ite
    | apply Keeps.ite1 | dsimp only | split | refine Keeps.upd ?_

theorem State.storeModel_keeps {s : State} (t : State) (h : Keeps s t) :
    Keeps s (State.storeModel t) := by
  unfold State.storeModel
  repeat' with_reducible first
    | assumption | intro _ | apply Keeps.foldl | apply Keeps.foldl1 | apply Keeps.foldl11 | apply Keeps.ite
    | apply Keeps.ite1 | dsimp only | split | refine Keeps.upd ?_

theorem State.showTheta_keeps {s : State} (t : State) (h : Keeps s t) :
    Keeps s (State.showTheta t) := by
  unfold State.showTheta
  repeat' with_reducible first
    | assumption | intro _ | apply State.putS_keeps | apply Keeps.foldl | apply Keeps.foldl1 | apply Keeps.foldl11
    | apply Keeps.ite | apply Keeps.ite1 | dsimp only | split | refine Keeps.upd ?_

theorem State.resetModel_keeps {s : State} (t : State) (h : Keeps s t) :
    Keeps s (State.resetModel t) := by
  unfold State.resetModel
  repeat' with_reducible first
    | assumption | intro _ | apply State.showTheta_keeps | apply State.put_keeps | apply Keeps.foldl
    | apply Keeps.foldl1 | apply Keeps.foldl11 | apply Keeps.ite | apply Keeps.ite1 | dsimp only | split
    | refine Keeps.upd ?_

theorem State.estimate_keeps {s : State} (t : State) (o : Obs) (rbar : Rat) (phi : List Rat) (h : Keeps s t) :
    Keeps s (State.estimate t o rbar phi) := by
  unfold State.estimate
  repeat' with_reducible first
    | assumption | intro _ | apply State.showTheta_keeps | apply State.inc_keeps | apply State.put_keeps
    | apply Keeps.foldl | apply Keeps.foldl1 | apply Keeps.foldl11 | apply Keeps.ite | apply Keeps.ite1 | dsimp only
    | split | refine Keeps.upd ?_

theorem State.leaveLocked_keeps {s : State} (t : State) (h : Keeps s t) :
    Keeps s (State.leaveLocked t) := by
  unfold State.leaveLocked
  repeat' with_reducible first
    | assumption | intro _ | apply State.storeModel_keeps | apply State.closeEpisode_keeps | apply Keeps.foldl
    | apply Keeps.foldl1 | apply Keeps.foldl11 | apply Keeps.ite | apply Keeps.ite1 | dsimp only | split
    | refine Keeps.upd ?_

theorem State.toHoldover_keeps {s : State} (t : State) (h : Keeps s t) :
    Keeps s (State.toHoldover t) := by
  unfold State.toHoldover
  repeat' with_reducible first
    | assumption | intro _ | apply State.leaveLocked_keeps | apply State.showHold_keeps | apply State.put_keeps
    | apply Keeps.foldl | apply Keeps.foldl1 | apply Keeps.foldl11 | apply Keeps.ite | apply Keeps.ite1 | dsimp only
    | split | refine Keeps.upd ?_

theorem State.toQualifying_keeps {s : State} (t : State) (cls : Nat) (good : Nat) (h : Keeps s t) :
    Keeps s (State.toQualifying t cls good) := by
  unfold State.toQualifying
  repeat' with_reducible first
    | assumption | intro _ | apply State.leaveLocked_keeps | apply State.accepted_keeps | apply State.put_keeps
    | apply Keeps.foldl | apply Keeps.foldl1 | apply Keeps.foldl11 | apply Keeps.ite | apply Keeps.ite1 | dsimp only
    | split | refine Keeps.upd ?_

theorem State.lockedUnc_keeps {s : State} (t : State) (cls : Nat) (eps : Int) (h : Keeps s t) :
    Keeps s (State.lockedUnc t cls eps) := by
  unfold State.lockedUnc
  repeat' with_reducible first
    | assumption | intro _ | apply State.put_keeps | apply Keeps.foldl | apply Keeps.foldl1 | apply Keeps.foldl11
    | apply Keeps.ite | apply Keeps.ite1 | dsimp only | split | refine Keeps.upd ?_

theorem State.startObs_keeps {s : State} (t : State) (cls : Nat) (eps : Int) (h : Keeps s t) :
    Keeps s (State.startObs t cls eps) := by
  unfold State.startObs
  repeat' with_reducible first
    | assumption | intro _ | apply Keeps.foldl | apply Keeps.foldl1 | apply Keeps.foldl11 | apply Keeps.ite
    | apply Keeps.ite1 | dsimp only | split | refine Keeps.upd ?_

theorem State.toLocked_keeps {s : State} (t : State) (cls : Nat) (eps : Int) (h : Keeps s t) :
    Keeps s (State.toLocked t cls eps) := by
  unfold State.toLocked
  repeat' with_reducible first
    | assumption | intro _ | apply State.startObs_keeps | apply State.lockedUnc_keeps | apply State.openEpisode_keeps
    | apply State.requestStep_keeps | apply State.slewBy_keeps | apply State.ptpGo_keeps | apply State.put_keeps
    | apply Keeps.foldl | apply Keeps.foldl1 | apply Keeps.foldl11 | apply Keeps.ite | apply Keeps.ite1 | dsimp only
    | split | refine Keeps.upd ?_

theorem State.tryLock_keeps {s : State} (t : State) (cls : Nat) (eps : Int) (h : Keeps s t) :
    Keeps s (State.tryLock t cls eps) := by
  unfold State.tryLock
  repeat' with_reducible first
    | assumption | intro _ | apply State.toLocked_keeps | apply State.refRecord_keeps | apply State.accepted_keeps
    | apply Keeps.foldl | apply Keeps.foldl1 | apply Keeps.foldl11 | apply Keeps.ite | apply Keeps.ite1 | dsimp only
    | split | refine Keeps.upd ?_

theorem State.disciplineBy_keeps {s : State} (t : State) (tau : Rat) (eps : Int) (h : Keeps s t) :
    Keeps s (State.disciplineBy t tau eps) := by
  unfold State.disciplineBy
  repeat' with_reducible first
    | assumption | intro _ | apply Keeps.foldl | apply Keeps.foldl1 | apply Keeps.foldl11 | apply Keeps.ite
    | apply Keeps.ite1 | dsimp only | split | refine Keeps.upd ?_

theorem State.discipline_keeps {s : State} (t : State) (eps : Int) (h : Keeps s t) :
    Keeps s (State.discipline t eps) := by
  unfold State.discipline
  repeat' with_reducible first
    | assumption | intro _ | apply State.disciplineBy_keeps | apply Keeps.foldl | apply Keeps.foldl1
    | apply Keeps.foldl11 | apply Keeps.ite | apply Keeps.ite1 | dsimp only | split | refine Keeps.upd ?_

theorem State.goodInput_keeps {s : State} (t : State) (cls : Nat) (eps : Int) (h : Keeps s t) :
    Keeps s (State.goodInput t cls eps) := by
  unfold State.goodInput
  repeat' with_reducible first
    | assumption | intro _ | apply State.discipline_keeps | apply State.tryLock_keeps | apply State.startObs_keeps
    | apply State.lockedUnc_keeps | apply State.putS_keeps | apply Keeps.foldl | apply Keeps.foldl1
    | apply Keeps.foldl11 | apply Keeps.ite | apply Keeps.ite1 | dsimp only | split | refine Keeps.upd ?_

theorem State.refInput_keeps {s : State} (t : State) (cls : Nat) (good : Bool) (eps : Int) (h : Keeps s t) :
    Keeps s (State.refInput t cls good eps) := by
  unfold State.refInput
  repeat' with_reducible first
    | assumption | intro _ | apply State.goodInput_keeps | apply State.toQualifying_keeps
    | apply State.toHoldover_keeps | apply State.putS_keeps | apply Keeps.foldl | apply Keeps.foldl1
    | apply Keeps.foldl11 | apply Keeps.ite | apply Keeps.ite1 | dsimp only | split | refine Keeps.upd ?_

theorem State.labelledPulse_keeps {s : State} (t : State) (stamp : Nat) (at_ : Nat) (label : Nat) (iv : Bool)
    (h : Keeps s t) :
    Keeps s (State.labelledPulse t stamp at_ label iv) := by
  unfold State.labelledPulse
  repeat' with_reducible first
    | assumption | intro _ | apply State.refInput_keeps | apply Keeps.foldl | apply Keeps.foldl1
    | apply Keeps.foldl11 | apply Keeps.ite | apply Keeps.ite1 | dsimp only | split | refine Keeps.upd ?_

theorem execPpsPulse_keeps {s : State} (stamp : Nat) (t : State) (h : Keeps s t) :
    KeepsOut s (execPpsPulse stamp t) := by
  unfold execPpsPulse
  repeat' with_reducible first
    | assumption | intro _ | apply State.labelledPulse_keeps | apply State.refInput_keeps | apply State.reach_keeps
    | apply State.inc_keeps | apply KeepsOut.next | apply KeepsOut.ite | apply Keeps.foldl | apply Keeps.foldl1
    | apply Keeps.foldl11 | apply Keeps.ite | apply Keeps.ite1 | dsimp only | split | refine Keeps.upd ?_

theorem State.pairSentence_keeps {s : State} (t : State) (start : Nat) (stop : Nat) (label : Nat) (h : Keeps s t) :
    Keeps s (State.pairSentence t start stop label) := by
  unfold State.pairSentence
  repeat' with_reducible first
    | assumption | intro _ | apply State.labelledPulse_keeps | apply State.refInput_keeps | apply Keeps.foldl
    | apply Keeps.foldl1 | apply Keeps.foldl11 | apply Keeps.ite | apply Keeps.ite1 | dsimp only | split
    | refine Keeps.upd ?_

theorem execNmeaSentence_keeps {s : State} (good : Bool) (start : Nat) (stop : Nat) (minute : Nat) (sec : Nat)
    (t : State) (h : Keeps s t) :
    KeepsOut s (execNmeaSentence good start stop minute sec t) := by
  unfold execNmeaSentence
  repeat' with_reducible first
    | assumption | intro _ | apply State.pairSentence_keeps | apply State.refInput_keeps | apply State.reach_keeps
    | apply State.inc_keeps | apply State.put_keeps | apply KeepsOut.next | apply KeepsOut.ite | apply Keeps.foldl
    | apply Keeps.foldl1 | apply Keeps.foldl11 | apply Keeps.ite | apply Keeps.ite1 | dsimp only | split
    | refine Keeps.upd ?_

theorem State.fleetExchange_keeps {s : State} (t : State) (offset : Int) (gmClass : Nat) (h : Keeps s t) :
    Keeps s (State.fleetExchange t offset gmClass) := by
  unfold State.fleetExchange
  repeat' with_reducible first
    | assumption | intro _ | apply State.logKeeper_keeps | apply State.stationRecord_keeps | apply State.putS_keeps
    | apply State.put_keeps | apply Keeps.foldl | apply Keeps.foldl1 | apply Keeps.foldl11 | apply Keeps.ite
    | apply Keeps.ite1 | dsimp only | split | refine Keeps.upd ?_

theorem execPtpExchange_keeps {s : State} (offset : Int) (delay : Int) (gmClass : Nat) (ptpScale : Bool) (t : State)
    (h : Keeps s t) :
    KeepsOut s (execPtpExchange offset delay gmClass ptpScale t) := by
  unfold execPtpExchange
  repeat' with_reducible first
    | assumption | intro _ | apply State.fleetExchange_keeps | apply State.refInput_keeps
    | apply State.leapCheck_keeps | apply State.putS_keeps | apply KeepsOut.next | apply KeepsOut.ite
    | apply Keeps.foldl | apply Keeps.foldl1 | apply Keeps.foldl11 | apply Keeps.ite | apply Keeps.ite1 | dsimp only
    | split | refine Keeps.upd ?_

theorem execRefInputMissing_keeps {s : State} (t : State) (h : Keeps s t) :
    KeepsOut s (execRefInputMissing t) := by
  unfold execRefInputMissing
  repeat' with_reducible first
    | assumption | intro _ | apply State.toHoldover_keeps | apply KeepsOut.next | apply KeepsOut.ite
    | apply Keeps.foldl | apply Keeps.foldl1 | apply Keeps.foldl11 | apply Keeps.ite | apply Keeps.ite1 | dsimp only
    | split | refine Keeps.upd ?_

theorem execRefQualifyTimeout_keeps {s : State} (t : State) (h : Keeps s t) :
    KeepsOut s (execRefQualifyTimeout t) := by
  unfold execRefQualifyTimeout
  repeat' with_reducible first
    | assumption | intro _ | apply State.openEpisode_keeps | apply State.put_keeps | apply KeepsOut.next
    | apply KeepsOut.ite | apply Keeps.foldl | apply Keeps.foldl1 | apply Keeps.foldl11 | apply Keeps.ite
    | apply Keeps.ite1 | dsimp only | split | refine Keeps.upd ?_

theorem State.refSelChanged_keeps {s : State} (t : State) (h : Keeps s t) :
    Keeps s (State.refSelChanged t) := by
  unfold State.refSelChanged
  repeat' with_reducible first
    | assumption | intro _ | apply State.toQualifying_keeps | apply State.leaveLocked_keeps | apply State.put_keeps
    | apply Keeps.foldl | apply Keeps.foldl1 | apply Keeps.foldl11 | apply Keeps.ite | apply Keeps.ite1 | dsimp only
    | split | refine Keeps.upd ?_

theorem State.logWrite_keeps {s : State} (t : State) (c : Nat) (h : Keeps s t) :
    Keeps s (State.logWrite t c) := by
  unfold State.logWrite
  repeat' with_reducible first
    | assumption | intro _ | apply State.logStation_keeps | apply State.drawn_keeps | apply Keeps.foldl
    | apply Keeps.foldl1 | apply Keeps.foldl11 | apply Keeps.ite | apply Keeps.ite1 | dsimp only | split
    | refine Keeps.upd ?_

theorem State.refLabel_keeps {s : State} (t : State) (w : Who) (v : Nat) (h : Keeps s t) :
    Keeps s (State.refLabel t w v).1 := by
  unfold State.refLabel
  repeat' with_reducible first
    | assumption | intro _ | apply State.logWrite_keeps | apply State.put_keeps | apply Keeps.foldl
    | apply Keeps.foldl1 | apply Keeps.foldl11 | apply Keeps.ite | apply Keeps.ite1 | dsimp only | split
    | refine Keeps.upd ?_

theorem State.refAccept_keeps {s : State} (t : State) (w : Who) (v : Nat) (h : Keeps s t) :
    Keeps s (State.refAccept t w v).1 := by
  unfold State.refAccept
  repeat' with_reducible first
    | assumption | intro _ | apply State.logWrite_keeps | apply State.tryLock_keeps | apply State.accepted_keeps
    | apply Keeps.foldl | apply Keeps.foldl1 | apply Keeps.foldl11 | apply Keeps.ite | apply Keeps.ite1 | dsimp only
    | split | refine Keeps.upd ?_

theorem State.learnReset_keeps {s : State} (t : State) (w : Who) (v : Nat) (h : Keeps s t) :
    Keeps s (State.learnReset t w v).1 := by
  unfold State.learnReset
  repeat' with_reducible first
    | assumption | intro _ | apply State.logWrite_keeps | apply State.resetModel_keeps
    | apply State.repairCheck_keeps | apply Keeps.foldl | apply Keeps.foldl1 | apply Keeps.foldl11 | apply Keeps.ite
    | apply Keeps.ite1 | dsimp only | split | refine Keeps.upd ?_

theorem execRefLabelWrite_keeps {s : State} (r : Req) (t : State) (h : Keeps s t) :
    KeepsOut s (execRefLabelWrite r t) := by
  unfold execRefLabelWrite
  repeat' with_reducible first
    | assumption | intro _ | apply State.refLabel_keeps | apply atOnce_keeps | apply State.ownWrite_keeps
    | apply KeepsOut.next | apply KeepsOut.ite | apply Keeps.foldl | apply Keeps.foldl1 | apply Keeps.foldl11
    | apply Keeps.ite | apply Keeps.ite1 | dsimp only | split | refine Keeps.upd ?_

theorem execRefAcceptWrite_keeps {s : State} (r : Req) (t : State) (h : Keeps s t) :
    KeepsOut s (execRefAcceptWrite r t) := by
  unfold execRefAcceptWrite
  repeat' with_reducible first
    | assumption | intro _ | apply State.refAccept_keeps | apply atOnce_keeps | apply State.ownWrite_keeps
    | apply KeepsOut.next | apply KeepsOut.ite | apply Keeps.foldl | apply Keeps.foldl1 | apply Keeps.foldl11
    | apply Keeps.ite | apply Keeps.ite1 | dsimp only | split | refine Keeps.upd ?_

theorem execLearnResetWrite_keeps {s : State} (r : Req) (t : State) (h : Keeps s t) :
    KeepsOut s (execLearnResetWrite r t) := by
  unfold execLearnResetWrite
  repeat' with_reducible first
    | assumption | intro _ | apply State.learnReset_keeps | apply atOnce_keeps | apply State.ownWrite_keeps
    | apply KeepsOut.next | apply KeepsOut.ite | apply Keeps.foldl | apply Keeps.foldl1 | apply Keeps.foldl11
    | apply Keeps.ite | apply Keeps.ite1 | dsimp only | split | refine Keeps.upd ?_

theorem execDriftObservation_keeps {s : State} (rbar : Int) (u1 : Int) (u2 : Int) (u3 : Int) (l : Int) (t : State)
    (h : Keeps s t) :
    KeepsOut s (execDriftObservation rbar u1 u2 u3 l t) := by
  unfold execDriftObservation
  repeat' with_reducible first
    | assumption | intro _ | apply State.estimate_keeps | apply State.reach_keeps | apply KeepsOut.next
    | apply KeepsOut.ite | apply Keeps.foldl | apply Keeps.foldl1 | apply Keeps.foldl11 | apply Keeps.ite
    | apply Keeps.ite1 | dsimp only | split | refine Keeps.upd ?_

theorem execModelStore_keeps {s : State} (t : State) (h : Keeps s t) :
    KeepsOut s (execModelStore t) := by
  unfold execModelStore
  repeat' with_reducible first
    | assumption | intro _ | apply State.storeModel_keeps | apply State.cross_keeps | apply KeepsOut.next
    | apply KeepsOut.ite | apply Keeps.foldl | apply Keeps.foldl1 | apply Keeps.foldl11 | apply Keeps.ite
    | apply Keeps.ite1 | dsimp only | split | refine Keeps.upd ?_

theorem execEpisodeCounted_keeps {s : State} (t : State) (h : Keeps s t) :
    KeepsOut s (execEpisodeCounted t) := by
  unfold execEpisodeCounted
  repeat' with_reducible first
    | assumption | intro _ | apply State.learnBand_keeps | apply State.reach_keeps | apply State.inc_keeps
    | apply KeepsOut.next | apply KeepsOut.ite | apply Keeps.foldl | apply Keeps.foldl1 | apply Keeps.foldl11
    | apply Keeps.ite | apply Keeps.ite1 | dsimp only | split | refine Keeps.upd ?_

theorem execEpisodeRollover_keeps {s : State} (t : State) (h : Keeps s t) :
    KeepsOut s (execEpisodeRollover t) := by
  unfold execEpisodeRollover
  repeat' with_reducible first
    | assumption | intro _ | apply State.storeModel_keeps | apply State.openEpisode_keeps
    | apply State.closeEpisode_keeps | apply State.reach_keeps | apply KeepsOut.next | apply KeepsOut.ite
    | apply Keeps.foldl | apply Keeps.foldl1 | apply Keeps.foldl11 | apply Keeps.ite | apply Keeps.ite1 | dsimp only
    | split | refine Keeps.upd ?_

theorem execCompLoad_keeps {s : State} (ts0 : Int) (t : State) (h : Keeps s t) :
    KeepsOut s (execCompLoad ts0 t) := by
  unfold execCompLoad
  repeat' with_reducible first
    | assumption | intro _ | apply State.outageCorrection_keeps | apply State.growHold_keeps
    | apply State.refRecord_keeps | apply State.readTs_keeps | apply State.steer_keeps | apply State.putS_keeps
    | apply State.put_keeps | apply KeepsOut.next | apply KeepsOut.ite | apply Keeps.foldl | apply Keeps.foldl1
    | apply Keeps.foldl11 | apply Keeps.ite | apply Keeps.ite1 | dsimp only | split | refine Keeps.upd ?_

theorem execCompTempWake_keeps {s : State} (ts0 : Int) (t : State) (h : Keeps s t) :
    KeepsOut s (execCompTempWake ts0 t) := by
  unfold execCompTempWake
  repeat' with_reducible first
    | assumption | intro _ | apply State.readTs_keeps | apply State.wakeFb_keeps | apply KeepsOut.next
    | apply KeepsOut.ite | apply Keeps.foldl | apply Keeps.foldl1 | apply Keeps.foldl11 | apply Keeps.ite
    | apply Keeps.ite1 | dsimp only | split | refine Keeps.upd ?_

theorem execX32Qualified_keeps {s : State} (cycles : Nat) (gap : Nat) (predicted : Nat) (t : State) (h : Keeps s t) :
    KeepsOut s (execX32Qualified cycles gap predicted t) := by
  unfold execX32Qualified
  apply KeepsOut.ite_next h
  have h2 (b : Bool) : Keeps s (((State.put { t with bk := { t.bk with qualified := true }, rep := { t.rep with restarted := b } }
      Reg.X32_STATE 1).tamperOff 7).repairCheck) :=
    State.repairCheck_keeps _ (State.tamperOff_keeps _ _ (State.put_keeps _ _ _ (Keeps.upd h)))
  have h2 := h2 (t.rep.restarted || t.el Reg.X32_STATE == 2)
  dsimp only
  generalize (State.put { t with
    bk := { t.bk with qualified := true }
    rep := { t.rep with restarted := t.rep.restarted || t.el Reg.X32_STATE == 2 } } Reg.X32_STATE 1 |>.tamperOff 7).repairCheck = u at h2
  split
  · have h3 := Keeps.ite (c := u.el Reg.LEARN_STATE = 0) (State.resetModel_keeps _ h2) h2
    generalize (if u.el Reg.LEARN_STATE = 0 then u.resetModel else u) = v at h3
    exact KeepsOut.next (State.put_keeps _ _ _ (Keeps.upd h3))
  · exact h2

theorem execX32Changeover_keeps {s : State} (t : State) (h : Keeps s t) :
    KeepsOut s (execX32Changeover t) := by
  unfold execX32Changeover
  repeat' with_reducible first
    | assumption | intro _ | apply State.reach_keeps | apply KeepsOut.next | apply KeepsOut.ite | apply Keeps.foldl
    | apply Keeps.foldl1 | apply Keeps.foldl11 | apply Keeps.ite | apply Keeps.ite1 | dsimp only | split
    | refine Keeps.upd ?_

theorem execX32QualTimeout_keeps {s : State} (t : State) (h : Keeps s t) :
    KeepsOut s (execX32QualTimeout t) := by
  unfold execX32QualTimeout
  repeat' with_reducible first
    | assumption | intro _ | apply State.tamperOn_keeps | apply KeepsOut.next | apply KeepsOut.ite
    | apply Keeps.foldl | apply Keeps.foldl1 | apply Keeps.foldl11 | apply Keeps.ite | apply Keeps.ite1 | dsimp only
    | split | refine Keeps.upd ?_

theorem execX32RestartAttempt_keeps {s : State} (t : State) (h : Keeps s t) :
    KeepsOut s (execX32RestartAttempt t) := by
  unfold execX32RestartAttempt
  repeat' with_reducible first
    | assumption | intro _ | apply State.put_keeps | apply KeepsOut.next | apply KeepsOut.ite | apply Keeps.foldl
    | apply Keeps.foldl1 | apply Keeps.foldl11 | apply Keeps.ite | apply Keeps.ite1 | dsimp only | split
    | refine Keeps.upd ?_

theorem execX32Stopped_keeps {s : State} (t : State) (h : Keeps s t) :
    KeepsOut s (execX32Stopped t) := by
  unfold execX32Stopped
  repeat' with_reducible first
    | assumption | intro _ | apply State.repairCheck_keeps | apply State.tamperOn_keeps | apply State.reach_keeps
    | apply State.put_keeps | apply KeepsOut.next | apply KeepsOut.ite | apply Keeps.foldl | apply Keeps.foldl1
    | apply Keeps.foldl11 | apply Keeps.ite | apply Keeps.ite1 | dsimp only | split | refine Keeps.upd ?_

theorem execLfrcCalStart_keeps {s : State} (t : State) (h : Keeps s t) :
    KeepsOut s (execLfrcCalStart t) := by
  unfold execLfrcCalStart
  repeat' with_reducible first
    | assumption | intro _ | apply KeepsOut.next | apply KeepsOut.ite | apply Keeps.foldl | apply Keeps.foldl1
    | apply Keeps.foldl11 | apply Keeps.ite | apply Keeps.ite1 | dsimp only | split | refine Keeps.upd ?_

theorem execLfrcCalEnd_keeps {s : State} (err : Int) (temp : Int) (t : State) (h : Keeps s t) :
    KeepsOut s (execLfrcCalEnd err temp t) := by
  unfold execLfrcCalEnd
  repeat' with_reducible first
    | assumption | intro _ | apply State.put_keeps | apply KeepsOut.next | apply KeepsOut.ite | apply Keeps.foldl
    | apply Keeps.foldl1 | apply Keeps.foldl11 | apply Keeps.ite | apply Keeps.ite1 | dsimp only | split
    | refine Keeps.upd ?_

theorem execAorcMeasure_keeps {s : State} (hz : Nat) (t : State) (h : Keeps s t) :
    KeepsOut s (execAorcMeasure hz t) := by
  unfold execAorcMeasure
  repeat' with_reducible first
    | assumption | intro _ | apply State.put_keeps | apply KeepsOut.next | apply KeepsOut.ite | apply Keeps.foldl
    | apply Keeps.foldl1 | apply Keeps.foldl11 | apply Keeps.ite | apply Keeps.ite1 | dsimp only | split
    | refine Keeps.upd ?_

theorem execXhMeasure_keeps {s : State} (ppb : Int) (t : State) (h : Keeps s t) :
    KeepsOut s (execXhMeasure ppb t) := by
  unfold execXhMeasure
  repeat' with_reducible first
    | assumption | intro _ | apply State.refRecord_keeps | apply State.putS_keeps | apply KeepsOut.next
    | apply KeepsOut.ite | apply Keeps.foldl | apply Keeps.foldl1 | apply Keeps.foldl11 | apply Keeps.ite
    | apply Keeps.ite1 | dsimp only | split | refine Keeps.upd ?_

theorem execPllLockLoss_keeps {s : State} (t : State) (h : Keeps s t) :
    KeepsOut s (execPllLockLoss t) := by
  unfold execPllLockLoss
  repeat' with_reducible first
    | assumption | intro _ | apply State.fbStops_keeps | apply KeepsOut.next | apply KeepsOut.ite | apply Keeps.foldl
    | apply Keeps.foldl1 | apply Keeps.foldl11 | apply Keeps.ite | apply Keeps.ite1 | dsimp only | split
    | refine Keeps.upd ?_

theorem execPllRelock_keeps {s : State} (t : State) (h : Keeps s t) :
    KeepsOut s (execPllRelock t) := by
  unfold execPllRelock
  repeat' with_reducible first
    | assumption | intro _ | apply KeepsOut.next | apply KeepsOut.ite | apply Keeps.foldl | apply Keeps.foldl1
    | apply Keeps.foldl11 | apply Keeps.ite | apply Keeps.ite1 | dsimp only | split | refine Keeps.upd ?_

theorem execPpsOutPulse_keeps {s : State} (t : State) (h : Keeps s t) :
    KeepsOut s (execPpsOutPulse t) := by
  unfold execPpsOutPulse
  repeat' with_reducible first
    | assumption | intro _ | apply State.reach_keeps | apply State.emit_keeps | apply KeepsOut.next
    | apply KeepsOut.ite | apply Keeps.foldl | apply Keeps.foldl1 | apply Keeps.foldl11 | apply Keeps.ite
    | apply Keeps.ite1 | dsimp only | split | refine Keeps.upd ?_

theorem execPpsOutPulseEnd_keeps {s : State} (t : State) (h : Keeps s t) :
    KeepsOut s (execPpsOutPulseEnd t) := by
  unfold execPpsOutPulseEnd
  repeat' with_reducible first
    | assumption | intro _ | apply State.reach_keeps | apply KeepsOut.next | apply KeepsOut.ite | apply Keeps.foldl
    | apply Keeps.foldl1 | apply Keeps.foldl11 | apply Keeps.ite | apply Keeps.ite1 | dsimp only | split
    | refine Keeps.upd ?_

end Sys2Proof.Machine
end

