-- ==== Sys2Proof/Laws/KeepsPorts.lean ====
section
/-! SUPPORT. Every operation of Machine/Ports.lean keeps what every command keeps (Safety.Keeps). -/
namespace Sys2Proof.Machine
open Host
set_option linter.all false
set_option Elab.async false

theorem State.segDrop_keeps {s : State} (t : State) (h : Keeps s t) :
    Keeps s (State.segDrop t) := by
  unfold State.segDrop
  repeat' with_reducible first
    | assumption | intro _ | apply State.inc_keeps | apply Keeps.foldl | apply Keeps.foldl1 | apply Keeps.foldl11
    | apply Keeps.ite | apply Keeps.ite1 | dsimp only | split | refine Keeps.upd ?_

theorem State.dropKey_keeps {s : State} (t : State) (cid : Nat) (tag : Nat) (h : Keeps s t) :
    Keeps s (State.dropKey t cid tag) := by
  unfold State.dropKey
  repeat' with_reducible first
    | assumption | intro _ | apply Keeps.foldl | apply Keeps.foldl1 | apply Keeps.foldl11 | apply Keeps.ite
    | apply Keeps.ite1 | dsimp only | split | refine Keeps.upd ?_

theorem State.segTake_keeps {s : State} (t : State) (x : Reasm) (last : Bool) (index : Nat) (len : Nat) (head : Nat)
    (h : Keeps s t) :
    Keeps s (State.segTake t x last index len head) := by
  unfold State.segTake
  repeat' with_reducible first
    | assumption | intro _ | apply State.dropKey_keeps | apply State.segDrop_keeps | apply Keeps.foldl
    | apply Keeps.foldl1 | apply Keeps.foldl11 | apply Keeps.ite | apply Keeps.ite1 | dsimp only | split
    | refine Keeps.upd ?_

theorem execCanSegmentReceived_keeps {s : State} (fd : Bool) (dir : Nat) (node : Nat) (cid : Nat) (tag : Nat)
    (reserved : Nat) (first : Bool) (last : Bool) (index : Nat) (total : Nat) (len : Nat) (t : State)
    (h : Keeps s t) :
    KeepsOut s (execCanSegmentReceived fd dir node cid tag reserved first last index total len t) := by
  unfold execCanSegmentReceived
  repeat' with_reducible first
    | assumption | intro _ | apply State.segTake_keeps | apply State.dropKey_keeps | apply State.segDrop_keeps
    | apply KeepsOut.next | apply KeepsOut.ite | apply Keeps.foldl | apply Keeps.foldl1 | apply Keeps.foldl11
    | apply Keeps.ite | apply Keeps.ite1 | dsimp only | split | refine Keeps.upd ?_

theorem execCanSegTimeout_keeps {s : State} (cid : Nat) (tag : Nat) (t : State) (h : Keeps s t) :
    KeepsOut s (execCanSegTimeout cid tag t) := by
  unfold execCanSegTimeout
  repeat' with_reducible first
    | assumption | intro _ | apply State.dropKey_keeps | apply State.segDrop_keeps | apply KeepsOut.next
    | apply KeepsOut.ite | apply Keeps.foldl | apply Keeps.foldl1 | apply Keeps.foldl11 | apply Keeps.ite
    | apply Keeps.ite1 | dsimp only | split | refine Keeps.upd ?_

theorem execCanFrameTransmitted_keeps {s : State} (t : State) (h : Keeps s t) :
    KeepsOut s (execCanFrameTransmitted t) := by
  unfold execCanFrameTransmitted
  repeat' with_reducible first
    | assumption | intro _ | apply State.canRefill_keeps | apply State.emit_keeps | apply KeepsOut.next
    | apply KeepsOut.ite | apply Keeps.foldl | apply Keeps.foldl1 | apply Keeps.foldl11 | apply Keeps.ite
    | apply Keeps.ite1 | dsimp only | split | refine Keeps.upd ?_
    | refine Keeps.upd ?_ (hc := fun e => by simp only [*, List.length_cons, List.length_drop] at e ⊢; omega)

theorem execCanTxTimeout_keeps {s : State} (t : State) (h : Keeps s t) :
    KeepsOut s (execCanTxTimeout t) := by
  unfold execCanTxTimeout
  repeat' with_reducible first
    | assumption | intro _ | apply State.canRefill_keeps | apply KeepsOut.next | apply KeepsOut.ite
    | apply Keeps.foldl | apply Keeps.foldl1 | apply Keeps.foldl11 | apply Keeps.ite | apply Keeps.ite1 | dsimp only
    | split | refine Keeps.upd ?_
    | refine Keeps.upd ?_ (hc := fun e => by simp only [*, List.length_cons, List.length_drop] at e ⊢; omega)

theorem execCanBusError_keeps {s : State} (tec : Nat) (rec_ : Nat) (t : State) (h : Keeps s t) :
    KeepsOut s (execCanBusError tec rec_ t) := by
  unfold execCanBusError
  repeat' with_reducible first
    | assumption | intro _ | apply State.canCounts_keeps | apply KeepsOut.next | apply KeepsOut.ite
    | apply Keeps.foldl | apply Keeps.foldl1 | apply Keeps.foldl11 | apply Keeps.ite | apply Keeps.ite1 | dsimp only
    | split | refine Keeps.upd ?_

theorem execCanBoffHoldExpiry_keeps {s : State} (t : State) (h : Keeps s t) :
    KeepsOut s (execCanBoffHoldExpiry t) := by
  unfold execCanBoffHoldExpiry
  repeat' with_reducible first
    | assumption | intro _ | apply State.put_keeps | apply KeepsOut.next | apply KeepsOut.ite | apply Keeps.foldl
    | apply Keeps.foldl1 | apply Keeps.foldl11 | apply Keeps.ite | apply Keeps.ite1 | dsimp only | split
    | refine Keeps.upd ?_

theorem execCanRecoveryComplete_keeps {s : State} (t : State) (h : Keeps s t) :
    KeepsOut s (execCanRecoveryComplete t) := by
  unfold execCanRecoveryComplete
  repeat' with_reducible first
    | assumption | intro _ | apply State.portRecord_keeps | apply State.put_keeps | apply KeepsOut.next
    | apply KeepsOut.ite | apply Keeps.foldl | apply Keeps.foldl1 | apply Keeps.foldl11 | apply Keeps.ite
    | apply Keeps.ite1 | dsimp only | split | refine Keeps.upd ?_

theorem execT1lLinkUp_keeps {s : State} (amp24 : Bool) (master : Bool) (t : State) (h : Keeps s t) :
    KeepsOut s (execT1lLinkUp amp24 master t) := by
  unfold execT1lLinkUp
  repeat' with_reducible first
    | assumption | intro _ | apply State.startDad_keeps | apply State.ptpGo_keeps | apply State.portRecord_keeps
    | apply State.put_keeps | apply KeepsOut.next | apply KeepsOut.ite | apply Keeps.foldl | apply Keeps.foldl1
    | apply Keeps.foldl11 | apply Keeps.ite | apply Keeps.ite1 | dsimp only | split | refine Keeps.upd ?_

theorem execT1lLinkDown_keeps {s : State} (t : State) (h : Keeps s t) :
    KeepsOut s (execT1lLinkDown t) := by
  unfold execT1lLinkDown
  repeat' with_reducible first
    | assumption | intro _ | apply State.linkDown_keeps | apply KeepsOut.next | apply KeepsOut.ite
    | apply Keeps.foldl | apply Keeps.foldl1 | apply Keeps.foldl11 | apply Keeps.ite | apply Keeps.ite1 | dsimp only
    | split | refine Keeps.upd ?_

theorem State.answerEcho_keeps {s : State} (t : State) (source : Nat) (ident : Nat) (seq : Nat) (h : Keeps s t) :
    Keeps s (State.answerEcho t source ident seq) := by
  unfold State.answerEcho
  repeat' with_reducible first
    | assumption | intro _ | apply State.reply_keeps | apply State.emit_keeps | apply Keeps.foldl
    | apply Keeps.foldl1 | apply Keeps.foldl11 | apply Keeps.ite | apply Keeps.ite1 | dsimp only | split
    | refine Keeps.upd ?_

theorem execIcmpv6Echo_keeps {s : State} (f : Eth) (source : Nat) (ident : Nat) (seq : Nat) (t : State)
    (h : Keeps s t) :
    KeepsOut s (execIcmpv6Echo f source ident seq t) := by
  unfold execIcmpv6Echo
  repeat' with_reducible first
    | assumption | intro _ | apply State.answerEcho_keeps | apply State.onFrame_keeps | apply KeepsOut.next
    | apply KeepsOut.ite | apply Keeps.foldl | apply Keeps.foldl1 | apply Keeps.foldl11 | apply Keeps.ite
    | apply Keeps.ite1 | dsimp only | split | refine Keeps.upd ?_

theorem State.learnHop_keeps {s : State} (t : State) (a : Nat) (mac : Nat) (h : Keeps s t) :
    Keeps s (State.learnHop t a mac) := by
  unfold State.learnHop
  repeat' with_reducible first
    | assumption | intro _ | apply Keeps.foldl | apply Keeps.foldl1 | apply Keeps.foldl11 | apply Keeps.ite
    | apply Keeps.ite1 | dsimp only | split | refine Keeps.upd ?_

theorem State.neighbourOf_keeps {s : State} (t : State) (own : Option (Nat × Nat)) (advert : Bool) (target : Nat)
    (source : Nat) (mac : Nat) (h : Keeps s t) :
    Keeps s (State.neighbourOf t own advert target source mac) := by
  unfold State.neighbourOf
  repeat' with_reducible first
    | assumption | intro _ | apply State.learnHop_keeps | apply State.portRecord_keeps | apply State.emit_keeps
    | apply State.put_keeps | apply Keeps.foldl | apply Keeps.foldl1 | apply Keeps.foldl11 | apply Keeps.ite
    | apply Keeps.ite1 | dsimp only | split | refine Keeps.upd ?_

theorem State.neighbour_keeps {s : State} (t : State) (advert : Bool) (target : Nat) (source : Nat) (mac : Nat)
    (h : Keeps s t) :
    Keeps s (State.neighbour t advert target source mac) := by
  unfold State.neighbour
  repeat' with_reducible first
    | assumption | intro _ | apply State.neighbourOf_keeps | apply Keeps.foldl | apply Keeps.foldl1
    | apply Keeps.foldl11 | apply Keeps.ite | apply Keeps.ite1 | dsimp only | split | refine Keeps.upd ?_

theorem execNeighbourDiscoveryFrame_keeps {s : State} (f : Eth) (advert : Bool) (target : Nat) (source : Nat)
    (mac : Nat) (t : State) (h : Keeps s t) :
    KeepsOut s (execNeighbourDiscoveryFrame f advert target source mac t) := by
  unfold execNeighbourDiscoveryFrame
  repeat' with_reducible first
    | assumption | intro _ | apply State.neighbour_keeps | apply State.onFrame_keeps | apply KeepsOut.next
    | apply KeepsOut.ite | apply Keeps.foldl | apply Keeps.foldl1 | apply Keeps.foldl11 | apply Keeps.ite
    | apply Keeps.ite1 | dsimp only | split | refine Keeps.upd ?_

theorem execPtpAnnounceSend_keeps {s : State} (t : State) (h : Keeps s t) :
    KeepsOut s (execPtpAnnounceSend t) := by
  unfold execPtpAnnounceSend
  repeat' with_reducible first
    | assumption | intro _ | apply State.emit_keeps | apply State.put_keeps | apply KeepsOut.next
    | apply KeepsOut.ite | apply Keeps.foldl | apply Keeps.foldl1 | apply Keeps.foldl11 | apply Keeps.ite
    | apply Keeps.ite1 | dsimp only | split | refine Keeps.upd ?_

theorem execPtpSyncSend_keeps {s : State} (t : State) (h : Keeps s t) :
    KeepsOut s (execPtpSyncSend t) := by
  unfold execPtpSyncSend
  repeat' with_reducible first
    | assumption | intro _ | apply State.emit_keeps | apply State.drawn_keeps | apply KeepsOut.next
    | apply KeepsOut.ite | apply Keeps.foldl | apply Keeps.foldl1 | apply Keeps.foldl11 | apply Keeps.ite
    | apply Keeps.ite1 | dsimp only | split | refine Keeps.upd ?_

theorem execPtpDelayReqReceived_keeps {s : State} (f : Eth) (requester : Nat) (t : State) (h : Keeps s t) :
    KeepsOut s (execPtpDelayReqReceived f requester t) := by
  unfold execPtpDelayReqReceived
  repeat' with_reducible first
    | assumption | intro _ | apply State.onFrame_keeps | apply State.emit_keeps | apply State.drawn_keeps
    | apply KeepsOut.next | apply KeepsOut.ite | apply Keeps.foldl | apply Keeps.foldl1 | apply Keeps.foldl11
    | apply Keeps.ite | apply Keeps.ite1 | dsimp only | split | refine Keeps.upd ?_

theorem State.ptpPart_keeps {s : State} (t : State) (part : Nat) (parent : Nat) (h : Keeps s t) :
    Keeps s (State.ptpPart t part parent) := by
  unfold State.ptpPart
  repeat' with_reducible first
    | assumption | intro _ | apply State.ptpGo_keeps | apply State.put_keeps | apply Keeps.foldl | apply Keeps.foldl1
    | apply Keeps.foldl11 | apply Keeps.ite | apply Keeps.ite1 | dsimp only | split | refine Keeps.upd ?_

theorem execPtpAnnounceReceived_keeps {s : State} (f : Eth) (part : Fin 3) (parent : Nat) (utc : Option Int)
    (t : State) (h : Keeps s t) :
    KeepsOut s (execPtpAnnounceReceived f part parent utc t) := by
  unfold execPtpAnnounceReceived
  repeat' with_reducible first
    | assumption | intro _ | apply State.ptpPart_keeps | apply State.leapCheck_keeps | apply State.onFrame_keeps
    | apply KeepsOut.next | apply KeepsOut.ite | apply Keeps.foldl | apply Keeps.foldl1 | apply Keeps.foldl11
    | apply Keeps.ite | apply Keeps.ite1 | dsimp only | split | refine Keeps.upd ?_

theorem execAnnounceReceiptTimeout_keeps {s : State} (t : State) (h : Keeps s t) :
    KeepsOut s (execAnnounceReceiptTimeout t) := by
  unfold execAnnounceReceiptTimeout
  repeat' with_reducible first
    | assumption | intro _ | apply State.ptpPart_keeps | apply KeepsOut.next | apply KeepsOut.ite | apply Keeps.foldl
    | apply Keeps.foldl1 | apply Keeps.foldl11 | apply Keeps.ite | apply Keeps.ite1 | dsimp only | split
    | refine Keeps.upd ?_

theorem State.hostError_keeps {s : State} (t : State) (h : Keeps s t) :
    Keeps s (State.hostError t) := by
  unfold State.hostError
  repeat' with_reducible first
    | assumption | intro _ | apply Keeps.foldl | apply Keeps.foldl1 | apply Keeps.foldl11 | apply Keeps.ite
    | apply Keeps.ite1 | dsimp only | split | refine Keeps.upd ?_

theorem State.hostDrop_keeps {s : State} (t : State) (h : Keeps s t) :
    Keeps s (State.hostDrop t) := by
  unfold State.hostDrop
  repeat' with_reducible first
    | assumption | intro _ | apply State.hostError_keeps | apply State.inc_keeps | apply Keeps.foldl
    | apply Keeps.foldl1 | apply Keeps.foldl11 | apply Keeps.ite | apply Keeps.ite1 | dsimp only | split
    | refine Keeps.upd ?_

theorem State.hostTurn_keeps {s : State} (t : State) (addr : Nat) (go : State → State) (h : Keeps s t)
    (hgo : ∀ u, Keeps s u → Keeps s (go u)) :
    Keeps s (State.hostTurn t addr go) := by
  unfold State.hostTurn
  repeat' with_reducible first
    | assumption | intro _ | apply hgo | apply State.emit_keeps | apply Keeps.foldl | apply Keeps.foldl1
    | apply Keeps.foldl11 | apply Keeps.ite | apply Keeps.ite1 | dsimp only | split | refine Keeps.upd ?_

theorem execHostSend_keeps {s : State} (addr : Nat) (typ : Nat) (sound : Bool) (t : State) (h : Keeps s t) :
    KeepsOut s (execHostSend addr typ sound t) := by
  unfold execHostSend
  repeat' with_reducible first
    | assumption | intro _ | apply State.hostTurn_keeps | apply State.hostDrop_keeps | apply State.emit_keeps
    | apply State.inc_keeps | apply KeepsOut.next | apply KeepsOut.ite | apply Keeps.foldl | apply Keeps.foldl1
    | apply Keeps.foldl11 | apply Keeps.ite | apply Keeps.ite1 | dsimp only | split | refine Keeps.upd ?_

theorem State.fetchFrame_keeps {s : State} (t : State) (whole : Bool) (h : Keeps s t) :
    Keeps s (State.fetchFrame t whole) := by
  unfold State.fetchFrame
  repeat' with_reducible first
    | assumption | intro _ | apply State.emit_keeps | apply Keeps.foldl | apply Keeps.foldl1 | apply Keeps.foldl11
    | apply Keeps.ite | apply Keeps.ite1 | dsimp only | split | refine Keeps.upd ?_

theorem execHostFetch_keeps {s : State} (addr : Nat) (whole : Bool) (t : State) (h : Keeps s t) :
    KeepsOut s (execHostFetch addr whole t) := by
  unfold execHostFetch
  repeat' with_reducible first
    | assumption | intro _ | apply State.fetchFrame_keeps | apply State.hostTurn_keeps | apply KeepsOut.next
    | apply KeepsOut.ite | apply Keeps.foldl | apply Keeps.foldl1 | apply Keeps.foldl11 | apply Keeps.ite
    | apply Keeps.ite1 | dsimp only | split | dsimp only [id] | refine Keeps.upd ?_

theorem execHostStatus_keeps {s : State} (addr : Nat) (t : State) (h : Keeps s t) :
    KeepsOut s (execHostStatus addr t) := by
  unfold execHostStatus
  repeat' with_reducible first
    | assumption | intro _ | apply State.hostTurn_keeps | apply State.emit_keeps | apply KeepsOut.next
    | apply KeepsOut.ite | apply Keeps.foldl | apply Keeps.foldl1 | apply Keeps.foldl11 | apply Keeps.ite
    | apply Keeps.ite1 | dsimp only | split | dsimp only [id] | refine Keeps.upd ?_

theorem execHostUnknownCommand_keeps {s : State} (addr : Nat) (t : State) (h : Keeps s t) :
    KeepsOut s (execHostUnknownCommand addr t) := by
  unfold execHostUnknownCommand
  repeat' with_reducible first
    | assumption | intro _ | apply State.hostTurn_keeps | apply State.hostError_keeps | apply State.emit_keeps
    | apply KeepsOut.next | apply KeepsOut.ite | apply Keeps.foldl | apply Keeps.foldl1 | apply Keeps.foldl11
    | apply Keeps.ite | apply Keeps.ite1 | dsimp only | split | refine Keeps.upd ?_

end Sys2Proof.Machine
end

