-- ==== Sys2Proof/Laws/KeepsTwin.lean ====
section
/-! SUPPORT. Every operation of Machine/Twin.lean keeps what every command keeps (Safety.Keeps). -/
namespace Sys2Proof.Machine
open Host
set_option linter.all false
set_option Elab.async false

theorem State.twinRecord_keeps {s : State} (t : State) (kind : Nat) (detail : Nat) (h : Keeps s t) :
    Keeps s (State.twinRecord t kind detail) := by
  unfold State.twinRecord
  repeat' with_reducible first
    | assumption | intro _ | apply State.stationRecord_keeps | apply Keeps.foldl | apply Keeps.foldl1
    | apply Keeps.foldl11 | apply Keeps.ite | apply Keeps.ite1 | dsimp only | split | refine Keeps.upd ?_

theorem State.bondSend_keeps {s : State} (t : State) (name : String) (l : List Nat) (h : Keeps s t) :
    Keeps s (State.bondSend t name l) := by
  unfold State.bondSend
  repeat' with_reducible first
    | assumption | intro _ | apply State.emit_keeps | apply Keeps.foldl | apply Keeps.foldl1 | apply Keeps.foldl11
    | apply Keeps.ite | apply Keeps.ite1 | dsimp only | split | refine Keeps.upd ?_

theorem State.bondTook_keeps {s : State} (t : State) (f : Bond) (h : Keeps s t) :
    Keeps s (State.bondTook t f) := by
  unfold State.bondTook
  repeat' with_reducible first
    | assumption | intro _ | apply Keeps.foldl | apply Keeps.foldl1 | apply Keeps.foldl11 | apply Keeps.ite
    | apply Keeps.ite1 | dsimp only | split | refine Keeps.upd ?_

theorem State.bondDrop_keeps {s : State} (t : State) (h : Keeps s t) :
    Keeps s (State.bondDrop t) := by
  unfold State.bondDrop
  repeat' with_reducible first
    | assumption | intro _ | apply State.inc_keeps | apply Keeps.foldl | apply Keeps.foldl1 | apply Keeps.foldl11
    | apply Keeps.ite | apply Keeps.ite1 | dsimp only | split | refine Keeps.upd ?_

theorem State.lendRails_keeps {s : State} (t : State) (h : Keeps s t) :
    Keeps s (State.lendRails t) := by
  unfold State.lendRails
  repeat' with_reducible first
    | assumption | intro _ | apply Keeps.foldl | apply Keeps.foldl1 | apply Keeps.foldl11 | apply Keeps.ite
    | apply Keeps.ite1 | dsimp only | split | refine Keeps.upd ?_

theorem State.dropShared_keeps {s : State} (t : State) (h : Keeps s t) :
    Keeps s (State.dropShared t) := by
  unfold State.dropShared
  repeat' with_reducible first
    | assumption | intro _ | apply State.lendRails_keeps | apply State.settle_keeps | apply State.outGo_keeps
    | apply State.outClientRecords_keeps | apply Keeps.foldl | apply Keeps.foldl1 | apply Keeps.foldl11
    | apply Keeps.ite | apply Keeps.ite1 | dsimp only | split | refine Keeps.upd ?_

theorem State.twinGo_keeps {s : State} (t : State) (v : Nat) (h : Keeps s t) :
    Keeps s (State.twinGo t v) := by
  unfold State.twinGo
  repeat' with_reducible first
    | assumption | intro _ | apply State.dropShared_keeps | apply State.lendRails_keeps
    | apply State.twinRecord_keeps | apply State.outputsChanged_keeps | apply State.put_keeps | apply Keeps.foldl
    | apply Keeps.foldl1 | apply Keeps.foldl11 | apply Keeps.ite | apply Keeps.ite1 | dsimp only | split
    | refine Keeps.upd ?_

theorem State.peerIdChanged_keeps {s : State} (t : State) (h : Keeps s t) :
    Keeps s (State.peerIdChanged t) := by
  unfold State.peerIdChanged
  repeat' with_reducible first
    | assumption | intro _ | apply State.twinGo_keeps | apply Keeps.foldl | apply Keeps.foldl1 | apply Keeps.foldl11
    | apply Keeps.ite | apply Keeps.ite1 | dsimp only | split | refine Keeps.upd ?_

theorem State.startFollow_keeps {s : State} (t : State) (h : Keeps s t) :
    Keeps s (State.startFollow t) := by
  unfold State.startFollow
  repeat' with_reducible first
    | assumption | intro _ | apply State.leaveLocked_keeps | apply Keeps.foldl | apply Keeps.foldl1
    | apply Keeps.foldl11 | apply Keeps.ite | apply Keeps.ite1 | dsimp only | split | refine Keeps.upd ?_

theorem State.closeFollow_keeps {s : State} (t : State) (h : Keeps s t) :
    Keeps s (State.closeFollow t) := by
  unfold State.closeFollow
  repeat' with_reducible first
    | assumption | intro _ | apply State.storeModel_keeps | apply State.closeEpisode_keeps | apply Keeps.foldl
    | apply Keeps.foldl1 | apply Keeps.foldl11 | apply Keeps.ite | apply Keeps.ite1 | dsimp only | split
    | refine Keeps.upd ?_

theorem State.endFollow_keeps {s : State} (t : State) (h : Keeps s t) :
    Keeps s (State.endFollow t) := by
  unfold State.endFollow
  repeat' with_reducible first
    | assumption | intro _ | apply State.closeFollow_keeps | apply State.toLocked_keeps
    | apply State.toHoldover_keeps | apply Keeps.foldl | apply Keeps.foldl1 | apply Keeps.foldl11 | apply Keeps.ite
    | apply Keeps.ite1 | dsimp only | split | refine Keeps.upd ?_

theorem State.twinSplit_keeps {s : State} (t : State) (h : Keeps s t) :
    Keeps s (State.twinSplit t) := by
  unfold State.twinSplit
  repeat' with_reducible first
    | assumption | intro _ | apply State.endFollow_keeps | apply State.twinGo_keeps | apply State.tamperOn_keeps
    | apply State.logKeeper_keeps | apply State.inc_keeps | apply State.put_keeps | apply Keeps.foldl
    | apply Keeps.foldl1 | apply Keeps.foldl11 | apply Keeps.ite | apply Keeps.ite1 | dsimp only | split
    | refine Keeps.upd ?_

theorem State.linkLost_keeps {s : State} (t : State) (h : Keeps s t) :
    Keeps s (State.linkLost t) := by
  unfold State.linkLost
  repeat' with_reducible first
    | assumption | intro _ | apply State.twinSplit_keeps | apply Keeps.foldl | apply Keeps.foldl1
    | apply Keeps.foldl11 | apply Keeps.ite | apply Keeps.ite1 | dsimp only | split | refine Keeps.upd ?_

theorem State.enterDiscord_keeps {s : State} (t : State) (h : Keeps s t) :
    Keeps s (State.enterDiscord t) := by
  unfold State.enterDiscord
  repeat' with_reducible first
    | assumption | intro _ | apply State.twinGo_keeps | apply State.twinRecord_keeps | apply State.logKeeper_keeps
    | apply Keeps.foldl | apply Keeps.foldl1 | apply Keeps.foldl11 | apply Keeps.ite | apply Keeps.ite1 | dsimp only
    | split | refine Keeps.upd ?_

theorem State.leaveDiscord_keeps {s : State} (t : State) (h : Keeps s t) :
    Keeps s (State.leaveDiscord t) := by
  unfold State.leaveDiscord
  repeat' with_reducible first
    | assumption | intro _ | apply State.twinGo_keeps | apply State.twinRecord_keeps | apply State.logKeeper_keeps
    | apply State.logStation_keeps | apply Keeps.foldl | apply Keeps.foldl1 | apply Keeps.foldl11 | apply Keeps.ite
    | apply Keeps.ite1 | dsimp only | split | refine Keeps.upd ?_

theorem State.tryJoin_keeps {s : State} (t : State) (h : Keeps s t) :
    Keeps s (State.tryJoin t) := by
  unfold State.tryJoin
  repeat' with_reducible first
    | assumption | intro _ | apply State.enterDiscord_keeps | apply State.twinGo_keeps | apply State.tamperOff_keeps
    | apply State.logKeeper_keeps | apply State.put_keeps | apply Keeps.foldl | apply Keeps.foldl1
    | apply Keeps.foldl11 | apply Keeps.ite | apply Keeps.ite1 | dsimp only | split | refine Keeps.upd ?_

theorem State.sendHello_keeps {s : State} (t : State) (h : Keeps s t) :
    Keeps s (State.sendHello t) := by
  unfold State.sendHello
  repeat' with_reducible first
    | assumption | intro _ | apply State.bondSend_keeps | apply State.signK0_keeps | apply State.drawn_keeps
    | apply Keeps.foldl | apply Keeps.foldl1 | apply Keeps.foldl11 | apply Keeps.ite | apply Keeps.ite1 | dsimp only
    | split | refine Keeps.upd ?_

theorem execTwinHelloSend_keeps {s : State} (t : State) (h : Keeps s t) :
    KeepsOut s (execTwinHelloSend t) := by
  unfold execTwinHelloSend
  repeat' with_reducible first
    | assumption | intro _ | apply State.sendHello_keeps | apply State.cross_keeps | apply KeepsOut.next
    | apply KeepsOut.ite | apply Keeps.foldl | apply Keeps.foldl1 | apply Keeps.foldl11 | apply Keeps.ite
    | apply Keeps.ite1 | dsimp only | split | refine Keeps.upd ?_

theorem State.helloAccepted_keeps {s : State} (t : State) (f : Bond) (h_ : Hello) (key : Nat) (h : Keeps s t) :
    Keeps s (State.helloAccepted t f h_ key) := by
  unfold State.helloAccepted
  repeat' with_reducible first
    | assumption | intro _ | apply State.twinGo_keeps | apply State.bondSend_keeps | apply State.logKeeper_keeps
    | apply State.put_keeps | apply Keeps.foldl | apply Keeps.foldl1 | apply Keeps.foldl11 | apply Keeps.ite
    | apply Keeps.ite1 | dsimp only | split | refine Keeps.upd ?_

theorem execTwinHello_keeps {s : State} (f : Bond) (h_ : Hello) (t : State) (h : Keeps s t) :
    KeepsOut s (execTwinHello f h_ t) := by
  unfold execTwinHello
  repeat' with_reducible first
    | assumption | intro _ | apply State.helloAccepted_keeps | apply State.sendHello_keeps
    | apply State.bondDrop_keeps | apply State.cross_keeps | apply KeepsOut.next | apply KeepsOut.ite
    | apply Keeps.foldl | apply Keeps.foldl1 | apply Keeps.foldl11 | apply Keeps.ite | apply Keeps.ite1 | dsimp only
    | split | dsimp only [id] | refine Keeps.upd ?_

theorem execTwinHeartbeatSend_keeps {s : State} (t : State) (h : Keeps s t) :
    KeepsOut s (execTwinHeartbeatSend t) := by
  unfold execTwinHeartbeatSend
  repeat' with_reducible first
    | assumption | intro _ | apply State.bondSend_keeps | apply KeepsOut.next | apply KeepsOut.ite
    | apply Keeps.foldl | apply Keeps.foldl1 | apply Keeps.foldl11 | apply Keeps.ite | apply Keeps.ite1 | dsimp only
    | split | refine Keeps.upd ?_

theorem State.echoed_keeps {s : State} (t : State) (h : Keeps s t) :
    Keeps s (State.echoed t) := by
  unfold State.echoed
  repeat' with_reducible first
    | assumption | intro _ | apply State.settle_keeps | apply State.outGo_keeps | apply Keeps.foldl
    | apply Keeps.foldl1 | apply Keeps.foldl11 | apply Keeps.ite | apply Keeps.ite1 | dsimp only | split
    | refine Keeps.upd ?_

theorem execTwinHeartbeat_keeps {s : State} (f : Bond) (state : Nat) (word : Nat) (echo : Nat) (count : Nat)
    (ready : Bool) (t : State) (h : Keeps s t) :
    KeepsOut s (execTwinHeartbeat f state word echo count ready t) := by
  unfold execTwinHeartbeat
  repeat' with_reducible first
    | assumption | intro _ | apply State.echoed_keeps | apply State.lendRails_keeps | apply State.bondDrop_keeps
    | apply State.bondTook_keeps | apply KeepsOut.next | apply KeepsOut.ite | apply Keeps.foldl | apply Keeps.foldl1
    | apply Keeps.foldl11 | apply Keeps.ite | apply Keeps.ite1 | dsimp only | split | refine Keeps.upd ?_

theorem execTwinHeartbeatMiss_keeps {s : State} (t : State) (h : Keeps s t) :
    KeepsOut s (execTwinHeartbeatMiss t) := by
  unfold execTwinHeartbeatMiss
  repeat' with_reducible first
    | assumption | intro _ | apply State.linkLost_keeps | apply State.reach_keeps | apply KeepsOut.next
    | apply KeepsOut.ite | apply Keeps.foldl | apply Keeps.foldl1 | apply Keeps.foldl11 | apply Keeps.ite
    | apply Keeps.ite1 | dsimp only | split | refine Keeps.upd ?_

theorem execTwinSyncSend_keeps {s : State} (t : State) (h : Keeps s t) :
    KeepsOut s (execTwinSyncSend t) := by
  unfold execTwinSyncSend
  repeat' with_reducible first
    | assumption | intro _ | apply State.bondSend_keeps | apply KeepsOut.next | apply KeepsOut.ite
    | apply Keeps.foldl | apply Keeps.foldl1 | apply Keeps.foldl11 | apply Keeps.ite | apply Keeps.ite1 | dsimp only
    | split | refine Keeps.upd ?_

theorem State.applyLeader_keeps {s : State} (t : State) (h : Keeps s t) :
    Keeps s (State.applyLeader t) := by
  unfold State.applyLeader
  repeat' with_reducible first
    | assumption | intro _ | apply State.twinRecord_keeps | apply State.logKeeper_keeps | apply State.put_keeps
    | apply Keeps.foldl | apply Keeps.foldl1 | apply Keeps.foldl11 | apply Keeps.ite | apply Keeps.ite1 | dsimp only
    | split | refine Keeps.upd ?_

theorem State.followObs_keeps {s : State} (t : State) (locked : Bool) (offset : Int) (sigma : Nat) (h : Keeps s t) :
    Keeps s (State.followObs t locked offset sigma) := by
  unfold State.followObs
  repeat' with_reducible first
    | assumption | intro _ | apply State.closeFollow_keeps | apply State.openEpisode_keeps | apply State.putS_keeps
    | apply Keeps.foldl | apply Keeps.foldl1 | apply Keeps.foldl11 | apply Keeps.ite | apply Keeps.ite1 | dsimp only
    | split | refine Keeps.upd ?_

theorem State.timeDisagree_keeps {s : State} (t : State) (offset : Int) (h : Keeps s t) :
    Keeps s (State.timeDisagree t offset) := by
  unfold State.timeDisagree
  repeat' with_reducible first
    | assumption | intro _ | apply State.twinRecord_keeps | apply State.logKeeper_keeps | apply Keeps.foldl
    | apply Keeps.foldl1 | apply Keeps.foldl11 | apply Keeps.ite | apply Keeps.ite1 | dsimp only | split
    | refine Keeps.upd ?_

theorem State.joinOffset_keeps {s : State} (t : State) (offset : Int) (h : Keeps s t) :
    Keeps s (State.joinOffset t offset) := by
  unfold State.joinOffset
  repeat' with_reducible first
    | assumption | intro _ | apply State.requestStep_keeps | apply State.slewMore_keeps | apply State.put_keeps
    | apply Keeps.foldl | apply Keeps.foldl1 | apply Keeps.foldl11 | apply Keeps.ite | apply Keeps.ite1 | dsimp only
    | split | refine Keeps.upd ?_

theorem execTwinSync_keeps {s : State} (f : Bond) (t1 : Int) (t2 : Int) (t3 : Int) (t4 : Int) (leadState : Nat)
    (leadUnc : Nat) (leadSigma : Nat) (leadLocked : Bool) (t : State) (h : Keeps s t) :
    KeepsOut s (execTwinSync f t1 t2 t3 t4 leadState leadUnc leadSigma leadLocked t) := by
  unfold execTwinSync
  repeat' with_reducible first
    | assumption | intro _ | apply State.joinOffset_keeps | apply State.timeDisagree_keeps
    | apply State.followObs_keeps | apply State.applyLeader_keeps | apply State.tryJoin_keeps
    | apply State.endFollow_keeps | apply State.startFollow_keeps | apply State.bondDrop_keeps
    | apply State.bondTook_keeps | apply State.disciplineBy_keeps | apply State.putS_keeps | apply State.put_keeps
    | apply KeepsOut.next | apply KeepsOut.ite | apply Keeps.foldl | apply Keeps.foldl1 | apply Keeps.foldl11
    | apply Keeps.ite | apply Keeps.ite1 | dsimp only | split | refine Keeps.upd ?_

theorem State.compareDigests_keeps {s : State} (t : State) (h : Keeps s t) :
    Keeps s (State.compareDigests t) := by
  unfold State.compareDigests
  repeat' with_reducible first
    | assumption | intro _ | apply State.tryJoin_keeps | apply State.leaveDiscord_keeps
    | apply State.enterDiscord_keeps | apply Keeps.foldl | apply Keeps.foldl1 | apply Keeps.foldl11 | apply Keeps.ite
    | apply Keeps.ite1 | dsimp only | split | refine Keeps.upd ?_

theorem execTwinDigestCompute_keeps {s : State} (t : State) (h : Keeps s t) :
    KeepsOut s (execTwinDigestCompute t) := by
  unfold execTwinDigestCompute
  repeat' with_reducible first
    | assumption | intro _ | apply State.compareDigests_keeps | apply State.bondSend_keeps | apply State.reach_keeps
    | apply State.put_keeps | apply KeepsOut.next | apply KeepsOut.ite | apply Keeps.foldl | apply Keeps.foldl1
    | apply Keeps.foldl11 | apply Keeps.ite | apply Keeps.ite1 | dsimp only | split | refine Keeps.upd ?_

theorem execTwinDigest_keeps {s : State} (f : Bond) (instant : Nat) (digest : Nat) (t : State) (h : Keeps s t) :
    KeepsOut s (execTwinDigest f instant digest t) := by
  unfold execTwinDigest
  repeat' with_reducible first
    | assumption | intro _ | apply State.compareDigests_keeps | apply State.bondDrop_keeps
    | apply State.bondTook_keeps | apply State.put_keeps | apply KeepsOut.next | apply KeepsOut.ite
    | apply Keeps.foldl | apply Keeps.foldl1 | apply Keeps.foldl11 | apply Keeps.ite | apply Keeps.ite1 | dsimp only
    | split | refine Keeps.upd ?_

theorem execTwinRecord_keeps {s : State} (f : Bond) (stamp : Nat) (source : Nat) (kind : Nat) (flags : Nat)
    (detail : Nat) (t : State) (h : Keeps s t) :
    KeepsOut s (execTwinRecord f stamp source kind flags detail t) := by
  unfold execTwinRecord
  repeat' with_reducible first
    | assumption | intro _ | apply State.bondDrop_keeps | apply State.bondTook_keeps | apply State.record_keeps
    | apply KeepsOut.next | apply KeepsOut.ite | apply Keeps.foldl | apply Keeps.foldl1 | apply Keeps.foldl11
    | apply Keeps.ite | apply Keeps.ite1 | dsimp only | split | refine Keeps.upd ?_

end Sys2Proof.Machine
end

