-- ==== Sys2Proof/Laws/KeepsWatchdog.lean ====
section
/-! SUPPORT. Every operation of Machine/Watchdog.lean keeps what every command keeps (Safety.Keeps). -/
namespace Sys2Proof.Machine
open Host
set_option linter.all false
set_option Elab.async false

theorem State.resetCr_keeps {s : State} (t : State) (h : Keeps s t) :
    Keeps s (State.resetCr t) := by
  unfold State.resetCr
  repeat' with_reducible first
    | assumption | intro _ | apply State.drainCr_keeps | apply State.resetIsl_keeps | apply State.startDrain_keeps
    | apply Keeps.foldl | apply Keeps.foldl1 | apply Keeps.foldl11 | apply Keeps.ite | apply Keeps.ite1 | dsimp only
    | split | refine Keeps.upd ?_

theorem State.wdTrip_keeps {s : State} (t : State) (w : Nat) (cause : Nat) (h : Keeps s t) :
    Keeps s (State.wdTrip t w cause) := by
  unfold State.wdTrip
  repeat' with_reducible first
    | assumption | intro _ | apply State.resetCr_keeps | apply State.returnClaims_keeps | apply State.wdRecord_keeps
    | apply State.setWd_keeps | apply State.logKeeper_keeps | apply State.inc_keeps | apply State.put_keeps
    | apply Keeps.foldl | apply Keeps.foldl1 | apply Keeps.foldl11 | apply Keeps.ite | apply Keeps.ite1 | dsimp only
    | split | refine Keeps.upd ?_

theorem State.wdViolation_keeps {s : State} (t : State) (w : Nat) (cause : Nat) (h : Keeps s t) :
    Keeps s (State.wdViolation t w cause) := by
  unfold State.wdViolation
  repeat' with_reducible first
    | assumption | intro _ | apply State.wdTrip_keeps | apply State.newPeriod_keeps | apply State.wdRecord_keeps
    | apply State.setWd_keeps | apply State.callCr_keeps | apply State.inc_keeps | apply Keeps.foldl
    | apply Keeps.foldl1 | apply Keeps.foldl11 | apply Keeps.ite | apply Keeps.ite1 | dsimp only | split
    | refine Keeps.upd ?_

theorem State.wdServed_keeps {s : State} (t : State) (w : Nat) (ms : Nat) (h : Keeps s t) :
    Keeps s (State.wdServed t w ms) := by
  unfold State.wdServed
  repeat' with_reducible first
    | assumption | intro _ | apply State.startPeriod_keeps | apply State.wdRecord_keeps | apply State.setWd_keeps
    | apply Keeps.foldl | apply Keeps.foldl1 | apply Keeps.foldl11 | apply Keeps.ite | apply Keeps.ite1 | dsimp only
    | split | refine Keeps.upd ?_

theorem State.wdKey_keeps {s : State} (t : State) (w : Nat) (v : Nat) (h : Keeps s t) :
    Keeps s (State.wdKey t w v).1 := by
  unfold State.wdKey
  repeat' with_reducible first
    | assumption | intro _ | apply State.wdServed_keeps | apply State.wdViolation_keeps | apply State.setWd_keeps
    | apply Keeps.foldl | apply Keeps.foldl1 | apply Keeps.foldl11 | apply Keeps.ite | apply Keeps.ite1 | dsimp only
    | split | refine Keeps.upd ?_

theorem State.wdCheckin_keeps {s : State} (t : State) (w : Nat) (v : Nat) (h : Keeps s t) :
    Keeps s (State.wdCheckin t w v).1 := by
  unfold State.wdCheckin
  repeat' with_reducible first
    | assumption | intro _ | apply State.wdServed_keeps | apply State.setWd_keeps | apply Keeps.foldl
    | apply Keeps.foldl1 | apply Keeps.foldl11 | apply Keeps.ite | apply Keeps.ite1 | dsimp only | split
    | refine Keeps.upd ?_

theorem State.wdNap_keeps {s : State} (t : State) (w : Nat) (v : Nat) (h : Keeps s t) :
    Keeps s (State.wdNap t w v).1 := by
  unfold State.wdNap
  repeat' with_reducible first
    | assumption | intro _ | apply State.wdServed_keeps | apply State.wdViolation_keeps | apply Keeps.foldl
    | apply Keeps.foldl1 | apply Keeps.foldl11 | apply Keeps.ite | apply Keeps.ite1 | dsimp only | split
    | refine Keeps.upd ?_

theorem State.wdWrite_keeps {s : State} (t : State) (cmd : Instr) (r : Req) (elem : Nat) (f : Nat → Bool)
    (eff : State → Nat → Nat → State × Stat) (h : Keeps s t) (heff : ∀ u a0 a1, Keeps s u → Keeps s (eff u a0 a1).1) :
    Keeps s (State.wdWrite t cmd r elem f eff) := by
  unfold State.wdWrite
  repeat' with_reducible first
    | assumption | intro _ | apply heff | apply atOnce_keeps | apply State.rightsWrite_keeps | apply Keeps.foldl
    | apply Keeps.foldl1 | apply Keeps.foldl11 | apply Keeps.ite | apply Keeps.ite1 | dsimp only | split
    | refine Keeps.upd ?_

theorem execWdKeyArm_keeps {s : State} (r : Option Req) (t : State) (h : Keeps s t) :
    KeepsOut s (execWdKeyArm r t) := by
  unfold execWdKeyArm
  repeat' with_reducible first
    | assumption | intro _ | apply State.wdWrite_keeps | apply State.wdKey_keeps | apply KeepsOut.next
    | apply KeepsOut.ite | apply Keeps.foldl | apply Keeps.foldl1 | apply Keeps.foldl11 | apply Keeps.ite
    | apply Keeps.ite1 | dsimp only | split | refine Keeps.upd ?_

theorem execWdKeyService_keeps {s : State} (r : Option Req) (t : State) (h : Keeps s t) :
    KeepsOut s (execWdKeyService r t) := by
  unfold execWdKeyService
  repeat' with_reducible first
    | assumption | intro _ | apply State.wdWrite_keeps | apply State.wdKey_keeps | apply KeepsOut.next
    | apply KeepsOut.ite | apply Keeps.foldl | apply Keeps.foldl1 | apply Keeps.foldl11 | apply Keeps.ite
    | apply Keeps.ite1 | dsimp only | split | refine Keeps.upd ?_

theorem execWdKeyBad_keeps {s : State} (r : Req) (t : State) (h : Keeps s t) :
    KeepsOut s (execWdKeyBad r t) := by
  unfold execWdKeyBad
  repeat' with_reducible first
    | assumption | intro _ | apply State.wdWrite_keeps | apply State.wdKey_keeps | apply KeepsOut.next
    | apply KeepsOut.ite | apply Keeps.foldl | apply Keeps.foldl1 | apply Keeps.foldl11 | apply Keeps.ite
    | apply Keeps.ite1 | dsimp only | split | refine Keeps.upd ?_

theorem execWdCheckin_keeps {s : State} (r : Req) (t : State) (h : Keeps s t) :
    KeepsOut s (execWdCheckin r t) := by
  unfold execWdCheckin
  repeat' with_reducible first
    | assumption | intro _ | apply State.wdWrite_keeps | apply State.wdCheckin_keeps | apply KeepsOut.next
    | apply KeepsOut.ite | apply Keeps.foldl | apply Keeps.foldl1 | apply Keeps.foldl11 | apply Keeps.ite
    | apply Keeps.ite1 | dsimp only | split | refine Keeps.upd ?_

theorem execWdNap_keeps {s : State} (r : Req) (t : State) (h : Keeps s t) :
    KeepsOut s (execWdNap r t) := by
  unfold execWdNap
  repeat' with_reducible first
    | assumption | intro _ | apply State.wdWrite_keeps | apply State.wdNap_keeps | apply KeepsOut.next
    | apply KeepsOut.ite | apply Keeps.foldl | apply Keeps.foldl1 | apply Keeps.foldl11 | apply Keeps.ite
    | apply Keeps.ite1 | dsimp only | split | refine Keeps.upd ?_

theorem State.wdReach_keeps {s : State} (t : State) (w : Nat) (k : Nat) (h : Keeps s t) :
    Keeps s (State.wdReach t w k) := by
  unfold State.wdReach
  repeat' with_reducible first
    | assumption | intro _ | apply State.reach_keeps | apply Keeps.foldl | apply Keeps.foldl1 | apply Keeps.foldl11
    | apply Keeps.ite | apply Keeps.ite1 | dsimp only | split | refine Keeps.upd ?_

theorem execWdPeriodEnd_keeps {s : State} (w : Fin 3) (t : State) (h : Keeps s t) :
    KeepsOut s (execWdPeriodEnd w t) := by
  unfold execWdPeriodEnd
  repeat' with_reducible first
    | assumption | intro _ | apply State.wdReach_keeps | apply State.wdViolation_keeps | apply KeepsOut.next
    | apply KeepsOut.ite | apply Keeps.foldl | apply Keeps.foldl1 | apply Keeps.foldl11 | apply Keeps.ite
    | apply Keeps.ite1 | dsimp only | split | refine Keeps.upd ?_

theorem execWdWindowOpen_keeps {s : State} (w : Fin 3) (t : State) (h : Keeps s t) :
    KeepsOut s (execWdWindowOpen w t) := by
  unfold execWdWindowOpen
  repeat' with_reducible first
    | assumption | intro _ | apply State.wdReach_keeps | apply State.wdServed_keeps | apply State.setWd_keeps
    | apply KeepsOut.next | apply KeepsOut.ite | apply Keeps.foldl | apply Keeps.foldl1 | apply Keeps.foldl11
    | apply Keeps.ite | apply Keeps.ite1 | dsimp only | split | refine Keeps.upd ?_

theorem execWdGraceExpiry_keeps {s : State} (w : Fin 3) (t : State) (h : Keeps s t) :
    KeepsOut s (execWdGraceExpiry w t) := by
  unfold execWdGraceExpiry
  repeat' with_reducible first
    | assumption | intro _ | apply State.wdReach_keeps | apply State.wdViolation_keeps | apply KeepsOut.next
    | apply KeepsOut.ite | apply Keeps.foldl | apply Keeps.foldl1 | apply Keeps.foldl11 | apply Keeps.ite
    | apply Keeps.ite1 | dsimp only | split | refine Keeps.upd ?_

theorem execWdClockStop_keeps {s : State} (w : Fin 3) (t : State) (h : Keeps s t) :
    KeepsOut s (execWdClockStop w t) := by
  unfold execWdClockStop
  repeat' with_reducible first
    | assumption | intro _ | apply State.wdViolation_keeps | apply State.setWd_keeps | apply KeepsOut.next
    | apply KeepsOut.ite | apply Keeps.foldl | apply Keeps.foldl1 | apply Keeps.foldl11 | apply Keeps.ite
    | apply Keeps.ite1 | dsimp only | split | refine Keeps.upd ?_

theorem execWdStateIllegal_keeps {s : State} (w : Fin 3) (code : Nat) (shadow : Nat) (t : State) (h : Keeps s t) :
    KeepsOut s (execWdStateIllegal w code shadow t) := by
  unfold execWdStateIllegal
  repeat' with_reducible first
    | assumption | intro _ | apply State.wdTrip_keeps | apply State.tamperOff_keeps | apply State.tamperOn_keeps
    | apply KeepsOut.next | apply KeepsOut.ite | apply Keeps.foldl | apply Keeps.foldl1 | apply Keeps.foldl11
    | apply Keeps.ite | apply Keeps.ite1 | dsimp only | split | refine Keeps.upd ?_

theorem execWdRstoEnd_keeps {s : State} (w : Fin 3) (t : State) (h : Keeps s t) :
    KeepsOut s (execWdRstoEnd w t) := by
  unfold execWdRstoEnd
  repeat' with_reducible first
    | assumption | intro _ | apply State.wdSync_keeps | apply State.setWd_keeps | apply State.reach_keeps
    | apply KeepsOut.next | apply KeepsOut.ite | apply Keeps.foldl | apply Keeps.foldl1 | apply Keeps.foldl11
    | apply Keeps.ite | apply Keeps.ite1 | dsimp only | split | refine Keeps.upd ?_

theorem State.wdChanged_keeps {s : State} (t : State) (w : Nat) (oldMode : Nat) (clock : Bool) (h : Keeps s t) :
    Keeps s (State.wdChanged t w oldMode clock) := by
  unfold State.wdChanged
  repeat' with_reducible first
    | assumption | intro _ | apply State.newPeriod_keeps | apply State.setWd_keeps | apply Keeps.foldl
    | apply Keeps.foldl1 | apply Keeps.foldl11 | apply Keeps.ite | apply Keeps.ite1 | dsimp only | split
    | refine Keeps.upd ?_

end Sys2Proof.Machine
end

