-- ==== Sys2Proof/Laws/KeepsWrites.lean ====
section
/-! SUPPORT. Every operation of Machine/Writes.lean keeps what every command keeps (Safety.Keeps). -/
namespace Sys2Proof.Machine
open Host
set_option linter.all false
set_option Elab.async false

theorem State.request_keeps {s : State} (t : State) (cmd : Instr) (r : Req) (op : Nat) (cls : Cls) (boot : Bool)
    (rights : State → Who → Bool) (offered : Bool) (bad : Option Stat) (home : Island)
    (eff : State → Who → State × Stat × Bytes) (h : Keeps s t) (heff : ∀ u a0, Keeps s u → Keeps s (eff u a0).1) :
    Keeps s (State.request t cmd r op cls boot rights offered bad home eff) := by
  unfold State.request
  repeat' with_reducible first
    | assumption | intro _ | apply heff | apply State.holdRequest_keeps | apply State.accept_keeps
    | (refine Admit.of_go ?_ (by assumption); apply State.accept_keeps)
    | (refine Admit.of_done ?_ (by assumption); apply State.accept_keeps)
    | (refine Admit.of_wait ?_ (by assumption); apply State.accept_keeps) | apply State.into_keeps
    | apply State.finish_keeps | apply Keeps.foldl | apply Keeps.foldl1 | apply Keeps.foldl11 | apply Keeps.ite
    | apply Keeps.ite1 | dsimp only | split | refine Keeps.upd ?_

theorem State.askLease_keeps {s : State} (t : State) (c : Nat) (a : LeaseAsk) (h : Keeps s t) :
    Keeps s (State.askLease t c a).1 := by
  unfold State.askLease
  repeat' with_reducible first
    | assumption | intro _ | apply State.queueBundle_keeps | apply State.obtainBudget_keeps | apply Keeps.foldl
    | apply Keeps.foldl1 | apply Keeps.foldl11 | apply Keeps.ite | apply Keeps.ite1 | dsimp only | split
    | refine Keeps.upd ?_

theorem execLease_keeps {s : State} (r : Req) (t : State) (h : Keeps s t) :
    KeepsOut s (execLease r t) := by
  unfold execLease
  repeat' with_reducible first
    | assumption | intro _ | apply State.askLease_keeps | apply State.request_keeps | apply KeepsOut.next
    | apply KeepsOut.ite | apply Keeps.foldl | apply Keeps.foldl1 | apply Keeps.foldl11 | apply Keeps.ite
    | apply Keeps.ite1 | dsimp only | split | refine Keeps.upd ?_

theorem execRelease_keeps {s : State} (r : Req) (t : State) (h : Keeps s t) :
    KeepsOut s (execRelease r t) := by
  unfold execRelease
  repeat' with_reducible first
    | assumption | intro _ | apply State.request_keeps | apply State.release_keeps | apply KeepsOut.next
    | apply KeepsOut.ite | apply Keeps.foldl | apply Keeps.foldl1 | apply Keeps.foldl11 | apply Keeps.ite
    | apply Keeps.ite1 | dsimp only | split | refine Keeps.upd ?_

theorem execLsRenewWrite_keeps {s : State} (r : Req) (t : State) (h : Keeps s t) :
    KeepsOut s (execLsRenewWrite r t) := by
  unfold execLsRenewWrite
  repeat' with_reducible first
    | assumption | intro _ | apply atOnce_keeps | apply State.rightsWrite_keeps | apply State.renew_keeps
    | apply KeepsOut.next | apply KeepsOut.ite | apply Keeps.foldl | apply Keeps.foldl1 | apply Keeps.foldl11
    | apply Keeps.ite | apply Keeps.ite1 | dsimp only | split | refine Keeps.upd ?_

theorem execLsDropWrite_keeps {s : State} (r : Req) (t : State) (h : Keeps s t) :
    KeepsOut s (execLsDropWrite r t) := by
  unfold execLsDropWrite
  repeat' with_reducible first
    | assumption | intro _ | apply atOnce_keeps | apply State.rightsWrite_keeps | apply State.release_keeps
    | apply KeepsOut.next | apply KeepsOut.ite | apply Keeps.foldl | apply Keeps.foldl1 | apply Keeps.foldl11
    | apply Keeps.ite | apply Keeps.ite1 | dsimp only | split | refine Keeps.upd ?_

theorem State.revokeAny_keeps {s : State} (t : State) (c : Nat) (n : Nat) (h : Keeps s t) :
    Keeps s (State.revokeAny t c n).1 := by
  unfold State.revokeAny
  repeat' with_reducible first
    | assumption | intro _ | apply State.pass_keeps | apply State.giveNotice_keeps | apply State.endBundle_keeps
    | apply State.inc_keeps | apply Keeps.foldl | apply Keeps.foldl1 | apply Keeps.foldl11 | apply Keeps.ite
    | apply Keeps.ite1 | dsimp only | split | refine Keeps.upd ?_

theorem execRevokeAnyWrite_keeps {s : State} (r : Req) (t : State) (h : Keeps s t) :
    KeepsOut s (execRevokeAnyWrite r t) := by
  unfold execRevokeAnyWrite
  repeat' with_reducible first
    | assumption | intro _ | apply State.revokeAny_keeps | apply atOnce_keeps | apply State.ownWrite_keeps
    | apply KeepsOut.next | apply KeepsOut.ite | apply Keeps.foldl | apply Keeps.foldl1 | apply Keeps.foldl11
    | apply Keeps.ite | apply Keeps.ite1 | dsimp only | split | refine Keeps.upd ?_

theorem State.tmrWrite_keeps {s : State} (t : State) (cmd : Instr) (r : Req) (f : Nat → Bool) (h : Keeps s t) :
    Keeps s (State.tmrWrite t cmd r f) := by
  unfold State.tmrWrite
  repeat' with_reducible first
    | assumption | intro _ | apply State.writeTmr_keeps | apply atOnce_keeps | apply State.rightsWrite_keeps
    | apply Keeps.foldl | apply Keeps.foldl1 | apply Keeps.foldl11 | apply Keeps.ite | apply Keeps.ite1 | dsimp only
    | split | refine Keeps.upd ?_

theorem execTimerArm_keeps {s : State} (r : Req) (t : State) (h : Keeps s t) :
    KeepsOut s (execTimerArm r t) := by
  unfold execTimerArm
  repeat' with_reducible first
    | assumption | intro _ | apply State.tmrWrite_keeps | apply KeepsOut.next | apply KeepsOut.ite
    | apply Keeps.foldl | apply Keeps.foldl1 | apply Keeps.foldl11 | apply Keeps.ite | apply Keeps.ite1 | dsimp only
    | split | refine Keeps.upd ?_

theorem execTimerDisarm_keeps {s : State} (r : Req) (t : State) (h : Keeps s t) :
    KeepsOut s (execTimerDisarm r t) := by
  unfold execTimerDisarm
  repeat' with_reducible first
    | assumption | intro _ | apply State.tmrWrite_keeps | apply KeepsOut.next | apply KeepsOut.ite
    | apply Keeps.foldl | apply Keeps.foldl1 | apply Keeps.foldl11 | apply Keeps.ite | apply Keeps.ite1 | dsimp only
    | split | refine Keeps.upd ?_

theorem State.ringOp_keeps {s : State} (t : State) (cmd : Instr) (r : Req) (op : Nat)
    (eff : State → Nat → State × Stat × Bytes) (h : Keeps s t) (heff : ∀ u a0, Keeps s u → Keeps s (eff u a0).1) :
    Keeps s (State.ringOp t cmd r op eff) := by
  unfold State.ringOp
  repeat' with_reducible first
    | assumption | intro _ | apply heff | apply State.holdRequest_keeps | apply State.accept_keeps
    | (refine Admit.of_go ?_ (by assumption); apply State.accept_keeps)
    | (refine Admit.of_done ?_ (by assumption); apply State.accept_keeps)
    | (refine Admit.of_wait ?_ (by assumption); apply State.accept_keeps) | apply State.into_keeps
    | apply State.refuseAs_keeps | apply State.replyAs_keeps | apply Keeps.foldl | apply Keeps.foldl1
    | apply Keeps.foldl11 | apply Keeps.ite | apply Keeps.ite1 | dsimp only | split | refine Keeps.upd ?_

theorem execClaim_keeps {s : State} (r : Req) (t : State) (h : Keeps s t) :
    KeepsOut s (execClaim r t) := by
  unfold execClaim
  repeat' with_reducible first
    | assumption | intro _ | apply State.ringOp_keeps | apply State.claimAt_keeps | apply KeepsOut.next
    | apply KeepsOut.ite | apply Keeps.foldl | apply Keeps.foldl1 | apply Keeps.foldl11 | apply Keeps.ite
    | apply Keeps.ite1 | dsimp only | split | refine Keeps.upd ?_

theorem execComplete_keeps {s : State} (r : Req) (t : State) (h : Keeps s t) :
    KeepsOut s (execComplete r t) := by
  unfold execComplete
  repeat' with_reducible first
    | assumption | intro _ | apply State.ringOp_keeps | apply State.completeClaim_keeps | apply KeepsOut.next
    | apply KeepsOut.ite | apply Keeps.foldl | apply Keeps.foldl1 | apply Keeps.foldl11 | apply Keeps.ite
    | apply Keeps.ite1 | dsimp only | split | refine Keeps.upd ?_

theorem execRingStatus_keeps {s : State} (r : Req) (t : State) (h : Keeps s t) :
    KeepsOut s (execRingStatus r t) := by
  unfold execRingStatus
  repeat' with_reducible first
    | assumption | intro _ | apply State.ringOp_keeps | apply KeepsOut.next | apply KeepsOut.ite | apply Keeps.foldl
    | apply Keeps.foldl1 | apply Keeps.foldl11 | apply Keeps.ite | apply Keeps.ite1 | dsimp only | split
    | refine Keeps.upd ?_

theorem execDoorbell_keeps {s : State} (r : Req) (t : State) (h : Keeps s t) :
    KeepsOut s (execDoorbell r t) := by
  unfold execDoorbell
  repeat' with_reducible first
    | assumption | intro _ | apply State.request_keeps | apply State.writeDoorbell_keeps | apply KeepsOut.next
    | apply KeepsOut.ite | apply Keeps.foldl | apply Keeps.foldl1 | apply Keeps.foldl11 | apply Keeps.ite
    | apply Keeps.ite1 | dsimp only | split | refine Keeps.upd ?_

theorem execDoorbellWrite_keeps {s : State} (r : Req) (t : State) (h : Keeps s t) :
    KeepsOut s (execDoorbellWrite r t) := by
  unfold execDoorbellWrite
  repeat' with_reducible first
    | assumption | intro _ | apply State.writeDoorbell_keeps | apply atOnce_keeps | apply State.rightsWrite_keeps
    | apply KeepsOut.next | apply KeepsOut.ite | apply Keeps.foldl | apply Keeps.foldl1 | apply Keeps.foldl11
    | apply Keeps.ite | apply Keeps.ite1 | dsimp only | split | refine Keeps.upd ?_

theorem execEnSetWrite_keeps {s : State} (r : Req) (t : State) (h : Keeps s t) :
    KeepsOut s (execEnSetWrite r t) := by
  unfold execEnSetWrite
  repeat' with_reducible first
    | assumption | intro _ | apply State.writeEnSet_keeps | apply atOnce_keeps | apply State.rightsWrite_keeps
    | apply KeepsOut.next | apply KeepsOut.ite | apply Keeps.foldl | apply Keeps.foldl1 | apply Keeps.foldl11
    | apply Keeps.ite | apply Keeps.ite1 | dsimp only | split | refine Keeps.upd ?_

theorem execEnClrWrite_keeps {s : State} (r : Req) (t : State) (h : Keeps s t) :
    KeepsOut s (execEnClrWrite r t) := by
  unfold execEnClrWrite
  repeat' with_reducible first
    | assumption | intro _ | apply State.writeEnClr_keeps | apply atOnce_keeps | apply State.rightsWrite_keeps
    | apply KeepsOut.next | apply KeepsOut.ite | apply Keeps.foldl | apply Keeps.foldl1 | apply Keeps.foldl11
    | apply Keeps.ite | apply Keeps.ite1 | dsimp only | split | refine Keeps.upd ?_

theorem execPendSetWrite_keeps {s : State} (r : Req) (t : State) (h : Keeps s t) :
    KeepsOut s (execPendSetWrite r t) := by
  unfold execPendSetWrite
  repeat' with_reducible first
    | assumption | intro _ | apply State.writePendSet_keeps | apply atOnce_keeps | apply State.rightsWrite_keeps
    | apply KeepsOut.next | apply KeepsOut.ite | apply Keeps.foldl | apply Keeps.foldl1 | apply Keeps.foldl11
    | apply Keeps.ite | apply Keeps.ite1 | dsimp only | split | refine Keeps.upd ?_

theorem execPendClrWrite_keeps {s : State} (r : Req) (t : State) (h : Keeps s t) :
    KeepsOut s (execPendClrWrite r t) := by
  unfold execPendClrWrite
  repeat' with_reducible first
    | assumption | intro _ | apply State.writePendClr_keeps | apply atOnce_keeps | apply State.rightsWrite_keeps
    | apply KeepsOut.next | apply KeepsOut.ite | apply Keeps.foldl | apply Keeps.foldl1 | apply Keeps.foldl11
    | apply Keeps.ite | apply Keeps.ite1 | dsimp only | split | refine Keeps.upd ?_

theorem State.logReadAt_keeps {s : State} (t : State) (c : Nat) (start : Nat) (n : Nat) (h : Keeps s t) :
    Keeps s (State.logReadAt t c start n).1 := by
  unfold State.logReadAt
  repeat' with_reducible first
    | assumption | intro _ | apply Keeps.foldl | apply Keeps.foldl1 | apply Keeps.foldl11 | apply Keeps.ite
    | apply Keeps.ite1 | dsimp only | split | refine Keeps.upd ?_

theorem execLogRead_keeps {s : State} (r : Req) (t : State) (h : Keeps s t) :
    KeepsOut s (execLogRead r t) := by
  unfold execLogRead
  repeat' with_reducible first
    | assumption | intro _ | apply State.logReadAt_keeps | apply State.request_keeps | apply KeepsOut.next
    | apply KeepsOut.ite | apply Keeps.foldl | apply Keeps.foldl1 | apply Keeps.foldl11 | apply Keeps.ite
    | apply Keeps.ite1 | dsimp only | split | refine Keeps.upd ?_

theorem execEcho_keeps {s : State} (r : Req) (t : State) (h : Keeps s t) :
    KeepsOut s (execEcho r t) := by
  unfold execEcho
  repeat' with_reducible first
    | assumption | intro _ | apply State.request_keeps | apply KeepsOut.next | apply KeepsOut.ite | apply Keeps.foldl
    | apply Keeps.foldl1 | apply Keeps.foldl11 | apply Keeps.ite | apply Keeps.ite1 | dsimp only | split
    | refine Keeps.upd ?_

theorem execUnknownOpcode_keeps {s : State} (r : Req) (op : Nat) (t : State) (h : Keeps s t) :
    KeepsOut s (execUnknownOpcode r op t) := by
  unfold execUnknownOpcode
  repeat' with_reducible first
    | assumption | intro _ | apply State.holdRequest_keeps | apply State.accept_keeps
    | (refine Admit.of_go ?_ (by assumption); apply State.accept_keeps)
    | (refine Admit.of_done ?_ (by assumption); apply State.accept_keeps)
    | (refine Admit.of_wait ?_ (by assumption); apply State.accept_keeps) | apply State.finish_keeps
    | apply KeepsOut.next | apply KeepsOut.ite | apply Keeps.foldl | apply Keeps.foldl1 | apply Keeps.foldl11
    | apply Keeps.ite | apply Keeps.ite1 | dsimp only | split | refine Keeps.upd ?_

theorem execSeqClearWrite_keeps {s : State} (r : Req) (t : State) (h : Keeps s t) :
    KeepsOut s (execSeqClearWrite r t) := by
  unfold execSeqClearWrite
  repeat' with_reducible first
    | assumption | intro _ | apply atOnce_keeps | apply State.ownWrite_keeps | apply State.seqClear_keeps
    | apply KeepsOut.next | apply KeepsOut.ite | apply Keeps.foldl | apply Keeps.foldl1 | apply Keeps.foldl11
    | apply Keeps.ite | apply Keeps.ite1 | dsimp only | split | refine Keeps.upd ?_

theorem execMargReqWrite_keeps {s : State} (r : Req) (t : State) (h : Keeps s t) :
    KeepsOut s (execMargReqWrite r t) := by
  unfold execMargReqWrite
  repeat' with_reducible first
    | assumption | intro _ | apply atOnce_keeps | apply State.ownWrite_keeps | apply State.writeMargReq_keeps
    | apply KeepsOut.next | apply KeepsOut.ite | apply Keeps.foldl | apply Keeps.foldl1 | apply Keeps.foldl11
    | apply Keeps.ite | apply Keeps.ite1 | dsimp only | split | refine Keeps.upd ?_

end Sys2Proof.Machine
end

