-- ==== Sys2Proof/Laws/KeepsRules.lean ====
section
/-! SUPPORT. Every operation of Machine/Rules.lean keeps what every command keeps (Safety.Keeps). -/
namespace Sys2Proof.Machine
open Host
set_option linter.all false
set_option Elab.async false

theorem State.baseFor_keeps {s : State} (t : State) (c : Commit) (h : Keeps s t) :
    Keeps s (State.baseFor t c) := by
  unfold State.baseFor
  repeat' with_reducible first
    | assumption | intro _ | apply State.applyItems_keeps | apply Keeps.foldl | apply Keeps.foldl1
    | apply Keeps.foldl11 | apply Keeps.ite | apply Keeps.ite1 | dsimp only | split | refine Keeps.upd ?_

end Sys2Proof.Machine
end

