-- ==== Sys2Proof/Laws/KeepsFlip.lean ====
section
/-! SUPPORT. Every operation of Machine/Flip.lean keeps what every command keeps (Safety.Keeps). -/
namespace Sys2Proof.Machine
open Host
set_option linter.all false
set_option Elab.async false

theorem State.watchCompare_keeps {s : State} (t : State) (c : Nat) (slot : Nat) (h : Keeps s t) :
    Keeps s (State.watchCompare t c slot) := by
  unfold State.watchCompare
  repeat' with_reducible first
    | assumption | intro _ | apply State.notify_keeps | apply Keeps.foldl | apply Keeps.foldl1 | apply Keeps.foldl11
    | apply Keeps.ite | apply Keeps.ite1 | dsimp only | split | refine Keeps.upd ?_

theorem State.watchAll_keeps {s : State} (t : State) (f : Nat → Bool) (h : Keeps s t) :
    Keeps s (State.watchAll t f) := by
  unfold State.watchAll
  repeat' with_reducible first
    | assumption | intro _ | apply State.watchCompare_keeps | apply Keeps.foldl | apply Keeps.foldl1
    | apply Keeps.foldl11 | apply Keeps.ite | apply Keeps.ite1 | dsimp only | split | refine Keeps.upd ?_

theorem State.endRequests_keeps {s : State} (t : State) (x : Nat) (h : Keeps s t) :
    Keeps s (State.endRequests t x) := by
  unfold State.endRequests
  repeat' with_reducible first
    | assumption | intro _ | apply State.onStored_keeps | apply State.answer_keeps | apply Keeps.foldl
    | apply Keeps.foldl1 | apply Keeps.foldl11 | apply Keeps.ite | apply Keeps.ite1 | dsimp only | split
    | refine Keeps.upd ?_

theorem State.endBinding_keeps {s : State} (t : State) (c : Commit) (x : Nat) (newHid : Nat) (h : Keeps s t) :
    Keeps s (State.endBinding t c x newHid) := by
  unfold State.endBinding
  repeat' with_reducible first
    | assumption | intro _ | apply State.endRequests_keeps | apply State.endCommit_keeps | apply State.eraseKx_keeps
    | apply State.endBundle_keeps | apply State.dropEls_keeps | apply Keeps.foldl | apply Keeps.foldl1
    | apply Keeps.foldl11 | apply Keeps.ite | apply Keeps.ite1 | dsimp only | split | refine Keeps.upd ?_

theorem State.holderLeaves_keeps {s : State} (t : State) (h_ : Nat) (h : Keeps s t) :
    Keeps s (State.holderLeaves t h_) := by
  unfold State.holderLeaves
  repeat' with_reducible first
    | assumption | intro _ | apply State.eraseSlot_keeps | apply State.dropEls_keeps | apply Keeps.foldl
    | apply Keeps.foldl1 | apply Keeps.foldl11 | apply Keeps.ite | apply Keeps.ite1 | dsimp only | split
    | refine Keeps.upd ?_

theorem State.holderReturns_keeps {s : State} (t : State) (h_ : Nat) (h : Keeps s t) :
    Keeps s (State.holderReturns t h_) := by
  unfold State.holderReturns
  repeat' with_reducible first
    | assumption | intro _ | apply State.archive_keeps | apply State.dropEls_keeps | apply Keeps.foldl
    | apply Keeps.foldl1 | apply Keeps.foldl11 | apply Keeps.ite | apply Keeps.ite1 | dsimp only | split
    | refine Keeps.upd ?_

theorem State.flipKeeper_keeps {s : State} (t : State) (b : State) (c : Commit) (h : Keeps s t) :
    Keeps s (State.flipKeeper t b c) := by
  unfold State.flipKeeper
  repeat' with_reducible first
    | assumption | intro _ | apply State.holderReturns_keeps | apply State.holderLeaves_keeps
    | apply State.keyFlip_keeps | apply State.eraseSlot_keeps | apply State.planPending_keeps | apply Keeps.foldl
    | apply Keeps.foldl1 | apply Keeps.foldl11 | apply Keeps.ite | apply Keeps.ite1 | dsimp only | split
    | refine Keeps.upd ?_

theorem State.claimTmoChanged_keeps {s : State} (t : State) (h : Keeps s t) :
    Keeps s (State.claimTmoChanged t) := by
  unfold State.claimTmoChanged
  repeat' with_reducible first
    | assumption | intro _ | apply State.returnClaim_keeps | apply Keeps.foldl | apply Keeps.foldl1
    | apply Keeps.foldl11 | apply Keeps.ite | apply Keeps.ite1 | dsimp only | split | refine Keeps.upd ?_

theorem State.flipEvents_keeps {s : State} (t : State) (b : State) (c : Commit) (h : Keeps s t) :
    Keeps s (State.flipEvents t b c) := by
  unfold State.flipEvents
  repeat' with_reducible first
    | assumption | intro _ | apply State.claimTmoChanged_keeps | apply State.releaseHeld_keeps
    | apply State.ownerChanged_keeps | apply State.withdraw_keeps | apply State.pinChanged_keeps
    | apply State.l4Changed_keeps | apply Keeps.foldl | apply Keeps.foldl1 | apply Keeps.foldl11 | apply Keeps.ite
    | apply Keeps.ite1 | dsimp only | split | refine Keeps.upd ?_

theorem State.resyncStanding_keeps {s : State} (t : State) (h : Keeps s t) :
    Keeps s (State.resyncStanding t) := by
  unfold State.resyncStanding
  repeat' with_reducible first
    | assumption | intro _ | apply Keeps.foldl | apply Keeps.foldl1 | apply Keeps.foldl11 | apply Keeps.ite
    | apply Keeps.ite1 | dsimp only | split | refine Keeps.upd ?_

theorem State.allowRemoved_keeps {s : State} (t : State) (b : State) (o : Nat) (h : Keeps s t) :
    Keeps s (State.allowRemoved t b o) := by
  unfold State.allowRemoved
  repeat' with_reducible first
    | assumption | intro _ | apply State.noticeStanding_keeps | apply State.giveNotice_keeps
    | apply State.endBundle_keeps | apply State.inc_keeps | apply Keeps.foldl | apply Keeps.foldl1
    | apply Keeps.foldl11 | apply Keeps.ite | apply Keeps.ite1 | dsimp only | split | refine Keeps.upd ?_

theorem State.flipArbiter_keeps {s : State} (t : State) (b : State) (c : Commit) (h : Keeps s t) :
    Keeps s (State.flipArbiter t b c) := by
  unfold State.flipArbiter
  repeat' with_reducible first
    | assumption | intro _ | apply State.allowRemoved_keeps | apply State.resyncStanding_keeps
    | apply State.revokeQueued_keeps | apply Keeps.foldl | apply Keeps.foldl1 | apply Keeps.foldl11 | apply Keeps.ite
    | apply Keeps.ite1 | dsimp only | split | refine Keeps.upd ?_

theorem State.flipTime_keeps {s : State} (t : State) (b : State) (c : Commit) (h : Keeps s t) :
    Keeps s (State.flipTime t b c) := by
  unfold State.flipTime
  repeat' with_reducible first
    | assumption | intro _ | apply State.refSelChanged_keeps | apply State.resetModel_keeps
    | apply State.leapCheck_keeps | apply State.tamperOff_keeps | apply State.trickleSet_keeps | apply Keeps.foldl
    | apply Keeps.foldl1 | apply Keeps.foldl11 | apply Keeps.ite | apply Keeps.ite1 | dsimp only | split
    | refine Keeps.upd ?_

theorem State.flipPorts_keeps {s : State} (t : State) (b : State) (c : Commit) (h : Keeps s t) :
    Keeps s (State.flipPorts t b c) := by
  unfold State.flipPorts
  repeat' with_reducible first
    | assumption | intro _ | apply State.peerIdChanged_keeps | apply State.startHost_keeps
    | apply State.startT1l_keeps | apply State.startCan_keeps | apply State.startDad_keeps | apply State.ptpGo_keeps
    | apply Keeps.foldl | apply Keeps.foldl1 | apply Keeps.foldl11 | apply Keeps.ite | apply Keeps.ite1 | dsimp only
    | split | refine Keeps.upd ?_

theorem State.flipBudget_keeps {s : State} (t : State) (b : State) (c : Commit) (h : Keeps s t) :
    Keeps s (State.flipBudget t b c) := by
  unfold State.flipBudget
  repeat' with_reducible first
    | assumption | intro _ | apply State.budget_keeps | apply Keeps.foldl | apply Keeps.foldl1 | apply Keeps.foldl11
    | apply Keeps.ite | apply Keeps.ite1 | dsimp only | split | refine Keeps.upd ?_

theorem State.flipUnits_keeps {s : State} (t : State) (b : State) (c : Commit) (h : Keeps s t) :
    Keeps s (State.flipUnits t b c) := by
  unfold State.flipUnits
  repeat' with_reducible first
    | assumption | intro _ | apply State.wdChanged_keeps | apply State.profileChanged_keeps | apply Keeps.foldl
    | apply Keeps.foldl1 | apply Keeps.foldl11 | apply Keeps.ite | apply Keeps.ite1 | dsimp only | split
    | refine Keeps.upd ?_

theorem State.flip_keeps {s : State} (t : State) (c : Commit) (h : Keeps s t) :
    Keeps s (State.flip t c) := by
  unfold State.flip
  repeat' with_reducible first
    | assumption | intro _ | apply State.flipUnits_keeps | apply State.flipBudget_keeps | apply State.flipPorts_keeps
    | apply State.flipTime_keeps | apply State.flipArbiter_keeps | apply State.flipEvents_keeps
    | apply State.flipKeeper_keeps | apply State.endBinding_keeps | apply State.watchAll_keeps
    | apply State.applyItems_keeps | apply State.pass_keeps | apply State.wdSync_keeps | apply Keeps.foldl
    | apply Keeps.foldl1 | apply Keeps.foldl11 | apply Keeps.ite | apply Keeps.ite1 | dsimp only | split
    | refine Keeps.upd ?_

end Sys2Proof.Machine
end

