-- ==== Sys2Proof/Laws/KeepsStaging.lean ====
section
/-! SUPPORT. Every operation of Machine/Staging.lean keeps what every command keeps (Safety.Keeps). -/
namespace Sys2Proof.Machine
open Host
set_option linter.all false
set_option Elab.async false

theorem State.emptyParison_keeps {s : State} (t : State) (c : Nat) (h : Keeps s t) :
    Keeps s (State.emptyParison t c) := by
  unfold State.emptyParison
  repeat' with_reducible first
    | assumption | intro _ | apply Keeps.foldl | apply Keeps.foldl1 | apply Keeps.foldl11 | apply Keeps.ite
    | apply Keeps.ite1 | dsimp only | split | refine Keeps.upd ?_

theorem State.setParison_keeps {s : State} (t : State) (c : Nat) (items : List (Nat × Nat)) (h : Keeps s t) :
    Keeps s (State.setParison t c items) := by
  unfold State.setParison
  repeat' with_reducible first
    | assumption | intro _ | apply Keeps.foldl | apply Keeps.foldl1 | apply Keeps.foldl11 | apply Keeps.ite
    | apply Keeps.ite1 | dsimp only | split | refine Keeps.upd ?_

theorem State.touchParison_keeps {s : State} (t : State) (c : Nat) (h : Keeps s t) :
    Keeps s (State.touchParison t c) := by
  unfold State.touchParison
  repeat' with_reducible first
    | assumption | intro _ | apply Keeps.foldl | apply Keeps.foldl1 | apply Keeps.foldl11 | apply Keeps.ite
    | apply Keeps.ite1 | dsimp only | split | refine Keeps.upd ?_

theorem State.addPending_keeps {s : State} (t : State) (c : Commit) (h : Keeps s t) :
    Keeps s (State.addPending t c) := by
  unfold State.addPending
  repeat' with_reducible first
    | assumption | intro _ | apply Keeps.foldl | apply Keeps.foldl1 | apply Keeps.foldl11 | apply Keeps.ite
    | apply Keeps.ite1 | dsimp only | split | refine Keeps.upd ?_

theorem State.acceptCommit_keeps {s : State} (t : State) (c : Commit) (h : Keeps s t) :
    Keeps s (State.acceptCommit t c) := by
  unfold State.acceptCommit
  repeat' with_reducible first
    | assumption | intro _ | apply State.addPending_keeps | apply State.emptyParison_keeps | apply Keeps.foldl
    | apply Keeps.foldl1 | apply Keeps.foldl11 | apply Keeps.ite | apply Keeps.ite1 | dsimp only | split
    | refine Keeps.upd ?_

theorem State.sendMirror_keeps {s : State} (t : State) (c : Commit) (ok : Bool) (h : Keeps s t) :
    Keeps s (State.sendMirror t c ok) := by
  unfold State.sendMirror
  repeat' with_reducible first
    | assumption | intro _ | apply State.bondSend_keeps | apply Keeps.foldl | apply Keeps.foldl1
    | apply Keeps.foldl11 | apply Keeps.ite | apply Keeps.ite1 | dsimp only | split | refine Keeps.upd ?_

theorem State.askCommit_keeps {s : State} (t : State) (w : Who) (r : Req) (peer : List (Nat × Nat)) (only : Bool)
    (h : Keeps s t) :
    Keeps s (State.askCommit t w r peer only).1 := by
  unfold State.askCommit
  repeat' with_reducible first
    | assumption | intro _ | apply State.sendMirror_keeps | apply State.acceptCommit_keeps
    | apply State.touchParison_keeps | apply Keeps.foldl | apply Keeps.foldl1 | apply Keeps.foldl11 | apply Keeps.ite
    | apply Keeps.ite1 | dsimp only | split | refine Keeps.upd ?_

theorem State.commitRequest_keeps {s : State} (t : State) (cmd : Instr) (r : Req) (peer : List (Nat × Nat))
    (only : Bool) (h : Keeps s t) :
    Keeps s (State.commitRequest t cmd r peer only) := by
  unfold State.commitRequest
  repeat' with_reducible first
    | assumption | intro _ | apply State.askCommit_keeps | apply State.request_keeps | apply Keeps.foldl
    | apply Keeps.foldl1 | apply Keeps.foldl11 | apply Keeps.ite | apply Keeps.ite1 | dsimp only | split
    | refine Keeps.upd ?_

theorem execCommit_keeps {s : State} (r : Req) (peer : List (Nat × Nat)) (t : State) (h : Keeps s t) :
    KeepsOut s (execCommit r peer t) := by
  unfold execCommit
  repeat' with_reducible first
    | assumption | intro _ | apply State.commitRequest_keeps | apply KeepsOut.next | apply KeepsOut.ite
    | apply Keeps.foldl | apply Keeps.foldl1 | apply Keeps.foldl11 | apply Keeps.ite | apply Keeps.ite1 | dsimp only
    | split | refine Keeps.upd ?_

theorem execCommitCheckOnly_keeps {s : State} (r : Req) (peer : List (Nat × Nat)) (t : State) (h : Keeps s t) :
    KeepsOut s (execCommitCheckOnly r peer t) := by
  unfold execCommitCheckOnly
  repeat' with_reducible first
    | assumption | intro _ | apply State.commitRequest_keeps | apply KeepsOut.next | apply KeepsOut.ite
    | apply Keeps.foldl | apply Keeps.foldl1 | apply Keeps.foldl11 | apply Keeps.ite | apply Keeps.ite1 | dsimp only
    | split | refine Keeps.upd ?_

theorem execDiscard_keeps {s : State} (r : Req) (t : State) (h : Keeps s t) :
    KeepsOut s (execDiscard r t) := by
  unfold execDiscard
  repeat' with_reducible first
    | assumption | intro _ | apply State.emptyParison_keeps | apply State.request_keeps | apply KeepsOut.next
    | apply KeepsOut.ite | apply Keeps.foldl | apply Keeps.foldl1 | apply Keeps.foldl11 | apply Keeps.ite
    | apply Keeps.ite1 | dsimp only | split | refine Keeps.upd ?_

theorem execParisonIdleDiscard_keeps {s : State} (cid : Nat) (t : State) (h : Keeps s t) :
    KeepsOut s (execParisonIdleDiscard cid t) := by
  unfold execParisonIdleDiscard
  repeat' with_reducible first
    | assumption | intro _ | apply State.emptyParison_keeps | apply State.reach_keeps | apply KeepsOut.next
    | apply KeepsOut.ite | apply Keeps.foldl | apply Keeps.foldl1 | apply Keeps.foldl11 | apply Keeps.ite
    | apply Keeps.ite1 | dsimp only | split | refine Keeps.upd ?_

theorem State.sendBank_keeps {s : State} (t : State) (i : Island) (h : Keeps s t) :
    Keeps s (State.sendBank t i) := by
  unfold State.sendBank
  repeat' with_reducible first
    | assumption | intro _ | apply State.cross_keeps | apply Keeps.foldl | apply Keeps.foldl1 | apply Keeps.foldl11
    | apply Keeps.ite | apply Keeps.ite1 | dsimp only | split | dsimp only [id] | refine Keeps.upd ?_

theorem State.sendBanks_keeps {s : State} (t : State) (c : Commit) (h : Keeps s t) :
    Keeps s (State.sendBanks t c) := by
  unfold State.sendBanks
  repeat' with_reducible first
    | assumption | intro _ | apply State.sendBank_keeps | apply State.commitMap_keeps | apply Keeps.foldl
    | apply Keeps.foldl1 | apply Keeps.foldl11 | apply Keeps.ite | apply Keeps.ite1 | dsimp only | split
    | refine Keeps.upd ?_

theorem execCommitPrepare_keeps {s : State} (t : State) (h : Keeps s t) :
    KeepsOut s (execCommitPrepare t) := by
  unfold execCommitPrepare
  repeat' with_reducible first
    | assumption | intro _ | apply State.sendBanks_keeps | apply State.wakeCr_keeps | apply State.reach_keeps
    | apply KeepsOut.next | apply KeepsOut.ite | apply Keeps.foldl | apply Keeps.foldl1 | apply Keeps.foldl11
    | apply Keeps.ite | apply Keeps.ite1 | dsimp only | split | refine Keeps.upd ?_

theorem execCommitPrepared_keeps {s : State} (t : State) (h : Keeps s t) :
    KeepsOut s (execCommitPrepared t) := by
  unfold execCommitPrepared
  repeat' with_reducible first
    | assumption | intro _ | apply State.commitMap_keeps | apply KeepsOut.next | apply KeepsOut.ite
    | apply Keeps.foldl | apply Keeps.foldl1 | apply Keeps.foldl11 | apply Keeps.ite | apply Keeps.ite1 | dsimp only
    | split | refine Keeps.upd ?_

theorem execCommitPrepDeadline_keeps {s : State} (answered : Bool) (t : State) (h : Keeps s t) :
    KeepsOut s (execCommitPrepDeadline answered t) := by
  unfold execCommitPrepDeadline
  repeat' with_reducible first
    | assumption | intro _ | apply State.endCommit_keeps | apply State.servedAt_keeps | apply KeepsOut.next
    | apply KeepsOut.ite | apply Keeps.foldl | apply Keeps.foldl1 | apply Keeps.foldl11 | apply Keeps.ite
    | apply Keeps.ite1 | dsimp only | split | refine Keeps.upd ?_

theorem State.withdrawCommit_keeps {s : State} (t : State) (c : Nat) (n : Nat) (h : Keeps s t) :
    Keeps s (State.withdrawCommit t c n).1 := by
  unfold State.withdrawCommit
  repeat' with_reducible first
    | assumption | intro _ | apply State.endCommit_keeps | apply Keeps.foldl | apply Keeps.foldl1
    | apply Keeps.foldl11 | apply Keeps.ite | apply Keeps.ite1 | dsimp only | split | refine Keeps.upd ?_

theorem State.sendValues_keeps {s : State} (t : State) (h : Keeps s t) :
    Keeps s (State.sendValues t) := by
  unfold State.sendValues
  repeat' with_reducible first
    | assumption | intro _ | apply State.bondSend_keeps | apply Keeps.foldl | apply Keeps.foldl1
    | apply Keeps.foldl11 | apply Keeps.ite | apply Keeps.ite1 | dsimp only | split | refine Keeps.upd ?_

theorem State.twinResolve_keeps {s : State} (t : State) (w : Who) (v : Nat) (h : Keeps s t) :
    Keeps s (State.twinResolve t w v).1 := by
  unfold State.twinResolve
  repeat' with_reducible first
    | assumption | intro _ | apply State.sendValues_keeps | apply State.put_keeps | apply Keeps.foldl
    | apply Keeps.foldl1 | apply Keeps.foldl11 | apply Keeps.ite | apply Keeps.ite1 | dsimp only | split
    | refine Keeps.upd ?_

theorem State.directStation_keeps {s : State} (t : State) (w : Who) (a : Nat) (v : Nat) (h : Keeps s t) :
    Keeps s (State.directStation t w a v).1 := by
  unfold State.directStation
  repeat' with_reducible first
    | assumption | intro _ | apply State.twinResolve_keeps | apply State.withdrawCommit_keeps
    | apply State.learnReset_keeps | apply State.refAccept_keeps | apply State.refLabel_keeps
    | apply State.revokeAny_keeps | apply State.wdNap_keeps | apply State.wdCheckin_keeps | apply State.wdKey_keeps
    | apply State.devReset_keeps | apply State.chgClear_keeps | apply State.timeSet_keeps
    | apply State.timeStep_keeps | apply State.slewAdd_keeps | apply State.islReq_keeps | apply State.tmpTest_keeps
    | apply State.tmpClear_keeps | apply State.zeroize_keeps | apply State.writePendClr_keeps
    | apply State.writeEnClr_keeps | apply State.writeEnSet_keeps | apply State.writePendSet_keeps
    | apply State.writeDoorbell_keeps | apply State.seqClear_keeps | apply Keeps.foldl | apply Keeps.foldl1
    | apply Keeps.foldl11 | apply Keeps.ite | apply Keeps.ite1 | dsimp only | split | refine Keeps.upd ?_

theorem State.directOwned_keeps {s : State} (t : State) (w : Who) (a : Nat) (v : Nat) (h : Keeps s t) :
    Keeps s (State.directOwned t w a v).1 := by
  unfold State.directOwned
  repeat' with_reducible first
    | assumption | intro _ | apply State.withdrawCommit_keeps | apply State.logArchive_keeps
    | apply State.kxPeer_keeps | apply State.kxStart_keeps | apply State.writeTmr_keeps | apply State.renew_keeps
    | apply State.release_keeps | apply State.writeMargReq_keeps | apply Keeps.foldl | apply Keeps.foldl1
    | apply Keeps.foldl11 | apply Keeps.ite | apply Keeps.ite1 | dsimp only | split | refine Keeps.upd ?_

theorem State.directItem_keeps {s : State} (t : State) (c : Commit) (p : Nat × Nat) (h : Keeps s t) :
    Keeps s (State.directItem t c p) := by
  unfold State.directItem
  repeat' with_reducible first
    | assumption | intro _ | apply State.directOwned_keeps | apply State.directStation_keeps | apply Keeps.foldl
    | apply Keeps.foldl1 | apply Keeps.foldl11 | apply Keeps.ite | apply Keeps.ite1 | dsimp only | split
    | refine Keeps.upd ?_

theorem State.resolveFailed_keeps {s : State} (t : State) (c : Commit) (rule : Nat) (h : Keeps s t) :
    Keeps s (State.resolveFailed t c rule) := by
  unfold State.resolveFailed
  repeat' with_reducible first
    | assumption | intro _ | apply State.put_keeps | apply Keeps.foldl | apply Keeps.foldl1 | apply Keeps.foldl11
    | apply Keeps.ite | apply Keeps.ite1 | dsimp only | split | refine Keeps.upd ?_

theorem State.countAdopted_keeps {s : State} (t : State) (b : State) (c : Commit) (h : Keeps s t) :
    Keeps s (State.countAdopted t b c) := by
  unfold State.countAdopted
  repeat' with_reducible first
    | assumption | intro _ | apply Keeps.foldl | apply Keeps.foldl1 | apply Keeps.foldl11 | apply Keeps.ite
    | apply Keeps.ite1 | dsimp only | split | refine Keeps.upd ?_

theorem State.rewrote_keeps {s : State} (t : State) (f : Nat → Bool) (h : Keeps s t) :
    Keeps s (State.rewrote t f) := by
  unfold State.rewrote
  repeat' with_reducible first
    | assumption | intro _ | apply Keeps.foldl | apply Keeps.foldl1 | apply Keeps.foldl11 | apply Keeps.ite
    | apply Keeps.ite1 | dsimp only | split | refine Keeps.upd ?_

theorem State.strobe_keeps {s : State} (t : State) (c : Commit) (peerPrepared : Bool) (h : Keeps s t) :
    Keeps s (State.strobe t c peerPrepared) := by
  unfold State.strobe
  repeat' with_reducible first
    | assumption | intro _ | apply State.rewrote_keeps | apply State.countAdopted_keeps
    | apply State.resolveFailed_keeps | apply State.directItem_keeps | apply State.flip_keeps
    | apply State.pendingResetActs_keeps | apply State.endCommit_keeps | apply State.wakeIsl_keeps
    | apply Keeps.foldl | apply Keeps.foldl1 | apply Keeps.foldl11 | apply Keeps.ite | apply Keeps.ite1 | dsimp only
    | split | refine Keeps.upd ?_

theorem execCommitCheckStrobe_keeps {s : State} (peerPrepared : Bool) (t : State) (h : Keeps s t) :
    KeepsOut s (execCommitCheckStrobe peerPrepared t) := by
  unfold execCommitCheckStrobe
  repeat' with_reducible first
    | assumption | intro _ | apply State.strobe_keeps | apply State.flip_keeps | apply State.servedAt_keeps
    | apply KeepsOut.next | apply KeepsOut.ite | apply Keeps.foldl | apply Keeps.foldl1 | apply Keeps.foldl11
    | apply Keeps.ite | apply Keeps.ite1 | dsimp only | split | refine Keeps.upd ?_

theorem execCommitStore_keeps {s : State} (t : State) (h : Keeps s t) :
    KeepsOut s (execCommitStore t) := by
  unfold execCommitStore
  repeat' with_reducible first
    | assumption | intro _ | apply State.storeBlobs_keeps | apply State.cross_keeps | apply KeepsOut.next
    | apply KeepsOut.ite | apply Keeps.foldl | apply Keeps.foldl1 | apply Keeps.foldl11 | apply Keeps.ite
    | apply Keeps.ite1 | dsimp only | split | refine Keeps.upd ?_

theorem execCmWithdrawWrite_keeps {s : State} (r : Req) (t : State) (h : Keeps s t) :
    KeepsOut s (execCmWithdrawWrite r t) := by
  unfold execCmWithdrawWrite
  repeat' with_reducible first
    | assumption | intro _ | apply State.withdrawCommit_keeps | apply atOnce_keeps | apply State.ownWrite_keeps
    | apply KeepsOut.next | apply KeepsOut.ite | apply Keeps.foldl | apply Keeps.foldl1 | apply Keeps.foldl11
    | apply Keeps.ite | apply Keeps.ite1 | dsimp only | split | refine Keeps.upd ?_

theorem execCmWithdrawAnyWrite_keeps {s : State} (r : Req) (t : State) (h : Keeps s t) :
    KeepsOut s (execCmWithdrawAnyWrite r t) := by
  unfold execCmWithdrawAnyWrite
  repeat' with_reducible first
    | assumption | intro _ | apply State.withdrawCommit_keeps | apply atOnce_keeps | apply State.ownWrite_keeps
    | apply KeepsOut.next | apply KeepsOut.ite | apply Keeps.foldl | apply Keeps.foldl1 | apply Keeps.foldl11
    | apply Keeps.ite | apply Keeps.ite1 | dsimp only | split | refine Keeps.upd ?_

end Sys2Proof.Machine
end

