-- ==== Sys2Proof/Laws/KeepsSteps.lean ====
section
/-! SUPPORT. Every operation of Machine/Steps.lean keeps what every command keeps (Safety.Keeps). -/
namespace Sys2Proof.Machine
open Host
set_option linter.all false
set_option Elab.async false

theorem State.expireSub_keeps {s : State} (t : State) (c : Nat) (slot : Nat) (h : Keeps s t) :
    Keeps s (State.expireSub t c slot) := by
  unfold State.expireSub
  repeat' with_reducible first
    | assumption | intro _ | apply State.notify_keeps | apply Keeps.foldl | apply Keeps.foldl1 | apply Keeps.foldl11
    | apply Keeps.ite | apply Keeps.ite1 | dsimp only | split | refine Keeps.upd ?_

theorem State.expireBundle_keeps {s : State} (t : State) (b : Bundle) (h : Keeps s t) :
    Keeps s (State.expireBundle t b) := by
  unfold State.expireBundle
  repeat' with_reducible first
    | assumption | intro _ | apply State.endBundle_keeps | apply State.inc_keeps | apply Keeps.foldl
    | apply Keeps.foldl1 | apply Keeps.foldl11 | apply Keeps.ite | apply Keeps.ite1 | dsimp only | split
    | refine Keeps.upd ?_

theorem State.planDue_keeps {s : State} (t : State) (h_ : Nat) (tag : Nat) (h : Keeps s t) :
    Keeps s (State.planDue t h_ tag) := by
  unfold State.planDue
  repeat' with_reducible first
    | assumption | intro _ | apply State.firePlan_keeps | apply State.add_keeps | apply Keeps.foldl
    | apply Keeps.foldl1 | apply Keeps.foldl11 | apply Keeps.ite | apply Keeps.ite1 | dsimp only | split
    | refine Keeps.upd ?_

theorem State.serve_keeps {s : State} (t : State) (c0 : Due) (h : Keeps s t) :
    Keeps s (State.serve t c0) := by
  unfold State.serve
  repeat' with_reducible first
    | assumption | intro _ | apply State.planDue_keeps | apply State.expireBundle_keeps | apply State.expireSub_keeps
    | apply State.strobe_keeps | apply State.flip_keeps | apply State.planExchange_keeps
    | apply State.fireTimer_keeps | apply Keeps.foldl | apply Keeps.foldl1 | apply Keeps.foldl11 | apply Keeps.ite
    | apply Keeps.ite1 | dsimp only | split | refine Keeps.upd ?_

theorem State.serveAll_keeps {s : State} (t : State) (l : List (Nat × Due)) (h : Keeps s t) :
    Keeps s (State.serveAll t l) := by
  unfold State.serveAll
  repeat' with_reducible first
    | assumption | intro _ | apply State.serve_keeps | apply Keeps.foldl | apply Keeps.foldl1 | apply Keeps.foldl11
    | apply Keeps.ite | apply Keeps.ite1 | dsimp only | split | refine Keeps.upd ?_

theorem State.serveCount_keeps {s : State} (t : State) (l : List (Nat × Due)) (h : Keeps s t) :
    Keeps s (State.serveCount t l).1 := by
  unfold State.serveCount
  repeat' with_reducible first
    | assumption | intro _ | apply State.serve_keeps | apply Keeps.foldl | apply Keeps.foldl1 | apply Keeps.foldl11
    | apply Keeps.ite | apply Keeps.ite1 | dsimp only | split | refine Keeps.upd ?_

theorem State.serveAt_keeps {s : State} (t : State) (h : Keeps s t) :
    Keeps s (State.serveAt t) := by
  unfold State.serveAt
  repeat' with_reducible first
    | assumption | intro _ | apply State.serveAll_keeps | apply State.flip_keeps | apply Keeps.foldl
    | apply Keeps.foldl1 | apply Keeps.foldl11 | apply Keeps.ite | apply Keeps.ite1 | dsimp only | split
    | refine Keeps.upd ?_

theorem State.restamp_keeps {s : State} (t : State) (b : State) (d : Int) (h : Keeps s t) :
    Keeps s (State.restamp t b d) := by
  refine Keeps.upd h (hr := fun i r m => ?_)
  obtain ⟨x, hx, rfl⟩ := List.mem_map.mp m
  have := i x hx
  split <;> exact this

theorem State.moveLeases_keeps {s : State} (t : State) (d : Int) (all : Bool) (h : Keeps s t) :
    Keeps s (State.moveLeases t d all) := by
  unfold State.moveLeases
  repeat' with_reducible first
    | assumption | intro _ | apply Keeps.foldl | apply Keeps.foldl1 | apply Keeps.foldl11 | apply Keeps.ite
    | apply Keeps.ite1 | dsimp only | split | refine Keeps.upd ?_

theorem State.moveWaits_keeps {s : State} (t : State) (d : Int) (h : Keeps s t) :
    Keeps s (State.moveWaits t d) :=
  Keeps.upd h (ha := fun e c => by simpa [List.filter_map, Function.comp_def] using e c)

theorem State.moveClocks_keeps {s : State} (t : State) (d : Int) (h : Keeps s t) :
    Keeps s (State.moveClocks t d) :=
  Keeps.upd h (hl := fun e => by simpa using e) (hw := fun e => by simpa using e)

theorem State.stepRecord_keeps {s : State} (t : State) (x : Step) (status : Nat) (h : Keeps s t) :
    Keeps s (State.stepRecord t x status) := by
  unfold State.stepRecord
  repeat' with_reducible first
    | assumption | intro _ | apply State.stationRecord_keeps | apply Keeps.foldl | apply Keeps.foldl1
    | apply Keeps.foldl11 | apply Keeps.ite | apply Keeps.ite1 | dsimp only | split | refine Keeps.upd ?_

theorem State.stepEntry_keeps {s : State} (t : State) (x : Step) (ended : Nat) (flipped : Nat) (before : Nat)
    (after : Nat) (h : Keeps s t) :
    Keeps s (State.stepEntry t x ended flipped before after) := by
  unfold State.stepEntry
  repeat' with_reducible first
    | assumption | intro _ | apply State.logKeeper_keeps | apply State.logStation_keeps | apply Keeps.foldl
    | apply Keeps.foldl1 | apply Keeps.foldl11 | apply Keeps.ite | apply Keeps.ite1 | dsimp only | split
    | refine Keeps.upd ?_

theorem State.stepFails_keeps {s : State} (t : State) (x : Step) (st : Stat) (h : Keeps s t) :
    Keeps s (State.stepFails t x st) := by
  unfold State.stepFails
  repeat' with_reducible first
    | assumption | intro _ | apply State.stepRecord_keeps | apply State.slewBy_keeps | apply Keeps.foldl
    | apply Keeps.foldl1 | apply Keeps.foldl11 | apply Keeps.ite | apply Keeps.ite1 | dsimp only | split
    | refine Keeps.upd ?_

theorem State.stepRegs_keeps {s : State} (t : State) (x : Step) (h : Keeps s t) :
    Keeps s (State.stepRegs t x) := by
  unfold State.stepRegs
  repeat' with_reducible first
    | assumption | intro _ | apply State.inc_keeps | apply State.putS_keeps | apply State.put_keeps
    | apply Keeps.foldl | apply Keeps.foldl1 | apply Keeps.foldl11 | apply Keeps.ite | apply Keeps.ite1 | dsimp only
    | split | refine Keeps.upd ?_

theorem State.stepApplied_keeps {s : State} (t : State) (x : Step) (h : Keeps s t) :
    Keeps s (State.stepApplied t x) := by
  unfold State.stepApplied
  repeat' with_reducible first
    | assumption | intro _ | apply State.stepRegs_keeps | apply State.stepEntry_keeps | apply State.stepRecord_keeps
    | apply State.moveClocks_keeps | apply State.moveWaits_keeps | apply State.moveLeases_keeps
    | apply State.serveCount_keeps | apply State.toQualifying_keeps | apply State.closeHours_keeps
    | apply State.leapCheck_keeps | apply State.pass_keeps | apply State.wdSync_keeps | apply State.setTime_keeps
    | apply Keeps.foldl | apply Keeps.foldl1 | apply Keeps.foldl11 | apply Keeps.ite | apply Keeps.ite1 | dsimp only
    | split | refine Keeps.upd ?_

theorem execStepApply_keeps {s : State} (peerOk : Bool) (t : State) (h : Keeps s t) :
    KeepsOut s (execStepApply peerOk t) := by
  unfold execStepApply
  repeat' with_reducible first
    | assumption | intro _ | apply State.stepApplied_keeps | apply State.stepFails_keeps | apply State.restamp_keeps
    | apply State.serveAt_keeps | apply State.reach_keeps | apply State.put_keeps | apply KeepsOut.next
    | apply KeepsOut.ite | apply Keeps.foldl | apply Keeps.foldl1 | apply Keeps.foldl11 | apply Keeps.ite
    | apply Keeps.ite1 | dsimp only | split | refine Keeps.upd ?_

end Sys2Proof.Machine
end

