-- ==== Sys2Proof/Laws/KeepsMirror.lean ====
section
/-! SUPPORT. Every operation of Machine/Mirror.lean keeps what every command keeps (Safety.Keeps). -/
namespace Sys2Proof.Machine
open Host
set_option linter.all false
set_option Elab.async false

theorem execTwinCommit_keeps {s : State} (f : Bond) (items : List (Nat × Nat)) (shape : Nat) (both : Bool) (t : State)
    (h : Keeps s t) :
    KeepsOut s (execTwinCommit f items shape both t) := by
  unfold execTwinCommit
  repeat' with_reducible first
    | assumption | intro _ | apply State.addPending_keeps | apply State.bondDrop_keeps | apply State.bondTook_keeps
    | apply State.bondSend_keeps | apply KeepsOut.next | apply KeepsOut.ite | apply Keeps.foldl | apply Keeps.foldl1
    | apply Keeps.foldl11 | apply Keeps.ite | apply Keeps.ite1 | dsimp only | split | refine Keeps.upd ?_

theorem execTwinStep_keeps {s : State} (f : Bond) (delta : Int) (at_ : Nat) (forced : Bool) (both : Bool) (t : State)
    (h : Keeps s t) :
    KeepsOut s (execTwinStep f delta at_ forced both t) := by
  unfold execTwinStep
  repeat' with_reducible first
    | assumption | intro _ | apply State.bondDrop_keeps | apply State.bondTook_keeps | apply State.bondSend_keeps
    | apply KeepsOut.next | apply KeepsOut.ite | apply Keeps.foldl | apply Keeps.foldl1 | apply Keeps.foldl11
    | apply Keeps.ite | apply Keeps.ite1 | dsimp only | split | refine Keeps.upd ?_

theorem execTwinValues_keeps {s : State} (f : Bond) (items : List (Nat × Nat)) (t : State) (h : Keeps s t) :
    KeepsOut s (execTwinValues f items t) := by
  unfold execTwinValues
  repeat' with_reducible first
    | assumption | intro _ | apply State.addPending_keeps | apply State.bondDrop_keeps | apply State.bondTook_keeps
    | apply State.put_keeps | apply KeepsOut.next | apply KeepsOut.ite | apply Keeps.foldl | apply Keeps.foldl1
    | apply Keeps.foldl11 | apply Keeps.ite | apply Keeps.ite1 | dsimp only | split | refine Keeps.upd ?_

theorem execTwinResolveWrite_keeps {s : State} (r : Req) (t : State) (h : Keeps s t) :
    KeepsOut s (execTwinResolveWrite r t) := by
  unfold execTwinResolveWrite
  repeat' with_reducible first
    | assumption | intro _ | apply State.twinResolve_keeps | apply atOnce_keeps | apply State.ownWrite_keeps
    | apply KeepsOut.next | apply KeepsOut.ite | apply Keeps.foldl | apply Keeps.foldl1 | apply Keeps.foldl11
    | apply Keeps.ite | apply Keeps.ite1 | dsimp only | split | refine Keeps.upd ?_

end Sys2Proof.Machine
end

