-- ==== Sys2Proof/Laws/KeepsExchange.lean ====
section
/-! SUPPORT. Every operation of Machine/Exchange.lean keeps what every command keeps (Safety.Keeps). -/
namespace Sys2Proof.Machine
open Host
set_option linter.all false
set_option Elab.async false

theorem execRead_keeps {s : State} (r : Req) (t : State) (h : Keeps s t) :
    KeepsOut s (execRead r t) := by
  unfold execRead
  repeat' with_reducible first
    | assumption | intro _ | apply State.holdRequest_keeps | apply State.accept_keeps
    | (refine Admit.of_go ?_ (by assumption); apply State.accept_keeps)
    | (refine Admit.of_done ?_ (by assumption); apply State.accept_keeps)
    | (refine Admit.of_wait ?_ (by assumption); apply State.accept_keeps) | apply State.into_keeps
    | apply State.finish_keeps | apply KeepsOut.next | apply KeepsOut.ite | apply Keeps.foldl | apply Keeps.foldl1
    | apply Keeps.foldl11 | apply Keeps.ite | apply Keeps.ite1 | dsimp only | split | refine Keeps.upd ?_

theorem State.wakeHomes_keeps {s : State} (t : State) (l : List Nat) (h : Keeps s t) :
    Keeps s (State.wakeHomes t l) := by
  unfold State.wakeHomes
  repeat' with_reducible first
    | assumption | intro _ | apply State.wakeIsl_keeps | apply Keeps.foldl | apply Keeps.foldl1 | apply Keeps.foldl11
    | apply Keeps.ite | apply Keeps.ite1 | dsimp only | split | refine Keeps.upd ?_

theorem State.askFreeze_keeps {s : State} (t : State) (r : Req) (l : List Nat) (h : Keeps s t) :
    Keeps s (State.askFreeze t r l) := by
  unfold State.askFreeze
  repeat' with_reducible first
    | assumption | intro _ | apply State.wakeHomes_keeps | apply State.beginProgress_keeps | apply State.drawn_keeps
    | apply Keeps.foldl | apply Keeps.foldl1 | apply Keeps.foldl11 | apply Keeps.ite | apply Keeps.ite1 | dsimp only
    | split | refine Keeps.upd ?_

theorem execGather_keeps {s : State} (r : Req) (t : State) (h : Keeps s t) :
    KeepsOut s (execGather r t) := by
  unfold execGather
  repeat' with_reducible first
    | assumption | intro _ | apply State.askFreeze_keeps | apply State.holdRequest_keeps | apply State.accept_keeps
    | (refine Admit.of_go ?_ (by assumption); apply State.accept_keeps)
    | (refine Admit.of_done ?_ (by assumption); apply State.accept_keeps)
    | (refine Admit.of_wait ?_ (by assumption); apply State.accept_keeps) | apply State.into_keeps
    | apply State.finish_keeps | apply KeepsOut.next | apply KeepsOut.ite | apply Keeps.foldl | apply Keeps.foldl1
    | apply Keeps.foldl11 | apply Keeps.ite | apply Keeps.ite1 | dsimp only | split | refine Keeps.upd ?_

theorem State.countItem_keeps {s : State} (t : State) (fast : Bool) (a : Nat) (st : Stat) (h : Keeps s t) :
    Keeps s (State.countItem t fast a st) := by
  unfold State.countItem
  repeat' with_reducible first
    | assumption | intro _ | apply State.inc_keeps | apply Keeps.foldl | apply Keeps.foldl1 | apply Keeps.foldl11
    | apply Keeps.ite | apply Keeps.ite1 | dsimp only | split | refine Keeps.upd ?_

theorem State.answerLate_keeps {s : State} (t : State) (r : Req) (op : Nat) (cls : Cls) (t0 : Nat) (st : Stat)
    (body : Bytes) (h : Keeps s t) :
    Keeps s (State.answerLate t r op cls t0 st body) := by
  unfold State.answerLate
  repeat' with_reducible first
    | assumption | intro _ | apply State.delayed_keeps | apply State.countRefusal_keeps | apply State.keepReply_keeps
    | apply Keeps.foldl | apply Keeps.foldl1 | apply Keeps.foldl11 | apply Keeps.ite | apply Keeps.ite1 | dsimp only
    | split | refine Keeps.upd ?_

theorem State.gatherDone_keeps {s : State} (t : State) (r : Req) (w : Who) (lost : List Island) (t0 : Nat)
    (h : Keeps s t) :
    Keeps s (State.gatherDone t r w lost t0) := by
  unfold State.gatherDone
  repeat' with_reducible first
    | assumption | intro _ | apply State.answerLate_keeps | apply State.countItem_keeps | apply State.delayed_keeps
    | apply State.countRefusal_keeps | apply State.answer_keeps | apply Keeps.foldl | apply Keeps.foldl1
    | apply Keeps.foldl11 | apply Keeps.ite | apply Keeps.ite1 | dsimp only | split | refine Keeps.upd ?_

theorem State.freeze_keeps {s : State} (t : State) (g : Gather) (lost : List Island) (h : Keeps s t) :
    Keeps s (State.freeze t g lost) := by
  unfold State.freeze
  repeat' with_reducible first
    | assumption | intro _ | apply State.gatherDone_keeps | apply State.endProgress_keeps | apply State.reach_keeps
    | apply Keeps.foldl | apply Keeps.foldl1 | apply Keeps.foldl11 | apply Keeps.ite | apply Keeps.ite1 | dsimp only
    | split | refine Keeps.upd ?_

theorem State.stageAll_keeps {s : State} (t : State) (c : Nat) (items : List (Nat × Nat)) (h : Keeps s t) :
    Keeps s (State.stageAll t c items).1 := by
  unfold State.stageAll
  repeat' with_reducible first
    | assumption | intro _ | apply State.setParison_keeps | apply Keeps.foldl | apply Keeps.foldl1
    | apply Keeps.foldl11 | apply Keeps.ite | apply Keeps.ite1 | dsimp only | split | refine Keeps.upd ?_

theorem State.plainWrite_keeps {s : State} (t : State) (a : Nat) (v : Nat) (h : Keeps s t) :
    Keeps s (State.plainWrite t a v).1 := by
  unfold State.plainWrite
  repeat' with_reducible first
    | assumption | intro _ | apply State.rewrote_keeps | apply State.watchAll_keeps | apply State.put_keeps
    | apply Keeps.foldl | apply Keeps.foldl1 | apply Keeps.foldl11 | apply Keeps.ite | apply Keeps.ite1 | dsimp only
    | split | refine Keeps.upd ?_

theorem execWrite_keeps {s : State} (r : Req) (t : State) (h : Keeps s t) :
    KeepsOut s (execWrite r t) := by
  unfold execWrite
  repeat' with_reducible first
    | assumption | intro _ | apply State.plainWrite_keeps | apply State.stageAll_keeps | apply State.retryLater_keeps
    | apply State.holdRequest_keeps | apply State.accept_keeps
    | (refine Admit.of_go ?_ (by assumption); apply State.accept_keeps)
    | (refine Admit.of_done ?_ (by assumption); apply State.accept_keeps)
    | (refine Admit.of_wait ?_ (by assumption); apply State.accept_keeps) | apply State.into_keeps
    | apply State.finish_keeps | apply KeepsOut.next | apply KeepsOut.ite | apply Keeps.foldl | apply Keeps.foldl1
    | apply Keeps.foldl11 | apply Keeps.ite | apply Keeps.ite1 | dsimp only | split | refine Keeps.upd ?_

theorem execScatter_keeps {s : State} (r : Req) (t : State) (h : Keeps s t) :
    KeepsOut s (execScatter r t) := by
  unfold execScatter
  repeat' with_reducible first
    | assumption | intro _ | apply State.stageAll_keeps | apply State.request_keeps | apply KeepsOut.next
    | apply KeepsOut.ite | apply Keeps.foldl | apply Keeps.foldl1 | apply Keeps.foldl11 | apply Keeps.ite
    | apply Keeps.ite1 | dsimp only | split | refine Keeps.upd ?_

theorem State.subscribe_keeps {s : State} (t : State) (r : Req) (h : Keeps s t) :
    Keeps s (State.subscribe t r).1 := by
  unfold State.subscribe
  repeat' with_reducible first
    | assumption | intro _ | apply State.notify_keeps | apply Keeps.foldl | apply Keeps.foldl1 | apply Keeps.foldl11
    | apply Keeps.ite | apply Keeps.ite1 | dsimp only | split | refine Keeps.upd ?_

theorem execSubscribe_keeps {s : State} (r : Req) (t : State) (h : Keeps s t) :
    KeepsOut s (execSubscribe r t) := by
  unfold execSubscribe
  repeat' with_reducible first
    | assumption | intro _ | apply State.subscribe_keeps | apply State.request_keeps | apply KeepsOut.next
    | apply KeepsOut.ite | apply Keeps.foldl | apply Keeps.foldl1 | apply Keeps.foldl11 | apply Keeps.ite
    | apply Keeps.ite1 | dsimp only | split | refine Keeps.upd ?_

theorem execUnsubscribe_keeps {s : State} (r : Req) (t : State) (h : Keeps s t) :
    KeepsOut s (execUnsubscribe r t) := by
  unfold execUnsubscribe
  repeat' with_reducible first
    | assumption | intro _ | apply State.request_keeps | apply KeepsOut.next | apply KeepsOut.ite | apply Keeps.foldl
    | apply Keeps.foldl1 | apply Keeps.foldl11 | apply Keeps.ite | apply Keeps.ite1 | dsimp only | split
    | refine Keeps.upd ?_

theorem execWatchInterval_keeps {s : State} (cid : Nat) (slot : Nat) (atWrite : Bool) (t : State) (h : Keeps s t) :
    KeepsOut s (execWatchInterval cid slot atWrite t) := by
  unfold execWatchInterval
  repeat' with_reducible first
    | assumption | intro _ | apply State.watchCompare_keeps | apply State.reach_keeps | apply KeepsOut.next
    | apply KeepsOut.ite | apply Keeps.foldl | apply Keeps.foldl1 | apply Keeps.foldl11 | apply Keeps.ite
    | apply Keeps.ite1 | dsimp only | split | refine Keeps.upd ?_

theorem execSubscriptionExpiry_keeps {s : State} (cid : Nat) (slot : Nat) (t : State) (h : Keeps s t) :
    KeepsOut s (execSubscriptionExpiry cid slot t) := by
  unfold execSubscriptionExpiry
  repeat' with_reducible first
    | assumption | intro _ | apply State.expireSub_keeps | apply State.servedAt_keeps | apply KeepsOut.next
    | apply KeepsOut.ite | apply Keeps.foldl | apply Keeps.foldl1 | apply Keeps.foldl11 | apply Keeps.ite
    | apply Keeps.ite1 | dsimp only | split | refine Keeps.upd ?_

theorem execRefusedResponseSend_keeps {s : State} (k : Nat) (t : State) (h : Keeps s t) :
    KeepsOut s (execRefusedResponseSend k t) := by
  unfold execRefusedResponseSend
  repeat' with_reducible first
    | assumption | intro _ | apply State.sendReply_keeps | apply State.reach_keeps | apply KeepsOut.next
    | apply KeepsOut.ite | apply Keeps.foldl | apply Keeps.foldl1 | apply Keeps.foldl11 | apply Keeps.ite
    | apply Keeps.ite1 | dsimp only | split | refine Keeps.upd ?_

end Sys2Proof.Machine
end

