-- ==== Sys2Proof/Laws/KeepsHandshakes.lean ====
section
/-! SUPPORT. Every operation of Machine/Handshakes.lean keeps what every command keeps (Safety.Keeps). -/
namespace Sys2Proof.Machine
open Host
set_option linter.all false
set_option Elab.async false

theorem heldMeaning_keeps {s : State} (c0 : Instr) (t : State) (h : Keeps s t) :
    KeepsOut s (heldMeaning c0 t) := by
  unfold heldMeaning
  repeat' with_reducible first
    | assumption | intro _ | apply execUnsubscribe_keeps | apply execSubscribe_keeps | apply State.subscribe_keeps
    | apply execScatter_keeps | apply execWrite_keeps | apply execGather_keeps | apply execRead_keeps
    | apply execTwinResolveWrite_keeps | apply execCmWithdrawAnyWrite_keeps | apply execCmWithdrawWrite_keeps
    | apply execDiscard_keeps | apply execCommitCheckOnly_keeps | apply execCommit_keeps
    | apply execLearnResetWrite_keeps | apply execRefAcceptWrite_keeps | apply execRefLabelWrite_keeps
    | apply execMargReqWrite_keeps | apply execSeqClearWrite_keeps | apply execUnknownOpcode_keeps
    | apply execEcho_keeps | apply execLogRead_keeps | apply execPendClrWrite_keeps | apply execPendSetWrite_keeps
    | apply execEnClrWrite_keeps | apply execEnSetWrite_keeps | apply execDoorbellWrite_keeps
    | apply execDoorbell_keeps | apply execRingStatus_keeps | apply execComplete_keeps | apply execClaim_keeps
    | apply execTimerDisarm_keeps | apply execTimerArm_keeps | apply execRevokeAnyWrite_keeps
    | apply execLsDropWrite_keeps | apply execLsRenewWrite_keeps | apply execRelease_keeps | apply execLease_keeps
    | apply execWdNap_keeps | apply execWdCheckin_keeps | apply execWdKeyBad_keeps | apply execWdKeyService_keeps
    | apply execWdKeyArm_keeps | apply State.wdNap_keeps | apply State.wdCheckin_keeps | apply execDevResetFull_keeps
    | apply execDevResetMain_keeps | apply execChgClearWrite_keeps | apply execStepWithdraw_keeps
    | apply execTimeSetWrite_keeps | apply execTimeStepFWrite_keeps | apply execTimeStepWrite_keeps
    | apply execSlewAddWrite_keeps | apply execImageConfirm_keeps | apply execImageActivate_keeps
    | apply execImageAbort_keeps | apply execImageFinish_keeps | apply execImageData_keeps
    | apply execImageBegin_keeps | apply State.imageConfirm_keeps | apply State.imageActivate_keeps
    | apply State.imageAbort_keeps | apply State.imageFinish_keeps | apply State.imageData_keeps
    | apply State.imageBegin_keeps | apply execIslReqWithdraw_keeps | apply execIslReqReset_keeps
    | apply execIslReqGate_keeps | apply execLogArchiveWrite_keeps | apply execTmpTestWrite_keeps
    | apply execTmpClearWrite_keeps | apply execZeroizeWrite_keeps | apply execKxPeerWrite_keeps
    | apply execKxStartWrite_keeps | apply State.release_keeps | apply KeepsOut.next | apply KeepsOut.ite
    | apply Keeps.foldl | apply Keeps.foldl1 | apply Keeps.foldl11 | apply Keeps.ite | apply Keeps.ite1 | dsimp only
    | split | refine Keeps.upd ?_

theorem State.after_keeps {s : State} (t : State) (c : Instr) (h : Keeps s t) : Keeps s (State.after t c) := by
  have k := heldMeaning_keeps c t h
  unfold State.after
  revert k
  cases heldMeaning c t <;> intro k
  · exact k
  · exact h
  · exact h

theorem State.serveHeld_keeps {s : State} (t : State) (h_ : Held) (h : Keeps s t) :
    Keeps s (State.serveHeld t h_) := by
  unfold State.serveHeld
  repeat' with_reducible first
    | assumption | intro _ | apply State.after_keeps | apply State.unhold_keeps | apply Keeps.foldl
    | apply Keeps.foldl1 | apply Keeps.foldl11 | apply Keeps.ite | apply Keeps.ite1 | dsimp only | split
    | refine Keeps.upd ?_

theorem State.serveReady1_keeps {s : State} (t : State) (h_ : Held) (h : Keeps s t) :
    Keeps s (State.serveReady1 t h_) := by
  unfold State.serveReady1
  repeat' with_reducible first
    | assumption | intro _ | apply State.serveHeld_keeps | apply State.wakeIsl_keeps | apply Keeps.foldl
    | apply Keeps.foldl1 | apply Keeps.foldl11 | apply Keeps.ite | apply Keeps.ite1 | dsimp only | split
    | refine Keeps.upd ?_

theorem State.serveReady_keeps {s : State} (t : State) (h : Keeps s t) :
    Keeps s (State.serveReady t) := by
  unfold State.serveReady
  repeat' with_reducible first
    | assumption | intro _ | apply State.serveReady1_keeps | apply Keeps.foldl | apply Keeps.foldl1
    | apply Keeps.foldl11 | apply Keeps.ite | apply Keeps.ite1 | dsimp only | split | refine Keeps.upd ?_

theorem State.serveQueue_keeps {s : State} (t : State) (i : Island) (h : Keeps s t) :
    Keeps s (State.serveQueue t i) := by
  unfold State.serveQueue
  repeat' with_reducible first
    | assumption | intro _ | apply State.serveHeld_keeps | apply Keeps.foldl | apply Keeps.foldl1
    | apply Keeps.foldl11 | apply Keeps.ite | apply Keeps.ite1 | dsimp only | split | refine Keeps.upd ?_

theorem State.unheard_keeps {s : State} (t : State) (r : Req) (op : Nat) (w : Who) (h : Keeps s t) :
    Keeps s (State.unheard t r op w) := by
  unfold State.unheard
  repeat' with_reducible first
    | assumption | intro _ | apply State.after_keeps | apply Keeps.foldl | apply Keeps.foldl1 | apply Keeps.foldl11
    | apply Keeps.ite | apply Keeps.ite1 | dsimp only | split | refine Keeps.upd ?_

theorem State.unanswered_keeps {s : State} (t : State) (ch : Nat) (r : Req) (op : Nat) (h : Keeps s t) :
    Keeps s (State.unanswered t ch r op) := by
  unfold State.unanswered
  repeat' with_reducible first
    | assumption | intro _ | apply State.unheard_keeps | apply State.setChan_keeps | apply State.retryLater_keeps
    | apply State.accept_keeps | (refine Admit.of_go ?_ (by assumption); apply State.accept_keeps)
    | (refine Admit.of_done ?_ (by assumption); apply State.accept_keeps)
    | (refine Admit.of_wait ?_ (by assumption); apply State.accept_keeps) | apply State.coreAbsent_keeps
    | apply State.finish_keeps | apply State.drawn_keeps | apply State.inc_keeps | apply Keeps.foldl
    | apply Keeps.foldl1 | apply Keeps.foldl11 | apply Keeps.ite | apply Keeps.ite1 | dsimp only | split
    | refine Keeps.upd ?_

theorem execHandshakeTimeout_keeps {s : State} (ch : Fin 20) (phase : Fin 3) (victim : Option Req) (op : Nat)
    (t : State) (h : Keeps s t) :
    KeepsOut s (execHandshakeTimeout ch phase victim op t) := by
  unfold execHandshakeTimeout
  repeat' with_reducible first
    | assumption | intro _ | apply State.unanswered_keeps | apply State.serveReady_keeps | apply State.setChan_keeps
    | apply State.abandon_keeps | apply State.inc_keeps | apply KeepsOut.next | apply KeepsOut.ite
    | apply Keeps.foldl | apply Keeps.foldl1 | apply Keeps.foldl11 | apply Keeps.ite | apply Keeps.ite1 | dsimp only
    | split | refine Keeps.upd ?_

theorem execOrphanAckLow_keeps {s : State} (ch : Fin 20) (t : State) (h : Keeps s t) :
    KeepsOut s (execOrphanAckLow ch t) := by
  unfold execOrphanAckLow
  repeat' with_reducible first
    | assumption | intro _ | apply State.serveReady_keeps | apply State.setChan_keeps | apply KeepsOut.next
    | apply KeepsOut.ite | apply Keeps.foldl | apply Keeps.foldl1 | apply Keeps.foldl11 | apply Keeps.ite
    | apply Keeps.ite1 | dsimp only | split | refine Keeps.upd ?_

theorem State.arrives_keeps {s : State} (t : State) (c0 : Island) (h : Keeps s t) :
    Keeps s (State.arrives t c0) := by
  unfold State.arrives
  repeat' with_reducible first
    | assumption | intro _ | apply State.loadPw_keeps | apply State.keysBack_keeps | apply State.fbBack_keeps
    | apply State.scStarts_keeps | apply State.owedZeroizes_keeps | apply State.storeAnchors_keeps
    | apply State.pass_keeps | apply State.settle_keeps | apply State.startPorts_keeps | apply State.wd0Wakes_keeps
    | apply Keeps.foldl | apply Keeps.foldl1 | apply Keeps.foldl11 | apply Keeps.ite | apply Keeps.ite1 | dsimp only
    | split | refine Keeps.upd ?_

theorem State.resetDone_keeps {s : State} (t : State) (i : Island) (h : Keeps s t) :
    Keeps s (State.resetDone t i) := by
  unfold State.resetDone
  repeat' with_reducible first
    | assumption | intro _ | apply State.islDone_keeps | apply Keeps.foldl | apply Keeps.foldl1 | apply Keeps.foldl11
    | apply Keeps.ite | apply Keeps.ite1 | dsimp only | split | refine Keeps.upd ?_

theorem execIslandRunReached_keeps {s : State} (i : Island) (t : State) (h : Keeps s t) :
    KeepsOut s (execIslandRunReached i t) := by
  unfold execIslandRunReached
  repeat' with_reducible first
    | assumption | intro _ | apply State.resetDone_keeps | apply State.arrives_keeps | apply State.serveReady_keeps
    | apply State.actPending_keeps | apply State.wdSync_keeps | apply State.setIsl_keeps | apply KeepsOut.next
    | apply KeepsOut.ite | apply Keeps.foldl | apply Keeps.foldl1 | apply Keeps.foldl11 | apply Keeps.ite
    | apply Keeps.ite1 | dsimp only | split | refine Keeps.upd ?_

theorem execDrainComplete_keeps {s : State} (i : Island) (t : State) (h : Keeps s t) :
    KeepsOut s (execDrainComplete i t) := by
  unfold execDrainComplete
  repeat' with_reducible first
    | assumption | intro _ | apply State.serveQueue_keeps | apply State.serveReady_keeps
    | apply State.drainDone_keeps | apply State.wdSync_keeps | apply KeepsOut.next | apply KeepsOut.ite
    | apply Keeps.foldl | apply Keeps.foldl1 | apply Keeps.foldl11 | apply Keeps.ite | apply Keeps.ite1 | dsimp only
    | split | refine Keeps.upd ?_

theorem execDrainLimitExpiry_keeps {s : State} (i : Island) (t : State) (h : Keeps s t) :
    KeepsOut s (execDrainLimitExpiry i t) := by
  unfold execDrainLimitExpiry
  repeat' with_reducible first
    | assumption | intro _ | apply State.serveReady_keeps | apply State.drainDone_keeps
    | apply State.abandonAll_keeps | apply State.wdSync_keeps | apply KeepsOut.next | apply KeepsOut.ite
    | apply Keeps.foldl | apply Keeps.foldl1 | apply Keeps.foldl11 | apply Keeps.ite | apply Keeps.ite1 | dsimp only
    | split | refine Keeps.upd ?_

theorem execIslandHoldRelease_keeps {s : State} (i : Island) (t : State) (h : Keeps s t) :
    KeepsOut s (execIslandHoldRelease i t) := by
  unfold execIslandHoldRelease
  repeat' with_reducible first
    | assumption | intro _ | apply State.serveReady_keeps | apply State.endHold_keeps | apply KeepsOut.next
    | apply KeepsOut.ite | apply Keeps.foldl | apply Keeps.foldl1 | apply Keeps.foldl11 | apply Keeps.ite
    | apply Keeps.ite1 | dsimp only | split | refine Keeps.upd ?_

theorem execHoldLeaseExpiry_keeps {s : State} (i : Island) (t : State) (h : Keeps s t) :
    KeepsOut s (execHoldLeaseExpiry i t) := by
  unfold execHoldLeaseExpiry
  repeat' with_reducible first
    | assumption | intro _ | apply State.serveReady_keeps | apply State.endHold_keeps | apply State.reach_keeps
    | apply KeepsOut.next | apply KeepsOut.ite | apply Keeps.foldl | apply Keeps.foldl1 | apply Keeps.foldl11
    | apply Keeps.ite | apply Keeps.ite1 | dsimp only | split | refine Keeps.upd ?_

theorem execFirmwareStart_keeps {s : State} (torn : Option (Fin 64)) (ages : List Int) (t : State) (h : Keeps s t) :
    KeepsOut s (execFirmwareStart torn ages t) := by
  unfold execFirmwareStart
  repeat' with_reducible first
    | assumption | intro _ | apply State.serveReady_keeps | apply State.firmwareStart_keeps | apply KeepsOut.next
    | apply KeepsOut.ite | apply Keeps.foldl | apply Keeps.foldl1 | apply Keeps.foldl11 | apply Keeps.ite
    | apply Keeps.ite1 | dsimp only | split | refine Keeps.upd ?_

theorem execGatherFreeze_keeps {s : State} (lost : List Island) (t : State) (h : Keeps s t) :
    KeepsOut s (execGatherFreeze lost t) := by
  unfold execGatherFreeze
  repeat' with_reducible first
    | assumption | intro _ | apply State.serveReady_keeps | apply State.freeze_keeps | apply KeepsOut.next
    | apply KeepsOut.ite | apply Keeps.foldl | apply Keeps.foldl1 | apply Keeps.foldl11 | apply Keeps.ite
    | apply Keeps.ite1 | dsimp only | split | refine Keeps.upd ?_

theorem execEvidenceAppend_keeps {s : State} (t : State) (h : Keeps s t) :
    KeepsOut s (execEvidenceAppend t) := by
  unfold execEvidenceAppend
  repeat' with_reducible first
    | assumption | intro _ | apply State.serveReady_keeps | apply State.appendOldest_keeps | apply State.wdSync_keeps
    | apply KeepsOut.next | apply KeepsOut.ite | apply Keeps.foldl | apply Keeps.foldl1 | apply Keeps.foldl11
    | apply Keeps.ite | apply Keeps.ite1 | dsimp only | split | refine Keeps.upd ?_

theorem State.retried_keeps {s : State} (t : State) (op : Nat) (r : Req) (h : Keeps s t) :
    Keeps s (State.retried t op r) := by
  unfold State.retried
  repeat' with_reducible first
    | assumption | intro _ | apply State.plainWrite_keeps | apply State.imageData_keeps
    | apply State.endProgress_keeps | apply State.finish_keeps | apply Keeps.foldl | apply Keeps.foldl1
    | apply Keeps.foldl11 | apply Keeps.ite | apply Keeps.ite1 | dsimp only | split | refine Keeps.upd ?_

theorem State.retriesSpent_keeps {s : State} (t : State) (op : Nat) (r : Req) (detail : Nat) (h : Keeps s t) :
    Keeps s (State.retriesSpent t op r detail) := by
  unfold State.retriesSpent
  repeat' with_reducible first
    | assumption | intro _ | apply State.plainWrite_keeps | apply State.endSession_keeps
    | apply State.endProgress_keeps | apply State.finish_keeps | apply State.drawn_keeps | apply Keeps.foldl
    | apply Keeps.foldl1 | apply Keeps.foldl11 | apply Keeps.ite | apply Keeps.ite1 | dsimp only | split
    | refine Keeps.upd ?_

theorem State.retryAgain_keeps {s : State} (t : State) (x : Nat × Req × Nat) (detail : Nat) (h : Keeps s t) :
    Keeps s (State.retryAgain t x detail) := by
  unfold State.retryAgain
  repeat' with_reducible first
    | assumption | intro _ | apply State.retriesSpent_keeps | apply State.inc_keeps | apply Keeps.foldl
    | apply Keeps.foldl1 | apply Keeps.foldl11 | apply Keeps.ite | apply Keeps.ite1 | dsimp only | split
    | refine Keeps.upd ?_

theorem execFirmwareRetry_keeps {s : State} (work : Fin 4) (ok : Bool) (t : State) (h : Keeps s t) :
    KeepsOut s (execFirmwareRetry work ok t) := by
  unfold execFirmwareRetry
  repeat' with_reducible first
    | assumption | intro _ | apply State.retryAgain_keeps | apply State.retried_keeps
    | apply execEvidenceAppend_keeps | apply State.serveReady_keeps | apply State.serve_keeps
    | apply State.wakeIsl_keeps | apply State.inc_keeps | apply KeepsOut.next | apply KeepsOut.ite
    | apply Keeps.foldl | apply Keeps.foldl1 | apply Keeps.foldl11 | apply Keeps.ite | apply Keeps.ite1 | dsimp only
    | split | refine Keeps.upd ?_

end Sys2Proof.Machine
end

