-- ==== Sys2Proof/Laws/KeepsTick.lean ====
section
/-! SUPPORT. Every operation of Machine/Tick.lean keeps what every command keeps (Safety.Keeps). -/
namespace Sys2Proof.Machine
open Host
set_option linter.all false
set_option Elab.async false

theorem State.pulse_keeps {s : State} (t : State) (h : Keeps s t) :
    Keeps s (State.pulse t) := by
  unfold State.pulse
  repeat' with_reducible first
    | assumption | intro _ | apply State.bkCycle_keeps | apply State.fbCycle_keeps | apply Keeps.foldl
    | apply Keeps.foldl1 | apply Keeps.foldl11 | apply Keeps.ite | apply Keeps.ite1 | dsimp only | split
    | refine Keeps.upd ?_

theorem State.tick_keeps {s : State} (t : State) (h : Keeps s t) :
    Keeps s (State.tick t) := by
  unfold State.tick
  repeat' with_reducible first
    | assumption | intro _ | apply State.pulse_keeps | apply State.serveReady_keeps | apply Keeps.foldl
    | apply Keeps.foldl1 | apply Keeps.foldl11 | apply Keeps.ite | apply Keeps.ite1 | dsimp only | split
    | refine Keeps.upd ?_

end Sys2Proof.Machine
end

