-- ==== Sys2Proof/Laws/Writes.lean ====
section
/-! SUPPORT. What a write of an element with its own behaviour does once the exchange lets it through. -/
namespace Sys2Proof.Machine
open Host

/-- A request whose island serves it goes on there. -/
theorem State.into_serve {s : State} {i : Island} {ch : Nat} {cmd : Instr} {cid : Nat} {who : Option Who}
    {shut : State → Stat → State} {go : State → State} (h : s.crossing i ch = .serve) :
    s.into i ch cmd cid who shut go = go s := by
  simp [State.into, h]

/-- A request whose island is absent, or its channel STUCK, completes with ABANDONED, counted on the channel (R63, R67). -/
theorem State.into_shut {s : State} {i : Island} {ch d : Nat} {cmd : Instr} {cid : Nat} {who : Option Who}
    {shut : State → Stat → State} {go : State → State} (h : s.crossing i ch = .shut d) :
    s.into i ch cmd cid who shut go = shut (s.inc 4 (Reg.CH_ABANDON ch)) (.abandoned d) := by
  simp [State.into, h]

/-- A request whose island wakes or starts is held for it (R68). -/
theorem State.into_wait {s : State} {i : Island} {ch : Nat} {cmd : Instr} {cid : Nat} {who : Option Who}
    {shut : State → Stat → State} {go : State → State} (h : s.crossing i ch = .wait) :
    s.into i ch cmd cid who shut go = (s.wakeIsl i).hold ⟨some i, ch, some cmd, cid, who⟩ := by
  simp [State.into, h]

/-- A write that is let through, with the rights to what it names: its effect, whatever it answers. -/
theorem State.rightsWrite_go {s t : State} {cmd : Instr} {r : Req} {boot : Bool} {w : Who} {mine : Nat → Bool}
    {rights : State → Who → Nat → Nat → Bool} {eff : Effect} (h : LetThrough s r boot t w)
    (hm : mine r.addr = true) (hr : rights t w r.addr (bytesToNum r.value) = true) :
    s.rightsWrite cmd r mine false boot rights eff =
      match eff t w r.addr (bytesToNum r.value) with
      | (v, some st) => v.finish r 2 .q st []
      | (v, none) => if v.exch.muted then v else v.beginProgress r.cid := by
  have hs : t.crossing (homeOf r.addr) (pathTo false (homeOf r.addr)) = .serve := h.served
  unfold State.rightsWrite
  simp only [hm, h.goes, hr, h.checked, State.into_serve hs, Bool.not_true, Bool.and_false, if_false,
    Bool.false_eq_true]
  by_cases hg : signs r.addr = true
  · rw [if_pos hg, State.into_serve (h.signed hg)] <;>
      (rcases eff t w r.addr (bytesToNum r.value) with ⟨v, _ | st⟩ <;> rfl)
  · rw [if_neg hg] <;> (rcases eff t w r.addr (bytesToNum r.value) with ⟨v, _ | st⟩ <;> rfl)

theorem State.rightsWrite_let {s t : State} {cmd : Instr} {r : Req} {boot : Bool} {w : Who} {mine : Nat → Bool}
    {rights : State → Who → Nat → Nat → Bool} {f : State → Who → Nat → Nat → State × Stat} (h : LetThrough s r boot t w)
    (hm : mine r.addr = true) (hr : rights t w r.addr (bytesToNum r.value) = true) :
    s.rightsWrite cmd r mine false boot rights (atOnce f) =
      (f t w r.addr (bytesToNum r.value)).1.finish r 2 .q (f t w r.addr (bytesToNum r.value)).2 [] := by
  rw [State.rightsWrite_go h hm hr]
  rfl

/-- An element's own write: its effect, and the answer. -/
theorem State.ownWrite_let {s t : State} {cmd : Instr} {r : Req} {boot : Bool} {w : Who} {mine : Nat → Bool}
    {f : State → Who → Nat → Nat → State × Stat} (h : LetThrough s r boot t w) (hm : mine r.addr = true) :
    s.ownWrite cmd r mine boot (atOnce f) =
      (f t w r.addr (bytesToNum r.value)).1.finish r 2 .q (f t w r.addr (bytesToNum r.value)).2 [] :=
  State.rightsWrite_let h hm rfl

/-- A write that answers later: its effect, and one more request in progress. -/
theorem State.rightsWrite_later {s t u : State} {cmd : Instr} {r : Req} {boot : Bool} {w : Who} {mine : Nat → Bool}
    {rights : State → Who → Nat → Nat → Bool} {eff : Effect} (h : LetThrough s r boot t w)
    (hm : mine r.addr = true) (hr : rights t w r.addr (bytesToNum r.value) = true)
    (he : eff t w r.addr (bytesToNum r.value) = (u, none)) (hu : u.exch.muted = false) :
    s.rightsWrite cmd r mine false boot rights eff = u.beginProgress r.cid := by
  rw [State.rightsWrite_go h hm hr, he]
  simp [hu]

/-- A response other than the uniform refusal is answered at once. -/
theorem State.finish_answer (s : State) (r : Req) (op : Nat) (cls : Cls) (st : Stat) (b : Bytes) (hm : s.exch.muted = false)
    (h : st.code ≠ 1) : s.finish r op cls st b = s.answer r op st b := by
  simp [State.finish, h, hm]

/-- A value of one byte is the byte that follows the length. -/
theorem bodyNum_one {r : Req} {b : Byte} (h : r.value = [b]) : bodyNum r.body 4 1 = bytesToNum [b] := by
  have : r.body.drop 4 = [b] := h
  simp [bodyNum, this]

end Sys2Proof.Machine
end

