-- ==== Sys2Proof/WellFormed.lean ====
section
/-! DEFINITION. Well-formed commands: operands that the terminals and units of the part can carry. A command's meaning does not
ask for it: what it excludes reaches the part by no wire. -/
namespace Sys2Proof

/-- A field of w bits. -/
def fits (w n : Nat) : Bool := decide (n < 2 ^ w)

/-- Numbers of one, two, four and eight bytes, and of a digest. -/
def u8Ok (n : Nat) : Bool := decide (n < 2 ^ 8)
def u16Ok (n : Nat) : Bool := decide (n < 2 ^ 16)
def u32Ok (n : Nat) : Bool := decide (n < 2 ^ 32)
def u64Ok (n : Nat) : Bool := decide (n < 2 ^ 64)
def digestOk (n : Nat) : Bool := decide (n < 2 ^ 256)
def s64Ok (n : Int) : Bool := decide (-(2 ^ 63) ≤ n ∧ n < 2 ^ 63)

/-- A station time (R1); a client, a holder, a subscription slot, a timer handle. -/
def stOk (n : Nat) : Bool := decide (n < 2 ^ 64)
def cidOk (n : Nat) : Bool := decide (n < 1024)
def hidOk (n : Nat) : Bool := decide (n < 64)
def slotOk (n : Nat) : Bool := decide (n < 4)
def handleOk (n : Nat) : Bool := decide (n < 32)

/-- A trailer's fields lie in the widths of Table: Authentication trailer. -/
def trailerOk (t : Trailer) : Bool :=
  stOk t.stamp && u32Ok t.ctr && u16Ok t.gen && u8Ok t.dir && u8Ok t.epoch && decide (t.tag.length = 16)

/-- A frame and its packet: 48-bit MAC and 128-bit IPv6 addresses, 16-bit EtherType, port and length. -/
def ethOk (f : Eth) : Bool :=
  u16Ok f.len && u16Ok f.etherType && fits 48 f.dest && fits 128 f.ip && u16Ok f.port && u16Ok f.udpLen

/-- A message's fields lie in the widths of Table: Message header and of the trailer (R521). -/
def reqOk (r : Req) : Bool :=
  u16Ok r.udp && ethOk r.eth && u8Ok r.version && u16Ok r.cidField && u32Ok r.reqNo && u16Ok r.bodyLen && u8Ok r.flags &&
  fits 48 r.tail && trailerOk r.tr

/-- A bond-link frame's counter (R751). -/
def bondOk (f : Bond) : Bool := u32Ok f.counter

/-- The fields of a HELLO lie in their widths. -/
def helloOk (h : Hello) : Bool :=
  u8Ok h.role && u32Ok h.cap && u32Ok h.least && fits 128 h.uid && fits 512 h.identity && fits 512 h.eph && digestOk h.sigR &&
  digestOk h.sigS

/-- Items of a frame: addresses of three bytes, at most 64 to a commit but for the values that resolve a discord. -/
def itemsOk (l : List (Nat × Nat)) : Bool := l.all (fun p => decide (p.1 < 2 ^ 24))

/-- What an uncorrectable error took. -/
def eccOk : EccObj → Bool
  | .record id => u64Ok id
  | .timer cid handle => cidOk cid && handleOk handle
  | .plan hid tag => hidOk hid && u16Ok tag
  | .bundle cid num => cidOk cid && u16Ok num
  | .entry target seq => decide (target < 4) && u16Ok seq
  | .stream source target hid => decide (source < 511) && decide (target < 5) && decide (hid ≤ 64)
  | .core => true
  | .security => true
  | .frame _ _ => true
  | .keeperCopy _ => true
  | .image _ => true
  | .log chain seq => hidOk chain && u64Ok seq
  | .element addr => decide (addr < 2 ^ 24)

/-- A well-formed command. -/
def wellFormed : Instr → Bool
  | .handshakeTimeout _ _ victim op => victim.all reqOk && u8Ok op
  | .orphanAckLow _ => true
  | .illegalStateEncoding _ code shadow => u8Ok code && u8Ok shadow
  | .islandSelfReset _ => true
  | .islandWake _ _ => true
  | .islandRunReached _ => true
  | .islandIdleStop _ _ => true
  | .drainComplete _ => true
  | .drainLimitExpiry _ => true
  | .islandSupplyFail _ => true
  | .islReqGate r => reqOk r
  | .islReqReset r => reqOk r
  | .islReqWithdraw r => reqOk r
  | .islandHoldTake _ ms => u64Ok ms
  | .islandHoldRelease _ => true
  | .holdLeaseExpiry _ => true
  | .holdExpirySignal _ => true
  | .wakeComparatorWake => true
  | .firmwareRetry _ _ => true
  | .mainPowerUp => true
  | .vdd5Good => true
  | .vcoreGood => true
  | .strapSample _ _ _ _ => true
  | .strapDefaultTimeout => true
  | .bootSlotTry => true
  | .firmwareStart _ ages => ages.all s64Ok
  | .rstoRelease => true
  | .rstNLow => true
  | .rstNWiden => true
  | .rstNRelease => true
  | .vcoreBrownout => true
  | .devResetMain r => reqOk r
  | .devResetFull r => reqOk r
  | .keeperMainReset => true
  | .backupPowerOn => true
  | .stationTimeLoad n => u64Ok n
  | .x32Qualified cycles gap predicted => u64Ok cycles && u64Ok gap && u64Ok predicted
  | .x32Changeover => true
  | .x32QualTimeout => true
  | .x32RestartAttempt => true
  | .x32Stopped => true
  | .switchoverToVbk => true
  | .switchoverToMain => true
  | .vbkLowCheck mv => u16Ok mv
  | .trickleStop => true
  | .trickleRestart => true
  | .bkCopyFailed _ held => u64Ok held
  | .ringEntryRelease _ => true
  | .l3Evaluate swing => u64Ok swing
  | .lfrcCalStart => true
  | .lfrcCalEnd err temp => s64Ok err && s64Ok temp
  | .aorcMeasure hz => u64Ok hz
  | .xhMeasure ppb => s64Ok ppb
  | .pllLockLoss => true
  | .pllRelock => true
  | .compLoad ts0 => s64Ok ts0
  | .compTempWake ts0 => s64Ok ts0
  | .ppsPulse stamp => stOk stamp
  | .nmeaSentence _ start stop minute sec => u64Ok start && u64Ok stop && u64Ok minute && fits 6 sec
  | .ptpExchange offset delay gmClass _ => s64Ok offset && s64Ok delay && fits 8 gmClass
  | .refInputMissing => true
  | .refQualifyTimeout => true
  | .refLabelWrite r => reqOk r
  | .refAcceptWrite r => reqOk r
  | .driftObservation rbar u1 u2 u3 l => s64Ok rbar && s64Ok u1 && s64Ok u2 && s64Ok u3 && s64Ok l
  | .learnResetWrite r => reqOk r
  | .modelStore => true
  | .episodeRollover => true
  | .ppsOutPulse => true
  | .rangeEndReached => true
  | .leapTableExpired => true
  | .slewAddWrite r => reqOk r
  | .slewComplete => true
  | .timeStepWrite r peer => reqOk r && peer.all stOk
  | .timeStepFWrite r peer => reqOk r && peer.all stOk
  | .timeSetWrite r peer => reqOk r && peer.all stOk
  | .stepWithdraw r => reqOk r
  | .stepApply _ => true
  | .read r => reqOk r
  | .refusedResponseSend k => u64Ok k
  | .write r => reqOk r
  | .gather r => reqOk r
  | .gatherFreeze _ => true
  | .scatter r => reqOk r
  | .commit r peer => reqOk r && itemsOk peer
  | .commitCheckOnly r peer => reqOk r && itemsOk peer
  | .discard r => reqOk r
  | .lease r => reqOk r
  | .release r => reqOk r
  | .subscribe r => reqOk r
  | .unsubscribe r => reqOk r
  | .logRead r => reqOk r
  | .doorbell r => reqOk r
  | .echo r => reqOk r
  | .unknownOpcode r op => reqOk r && u8Ok op
  | .imageBegin r => reqOk r
  | .imageData r => reqOk r
  | .imageFinish r => reqOk r
  | .imageAbort r => reqOk r
  | .imageActivate r => reqOk r
  | .imageConfirm r => reqOk r
  | .fwAutoConfirm => true
  | .fwSessionTimeout => true
  | .watchInterval cid slot _ => cidOk cid && slotOk slot
  | .subscriptionExpiry cid slot => cidOk cid && slotOk slot
  | .commitPrepare => true
  | .commitPrepared => true
  | .commitPrepDeadline _ => true
  | .commitCheckStrobe _ => true
  | .commitStore => true
  | .parisonIdleDiscard cid => cidOk cid
  | .cmWithdrawWrite r => reqOk r
  | .cmWithdrawAnyWrite r => reqOk r
  | .leaseExpiry cid num => cidOk cid && u16Ok num
  | .leaseRequestTimeout cid num => cidOk cid && u16Ok num
  | .lsRenewWrite r => reqOk r
  | .lsDropWrite r => reqOk r
  | .revokeAnyWrite r => reqOk r
  | .revocationEffect cid num => cidOk cid && u16Ok num
  | .endedSlotExpiry cid num => cidOk cid && u16Ok num
  | .timerArm r => reqOk r
  | .timerDisarm r => reqOk r
  | .timerFire cid handle => cidOk cid && handleOk handle
  | .planEntryFire hid tag => hidOk hid && u16Ok tag
  | .planExchange => true
  | .evtRawTransition _ _ _ stamp => stOk stamp
  | .evtEdgeQualify _ _ => true
  | .latchEdge _ _ _ _ cycles => u64Ok cycles
  | .latchHandover => true
  | .grantLevelTake _ _ _ => true
  | .l4Evaluate _ p => u64Ok p
  | .fbRefRunExpiry => true
  | .claim r => reqOk r
  | .complete r => reqOk r
  | .ringStatus r => reqOk r
  | .doorbellWrite r => reqOk r
  | .enSetWrite r => reqOk r
  | .enClrWrite r => reqOk r
  | .pendSetWrite r => reqOk r
  | .pendClrWrite r => reqOk r
  | .holdoffEnd _ => true
  | .claimTimeout _ seq => u16Ok seq
  | .t0Claim => true
  | .notifierClaim => true
  | .canSegTimeout cid tag => cidOk cid && u16Ok tag
  | .canTxTimeout => true
  | .canBusError tec rec_ => u64Ok tec && u64Ok rec_
  | .canBoffHoldExpiry => true
  | .canRecoveryComplete => true
  | .t1lLinkUp _ _ => true
  | .t1lLinkDown => true
  | .icmpv6Echo f source ident seq => ethOk f && fits 128 source && fits 16 ident && u16Ok seq
  | .ptpSyncSend => true
  | .hostSend addr typ _ => fits 7 addr && fits 8 typ
  | .hostFetch addr _ => fits 7 addr
  | .hostStatus addr => fits 7 addr
  | .hostUnknownCommand addr => fits 7 addr
  | .kxStartWrite r => reqOk r
  | .kxPeerWrite r => reqOk r
  | .kxExpiry cid => cidOk cid
  | .zeroizeWrite r => reqOk r
  | .entropyFault => true
  | .vinOvervoltage vin => u16Ok vin
  | .vsysOvervoltage vsys => u16Ok vsys
  | .chargeTransition vin vsys temp _ ibat _ => u16Ok vin && u16Ok vsys && s64Ok temp && s64Ok ibat
  | .prechargeTimeout => true
  | .chgClearWrite r => reqOk r
  | .l5Evaluate vin vsys ichg _ => u16Ok vin && u16Ok vsys && u16Ok ichg
  | .mpptSweep voc best => u16Ok voc && u16Ok best
  | .l6Evaluate ib devMw => s64Ok ib && u16Ok devMw
  | .l7Evaluate temp _ => s64Ok temp
  | .socRestCorrection vsys => u16Ok vsys
  | .hourBoundary => true
  | .budgetCompute => true
  | .batAlarmChange vsys => u16Ok vsys
  | .snowCheck => true
  | .pwNightWake charge vin vsys => s64Ok charge && u16Ok vin && u16Ok vsys
  | .railBandCross _ _ _ mv => u16Ok mv
  | .upDelayExpiry _ => true
  | .railGood _ => true
  | .rampTimeout _ => true
  | .downDelayExpiry _ => true
  | .railOffReached _ => true
  | .dischargeTimeout _ => true
  | .fltNAsserted => true
  | .fltNRelease _ => true
  | .fltHoldExpiry cool => u64Ok cool
  | .seqClearWrite r => reqOk r
  | .retryRestore _ => true
  | .lswRampDone _ => true
  | .lswCurrentLimit _ => true
  | .lswOvertemp _ => true
  | .lswLoadCheck _ ma meanMw => u16Ok ma && u16Ok meanMw
  | .margReqWrite r => reqOk r
  | .margTargetReached _ => true
  | .wdKeyArm r => r.all reqOk
  | .wdKeyService r => r.all reqOk
  | .wdKeyBad r => reqOk r
  | .wdCheckin r => reqOk r
  | .wdNap r => reqOk r
  | .wdPeriodEnd _ => true
  | .wdWindowOpen _ => true
  | .wdGraceExpiry _ => true
  | .wdClockStop _ => true
  | .wdStateIllegal _ code shadow => u8Ok code && u8Ok shadow
  | .wdRstoEnd _ => true
  | .tamperAssert _ detail => fits 8 detail
  | .tamperRelease _ => true
  | .tmpClearWrite r => reqOk r
  | .tamperHoldExpiry _ => true
  | .shadowMismatch _ sticky => fits 16 sticky
  | .tmpTestWrite r => reqOk r
  | .tmpTestEnd _ => true
  | .facOpenRequest => true
  | .facSignature r x => decide (r < 2 ^ 256 ∧ x < 2 ^ 256)
  | .facChallengeExpiry => true
  | .facLockoutEnd => true
  | .facIdleClose => true
  | .logArchiveWrite r => reqOk r
  | .evidenceAppend => true
  | .l1Evaluate freqs ts canary => freqs.all u64Ok && ts.all s64Ok && u64Ok canary
  | .l2Evaluate _ stretched edges => u64Ok stretched && u64Ok edges
  | .vmonBandCross _ _ _ mv => u16Ok mv
  | .loopInputLost _ monitor => fits 8 monitor
  | .loopInputReturn _ monitor => fits 8 monitor
  | .scrubPassEnd _ rows programmed corrected => rows.all u64Ok && programmed.all u64Ok && u64Ok corrected
  | .seedRepair _ => true
  | .fieldRepairStore => true
  | .eccUncorrectable obj row _ victim op => eccOk obj && u32Ok row && victim.all reqOk && u8Ok op
  | .blockRetire _ block => u64Ok block
  | .twinHelloSend => true
  | .twinHello f h => bondOk f && helloOk h
  | .twinHeartbeatSend => true
  | .twinHeartbeat f state word echo count _ => bondOk f && fits 8 state && fits 8 word && fits 8 echo && fits 16 count
  | .twinHeartbeatMiss => true
  | .twinSyncSend => true
  | .twinSync f t1 t2 t3 t4 leadState leadUnc leadSigma _ => bondOk f && s64Ok t1 && s64Ok t2 && s64Ok t3 && s64Ok t4 && fits 8 leadState && fits 32 leadUnc && fits 32 leadSigma
  | .twinDigestCompute => true
  | .twinDigest f instant digest => bondOk f && stOk instant && digestOk digest
  | .twinRecord f stamp source kind flags detail => bondOk f && stOk stamp && fits 16 source && fits 8 kind && fits 8 flags && u64Ok detail
  | .twinCommit f items shape _ => bondOk f && itemsOk items && stOk shape
  | .twinStep f delta at_ _ _ => bondOk f && s64Ok delta && stOk at_
  | .twinValues f items => bondOk f && itemsOk items
  | .twinResolveWrite r => reqOk r
  | .wakeNLow => true
  | .wakeNHigh => true
  | .bkStateLoss => true
  | .bkCopyReload _ held voted => u64Ok held && voted.all u64Ok
  | .converterVinLowStop vin vsys => u16Ok vin && u16Ok vsys
  | .fltNLineReleased => true
  | .bankSupplyChange _ _ => true
  | .ptpAnnounceReceived f _ parent utc => ethOk f && fits 80 parent && utc.all s64Ok
  | .announceReceiptTimeout => true
  | .ptpAnnounceSend => true
  | .ptpDelayReqReceived f requester => ethOk f && fits 80 requester
  | .canSegmentReceived _ dir node cid tag reserved _ _ index total len => fits 1 dir && fits 7 node && cidOk cid && fits 4 tag && fits 4 reserved && fits 6 index && fits 16 total && fits 7 len
  | .canFrameTransmitted => true
  | .neighbourDiscoveryFrame f _ target source mac => ethOk f && fits 128 target && fits 128 source && fits 48 mac
  | .ppsOutPulseEnd => true
  | .episodeCounted => true
  | .keyTableRebuilt => true

end Sys2Proof
end

