-- ==== Sys2Proof/Tests/Slice0.lean ====
section
/-! SUPPORT. The model's own tests: an ill-formed term for each check of WellFormed; small steps whose results the spec's text
gives; and for every statement states and operands that meet its hypotheses together, clause by clause. -/
namespace Sys2Proof.Tests
set_option Elab.async false
open Sys2Proof.Machine Host

/-! ### Helpers -/

/-- A device in full service after 1,024 s, every island in RUN, HID 0 with a key, no client but CID 0, a holder admin of HID 0. -/
def live : State :=
  { State.reset with
    dict := [(0x120002, 15), (0x12001D, 0xFF), (0x1F8001, 0x66), (0x1F8002, 0x66), (0x1F8003, 0x66), (0x1F8004, 0x66),
      (0x1F8005, 0x66), (0x1F8006, 0x66), (0x1F8007, 0x66), (0x1F8008, 0x66), (0x500040, 1), (0x500041, 1)]
    clk := ⟨1024 * 2 ^ 28, true, 1024 * 2 ^ 15, 0⟩
    boot := { State.reset.boot with
      vsys := true, vdd5 := true, vcore := true, vaux := true, vddioA := true, vddioB := true, rstoA := false, rstoB := false
      portReady := true, firmware := true, straps := true, chosen := true, hintOut := true }
    bk := { State.reset.bk with copies := [1024 * 2 ^ 15, 1024 * 2 ^ 15, 1024 * 2 ^ 15], vbk := 3000, lost := false }
    osc := { State.reset.osc with pllLocked := true }
    key := { State.reset.key with fresh := [0] } }

/-- A device with the registers listed at other values. -/
def els (s : State) (l : List (Nat × Nat)) : State := { s with dict := l ++ s.dict }

/-- A device with an island's state register at another code. -/
def isl (s : State) (i : Island) (c : Nat) : State := els s [(Reg.ISL_STATE (islNum i), c)]

/-- A request of CID 0 by the host port, but for its tag. -/
def ask0 (body : Bytes) : Req :=
  { port := .host, src := 0, udp := 0, eth := ⟨0, true, 0, false, 0, 0, true, 0, 0⟩, sound := true, version := 1, cidField := 0
    reqNo := 7, bodyLen := body.length, flags := 0, tail := 0, body := body, tr := ⟨1024 * 2 ^ 28, 1, 1, 0, 0, []⟩ }

/-- A WRITE of n bytes. -/
def wr (a n v : Nat) : Req := ask0 (numToBytes 3 a ++ numToBytes 1 n ++ numToBytes n v)

/-- A request with the tag that the device's table of keys gives it (R516, R518). -/
def tagged (s : State) (r : Req) (op : Nat) (ring : Bool) : Req :=
  { r with tr := { r.tr with tag := cmac (s.tableKey r.cid 0) (r.covered op ring) } }

/-- Whatever the ciphers are, that tag verifies. -/
theorem tagged_ok (s : State) (r : Req) (op : Nat) (ring : Bool) : s.tagOk (tagged s r op ring) op ring = true := by
  show (_ == _) = true
  exact beq_self_eq_true _

/-- The tagged request is admitted, and what comes of it meets p. -/
def goes (s : State) (r : Req) (op : Nat) (cls : Cls) (fast boot : Bool) (p : State → Who → Bool) : Bool :=
  match s.acceptWith (tagged s r op false) op cls fast false boot true with
  | .go t w => p t w
  | _ => false

/-- What `goes` says of a request's admission. -/
theorem goes_accept {s : State} {r : Req} {op : Nat} {cls : Cls} {fast boot : Bool} {p : State → Who → Bool}
    (h : goes s r op cls fast boot p = true) :
    ∃ t w, s.accept (tagged s r op false) op cls fast false boot = .go t w ∧ p t w = true := by
  unfold goes at h
  unfold State.accept
  rw [tagged_ok]
  split at h
  · exact ⟨_, _, by assumption, h⟩
  · cases h

/-- LetThrough of Safety, with what comes of it. -/
def lets (s : State) (r : Req) (boot : Bool) (p : State → Who → Bool) : Bool :=
  goes s r 2 .q false boot (fun t w => t.writeChecks (tagged s r 2 false) w == none && t.crossing (homeOf r.addr) (chanTo (homeOf r.addr)) == .serve &&
    (!signs r.addr || t.crossing .sc 9 == .serve) && !t.exch.muted && p t w)

/-- What `lets` says is LetThrough. -/
theorem lets_through {s : State} {r : Req} {boot : Bool} {p : State → Who → Bool} (h : lets s r boot p = true) :
    ∃ t w, LetThrough s (tagged s r 2 false) boot t w ∧ p t w = true := by
  obtain ⟨t, w, ha, hp⟩ := goes_accept h
  simp only [Bool.and_eq_true, Bool.or_eq_true, Bool.not_eq_true', beq_iff_eq] at hp
  refine ⟨t, w, ⟨ha, hp.1.1.1.1, hp.1.1.1.2, fun hs => ?_, hp.1.2⟩, hp.2⟩
  rcases hp.1.1.2 with h | h
  · rw [show signs r.addr = true from hs] at h; cases h
  · exact h

/-- Admitted of Safety, with what comes of it. -/
def adm (s : State) (r : Req) (op : Nat) (p : State → Who → Bool) : Bool :=
  goes s r op .q false false (fun t w => t.full && !t.exch.muted && p t w)

/-- What `adm` says is Admitted. -/
theorem adm_admitted {s : State} {r : Req} {op : Nat} {p : State → Who → Bool} (h : adm s r op p = true) :
    ∃ t w, Admitted s (tagged s r op false) op t w ∧ p t w = true := by
  obtain ⟨t, w, ha, hp⟩ := goes_accept h
  simp only [Bool.and_eq_true, Bool.not_eq_true'] at hp
  exact ⟨t, w, ⟨ha, hp.1.1, hp.1.2⟩, hp.2⟩

/-! ### The block: witnesses -/

theorem wit_StepTakesFront : ({ live with pending := [.echo (ask0 []), .hostStatus 8] } : State).pending =
    [.echo (ask0 []), .hostStatus 8] := by decide +kernel

theorem wit_IdleStepTicks : live.pending = [] ∧ live.isl.held = [] ∧ live.ticks = true ∧
    ({ live with bk := { live.bk with lost := true } } : State).ticks = false ∧
    live.bk.copies = [live.clk.v, live.clk.v, live.clk.v] ∧ live.el Reg.BK_VOTE % 8 = 0 ∧ live.clk.v ≤ stMax / 8192 ∧
    live.clk.loaded = true ∧ live.corrLeft = 0 ∧ live.slewLeft = 0 ∧ live.osc.phaseRun = 0 ∧
    ((live.bk.acc : Int) + live.bk.comp = 0 ∧
      (State.bk { live with bk := { live.bk with comp := -1 } }).acc + (-1 : Int) < 0 ∧
      2 ^ 30 ≤ ((State.bk { live with bk := { live.bk with acc := 2 ^ 30 - 1, comp := 1 } }).acc : Int) + 1) ∧
    (((live.clk.st + 8192) * 2 ^ 38 + live.clk.sub : Nat) + live.elS 4 Reg.COMP_WORD * 2 ^ 11 < stMax * 2 ^ 38) := by
  decide +kernel

theorem wit_RegisterStore : dictWf live.dict = true ∧ dictWf [(0x120002, 15), (0x130001, 1)] = true := by decide +kernel

/-- The premise of StepKeepsInv holds of a state, and a step from it answers: the premise shuts nothing out. -/
def plain : State := { State.reset with dict := [(0x120002, 15), (0x130001, 1)] }

theorem wit_StepKeepsInv : plain.Inv ∧ ∃ t, step plain = .next t := by
  refine ⟨⟨?_, fun c => Nat.zero_le _, ?_, ?_, ?_, ?_, ?_, ?_, ?_, rfl, rfl, rfl, ?_, ?_⟩, _, rfl⟩ <;> decide +kernel

/-! ### Chapters 02 to 04: witnesses -/

/-- A request that the device holds for an island, on a channel. -/
def heldFor (i : Island) (ch : Nat) : State := { live with isl := { live.isl with held := [⟨some i, ch, none, 0, none⟩] } }

theorem wit_HandshakeChannels : live.chan 0 = .idle ∧ live.chan 19 = .idle ∧ live.victim 0 = none ∧ live.victim 19 = none ∧
    (live.setChan 19 .orphan).chan 19 = .orphan ∧ live.isl.held = [] ∧ live.isl_ (chanEnds 19).2 ≠ islUnpowered ∧
    (isl live .pw islUnpowered).isl_ (chanEnds 6).2 = islUnpowered := by decide +kernel

theorem wit_LostRequests : ((heldFor .pw 6).chan 6 = .idle ∧ (heldFor .pw 6).victim 6 = some ⟨some .pw, 6, none, 0, none⟩) ∧
    goes live (wr Reg.RSTO_EXT 2 5) 2 (classOf 2) false false (fun _ _ => true) ∧
    goes live (ask0 []) 6 (classOf 6) false false (fun _ _ => true) ∧
    (live.runs .cr = true ∧ live.boot.firmware = true ∧ live.crossing .nv 11 = .serve) ∧
    (isl live .nv islUnpowered).crossing .nv 11 = .shut 2 ∧ (live.setChan 11 .stuck).crossing .nv 11 = .shut 3 ∧
    ({ live with log := { live.log with waiting := [⟨0, 0, 1, 0, 0, [[]], .nothing⟩] } } : State).log.waiting ≠ [] ∧
    ([(2, wr Reg.RSTO_EXT 2 5, 2)] : List (Nat × Req × Nat)).find? (fun x => x.1 == 2) = some (2, wr Reg.RSTO_EXT 2 5, 2) ∧
    ([(0x0D, wr Reg.RSTO_EXT 2 5, 1)] : List (Nat × Req × Nat)).find? (fun x => x.1 == 0x0D) =
      some (0x0D, wr Reg.RSTO_EXT 2 5, 1) := by decide +kernel

/-- An island whose wrapper found a fault: UNPOWERED, its state lost. -/
def lost (i : Island) (req : Nat) : State :=
  { isl (els live [(Reg.ISL_REQ (islNum i), req)]) i islUnpowered with isl := { live.isl with lostState := [i], faulted := [i] } }

/-- An island in DRAINING, with a queue of held requests. -/
def draining (i : Island) (held : List Held) : State :=
  { isl live i islDraining with isl := { live.isl with drains := [(i, .gate)], held := held } }

/-- FB sleeps until an instant that it loaded into the wake comparator. -/
def asleep : State := { isl live .fb islGated with isl := { live.isl with comparator := some (1030 * 2 ^ 28) } }

theorem wit_IslandStates :
    (live.mainPower = true ∧ soundCodes 0x66 0x98 = false ∧ soundCodes 0x66 0x99 = true ∧ soundCodes 0x00 0xFF = false) ∧
    (hasReset .pw = true ∧ hasReset .cr = true ∧ hasReset .bk = false) ∧
    (∀ i ∈ [Island.pw, .cr], (lost i 0).isl_ i = islUnpowered ∧ i ∈ (lost i 0).isl.faulted ∧ (lost i 0).boot.vcore = true) ∧
    (∀ p ∈ [(Island.pw, 6), (Island.cr, 14)], (isl live p.1 islGated).isl_ p.1 = islGated ∧ onDemand p.1 = true ∧
      (chanEnds p.2).2 = p.1) ∧
    (asleep.mainPower = true ∧ asleep.isl_ .fb = islGated ∧ asleep.isl.comparator = some (1030 * 2 ^ 28) ∧
      asleep.chan 2 ≠ .stuck ∧ (asleep.reach ((1030 * 2 ^ 28 / stSecond - 1) * stSecond)).chan 2 ≠ .stuck) := by decide +kernel

theorem wit_IslandsRun :
    (∀ i ∈ [Island.ao, .fb, .cr, .sc, .nw, .pw, .nv], (isl live i islStarting).isl_ i = islStarting) ∧
    (live.boot.vcore = true ∧ live.boot.rstLow = false) ∧
    ((isl live .cr islStarting).boot.firmware = true ∧ (isl live .cr islStarting).runs .fb = true) ∧
    ((isl live .nw islStarting).anyPort = true ∧ live.boot.firmware = true) ∧
    (∀ i ∈ [Island.nv, .sc, .pw], (live.mayIdle i = true ∨ i ≠ .nv) ∧ live.isl_ i = islRun) ∧
    ((els live [(Reg.PORT_EN, 0)]).mayIdle .cr = true ∧ live.mayIdle .fb = true) := by decide +kernel

theorem wit_IslandsStop :
    ((draining .pw []).isl_ .pw = islDraining ∧ ((draining .pw []).serveQueue .pw).drained .pw = true) ∧
    (((draining .sc [⟨some .sc, 9, none, 0, none⟩]).setChan 9 .stuck).isl_ .sc = islDraining) ∧
    ((draining .sc []).isl.drains = [(Island.sc, .gate)] ∧ (draining .sc []).acts .sc = false ∧
      ((draining .sc []).leaveRequests .sc).isl.drains = [(Island.sc, .gate)] ∧
      ((draining .sc []).leaveRequests .sc).acts .sc = false) ∧
    (hasReset .pw = true ∧ live.isl_ .pw ≠ islUnpowered ∧
      (((live.cutOff .pw).loseIsland .pw).setIsl .pw islUnpowered).isl.acting.find? (fun x => x.1 == Island.pw) = none) ∧
    (let s : State := { live with isl := { live.isl with acting := [(.pw, 2)] } }
     s.isl_ .pw ≠ islUnpowered ∧
      (((s.cutOff .pw).loseIsland .pw).setIsl .pw islUnpowered).isl.acting.find? (fun x => x.1 == Island.pw) =
        some (Island.pw, 2)) := by decide +kernel

/-- A WRITE of one byte to an ISL_REQ. -/
def reqIsl (i : Island) (v : Nat) : Req := wr (Reg.ISL_REQ (islNum i)) 1 v

/-- PW's request register at a value; its request acts or not. -/
def asked (v : Nat) (acts : Bool) : State :=
  { els live [(Reg.ISL_REQ 6, v)] with isl := { live.isl with acting := if acts then [(.pw, v)] else [] } }

/-- A hold of the keeper on PW. -/
def held : State := { live with isl := { live.isl with holds := [(.pw, 1030 * 2 ^ 28, false)] } }

theorem wit_IslandRequests :
    lets live (reqIsl .pw 1) false (fun _ _ => islOfReq (reqIsl .pw 1).addr == some .pw && (reqIsl .pw 1).value == [1]) ∧
    lets live (reqIsl .pw 2) false (fun _ _ => (reqIsl .pw 2).value == [2]) ∧
    lets live (reqIsl .pw 0) false (fun _ _ => (reqIsl .pw 0).value == [0]) ∧
    ((asked 1 true).acts .pw = true ∧ (asked 1 true).islConflict .pw = false ∧ (asked 1 true).el (Reg.ISL_REQ 6) = 1 ∧
      (asked 2 true).el (Reg.ISL_REQ 6) ≠ 1) ∧
    ((asked 1 false).acts .pw = false ∧ (asked 1 false).el (Reg.ISL_REQ 6) ≠ 0 ∧ (asked 1 false).isHeld .pw = false) ∧
    (live.islConflict .pw = false ∧ live.el (Reg.ISL_REQ 6) = 0 ∧ held.isHeld .pw = true ∧ live.isHeld .pw = false) ∧
    ((isl live .pw islUnpowered).isl_ .pw = islUnpowered ∧ Island.pw ∉ live.isl.faulted ∧ Island.pw ∈ (lost .pw 0).isl.faulted ∧
      (isl live .pw islUnpowered).islConflict .pw = false) ∧
    (els live [(Reg.HTR_DUTY, 1)]).islConflict .pw = true := by decide +kernel

theorem wit_IslandRequestsAct : live.islConflict .pw = false ∧ live.isl_ .pw = islRun ∧
    (live.islConflict .fb = false ∧ live.isl_ .fb = islRun ∧ live.crossing .ao 3 = .serve ∧
      (live.setChan 3 .stuck).crossing .ao 3 ≠ .serve ∧ (live.setChan 3 .stuck).islConflict .fb = false) ∧
    ((isl live .pw islGated).isl_ .pw = islGated ∧ (isl live .pw islGated).islConflict .pw = false) ∧
    ((isl live .pw islStarting).isl_ .pw = islStarting ∧ (draining .pw []).isl_ .pw = islDraining) ∧
    (live.runs .cr = true ∧ live.boot.firmware = true ∧ live.el (Reg.ISL_REQ 6) = 0 ∧ 0 < 10000 ∧ 10000 ≤ 10000) ∧
    held.isHeld .pw = true ∧ held.isl.holds.find? (fun h => h.1 == .pw) = some (Island.pw, 1030 * 2 ^ 28, false) := by
  decide +kernel

/-- The device that has not sampled its straps since the latest full reset. -/
def unstrapped (a : Bool) : State := { live with boot := { live.boot with straps := false, vddioA := a } }

theorem wit_SuppliesComeUp : (State.reset.boot.vsys = false ∧ State.reset.bk.lost = false) ∧
    ({ State.reset with bk := { State.reset.bk with lost := true } } : State).bk.lost = true ∧
    (let s : State := { State.reset with boot := { State.reset.boot with vsys := true } }
     s.boot.vsys = true ∧ s.boot.vdd5 = false) ∧
    (let s : State := { State.reset with boot := { State.reset.boot with vdd5 := true } }
     s.boot.vdd5 = true ∧ s.boot.vcore = false) ∧
    ((unstrapped true).boot.straps = false ∧ (unstrapped true).mainPower = true) ∧ live.boot.straps = true ∧
    ((unstrapped false).boot.vcore = true ∧ (unstrapped false).boot.vddioA = false) := by decide +kernel

/-- An image whose header every check passes. -/
def image : Image :=
  { layout := true, len := 782336, version := 3, security := 1, stepLo := 0, stepHi := 255, features := 0, capability := 1
    twinMin := 0, schema := 1, migrates := 1 }

/-- CR runs its boot ROM and has tried n slots; slot A holds an image that is confirmed. -/
def rom (n : Nat) : State :=
  { els live [(Reg.BOOT_SLOT, 1), (Reg.FW_SLOT_INFO 0, 4 * 2 ^ 184), (Reg.FW_FLOOR, 1)] with
    boot := { live.boot with firmware := false, chosen := false, tries := n }
    fw := { live.fw with slotA := ⟨some image, []⟩, setA := ⟨1, [], [], []⟩ } }

theorem wit_BootSlots : ((rom 0).runs .cr = true ∧ (rom 0).boot.firmware = false ∧ (rom 0).boot.chosen = false) ∧
    ((rom 1).hdrOf 1 = none ∧ (rom 1).boot.tries ≠ 0 ∧ (rom 0).boot.tries = 0 ∧ (rom 0).el Reg.BOOT_PREF ≠ 2) ∧
    ((rom 0).hdrOf 0 = some image ∧ (rom 0).slotState 0 = slConfirmed ∧ 0 ∉ (rom 0).rep.badSlots ∧ image.sound = true ∧
      (rom 0).el Reg.FW_FLOOR ≤ image.security) := by decide +kernel

/-- CR has chosen slot A, its firmware not yet started; the ring of the twin link, the arbiter's pool and the plan as they are. -/
def chosen : State :=
  { rom 0 with
    boot := { (rom 0).boot with chosen := true }
    tmr := { live.tmr with loaded := false }
    arb := { live.arb with standing := [⟨33, 1, false, true, 0, 0⟩] } }

def startA (s : State) : State := (((State.put { s with boot := { s.boot with firmware := true, cause := 0 } }
  Reg.RESET_CAUSE s.boot.cause).put Reg.BOOT_ST s.now).put Reg.BOOT_LOST s.boot.lost).startImage
def startB (s : State) : State := (((((startA s).afterCollapse s.boot.cause none).loadSettings).startEntry s.boot.cause).tamperStart).keysBack
def startC (s : State) : State := ((startB s).takeI2c.loadPw.closeHours).measureBanks []

/-- The same with NW not yet in RUN, nor starting. -/
def chosenN : State := isl (els chosen [(Reg.PORT_EN, 4)]) .nw islGated

theorem wit_FirmwareStarts : (chosenN.runs .cr = true ∧ chosenN.boot.firmware = false ∧ chosenN.boot.chosen = true) ∧
    (bitOf ((startB chosenN).el Reg.PORT_EN) 2 = true ∧ (startB chosenN).runs .nw = false) ∧
    ((startC chosenN).full = true ∧ (startC chosenN).runs .fb = true ∧ (startC chosenN).tmr.loaded = false) ∧
    ((startC chosenN).planLoad.isl_ .nw ≠ islUnpowered ∧ (startC chosenN).planLoad.arb.standing ≠ []) := by decide +kernel

theorem wit_Resets : (live.mainPower = true ∧ live.boot.rstLow = false ∧ live.boot.vcore = true ∧
      live.boot.firmware = true ∧ live.runs .cr = true ∧ live.boot.draining = none) ∧
    (let s : State := { live with boot := { live.boot with rstLow := true } }
     s.mainPower = true ∧ s.boot.rstLow = true ∧ s.boot.rstWide = false ∧ s.boot.draining = none) ∧
    ({ live with boot := { live.boot with rstLow := true, draining := some (.main, 5) } } : State).boot.draining =
      some (.main, 5) ∧
    lets live (wr Reg.DEV_RESET 1 1) false (fun t _ => t.boot.pendingReset == none && t.isl.holds == [] &&
      (wr Reg.DEV_RESET 1 1).addr == Reg.DEV_RESET && (wr Reg.DEV_RESET 1 1).value == [1]) ∧
    lets held (wr Reg.DEV_RESET 1 2) false (fun t _ => t.boot.pendingReset == none && t.isl.holds != [] &&
      (wr Reg.DEV_RESET 1 2).value == [2]) ∧
    lets { live with boot := { live.boot with pendingReset := some .main } } (wr Reg.DEV_RESET 1 2) false (fun t _ =>
      t.boot.pendingReset == some .main) ∧
    lets live (wr Reg.DEV_RESET 1 3) false (fun _ _ => (wr Reg.DEV_RESET 1 3).value == [3]) := by decide +kernel

/-- Only BK and AO run: nothing has to drain. -/
def mainDown : State := els live ((List.range 6).map (fun i => (Reg.ISL_STATE (i + 2), 0x0F)))

theorem wit_ResetScopes :
    (∀ sc ∈ [Scope.main, .full], ({ live with boot := { live.boot with pendingReset := some sc } } : State).boot.pendingReset =
      some sc ∧ live.isl.holds = [] ∧ held.isl.holds ≠ []) ∧
    ((mainIslands.filter (fun i => live.runs i || live.isl_ i == islDraining)) ≠ [] ∧
      (mainIslands.filter (fun i => mainDown.runs i || mainDown.isl_ i == islDraining)) = []) ∧
    (∀ l ∈ [[(Island.sc, DrainTo.scope)], [(Island.sc, .scope), (.pw, .scope)]],
      let s : State := { isl live .sc islDraining with
        isl := { live.isl with drains := l }, boot := { live.boot with draining := some (.main, 5) } }
      s.isl.drains.find? (fun p => p.1 == Island.sc) = some (Island.sc, .scope) ∧
        (s.leaveRequests .sc).boot.draining = some (.main, 5) ∧ (s.leaveRequests .sc).isl.drains = l) ∧
    (live.boot.firmware = true ∧ live.boot.portReady = true ∧ live.mainPower = true) ∧
    (let s : State := { live with clk := { live.clk with loaded := false } }
     s.runs .fb = true ∧ s.clk.loaded = false ∧ s.osc.pllLocked = true) := by decide +kernel

/-- The backup node is fed from VBK, every main island down. -/
def onVbk : State := els mainDown [(Reg.BK_SUPPLY, 1), (Reg.ISL_STATE 1, 0x0F)]

theorem wit_Switchover : (live.onVbk = false ∧ live.runs .bk = true) ∧
    (onVbk.onVbk = true ∧ onVbk.boot.vsys = true ∧ onVbk.boot.vdd5 = true ∧ onVbk.bk.lost = false ∧ onVbk.runs .bk = true) ∧
    ({ onVbk with boot := { onVbk.boot with vsys := false } } : State).boot.vsys = false ∧
    (onVbk.el Reg.SWO_LAST + stSecond ≤ onVbk.clk.v * 8192 ∧
      onVbk.clk.v * 8192 < (els onVbk [(Reg.SWO_LAST, 1024 * 2 ^ 28)]).el Reg.SWO_LAST + stSecond) ∧
    (onVbk.bk.voteDeferred = false ∧ ({ onVbk with bk := { onVbk.bk with voteDeferred := true } } : State).bk.voteDeferred = true) ∧
    ({ onVbk with bk := { onVbk.bk with lost := true } } : State).bk.lost = true := by decide +kernel

/-- A ring entry with sequence 9. -/
def ringE (logged : Bool) : RingEntry := ⟨logged, false, true, 0, 5, 9, 0, 0⟩

theorem wit_BackupDomain : (live.runs .bk = true ∧ live.bk.vbkLow = 2000 ∧ 1999 < 2000 ∧ 2000 ≤ 2100 ∧ 2100 < 2101) ∧
    (let m := live.el Reg.TRICKLE_MV
     m ≤ m ∧ m - 1 < m ∧ m < m - 49 + 50 ∧ m - 50 + 50 ≤ m) ∧
    (live.copyLive 2 = true ∧ live.bk.misses.getD 2 0 < 15 ∧ live.bk.misses.length = 3 ∧ live.el Reg.BK_VOTE % 8 = 0 ∧
      5 % 2 ^ 51 ≠ live.clk.v ∧ live.clk.v + 1 < stMax / 8192) ∧
    (15 ≤ ({ live with bk := { live.bk with misses := [0, 0, 15] } } : State).bk.misses.getD 2 0) ∧
    (live.votedOut = false ∧ (els live [(Reg.BK_VOTE, 6)]).votedOut = true ∧
      (els onVbk [(Reg.BK_VOTE, 6)]).votedOut = true ∧ (els onVbk [(Reg.BK_VOTE, 6)]).onVbk = true ∧ live.onVbk = false) ∧
    ((ringE true).seq = (9 : Fin 256).val ∧ (ringE true).logged = true ∧ (ringE false).logged = false ∧
      ({ live with bk := { live.bk with ring := [ringE true] } } : State).bk.ring = [ringE true]) := by decide +kernel

/-! ### Chapters 05 and 06: witnesses -/

/-- BK counts the crystal. -/
def x32 : State := els live [(Reg.X32_STATE, 1)]

theorem wit_DriveStep : (live.runs .bk = true ∧ live.loopHolds 3 = false ∧
      ({ live with bk := { live.bk with s4 := false } } : State).bk.s4 = false) ∧
    (live.el Reg.X32_DRIVE ≤ live.bk.driveMax ∧ live.bk.driveMax ≤ 15) ∧ (179 < 180 ∧ 180 ≤ 350 ∧ 350 < 351) ∧
    live.bk.highSwing + 1 < 64 ∧ 64 ≤ ({ live with bk := { live.bk with highSwing := 63 } } : State).bk.highSwing + 1 := by
  decide +kernel

theorem wit_PpsOut : ((els live [(Reg.PPS_MODE, 1)]).el Reg.PPS_MODE = 1 ∧ live.runs .fb = true) ∧
    ((els live [(Reg.PPS_MODE, 2)]).el Reg.PPS_MODE = 2 ∧ live.mainPower = true ∧ (live.now / stSecond + 1) * stSecond ≤ stMax) ∧
    ((els live [(Reg.PPS_GATE, 0)]).ppsGate = true ∧ (els live [(Reg.PPS_GATE, 1)]).ppsGate = false) ∧
    ((els live [(Reg.PPS_GATE, 1)]).reach ((live.now / stSecond + 1) * stSecond)).ppsGate = false ∧
    (els live [(Reg.PPS_GATE, 2), (Reg.PPS_UNC_MAX, 1000), (Reg.HOLD_UNC, 1)]).ppsGate = true ∧
    (els live [(Reg.PPS_GATE, 2), (Reg.PPS_UNC_MAX, 999), (Reg.HOLD_UNC, 1)]).ppsGate = false ∧
    ({ live with osc := { live.osc with ppsUntil := some (2 ^ 40) } } : State).osc.ppsUntil = some (2 ^ 40) := by decide +kernel

theorem wit_Crystal : (live.runs .bk = true ∧ live.el Reg.X32_STATE ≠ 1 ∧ live.el Reg.X32_STATE = 0) ∧
    (65536 ≤ 65536 ∧ 4 ≤ 4 ∧ 50 * 65536 ≤ 51 * 64251 ∧ 49 * 66873 ≤ 50 * 65536) ∧
    (65535 < 65536 ∧ 4 < 5 ∧ 51 * 64250 < 50 * 65536 ∧ 50 * 65536 < 49 * 66874) ∧
    (live.osc.ageWaits = true ∧ ({ live with osc := { live.osc with ageWaits := false } } : State).osc.ageWaits = false) ∧
    ({ live with bk := { live.bk with qualified := true } } : State).bk.qualified = true ∧
    (x32.runs .bk = true ∧ x32.el Reg.X32_STATE = 1) := by decide +kernel

theorem wit_ClocksMeasured : (x32.runs .fb = true ∧ x32.onCrystal = true) ∧
    ({ x32 with osc := { x32.osc with lfrcRun := true } } : State).osc.lfrcRun = true ∧
    (lfrcFit [(100, 2000), (90, 2500), (95, 3000)]).isSome = true ∧ (lfrcFit [(100, 2000)]).isSome = true ∧
    (live.runs .nw = true ∧ 50000 < (50001 : Int).natAbs ∧ (live.elS 4 Reg.XH_PPB).natAbs ≤ 50000) ∧
    (50000 : Int).natAbs ≤ 50000 ∧ (x32.clk.loaded = true ∧ live.clk.loaded = true) := by decide +kernel

/-- The outages' correction opens no episode, nor does the bound's growth: with none open there is none at the load. -/
theorem wit_CorrectionEpisode (x : State) (t : Int) : (x.outageCorrection t).osc.epStart = x.osc.epStart := by
  simp only [State.outageCorrection, State.setCorr, State.putS, State.put_osc]

theorem wit_GrowthEpisode (x : State) (y : Rat) : (x.growHold y).osc.epStart = x.osc.epStart := by
  unfold State.growHold
  generalize (y / 2 ^ 28).ceil.toNat = n
  split
  · unfold State.showHold
    split
    · rw [State.put_osc]
    · rfl
  · rfl

theorem wit_CompensationEpisode (x : State) (y : Rat) (t : Int) :
    ((x.growHold y).outageCorrection t).osc.epStart = x.osc.epStart ∧ live.osc.epStart = none ∧
    (live.readTs [2500]).osc.epStart = none :=
  ⟨(wit_CorrectionEpisode _ t).trans (wit_GrowthEpisode x y), rfl, by decide +kernel⟩

/-- Every load is of one of the two kinds that the statement tells apart. -/
theorem wit_CompensationBound (n : Nat) : n ≤ 2 ^ 20 ∨ 2 ^ 20 < n := by omega

theorem wit_Compensation :
    (let s : State := { live with osc := { live.osc with lastLoadT := some 2500 } }
     s.osc.lastLoadT = some 2500 ∧ s.mainPower = true ∧
      s.el Reg.COMP_DT < (2500 + (s.el Reg.COMP_DT : Int) + 1 + s.elS 2 Reg.XTAL_T_OFS - 2500).natAbs ∧
      (2500 + (s.el Reg.COMP_DT : Int) + s.elS 2 Reg.XTAL_T_OFS - 2500).natAbs ≤ s.el Reg.COMP_DT) := by decide +kernel

/-- A reference is selected, with the inputs it senses. -/
def refSel (n : Nat) : State := els live [(Reg.REF_SEL, n)]
/-- PTP in SLAVE over a link that is up. -/
def slave : State := els live [(Reg.T1L_LINK, 3 * 2 ^ 24), (Reg.PTP_ROLE, 2), (Reg.PTP_STATE, ptpSlave)]

theorem wit_ReferenceInputs : 24 ∈ (refSel 1).refInputs ∧ 24 ∈ (refSel 4).refInputs ∧ 23 ∈ (refSel 3).refInputs ∧
    (refSel 1).runs .fb = true ∧
    (let t := (State.reach { refSel 4 with osc := { live.osc with label := some (1025 * 2 ^ 28), pulses := [1024 * 2 ^ 28] } } (1025 * 2 ^ 28)).inc 4
       Reg.PPS_COUNT
     t.el Reg.REF_SEL = 4 ∧ t.osc.label = some (1025 * 2 ^ 28) ∧ t.intervalGood (t.ppsStamp (1025 * 2 ^ 28)) = true) ∧
    (let t := (State.reach { refSel 4 with osc := { live.osc with label := some 5, pulses := [1025 * 2 ^ 28 - 5] } } (1025 * 2 ^ 28)).inc 4
       Reg.PPS_COUNT
     t.osc.label = some 5 ∧ t.intervalGood (t.ppsStamp (1025 * 2 ^ 28)) = false) ∧
    (let t := (State.reach { refSel 4 with osc := { live.osc with techLast := some 7 } } (1025 * 2 ^ 28)).inc 4 Reg.PPS_COUNT
     t.el Reg.REF_SEL = 4 ∧ t.osc.label = none ∧ t.osc.techLast = some 7) ∧
    (let t := ((refSel 1).reach (1025 * 2 ^ 28)).inc 4 Reg.PPS_COUNT
     t.el Reg.REF_SEL = 1 ∧ t.osc.heldLabel = none) ∧
    (els (refSel 3) [(Reg.REF_ACTIVE, 0xFF)]).el Reg.REF_ACTIVE = 0xFF ∧
    (slave.runs .fb = true ∧ slave.chan 15 = .idle ∧ slave.ptpServed = true ∧ slave.el Reg.PTP_STATE = ptpSlave) := by
  decide +kernel

theorem wit_Labels :
    (State.reach { refSel 3 with evt := { live.evt with refAwake := true } } (1025 * 2 ^ 28)).labelTime 0 5 ≠ none ∧
    ((refSel 3).reach (1025 * 2 ^ 28)).labelTime 5 60 = none ∧ (refSel 3).el Reg.REF_SEL = 3 := by decide +kernel

theorem wit_ReferenceStates : (els live [(Reg.REF_STATE, 2), (Reg.REF_ACTIVE, 1)]).ownLocked = true ∧
    ((els live [(Reg.REF_STATE, 1)]).el Reg.REF_STATE = 1 ∧ live.runs .fb = true ∧ live.osc.refPrev ≠ 2 ∧
      ({ live with osc := { live.osc with refPrev := 2, refPrevCls := 1 } } : State).osc.refPrev = 2 ∧ epClass 1 = true) ∧
    lets live (wr Reg.REF_LABEL 8 (2 ^ 28)) false (fun _ _ => bytesToNum (wr Reg.REF_LABEL 8 (2 ^ 28)).value % 2 ^ 28 == 0) ∧
    lets live (wr Reg.REF_LABEL 8 1) false (fun _ _ => bytesToNum (wr Reg.REF_LABEL 8 1).value % 2 ^ 28 != 0) ∧
    lets live (wr Reg.REF_ACCEPT 1 1) false (fun _ _ => bytesToNum (wr Reg.REF_ACCEPT 1 1).value == 1) ∧
    lets live (wr Reg.REF_ACCEPT 1 0) false (fun _ _ => bytesToNum (wr Reg.REF_ACCEPT 1 0).value != 1) := by decide +kernel

theorem wit_Learning : (x32.runs .fb = true ∧ x32.onCrystal = true ∧ x32.osc.obsDue = [] ∧ x32.runs .cr = true ∧
      x32.boot.firmware = true ∧ x32.crossing .nv 11 = .serve) ∧
    (∀ l ∈ [[(⟨0, 0, 0, 0, 0, 0⟩ : Obs)], [⟨0, 0, 0, 0, 0, 0⟩, ⟨1, 0, 1, 0, 0, 0⟩]],
      ({ x32 with osc := { x32.osc with obsDue := l } } : State).osc.obsDue ≠ []) ∧
    ({ x32 with osc := { x32.osc with obs := some (0, 0, 1) } } : State).osc.obs = some (0, 0, 1) ∧
    lets live (wr Reg.LEARN_RESET 1 1) false (fun _ _ => bytesToNum (wr Reg.LEARN_RESET 1 1).value == 1) ∧
    lets live (wr Reg.LEARN_RESET 1 2) false (fun _ _ => bytesToNum (wr Reg.LEARN_RESET 1 2).value != 1) ∧
    (({ x32 with osc := { x32.osc with epStart := some 5 } } : State).osc.epStart = some 5 ∧ x32.osc.epCounted = false ∧
      x32.osc.epLastStart = none) ∧ (5 < 0 + 72000 * stSecond ∧ 0 + 72000 * stSecond ≤ 72000 * stSecond) := by decide +kernel

/-- A bundle held on one resource up to an instant. -/
def bundle (cid n ord amount inst : Nat) : Bundle :=
  { cid := cid, hid := 0, num := n, slot := 0, st := .held, reason := 0, items := [(ord, amount)], fine := [], timeoutAt := 0
    dur := 60, bypass := 0, pb := 0, age := 0, reqAt := 0, grantAt := 0, coarse := false, inst := inst, resOrder := 0, resAt := 0 }

/-- The device in SET time with a lease that ends within the next two seconds. -/
def leased : State :=
  { els live [(Reg.TIME_STATE, 1)] with arb := { live.arb with bundles := [bundle 0 1 1 1 (1025 * 2 ^ 28)], known := [0] } }

/-- The 1/64 s boundary after the present. -/
def nextAt : Nat := (live.now / 2 ^ 22 + 1) * 2 ^ 22

theorem wit_StepRequests : (wr Reg.TIME_STEP 8 (2 ^ 29)).value.length = 8 ∧
    lets live (wr Reg.TIME_STEP 8 (2 ^ 29)) false (fun t _ => !t.tim.rangeEnd && !t.twinTied && !t.refLocked &&
      t.tim.step == none && !t.sealed 0 && t.unset) ∧
    lets live (wr Reg.TIME_STEP_F 8 (2 ^ 29)) false (fun _ _ => true) ∧
    lets live (wr Reg.TIME_SET 8 (2 ^ 29)) false (fun t _ => decide (((2 ^ 29 : Nat) : Int) - t.now ≠ 0)) ∧
    lets live (wr Reg.TIME_SET 8 (1024 * 2 ^ 28)) false (fun t _ => decide (((1024 * 2 ^ 28 : Nat) : Int) - t.now = 0)) ∧
    lets leased (wr Reg.TIME_STEP 8 (2 ^ 30)) false (fun t _ => !t.unset && !t.twinTied && !t.refLocked &&
      t.tim.step == none && earliest (t.blockers nextAt (2 ^ 30)) == some (1025 * 2 ^ 28)) ∧
    lets leased (wr Reg.TIME_STEP 8 (2 ^ 22)) false (fun t _ => !t.unset && (t.blockers nextAt (2 ^ 22)).isEmpty) ∧
    lets live (wr Reg.TIME_STEP 8 (2 ^ 63)) false (fun _ _ => decide ((nextAt : Int) + signed 64 (2 ^ 63) < 0)) ∧
    lets (els live [(Reg.LOG_STATE 0, 256)]) (wr Reg.TIME_STEP 8 (2 ^ 29)) false (fun t _ => t.sealed 0 && !t.refLocked) ∧
    lets { live with tim := { live.tim with step := some ⟨0, false, 2 ^ 40, 0, false, false⟩ } } (wr Reg.TIME_STEP 8 1) false
      (fun t _ => t.tim.step.isSome && !t.refLocked) ∧
    lets (els live [(Reg.REF_STATE, 2), (Reg.REF_ACTIVE, 1)]) (wr Reg.TIME_STEP 8 1) false (fun t _ => t.refLocked) ∧
    lets live (wr Reg.TIME_STEP 8 0) false (fun _ _ => (wr Reg.TIME_STEP 8 0).value == [0, 0, 0, 0, 0, 0, 0, 0]) ∧
    lets live (wr Reg.TIME_STEP_F 8 0) false (fun _ _ => true) := by decide +kernel

/-- A step that waits, of Δ at an instant. -/
def stepping (s : State) (d : Int) (at_ : Nat) (forced joint : Bool) : State :=
  { s with tim := { s.tim with step := some ⟨d, forced, at_, 0, joint, joint⟩ } }
/-- The same after what is due at its instant. -/
def atStep (s : State) : State := (s.reach nextAt).serveAt

theorem wit_StepApplies :
    ((stepping leased (2 ^ 30) nextAt false false).tim.step = some ⟨2 ^ 30, false, nextAt, 0, false, false⟩ ∧
      leased.runs .fb = true) ∧
    (let t := atStep (stepping leased (2 ^ 30) nextAt false false)
     t.unset = false ∧ earliest (t.blockers t.now (2 ^ 30)) = some (1025 * 2 ^ 28) ∧ t.sealed 0 = false) ∧
    (let t := atStep (stepping live 5 nextAt false true)
     t.unset = true ∧ t.sealed 0 = false) ∧
    (let t := atStep (stepping (els live [(Reg.LOG_STATE 0, 256)]) 5 nextAt true false)
     t.sealed 0 = true) := by decide +kernel

theorem wit_Slew : lets live (wr Reg.SLEW_ADD 8 (10 ^ 12)) false (fun t _ => !t.refLocked && !t.twin.follow &&
      decide ((t.elS 8 Reg.SLEW_REM + signed 64 (10 ^ 12)).natAbs ≤ 10 ^ 12)) ∧
    lets live (wr Reg.SLEW_ADD 8 (10 ^ 12 + 1)) false (fun t _ => !t.refLocked && !t.twin.follow &&
      decide (10 ^ 12 < (t.elS 8 Reg.SLEW_REM + signed 64 (10 ^ 12 + 1)).natAbs)) ∧
    lets (els live [(Reg.REF_STATE, 2), (Reg.REF_ACTIVE, 1)]) (wr Reg.SLEW_ADD 8 1) false (fun t _ => t.refLocked) ∧
    lets { live with twin := { live.twin with follow := true } } (wr Reg.SLEW_ADD 8 1) false (fun t _ => t.twin.follow) ∧
    (live.runs .fb = true ∧ live.el Reg.OUTAGE_CORR = 0 ∧ (els live [(Reg.OUTAGE_CORR, 1)]).el Reg.OUTAGE_CORR ≠ 0) ∧
    (live.tim.rangeEnd = false ∧ live.clk.loaded = true ∧
      (els live [(Reg.LEAP_EXPIRES, 5)]).el Reg.LEAP_EXPIRES ≤ 2 ^ 64 - 1) := by decide +kernel

/-! ### Chapters 07 and 08: witnesses -/

/-- A READ. -/
def rd (a : Nat) : Req := ask0 (numToBytes 3 a)

theorem wit_ReadAnswers : (rd Reg.DEV_UID).body.length = 3 ∧ fastRead (rd Reg.DEV_UID) [Reg.DEV_UID] = false ∧
    goes live (rd Reg.RSTO_EXT) 1 .q false (bootRead Reg.RSTO_EXT) (fun t w => (rowOf Reg.RSTO_EXT).isSome &&
      t.mayRead w Reg.RSTO_EXT && t.full && !t.exch.muted && t.crossing (homeOf Reg.RSTO_EXT) (pathTo false (homeOf Reg.RSTO_EXT)) == .serve &&
      !t.rep.lostEls.contains Reg.RSTO_EXT) ∧
    goes (isl live .pw islUnpowered) (rd (Reg.RAIL_MV 0)) 1 .q false (bootRead (Reg.RAIL_MV 0)) (fun t w => t.mayRead w (Reg.RAIL_MV 0) &&
      (rowOf (Reg.RAIL_MV 0)).any (fun e => e.home == .pw) && t.isl_ .pw == islUnpowered && t.chan (pathTo false .pw) == .idle &&
      !t.signalled .pw (pathTo false .pw)) ∧
    goes (live.setChan (pathTo false .pw) .stuck) (rd (Reg.RAIL_MV 0)) 1 .q false (bootRead (Reg.RAIL_MV 0)) (fun t w =>
      t.mayRead w (Reg.RAIL_MV 0) && t.chan (pathTo false .pw) == .stuck && !t.exch.forced) ∧
    goes (live.setParison 0 [(Reg.SLEW_PPM, 5)]) { rd Reg.SLEW_PPM with flags := 2 } 1 .q false (bootRead Reg.SLEW_PPM) (fun t w =>
      bitOf 2 1 && ((t.parison w.cid).find? (fun x => x.1 == Reg.SLEW_PPM) == some (Reg.SLEW_PPM, 5))) ∧
    fastRead (rd Reg.ST_NOW) [Reg.ST_NOW] = true := by decide +kernel

theorem wit_Refusals : live.inUse 0 = true ∧ live.inUse 5 = false ∧
    goes live (rd 0x7FFFFF) 1 .q false (bootRead 0x7FFFFF) (fun t _ => (rowOf 0x7FFFFF).isNone && !t.exch.muted) ∧
    goes (els live [(Reg.CID_BIND 0, 3)]) (rd Reg.FRESH_WIN) 1 .q false (bootRead Reg.FRESH_WIN) (fun t w =>
      (rowOf Reg.FRESH_WIN).isSome && !t.mayRead w Reg.FRESH_WIN) ∧
    (let r : Req := { rd 1 with cidField := 5 }
     let t := live.takeFrame r
     r.framed = true ∧ live.portOpen r.port = true ∧ live.exch.resumed = none ∧ r.port ≠ .t1l ∧ r.port ≠ .canFd ∧
      t.crossing .cr 14 = .serve ∧ t.crossing .sc 10 = .serve ∧ t.key.rebuilding = false ∧ t.bootstrapOk r = false ∧
      (∀ ok, t.authentic r false ok = false) ∧ fastRead r [r.addr] = false) ∧
    ({ live with exch := { live.exch with refused := [⟨replyOf (rd 1) 1 false .refused [] none, 7⟩] } } : State).exch.refused[0]? =
      some ⟨replyOf (rd 1) 1 false .refused [] none, 7⟩ := by decide +kernel

theorem wit_PlainWrites : isDirect Reg.RSTO_EXT = false ∧ isDirect Reg.SLEW_PPM = false ∧
    adm live (wr Reg.RSTO_EXT 2 5) 2 (fun t w => (rowOf Reg.RSTO_EXT).any (fun e => !e.staged && wellEncoded e.ty (numToBytes 2 5)) &&
      (wr Reg.RSTO_EXT 2 5).writeFormed && t.mayWrite w Reg.RSTO_EXT && !t.locked && rangeOk Reg.RSTO_EXT 5 && t.crossing .nv 11 == .serve &&
      !t.isReadOnly 11) ∧
    adm { live with rep := { live.rep with readOnly := [11] } } (wr Reg.RSTO_EXT 2 5) 2 (fun t _ => t.isReadOnly 11) ∧
    rangeOk Reg.RSTO_EXT 65535 = false ∧
    adm { live with tmp := { live.tmp with holds := [(4, 32, 0, 0, 0)] } } (wr Reg.RSTO_EXT 2 5) 2 (fun t _ => t.locked) ∧
    adm live (wr Reg.SLEW_PPM 2 5) 2 (fun t w => (rowOf Reg.SLEW_PPM).any (fun e => e.staged) && t.mayWrite w Reg.SLEW_PPM &&
      !t.splitFor Reg.SLEW_PPM && decide ((stageItem (t.parison 0) (Reg.SLEW_PPM, 5)).length ≤ 64)) ∧
    64 < (stageItem ((List.range 64).map (fun i => (i, 0))) (Reg.SLEW_PPM, 5)).length := by decide +kernel

/-- A SCATTER of one element of two bytes. -/
def scat (a v : Nat) : Req := ask0 ([1#8] ++ numToBytes 3 a ++ [2#8] ++ numToBytes 2 v)

theorem wit_ScatterStages : goes live (scat Reg.SLEW_PPM 5) 4 .q false false (fun t w => t.full && !t.exch.muted &&
      t.crossing .cr noChan == .serve && t.mayWrite w Reg.SLEW_PPM && (scatterBad (scat Reg.SLEW_PPM 5)).isNone &&
      !t.splitFor Reg.SLEW_PPM) ∧
    scatterNamed 1 ((scat Reg.SLEW_PPM 5).body.drop 1) = [Reg.SLEW_PPM] ∧
    (scatterItems 1 ((scat Reg.SLEW_PPM 5).body.drop 1)).map (fun x => (x.1, bytesToNum x.2)) = [(Reg.SLEW_PPM, 5)] ∧
    (scatterBad (ask0 [0#8])).any (fun st => st.code != 1) ∧
    goes live (scat Reg.DEV_UID 5) 4 .q false false (fun t w => !t.mayWrite w Reg.DEV_UID) ∧
    ([(5, 1), (7, 2)] : List (Nat × Nat)).Pairwise (fun x y => x.1 ≠ y.1) := by decide +kernel

/-- A GATHER of one element, and one that is in progress. -/
def gath (a : Nat) : Req := ask0 ([1#8] ++ numToBytes 3 a)
def gathS (a : Nat) : State :=
  { live with exch := { live.exch with gathers := [⟨gath a, 1024 * 2 ^ 28, 1024 * 2 ^ 28 + 5369⟩] } }

theorem wit_Gathers : fastRead (gath Reg.DEV_UID) (gatherAddrs (gath Reg.DEV_UID)) = false ∧ gatherBad (gath Reg.DEV_UID) = none ∧
    goes live (gath Reg.RSTO_EXT) 3 .q false ((gatherAddrs (gath Reg.RSTO_EXT)).all bootRead) (fun t _ =>
      t.crossing .fb (pathTo false .fb) == .serve) ∧
    ((gathS Reg.RSTO_EXT).exch.gathers.find? (gathS Reg.RSTO_EXT).gatherReady =
        some ⟨gath Reg.RSTO_EXT, 1024 * 2 ^ 28, 1024 * 2 ^ 28 + 5369⟩ ∧
      (gathS Reg.RSTO_EXT).flipBefore (1024 * 2 ^ 28 + 5369) = false ∧
      (gath Reg.RSTO_EXT).zeroTrailer = false ∧ bitOf (gath Reg.RSTO_EXT).flags 0 = false) ∧
    (∀ x ∈ live.gatherItems (gath Reg.RSTO_EXT) (.client 0) [], x.2.1 = Stat.ok) := by decide +kernel

/-- A SUBSCRIBE, by CAN FD, to a Watch of one element in slot 3. -/
def subs (a : Nat) : Req :=
  { ask0 ([3#8, 2#8] ++ numToBytes 2 60 ++ numToBytes 4 (a * 256) ++ numToBytes 2 5) with port := .canFd }

/-- The subscription of that request. -/
def sub3 : Subscr := ⟨0, 3, 2, .canFd, 0, 0, 0, Reg.RSTO_EXT * 256, 5, 1084 * 2 ^ 28, 1029 * 2 ^ 28, 9⟩

theorem wit_Subscriptions : subBad (subs Reg.RSTO_EXT) = none ∧
    adm live (subs Reg.RSTO_EXT) 9 (fun t w => t.crossing .nw 13 == .serve && t.subMay w 2 (Reg.RSTO_EXT * 256) &&
      (t.subOf 0 3).isNone && bodyNum (subs Reg.RSTO_EXT).body 4 4 == Reg.RSTO_EXT * 256) ∧
    adm live (ask0 [3#8]) 0x0A (fun t _ => t.crossing .nw 13 == .serve) ∧
    (({ live with exch := { live.exch with subs := [sub3] } } : State).subOf 0 3 = some sub3 ∧ sub3.kind = 2 ∧
      live.runs .nw = true) ∧ live.liveValue (.client 0) Reg.RSTO_EXT ≠ sub3.last := by decide +kernel

theorem wit_OtherRequests : goes live (ask0 []) 0x0E .q false true (fun t _ => t.crossing .cr noChan == .serve && !t.exch.muted) ∧
    adm live (ask0 (numToBytes 6 1 ++ [16#8])) 0x0B (fun t w => w == .client 0 && t.mayLease 0 && t.roleOf 0 == 1 &&
      t.crossing .nv 11 == .serve && (t.rep.lostLog.filter (fun p => p.1 == t.hidOf 0)).isEmpty) ∧
    adm (els live [(Reg.SRC_CFG 128, 2)]) (ask0 (numToBytes 2 128)) 0x0C (fun t w =>
      t.aliasPasses w 128 false false && t.crossing .fb 8 == .serve) ∧
    goes live (ask0 []) 15 .q false false (fun t _ => !t.exch.muted) ∧
    goes live (ask0 []) 0 .q false false (fun _ _ => true) := by decide +kernel

/-- A COMMIT in mode 0x00, of a parison of one element at a value; with flags. -/
def comm (fl : Nat) : Req := { ask0 (numToBytes 1 0 ++ numToBytes 8 0) with flags := fl }
def staged (a v : Nat) : State := live.setParison 0 [(a, v)]

theorem wit_CommitRequests :
    (∀ fl ∈ [0, 4], goes (staged Reg.SLEW_PPM 50) (comm fl) 5 .c false (kxOnly ((staged Reg.SLEW_PPM 50).parison 0)) (fun t w =>
      t.full && !t.exch.muted && t.crossing .fb 8 == .serve && t.stage.unstored.isEmpty &&
      ((t.touchParison 0).candidate w (comm fl)).exchanges.isEmpty && !(t.touchParison 0).mirrors ((t.touchParison 0).candidate w (comm fl)) &&
      ((t.touchParison 0).violations ((t.touchParison 0).candidate w (comm fl)) false (w == .bootstrap)).isEmpty) = true) ∧
    (∀ fl ∈ [0, 4], goes (staged Reg.SLEW_PPM 0) (comm fl) 5 .c false (kxOnly ((staged Reg.SLEW_PPM 0).parison 0)) (fun t w =>
      !((t.touchParison 0).violations ((t.touchParison 0).candidate w (comm fl)) false (w == .bootstrap)).isEmpty &&
      ((t.touchParison 0).violations ((t.touchParison 0).candidate w (comm fl)) false (w == .bootstrap)).all (fun v => v.st.code != 1)) = true) ∧
    bitOf 4 2 = true ∧ bitOf 0 2 = false ∧ (comm 0).body.length = 9 := by decide +kernel

theorem wit_Discards : adm live (ask0 []) 6 (fun t _ => t.crossing .cr noChan == .serve) ∧
    ((staged Reg.SLEW_PPM 50).stage.parisons.find? (fun x => x.cid == 0)).isSome = true := by decide +kernel

/-- A commit of one element, flipping at an instant. -/
def comm1 (ph : Phase) (sh : Bool) : Commit :=
  { cid := 0, hid := 0, num := 1, phase := ph, items := [(Reg.SLEW_PPM, 50)], shape := 1030 * 2 ^ 28, order := 3, sa := true
    shadowed := sh, slot := 0, killed := false }
def withCommit (ph : Phase) (sh : Bool) : State := { live with stage := { live.stage with commits := [comm1 ph sh] } }

theorem wit_Commits :
    (withCommit .pending false).commitOrder.find? (fun x => x.phase == .pending && !x.shadowed) = some (comm1 .pending false) ∧
    (let u := ((withCommit .pending false).reach (1029 * 2 ^ 28)).wakeCr
     u.runs .cr = true ∧ u.boot.firmware = true) ∧
    (((isl (withCommit .pending false) .cr islStarting).reach (1029 * 2 ^ 28)).wakeCr).runs .cr = false ∧
    (live.crossing .fb (chanTo .fb) = .serve ∧ (isl live .pw islGated).crossing .pw (chanTo .pw) = .wait ∧
      (isl live .pw islUnpowered).crossing .pw (chanTo .pw) = .shut 2) ∧
    (withCommit .pending true).commitOrder.find? (fun x => x.phase == .pending && x.shadowed) = some (comm1 .pending true) ∧
    (withCommit .pending true).banksThere (comm1 .pending true) = true ∧
    (let t := isl live .fb islUnpowered
     (comm1 .pending true).banks.find? (fun j => t.crossing j (chanTo j) matches .shut _) = some .fb ∧
      t.crossing .fb (chanTo .fb) = .shut 2) ∧
    (withCommit .prepared true).commitOrder = [comm1 .prepared true] ∧
    (withCommit .prepared true).turn (1030 * 2 ^ 28) (.flip 3) = true := by decide +kernel

theorem wit_CommitFlips : (comm1 .prepared true).cid ≠ mirrorCid ∧
    (let s := (withCommit .prepared true).reach (1030 * 2 ^ 28)
     (comm1 .prepared true).banks.all s.strobed = true ∧
      ((comm1 .prepared true).banks.foldl State.wakeIsl s).instantViols (comm1 .prepared true) false = [] ∧
      ((comm1 .prepared true).banks.foldl State.wakeIsl s).instantViols
        { comm1 .prepared true with items := [(Reg.CID_BIND 1, 0x0502)] } false ≠ []) ∧
    ([Island.fb, .pw].all (isl live .pw islUnpowered).strobed = false) ∧
    (live.runs .cr = true ∧ live.boot.firmware = true ∧ live.crossing .nv 11 = .serve) ∧
    ({ live with stage := { live.stage with unstored := [[]] } } : State).stage.unstored = [[]] := by decide +kernel

theorem wit_CommitWithdrawal : rowAddr (Reg.CM_WITHDRAW 0) = 0x400041 ∧
    lets (withCommit .pending true) (wr (Reg.CM_WITHDRAW 0) 2 1) false (fun t _ =>
      t.stage.commits.find? (fun x => x.cid == 0 && x.num == 1) == some (comm1 .pending true) &&
      decide (t.now + stMsUp 2 ≤ 1030 * 2 ^ 28)) ∧
    lets { withCommit .pending true with clk := ⟨1030 * 2 ^ 28 - stMsUp 2 + 1, true, 0, 0⟩ } (let r := wr (Reg.CM_WITHDRAW 0) 2 1
        { r with tr := { r.tr with stamp := 1030 * 2 ^ 28 } }) false (fun t _ => decide (1030 * 2 ^ 28 < t.now + stMsUp 2)) ∧
    lets live (wr (Reg.CM_WITHDRAW 0) 2 2) false (fun t _ =>
      (t.stage.commits.find? (fun x => x.cid == 0 && x.num == 2)).isNone) ∧
    lets (withCommit .pending true) (wr Reg.CM_WITHDRAW_ANY 4 1) false (fun t _ =>
      t.stage.commits.find? (fun x => x.cid == 0 && x.num == 1) == some (comm1 .pending true)) := by decide +kernel

/-! ### Chapters 09 to 12: witnesses -/

/-- A bundle held on one resource up to an instant, in a state. -/
def bnd (st : BState) (cid n ord amount inst : Nat) : Bundle :=
  { cid := cid, hid := 0, num := n, slot := 0, st := st, reason := 4, items := [(ord, amount)], fine := [], timeoutAt := 0
    dur := 60, bypass := 0, pb := 0, age := 0, reqAt := 0, grantAt := 0, coarse := false, inst := inst, resOrder := 0, resAt := 0 }
def withB (l : List Bundle) : State := { live with arb := { live.arb with bundles := l, known := [0] } }

/-- A LEASE of one resource by its number. -/
def leaseRq (n amount dur : Nat) : Req :=
  ask0 (numToBytes 2 0 ++ numToBytes 2 dur ++ [1#8] ++ numToBytes 2 n ++ numToBytes 2 amount)

theorem wit_LeaseRequests : askOf (leaseRq 0 1 60) = ⟨0, 60, [(0, 1)]⟩ ∧ leaseBad (leaseRq 0 1 60) = none ∧
    adm live (leaseRq 0 1 60) 7 (fun t w => w == .client 0 && t.mayLease 0 && t.resOpen 0 0 && t.crossing .fb 8 == .serve &&
      (t.leaseCheck 0 ⟨0, 60, [(0, 1)]⟩).isNone &&
      ((t.queueBundle 0 ⟨0, 60, [(0, 1)]⟩).1.bundleOf 0 1).any (fun b => b.holds)) ∧
    adm (withB [bnd .held 5 1 1 1 (2 ^ 40)]) (leaseRq 0 1 60) 7 (fun t _ => (t.leaseCheck 0 ⟨0, 60, [(0, 1)]⟩).isNone &&
      ((t.queueBundle 0 ⟨0, 60, [(0, 1)]⟩).1.bundleOf 0 1).any (fun b => !b.holds)) ∧
    adm live (leaseRq 0 1 0) 7 (fun t _ => (t.leaseCheck 0 ⟨0, 0, [(0, 1)]⟩).any (fun st => st.code != 1)) ∧
    adm live (leaseRq 0x100 5 60) 7 (fun t _ => (leaseRq 0x100 5 60).body.length == 9 && t.resOpen 0x100 0 &&
      powerOrd (ordOf 0x100)) := by decide +kernel

theorem wit_BundleQueued : (withB [bnd .held 5 1 1 1 (2 ^ 40)]).arb.bundles.all (fun b => b.cid != 0) = true ∧
    ((withB [bnd .held 5 1 1 1 (2 ^ 40)]).arb.bundles.filter (fun b => b.cid == 0)).length ≤ 20 ∧
    (withB [bnd .held 0 1 1 1 (2 ^ 40)]).arb.bundles.all (fun b => b.items.all (fun p =>
      (bundleItems [(1, 1)]).all (fun q => q.1 != p.1))) = true := by decide +kernel

theorem wit_LeasesExpire : (withB [bnd .held 0 1 1 1 (2 ^ 40), bnd .held 0 2 2 1 5]).arb.bundles.all (fun b =>
      (withB [bnd .held 0 1 1 1 (2 ^ 40), bnd .held 0 2 2 1 5]).arb.bundles.all (fun x => x.num != b.num || x == b)) = true ∧
    (withB []).now < 2 ^ 40 ∧ 5 < (withB []).now := by decide +kernel

theorem wit_LeaseInstants : live.runs .fb = true ∧
    (withB [bnd .held 0 1 1 1 (2 ^ 40)]).bundleIn 0 1 (fun x => x.st == .held) = some (bnd .held 0 1 1 1 (2 ^ 40)) ∧
    ((withB [{ bnd .queued 0 1 1 1 0 with timeoutAt := 7 }]).bundleIn 0 1 (fun x => x.waits && x.timeoutAt != 0)).isSome = true ∧
    ((withB [bnd .revoking 0 1 1 1 (2 ^ 40)]).bundleIn 0 1 (fun x => x.st == .revoking)).isSome = true ∧
    (({ live with arb := { live.arb with standing := [⟨33, 1, false, true, 9, 0⟩] } } : State).arb.standing[0]? =
      some ⟨33, 1, false, true, 9, 0⟩ ∧ 1023 < 1024) ∧
    ((withB [bnd .ended 0 1 1 1 (2 ^ 38)]).bundleIn 0 1 (fun x => x.st == .ended)).isSome = true := by decide +kernel

theorem wit_LeaseRelease :
    adm (withB [bnd .held 0 1 1 1 (2 ^ 40)]) (ask0 (numToBytes 2 1)) 8 (fun t w => w == .client 0 && t.mayLease 0 &&
      t.crossing .fb 8 == .serve && (t.bundleOf 0 1).any (fun b => b.st != .ended) && t.arb.known.contains 0) ∧
    adm (withB [bnd .ended 0 1 1 1 (2 ^ 38)]) (ask0 (numToBytes 2 1)) 8 (fun t _ =>
      (t.bundleOf 0 1).any (fun b => b.st == .ended && b.reason != 5)) ∧
    adm (withB [{ bnd .ended 0 1 1 1 (2 ^ 38) with reason := 5 }]) (ask0 (numToBytes 2 1)) 8 (fun t _ =>
      (t.bundleOf 0 1).any (fun b => b.st == .ended && b.reason == 5)) ∧
    lets (withB [bnd .held 0 1 1 1 (2 ^ 40)]) (wr (Reg.LS_DROP 0) 2 1) false (fun t w => w == .client 0 && t.mayLease 0 &&
      t.roleOf 0 == 1 && rowAddr (Reg.LS_DROP 0) == 0x400049 && (t.bundleOf 0 1).isSome) := by decide +kernel

theorem wit_LeaseRenewal :
    lets (withB [bnd .held 0 1 1 1 (2 ^ 40)]) (wr (Reg.LS_RENEW 0) 4 (65536 + 60)) false (fun t w => w == .client 0 &&
      t.mayLease 0 && (t.bundleOf 0 1).any (fun b => b.st == .held && b.items.all (fun p => decide (60 ≤ t.resDmax p.1))) &&
      t.arb.bundles.all (fun x => !x.waits)) ∧
    rowAddr (Reg.LS_RENEW 0) = 0x400048 ∧ lets (withB [bnd .held 0 1 1 1 (2 ^ 40)]) (wr (Reg.LS_RENEW 0) 4 65536) false
      (fun t _ => (t.bundleOf 0 1).isSome) ∧
    lets (withB [bnd .revoking 0 1 1 1 (2 ^ 40)]) (wr (Reg.LS_RENEW 0) 4 (65536 + 60)) false (fun t _ =>
      (t.bundleOf 0 1).any (fun b => b.st == .revoking && b.items.all (fun p => decide (60 ≤ t.resDmax p.1)))) ∧
    lets (withB [bnd .held 0 1 1 1 (2 ^ 40), bnd .queued 5 1 1 1 0]) (wr (Reg.LS_RENEW 0) 4 (65536 + 60)) false (fun t _ =>
      (t.bundleOf 0 1).any (fun b => b.st == .held) && t.arb.bundles.any (fun x => x.waits && x.items.any (fun p =>
        p.1 == 1 && decide (t.resCap 1 < p.2 + t.standingAmount 1 + t.held 1)))) := by decide +kernel

theorem wit_Revocation :
    lets (withB [bnd .held 0 1 1 1 (2 ^ 40)]) (wr Reg.REVOKE_ANY 4 1) false (fun t _ => (t.bundleOf 0 1).any (fun b => b.st == .held) &&
      t.arb.known.contains 0) ∧
    lets (withB [bnd .queued 0 1 1 1 0]) (wr Reg.REVOKE_ANY 4 1) false (fun t _ => (t.bundleOf 0 1).any (fun b => b.waits)) ∧
    bnd .held 0 1 1 1 (2 ^ 40) ∈ (withB [bnd .held 0 1 1 1 (2 ^ 40)]).arb.bundles := by decide +kernel

/-- A write of TMR 0 of CID 0: mode, instant, interval. -/
def tmrRq (m inst iv : Nat) : Req := wr 0x400070 24 (m * 2 ^ 184 + inst * 2 ^ 96 + iv * 2 ^ 64)

/-- A timer of CID 0, handle 0. -/
def tmr0 (mode : Nat) : Tmr := ⟨0, 0, mode, 1, 0, 1025 * 2 ^ 28, 60, 0, false⟩
def withT (mode : Nat) : State := { live with tmr := { live.tmr with timers := [tmr0 mode] } }

theorem wit_TimerWrites : (tmrRq 2 0 60).value.length = 24 ∧ bodyNum (tmrRq 2 0 60).body 4 1 = 2 ∧ rowAddr 0x400070 = 0x400070 ∧
    lets live (tmrRq 0 0 0) false (fun t _ => t.tmrMay 0 (bytesToNum (tmrRq 0 0 0).value) &&
      !tmrBad (bytesToNum (tmrRq 0 0 0).value)) ∧
    lets live (tmrRq 1 0 0) false (fun _ _ => tmrBad (bytesToNum (tmrRq 1 0 0).value)) ∧
    lets live (tmrRq 2 0 60) false (fun t _ => !tmrBad (bytesToNum (tmrRq 2 0 60).value) && (t.timerOf 0 0).isNone &&
      (t.cellAccount 0).isSome) ∧
    lets (els live [(Reg.TIMER_QUOTA 0, 0)]) (tmrRq 2 0 60) false (fun t _ => (t.cellAccount 0).isNone) ∧
    lets live (tmrRq 1 5 0) false (fun t _ => !tmrBad (bytesToNum (tmrRq 1 5 0).value) &&
      tmrInst (bytesToNum (tmrRq 1 5 0).value) == 5 && decide (5 ≤ t.now)) ∧
    lets (withT 2) (tmrRq 2 0 60) false (fun t _ => (t.timerOf 0 0).any (fun x => x.state == 1)) := by decide +kernel

theorem wit_TimerChains : ((withT 2).timerOf 0 0 = some (tmr0 2) ∧ (tmr0 2).state = 1 ∧
      (withT 2).turn (1025 * 2 ^ 28) (.timer 0 0) = true) ∧
    ((tmr0 3).mode = 3 ∧ (tmr0 2).mode ≠ 3) ∧ (0 < 60 ∧ 5 ≤ 5) := by decide +kernel

/-- A plan entry of holder 0, tag 9, owned by CID 0: a timer of 10 s with a mode. -/
def plan (mode a : Nat) : Nat := 9 * 2 ^ 176 + 1 * 2 ^ 168 + mode * 2 ^ 160 + a * 2 ^ 128 + 1 * 2 ^ 112 + 60 * 2 ^ 96 + 10240
def withP (mode a : Nat) : State :=
  { els live [(Reg.SRC_CFG 128, 2), (Reg.PLAN_LIVE, 1)] with tmr := { live.tmr with
      bankA := [(0x500000, plan mode a)], loaded := true, planTimers := [⟨0, 9, 1025 * 2 ^ 28, 0⟩] } }

theorem wit_PlanEntries : ((withP 1 0).tmr.planTimers.find? (fun q => q.hid == 0 && q.tag == 9) = some ⟨0, 9, 1025 * 2 ^ 28, 0⟩ ∧
      planEntry (withP 1 0).liveBank 0 9 1 = some (plan 1 0) ∧ (withP 1 0).turn (1025 * 2 ^ 28) (.plan 0 9) = true) ∧
    (((withP 1 0).reach (1025 * 2 ^ 28))).now < 1025 * 2 ^ 28 + periodOf (plan 1 0) ∧
    (peMode (plan 1 0) ≠ 2 ∧ peMode (plan 1 0) ≠ 3) ∧
    (peMode (plan 2 128) = 2 ∧ (withP 2 128).srcAssigned (peA (plan 2 128)) 0 = true ∧
      (withP 2 129).srcAssigned (peA (plan 2 129)) 0 = false) ∧
    (peMode (plan 3 0) = 3 ∧ ((withP 3 0).planLease (plan 3 0)).2.code ∈ [0x00, 0x06, 0x11]) ∧
    ((withP 3 99).planLease (plan 3 99)).2.code ∉ [0x00, 0x06, 0x11] := by decide +kernel

theorem wit_PlanExchanges : (els (withP 1 0) [(Reg.PLAN_PENDING, 1)]).el Reg.PLAN_PENDING = 1 ∧ (withP 1 0).tmr.loaded = true ∧
    (els (withP 1 0) [(Reg.PLAN_PENDING, 1)]).turn (els (withP 1 0) [(Reg.PLAN_PENDING, 1)]).exchangeAt .exchange = true ∧
    planEntry ({ withP 1 0 with tmr := { (withP 1 0).tmr with bankB := [(0x500000, plan 1 0)] } } : State).idleBank 0 9 1 ≠ none := by
  decide +kernel

/-- Input 0 in a digital mode, leased by CID 0. -/
def sense : State :=
  { els live [(Reg.EVT_PIN 0, 0x0100000000000000), (Reg.EVT_SET 0 0, 0x03010001 * 2 ^ 96)] with
    arb := { live.arb with bundles := [bnd .held 0 1 1 1 (2 ^ 40)], known := [0] }
    evt := { live.evt with levels := [(0, false)] } }

/-- A transition of input 0 that waits. -/
def ew : EvtWait := ⟨0, true, 7, 1, 0, 0, false, 1, 1, false, 0⟩

theorem wit_RawTransitions : (⟨0, 1000, 5, true, 0, false, false⟩ : L4) ∈ ({ sense with evt := { sense.evt with l4 :=
      [⟨0, 1000, 5, true, 0, false, false⟩] } } : State).evt.l4 ∧ sense.sensing 0 = some 0 ∧ sense.runs .fb = true ∧ (sense.reach (2 ^ 39)).sensing 0 = some 0 ∧
    ({ sense with evt := live.evt } : State).evt.levels.find? (fun p => p.1 == 0) = none ∧
    sense.evt.levels.find? (fun p => p.1 == 0) = some (0, false) ∧
    (sense.evt.waits.filter (fun w => w.input == 0)).length < 4 ∧
    4 ≤ (([ew, ew, ew, ew] : List EvtWait).filter (fun w => w.input == 0)).length := by decide +kernel

theorem wit_EdgeQualification :
    ({ sense with evt := { sense.evt with waits := [ew] } } : State).evt.waits.find? (fun x => x.input == 0) = some ew ∧
    sense.filterTime ew.filter = 0 ∧ sense.filterTime 1 ≠ 0 := by decide +kernel

theorem wit_EdgeRecords : sense.inUse 5 = false ∧ sense.inUse ew.cid = true ∧ sense.hidOf ew.cid = ew.hid ∧
    sense.lessee (ew.input + 1) = some (bnd .held 0 1 1 1 (2 ^ 40)) ∧ (bnd .held 0 1 1 1 (2 ^ 40)).cid = ew.cid ∧
    bitOf ew.polarity 0 = true ∧ ew.targets ≠ 0 ∧ bitOf ew.polarity 1 = false := by decide +kernel

/-- FB is gated while the same input is sensed; an edge waits in its latch. -/
def senseG : State := isl sense .fb islGated
def latched1 (i : Nat) (st : Option Nat) : Latched := ⟨{ ew with input := i }, st, 5, 0⟩
def withL (l : List Latched) : State := { sense with evt := { sense.evt with latched := l } }

theorem wit_LatchedEdges : (senseG.isl_ .fb = islGated ∧ senseG.mainPower = true ∧ senseG.isRefInput 0 = false ∧
      senseG.sensing 0 = some 0 ∧ aoFilter (senseG.evtSet 0 0 2) ≤ 1000000 ∧ (∃ p ∈ senseG.evt.levels, p.1 = 0) ∧
      senseG.chan 2 ≠ .stuck ∧ senseG.chan 0 = .idle ∧ (senseG.setChan 0 .orphan).chan 0 ≠ .idle) ∧
    (senseG.evt.latched.filter (fun l => l.edge.input == 0)).length < 4 ∧
    ((withL [latched1 0 (some 7)]).runs .fb = true ∧ (withL [latched1 0 (some 7)]).chan 2 = .idle ∧
      (withL [latched1 0 (some 7)]).evt.latched = [latched1 0 (some 7)]) ∧
    (withL []).latchStamp (latched1 0 (some 7)) < (withL []).latchStamp (latched1 1 (some 8)) := by decide +kernel

theorem wit_GrantLevels : ({ sense with evt := live.evt } : State).sensing 0 = some 0 ∧ (∀ p ∈ live.evt.levels, p.1 ≠ 0) ∧
    bitOf (sense.evtSet 0 0 3) 1 = false ∧ bitOf ((els sense [(Reg.EVT_SET 0 0, 0x03010002 * 2 ^ 96)]).evtSet 0 0 3) 1 = true ∧
    (∃ p ∈ sense.evt.levels, p.1 = 0) := by decide +kernel

/-- Input 0 in adaptive mode at a threshold. -/
def adaptive (th : Nat) (op : Bool) : State :=
  { els sense [(Reg.EVT_SET 0 0, 0x0301000101 * 2 ^ 88), (Reg.L4_FENCE 0, 10 * 65536 + 1000)] with
    evt := { sense.evt with l4 := [⟨0, th, 5, op, 0, false, false⟩] } }

theorem wit_NoiseThreshold : (adaptive 1000 false).loopHolds 4 = false ∧
    (adaptive 1000 false).evt.l4.find? (fun y => y.input == 0) = some ⟨0, 1000, 5, false, 0, false, false⟩ ∧
    (adaptive 1000 false).lessee 1 = some (bnd .held 0 1 1 1 (2 ^ 40)) ∧ (adaptive 10 true).evtSet 0 0 4 = 1 ∧
    ((adaptive 10 true).l4Lo 0 ≤ 10 ∧ 1000 ≤ (adaptive 1000 false).l4Hi 0) := by decide +kernel

/-- A record of source 130 for holder 0, to T0. -/
def nr : NewRec := ⟨130, 0, 1, 0, 7, 0, 0, 1, false, false⟩

theorem wit_RecordRoom : live.runs .fb = true ∧ live.recsOnQuota 0 < live.el (Reg.REC_QUOTA 0) ∧
    (els live [(Reg.REC_QUOTA 0, 0)]).el (Reg.REC_QUOTA 0) ≤ (els live [(Reg.REC_QUOTA 0, 0)]).recsOnQuota 0 ∧
    live.heldBy 0 45 ≤ live.recsOnOvf 0 ∧ quotaHid nr.hid = 0 := by decide +kernel

/-- A record with an entry in a ring, and a claim of it. -/
def rec0 (evid : Bool) : Rec := ⟨4, 7, 130, 0, 1, 0, 0, 0, 1, false, false, evid⟩
def ent (k : Nat) (v : Option Nat) : Entry := ⟨k, 6, 4, v, false⟩
def ringS (k : Nat) (v : Option Nat) (evid : Bool) : State :=
  { live with dlv := { live.dlv with recs := [rec0 evid], nextRec := 5, entries := [ent k v] } }
def claimS (k : Nat) : State :=
  { live with dlv := { live.dlv with recs := [rec0 false], nextRec := 5, claims := [⟨k, 6, 4, 2 ^ 37⟩] } }

theorem wit_ClaimsTake : (live.ring 1 = [] ∧ (live.dlv.claims.filter (fun c => c.target == 1)).length < 32) ∧
    32 ≤ ((List.replicate 32 (⟨1, 6, 4, 0⟩ : Claim)).filter (fun c => c.target == 1)).length ∧
    (ringS 1 (some 1) false).ring 1 = [ent 1 (some 1)] ∧
    ((ringS 1 none false).ring 1 = [ent 1 none] ∧ (ringS 1 none false).recOf 4 = some (rec0 false)) := by decide +kernel

/-- A ring operation is admitted, and what comes of it meets p. -/
def ringGoes (s : State) (r : Req) (op : Nat) (p : State → Who → Bool) : Bool :=
  match s.acceptWith (tagged s r op true) op .q true true false true with
  | .go t w => t.full && t.crossing .fb 16 == .serve && p t w
  | _ => false

/-- What `ringGoes` says of its admission. -/
theorem ringGoes_accept {s : State} {r : Req} {op : Nat} {p : State → Who → Bool} (h : ringGoes s r op p = true) :
    ∃ t w, s.accept (tagged s r op true) op .q true true false = .go t w ∧ t.full = true ∧
      t.crossing .fb 16 = .serve ∧ p t w = true := by
  unfold ringGoes at h
  unfold State.accept
  rw [tagged_ok]
  split at h
  · simp only [Bool.and_eq_true, beq_iff_eq] at h
    exact ⟨_, _, by assumption, h.1.1, h.1.2, h.2⟩
  · cases h

theorem wit_RingOperations :
    ringGoes (ringS 1 none false) (ask0 [1#8]) 1 (fun t w => t.mayService w 1) = true ∧
    ringGoes (claimS 2) (ask0 [2#8, 0#8, 6#8]) 2 (fun t w => t.mayService w 2 && bodyNum [2#8, 0#8, 6#8] 1 2 == 6 &&
      (t.dlv.claims.find? (fun c => c.target == 2 && c.seq == 6)).isSome && (t.recOf 4).isSome) = true ∧
    ringGoes live (ask0 [2#8, 0#8, 6#8]) 2 (fun t w => t.mayService w 2 &&
      (t.dlv.claims.find? (fun c => c.target == 2 && c.seq == 6)).isNone) = true ∧
    ringGoes live (ask0 [1#8]) 3 (fun t w => t.mayService w 1) = true := by decide +kernel

theorem wit_SourceWrites :
    lets (els live [(Reg.SRC_CFG 128, 2)]) { wr Reg.DOORBELL 2 128 with port := .canFd } false (fun t w =>
      t.aliasPasses w 128 false false) ∧
    lets live (wr Reg.EN_SET 2 5) false (fun t w => t.aliasPasses w 5 true false) ∧
    lets live (wr Reg.EN_CLR 2 5) false (fun t w => t.aliasPasses w 5 true false) ∧
    lets (els live [(Reg.SRC_CFG 510, 2)]) (wr Reg.PEND_SET 2 510) false (fun t w => t.aliasPasses w 510 false false) ∧
    lets (els live [(Reg.SRC_CFG 128, 2)]) (wr Reg.PEND_CLR 2 128) false (fun t w => t.aliasPasses w 128 false false) := by decide +kernel

theorem wit_DeliveryTimers :
    (claimS 2).dlv.claims.find? (fun c => c.target == 2 && c.seq == 6) = some ⟨2, 6, 4, 2 ^ 37⟩ ∧
    (els live [(Reg.CLAIM_TMO, 5)]).claimTmo 2 ≠ 0 ∧ live.runs .fb = true ∧
    (({ live with dlv := { live.dlv with groups := [(31, 2 ^ 40)] } } : State).dlv.groups.find? (fun p => p.1 == 31) =
        some (31, 2 ^ 40) ∧ (∀ p ∈ live.dlv.groups, p.1 ≠ 31)) ∧
    (let s : State := { live with dlv := { live.dlv with recs := [rec0 false], waiting := [⟨4, 1, .group 31, false⟩] } }
     s.dlv.waiting = [⟨4, 1, .group 31, false⟩] ∧ s.recOf 4 = some (rec0 false)) := by decide +kernel

theorem wit_KeeperAndNotifier : (ent 0 none).void = none ∧ live.runs .cr = true ∧ live.runs .nw = true ∧ live.runs .fb = true ∧
    live.chan 7 = .idle ∧ live.chan 15 = .idle ∧
    ((ringS 0 none true).ring 0 = [ent 0 none] ∧ ((ringS 0 none true).claimAt 0).1.recOf 4 = some (rec0 true)) ∧
    ((ringS 0 none false).claimAt 0).1.recOf 4 = some (rec0 false) ∧
    ((ringS 3 none false).ring 3 = [ent 3 none] ∧
      ((ringS 3 none false).claimAt 3).1.exch.subs.filter (fun x => ((ringS 3 none false).claimAt 3).1.subTakes x (rec0 false)) =
        []) ∧
    ({ live with exch := { live.exch with subs := [⟨0, 3, 1, .canFd, 0, 0, 0, 130 * 65536, 0, 2 ^ 40, 0, 0⟩] } } : State).subTakes
      ⟨0, 3, 1, .canFd, 0, 0, 0, 130 * 65536, 0, 2 ^ 40, 0, 0⟩ (rec0 false) = true := by decide +kernel

/-! ### Chapters 13 and 14 -/

def canUp : State := els live [(Reg.CAN_STATE, 1)]
def reasm1 (total got next : Nat) : State :=
  { canUp with port := { canUp.port with reasm := [⟨1, 2, total, got, next⟩] } }

theorem wit_CanSegments : canUp.canTakes = true ∧ canUp.port.reasm = [] ∧ canDlc 13 = 16 ∧
    16 ≤ (List.replicate 16 (⟨3, 1, 100, 61, 1⟩ : Reasm)).length ∧
    ((reasm1 1200 61 1).canTakes = true ∧
      (reasm1 1200 61 1).port.reasm.find? (fun y => y.cid == 1 && y.tag == 2) = some ⟨1, 2, 1200, 61, 1⟩ ∧ 63 < 1200 - 61) ∧
    (reasm1 62 61 1).port.reasm.find? (fun y => y.cid == 1 && y.tag == 2) = some ⟨1, 2, 62, 61, 1⟩ := by decide +kernel

def canMsgs (sent : Nat) (l : List CanMsg) : State :=
  { canUp with port := { canUp.port with canTx := ⟨.frame "NOTIFY" [], 1, 2, sent⟩ :: l } }

theorem wit_CanTransmission : (canMsgs 0 []).canSends = true ∧ (canMsgs 1 []).canSends = true ∧ canUp.el Reg.CAN_MODE ≠ 1 ∧
    (els live [(Reg.CAN_STATE, 3)]).el Reg.CAN_STATE = 3 ∧ (els live [(Reg.CAN_STATE, 4)]).el Reg.CAN_STATE = 4 := by decide +kernel

theorem wit_CanPriority :
    ((canMsgs 1 [⟨.frame "NOTIFY" [], 1, 1, 0⟩, ⟨.frame "NOTIFY" [], 3, 1, 0⟩]).port.canTx.drop 1).Pairwise
      (fun a b => a.prio ≤ b.prio) ∧
    (∀ a ∈ (canMsgs 1 [⟨.frame "NOTIFY" [], 1, 1, 0⟩]).port.canTx.head?, a.sent ≠ 0) ∧
    (∀ a ∈ (canMsgs 0 [⟨.frame "NOTIFY" [], 1, 1, 0⟩]).port.canTx.head?, a.sent = 0 ∧
      ∀ b ∈ (canMsgs 0 [⟨.frame "NOTIFY" [], 1, 1, 0⟩]).port.canTx, a.prio ≤ b.prio) := by decide +kernel

def linked : State := els live [(Reg.T1L_LINK, 3 * 2 ^ 24), (Reg.T1L_MAC, 0x020000000001)]
def ll : Nat := linked.linkLocal

/-- A frame with an IPv6 packet, of a UDP port. -/
def fE (port : Nat) : Eth := ⟨128, true, 0x86DD, false, linked.el Reg.T1L_MAC, ll, true, port, 64⟩

theorem wit_LinkAndAddresses :
    (live.runs .nw = true ∧ bitOf (live.el Reg.PORT_EN) 1 = true ∧ live.el Reg.T1L_LINK / 2 ^ 24 ≠ 3) ∧
    ((els live [(Reg.PTP_ROLE, 0)]).el Reg.PTP_ROLE = 0 ∧ live.el Reg.PTP_ROLE ≠ 0) ∧
    (linked.t1lUp = true ∧ linked.ethIn (fE 0) = true ∧ (fE 0).sound = true) ∧
    (({ linked with port := { linked.port with echoes := 10, echoSec := linked.now / stSecond } } : State).port.echoes = 10) ∧
    (linked.ownAddrs.find? (fun p => p.2 == ll) = some (0, ll) ∧ bitOf (linked.el Reg.IP6_DAD) 0 = false ∧
      linked.port.dadUntil ≤ linked.now) ∧
    ({ linked with port := { linked.port with dadUntil := 2 ^ 40 } } : State).now < 2 ^ 40 := by decide +kernel

theorem wit_FramesDropped : live.t1lUp = false ∧ ({ fE 0 with fcs := false } : Eth).fcs = false ∧
    linked.macAccepts { fE 0 with dest := 5 } = false ∧ (fE 0).etherType ≠ 0x8808 ∧
    linked.macAccepts { fE 0 with etherType := 0x8808 } = false ∧
    linked.ethIn { fE 0 with sound := false } = true := by decide +kernel

def ptp (role state : Nat) : State := els linked [(Reg.PTP_ROLE, role), (Reg.PTP_STATE, state)]

theorem wit_Ptp :
    ((ptp 2 ptpListening).ptpServed = true ∧ (ptp 2 ptpListening).t1lUp = true ∧ (ptp 2 ptpListening).ptpRuns = true ∧
      (ptp 2 ptpListening).el Reg.PTP_STATE ≠ ptpSlave ∧ (ptp 2 ptpListening).el Reg.PTP_STATE ≠ ptpUncalibrated ∧
      (ptp 2 ptpListening).ethIn (fE 320) = true ∧ (fE 320).port = 320) ∧
    (ptp 1 ptpListening).ptpRuns = true ∧
    ((ptp 2 ptpMaster).ptpMasters = true ∧ (ptp 2 ptpMaster).nwAligned = true ∧ (ptp 2 ptpMaster).ethIn (fE 319) = true) ∧
    ((ptp 2 ptpMaster).setChan 15 .orphan).nwAligned = false ∧
    (let s := els live [(Reg.TIME_STATE, 1), (Reg.REF_STATE, 2), (Reg.REF_ACTIVE, 1)]
     s.unset = false ∧ s.refShown = 2 ∧ s.el Reg.REF_ACTIVE = 1) ∧
    (let s := els live [(Reg.TIME_STATE, 1), (Reg.REF_STATE, 3)]
     s.unset = false ∧ s.refShown = 3) := by decide +kernel

def hosted (n : Nat) (out : List Out) (i2c : Nat) : State :=
  { els live [(Reg.HP_MODE, i2c)] with port := { live.port with hostIn := n, hostOut := out, i2cAddr := some 8 } }

theorem wit_HostPort : ((hosted 0 [] 0).hostReady = true ∧ (hosted 0 [] 0).port.hostIn < 4 ∧ (hosted 0 [] 0).hostI2c = false ∧
      (hosted 0 [] 0).port.hostOut = []) ∧
    ((hosted 4 [.frame "NOTIFY" []] 1).hostReady = true ∧ (hosted 4 [.frame "NOTIFY" []] 1).hostI2c = true ∧
      4 ≤ (hosted 4 [.frame "NOTIFY" []] 1).port.hostIn ∧ (hosted 4 [.frame "NOTIFY" []] 1).port.i2cAddr = some 8 ∧
      (hosted 4 [.frame "NOTIFY" []] 1).port.hostOut = [.frame "NOTIFY" []]) ∧
    ((isl (hosted 0 [] 1) .nw islStarting).hostReady = false ∧ (isl (hosted 0 [] 1) .nw islStarting).hostFetches = false ∧
      (isl (hosted 0 [] 1) .nw islStarting).hostI2c = true) := by decide +kernel

theorem wit_KeyExchangeStarts :
    lets (els live [(Reg.KEY_STATE 0, 1)]) (wr (Reg.KX_START 0) 2 1) true (fun t w => t.kxMay w 1 && !t.entropyBad &&
      t.key.lastKx == 0 && decide (t.el Reg.K0_USES < 2 ^ 32 - 1) && decide (t.rep.lostCopies.getD 0 0 < 2)) = true ∧
    lets (els live [(Reg.KEY_STATE 0, 1), (Reg.PROV_STATE, 128)]) (wr (Reg.KX_START 0) 2 1) true
      (fun t w => t.kxMay w 1 && t.entropyBad) = true ∧
    lets ({ els live [(Reg.KEY_STATE 0, 1)] with key := { live.key with lastKx := 1024 * 2 ^ 28 } })
      (wr (Reg.KX_START 0) 2 1) true (fun t w => t.kxMay w 1 && t.key.lastKx != 0 &&
        decide (t.now < t.key.lastKx + stSecond)) = true ∧
    goes live (wr (Reg.KX_START 0) 2 3) 2 .q false true (fun t w => valueNamed (wr (Reg.KX_START 0) 2 3) && !t.kxMay w 3) = true := by
  decide +kernel

def kx1 (done : Bool) : Kx := ⟨0, 0, 1, 2, 2 ^ 40, 0, done, 0, 0⟩
def exchS (done : Bool) : State := { live with key := { live.key with kx := [kx1 done] } }

theorem wit_KeyExchangePeer :
    goes live (wr (Reg.KX_PEER 0) 33 5) 2 .q false true
      (fun t _ => valueNamed (wr (Reg.KX_PEER 0) 33 5) && t.kxOf 0 == none) = true ∧
    lets (exchS false) (wr (Reg.KX_PEER 0) 33 5) true (fun t _ => t.kxOf 0 == some (kx1 false)) = true ∧
    lets (exchS true) (wr (Reg.KX_PEER 0) 33 5) true (fun t _ => t.kxOf 0 == some (kx1 true)) = true := by decide +kernel

theorem wit_KeyFlip : (exchS true).kxOf 0 = some (kx1 true) ∧ (exchS true).hidOf 0 = (kx1 true).hid := by decide +kernel

theorem wit_KeeperEvents :
    lets live (wr Reg.ZEROIZE 1 0x5A) false (fun _ _ => bytesToNum (wr Reg.ZEROIZE 1 0x5A).value == 0x5A) = true ∧
    lets live (wr Reg.ZEROIZE 1 1) false (fun _ _ => bytesToNum (wr Reg.ZEROIZE 1 1).value != 0x5A) = true ∧
    (live.runs .sc = true ∧ live.entropyBad = false) ∧ (els live [(Reg.PROV_STATE, 128)]).entropyBad = true := by decide +kernel

/-! ### Chapters 15 and 16 -/

/-- A 12 V lead-acid battery, the charger in a state, VIN and VSYS as read, the battery at a temperature in 0.01 °C. -/
def chgS (c vin vsys temp : Nat) : State :=
  { els live [(Reg.BAT_CHEM, 1), (Reg.CHG_STATE, c), (Reg.BAT_T, temp)] with
    pwr := { live.pwr with vin := vin, vsys := vsys, fresh := false, on := convState c, loaded := true } }

/-- The same in FAULT with a cause. -/
def chgF (cause : Nat) : State := els (chgS chgFault 20000 12000 2000) [(Reg.CHG_FAULT, cause)]

theorem wit_ChargerFaults :
    ((chgS chgBulk 63000 12000 2000).pwLoaded = true ∧ (chgS chgBulk 63000 12000 2000).chg ≠ chgOff ∧
      (chgS chgBulk 63000 12000 2000).chg ≠ chgFault) ∧ (chgF 4).chg = chgFault ∧
    (chgS chgOff 63000 12000 2000).chg = chgOff ∧
    ((chgS chgBulk 20000 12000 2000).profile = some (leadAcid 6) ∧ (leadAcid 6).above * (leadAcid 6).cells < 15301) ∧
    ((chgS chgBulk 20000 12000 2000).pwr.on = true ∧ (chgS chgNight 20000 12000 2000).pwr.on = false ∧
      12499 < 12000 + 500) ∧ (chgS chgPre 20000 10000 2000).chg = chgPre ∧
    lets (chgF 3) (wr Reg.CHG_CLEAR 1 1) false (fun t _ => t.chg == chgFault && t.el Reg.CHG_FAULT == 3) = true ∧
    lets live (wr Reg.CHG_CLEAR 1 1) false (fun t _ => t.chg != chgFault) = true ∧
    lets live (wr Reg.CHG_CLEAR 1 2) false (fun _ _ => true) = true := by decide +kernel

theorem wit_ChargeStateEntered : live.chg ≠ chgFault ∧ (chgS chgBulk 20000 12000 2000).chg ≠ chgOff ∧ convState chgFault = false ∧
    convState chgBulk = true := by decide +kernel

def charging (s : State) : Bool := s.pwLoaded && s.profile == some (leadAcid 6) && !s.chgDisabled && s.chg != chgOff &&
  s.chg != chgFault && decide (s.pwr.vsys ≤ 2550 * 6) && decide (s.pwr.vin ≤ 62000) && !s.pwr.fresh &&
  decide (s.pwr.vsys + 500 ≤ s.pwr.vin)

theorem wit_ChargeTransitions :
    (∀ x ∈ ([(chgNight, 13500, 12000, 2000), (chgBulk, 20000, 12000, 62000), (chgBulk, 20000, 12000, 5000),
        (chgCold, 20000, 12000, 2000), (chgHot, 20000, 12000, 2000), (chgPre, 20000, 11200, 2000), (chgBulk, 20000, 15000, 2000),
        (chgAbsorb, 20000, 14000, 2000), (chgFloat, 20000, 12000, 2000), (chgRest, 12500, 12000, 2000)] : List (Nat × Nat × Nat × Nat)),
      charging (chgS x.1 x.2.1 x.2.2.1 x.2.2.2) = true) ∧
    (chgS chgBulk 20000 12000 62000).batTemp < (chgS chgBulk 20000 12000 62000).tLo ∧
    (chgS chgBulk 20000 12000 5000).tHi < (chgS chgBulk 20000 12000 5000).batTemp ∧
    (chgS chgCold 20000 12000 2000).tLo + 100 ≤ (chgS chgCold 20000 12000 2000).batTemp ∧
    (chgS chgHot 20000 12000 2000).batTemp ≤ (chgS chgHot 20000 12000 2000).tHi - 200 ∧
    (chgS chgPre 20000 11200 2000).preMv + 100 ≤ (chgS chgPre 20000 11200 2000).cellMv ∧
    (chgS chgBulk 20000 15000 2000).cvMv * 6 ≤ (chgS chgBulk 20000 15000 2000).pwr.vsys ∧
    (chgS chgFloat 20000 12000 2000).cellMv < (chgS chgFloat 20000 12000 2000).rechMv ∧
    (els live [(Reg.CHG_EN, 0), (Reg.BAT_CHEM, 1)]).chgDisabled = true ∧
    (leadAcid 6).above * (leadAcid 6).cells < (chgS chgBulk 20000 15301 2000).pwr.vsys ∧
    (els live [(Reg.BAT_CHEM, 3)]).lead = false ∧ (chgS chgBulk 62001 12000 2000).pwr.vin = 62001 ∧
    (chgS chgBulk 12499 12000 2000).pwr.vin < (chgS chgBulk 12499 12000 2000).pwr.vsys + 500 ∧
    (chgS chgNight 12500 12000 2000).pwr.vin ≤ (chgS chgNight 12500 12000 2000).pwr.vsys + 500 ∧
    ((-6001 : Int) < -6000 ∧ (10000 : Int) < 10001 ∧ ¬ (10000 : Int) < 10000) ∧ (chgS chgBulk 20000 12000 2000).lead = true := by decide +kernel

theorem wit_HarvestLoops :
    ((chgS chgBulk 20000 12000 2000).runs .pw = true ∧ (chgS chgBulk 20000 12000 2000).loopHolds 5 = false ∧
      convState (chgS chgBulk 20000 12000 2000).chg = true ∧ (chgS chgBulk 20000 12000 2000).pwr.on = true ∧
      (chgS chgBulk 20000 12000 2000).pwr.follow = false ∧ (chgS chgBulk 20000 12000 2000).pwLoaded = true) ∧
    (live.loopHolds 6 = false ∧ live.loopHolds 7 = false) ∧ live.s5 = false ∧ (els live [(Reg.BAT_ALARM, 2)]).s5 = true ∧
    (12000 * 100 / 1000 < 1201) ∧
    (100 < (chgS chgBulk 20000 12000 2000).curLimit ∨ (chgS chgBulk 20000 12000 2000).curLimit ≤ 100) := by
  decide +kernel

theorem wit_EnergyBudget : (live.el Reg.BAT_ALARM = 0 ∧ live.el Reg.ENERGY_MAX ≤ 65535) ∧
    ((els live [(Reg.BAT_ALARM, 1)]).el Reg.BAT_ALARM = 1 ∧ (els live [(Reg.BAT_ALARM, 1)]).standingAmount 43 ≤ 65535) ∧
    (els live [(Reg.BAT_ALARM, 2)]).el Reg.BAT_ALARM = 2 ∧ (chgS chgBulk 20000 12000 2000).pwLoaded = true ∧
    (let t (s : State) : State := (s.reach ((s.pwr.hour + 1) * 3600 * stSecond)).closeHours
     let a := chgS chgBulk 20000 12000 2000
     a.pwKept = true ∧ (t a).runs .cr = true ∧ (t a).boot.firmware = true ∧ (t a).crossing .pw 17 = .serve ∧
      (t (isl a .cr islGated)).runs .cr = false ∧ (t (isl a .pw islGated)).crossing .pw 17 = .wait) := by decide +kernel

theorem wit_BatteryWatch :
    ((chgS chgRest 0 12000 2000).runs .pw = true ∧ (chgS chgRest 0 12000 2000).profile = some (leadAcid 6) ∧
      restSoc (11820 / 6) (restTable 1) = some 0 ∧ restSoc (12720 / 6) (restTable 1) = some 1000) ∧
    (isLife 3 = true ∧ restSoc 3260 (restTable 3) = some 500) ∧ (isLife 1 = false) ∧
    ((chgS chgRest 0 12000 2000).alarmAt (leadAcid 6) (11000 / 6) ≠ (chgS chgRest 0 12000 2000).el Reg.BAT_ALARM ∧
      (chgS chgRest 0 12000 2000).alarmAt (leadAcid 6) (12600 / 6) = (chgS chgRest 0 12000 2000).el Reg.BAT_ALARM) ∧
    (live.el Reg.SNOW_SUSPECT = 0 ∧ 10 * (9 : Int) < median7 [100, 100, 100, 100, 100, 100, 100]) ∧
    (let s := els { live with pwr := { live.pwr with days := [50, 60], snowMed := 100 } } [(Reg.SNOW_SUSPECT, 1)]
     s.el Reg.SNOW_SUSPECT = 1 ∧ s.pwr.days = [50, 60] ∧ s.pwr.snowMed ≤ 2 * 50) ∧
    restSoc (10000 / 6) (restTable 1) = none ∧
    (let s : State := { isl live .pw islGated with pwr := { live.pwr with night := some (5000, 11000, 10000) } }
     s.isl_ .pw = islGated ∧ s.pwr.night = some (5000, 11000, 10000) ∧ s.chan 6 ≠ .stuck) := by decide +kernel

/-- Rail 0 and load switch 8 in a state. -/
def outS (o st : Nat) : State := live.setOut o (fun y => { y with state := st })

theorem wit_RailSequence : live.runs .pw = true ∧
    bitOf ({ outS 7 oWaitUp with twin := { live.twin with echo := 128 } } : State).twin.echo 7 = true ∧ ((outS 0 oWaitUp).outp 0).state = oWaitUp ∧ (outS 0 oWaitUp).twinRole = 0 ∧
    ((outS 7 oRamp).outp 7).state = oRamp ∧
    (((outS 0 oWaitDown).setOut 0 (fun y => { y with turn := true })).outp 0).turn = true ∧
    (((outS 0 oFall).outp 0).state = oFall ∧ ((outS 0 oFall).outp 0).faultDown = false) ∧
    (((outS 0 oStuck).setOut 0 (fun y => { y with faultDown := true })).outp 0).faultDown = true := by decide +kernel

theorem wit_RailBands : live.runs .pw = true ∧
    (let s := (els (outS 7 oOn) [(Reg.RAIL_LVL 7, 900 * 2 ^ 48 + 950 * 2 ^ 32 + 1050 * 2 ^ 16 + 1100)])
     let p (mv : Nat) : State := s.put (Reg.RAIL_MV 7) (mv % 65536)
     (p 899).crossesBand 7 2 true 899 = true ∧ (p 900).crossesBand 7 2 true 900 = false ∧
      (p 949).crossesBand 7 0 true 949 = true ∧ (p 1051).crossesBand 7 1 true 1051 = true ∧
      (p 1101).crossesBand 7 3 true 1101 = true ∧
      (((p 1089).setOut 7 (fun y => { y with faultHi := true })).crossesBand 7 3 false 1089 = true)) ∧ ((outS 0 oRamp).outp 0).state = oRamp ∧ ((outS 7 oOn).outp 7).state = oOn := by
  decide +kernel

/-- Rail 0 joined to the fault domain, in a state. -/
def joinS (st : Nat) : State := els (outS 0 st) [(Reg.RAIL_CFG 0, 256)]
def fltS (st : Nat) (low driving : Bool) : State :=
  { joinS st with rail := { (joinS st).rail with fltLow := low, driving := driving } }

theorem wit_OutputFaults : live.rail.outs.length = 14 ∧ (joinS oOn).joined 0 = true ∧ (joinS oOn).rail.driving = false ∧
    (els live [(Reg.RAIL_CFG 1, 0)]).joined 1 = false := by decide +kernel

theorem wit_FaultDown : (fltS oOff true true).rail.fltLow = true ∧ (fltS oOff true true).joined 0 = true ∧
    (fltS oOff true true).rail.outs.length = 14 ∧ ((fltS oOff true true).outp 0).state = oOff ∧
    ((fltS oFault true true).outp 0).state = oFault ∧ (fltS oOn true true).runs .pw = true := by decide +kernel

theorem wit_FltLine : (live.runs .pw = true ∧ live.rail.fltLow = false) ∧
    ((fltS oFall true true).rail.driving = true ∧ (fltS oFall true true).joined 0 = true ∧
      ((fltS oFall true true).outp 0).state = oFall) ∧
    ((fltS oFault true true).rail.driving = true ∧ (fltS oFault true true).rail.fltLow = true ∧
      ∀ o, o < 14 → ((fltS oFault true true).outp o).state ≠ oWaitDown ∧ ((fltS oFault true true).outp o).state ≠ oFall) ∧
    (fltS oFault true false).rail.driving = false ∧
    lets live (wr Reg.SEQ_CLEAR 1 1) false (fun _ _ => true) = true ∧ lets live (wr Reg.SEQ_CLEAR 1 0) false (fun _ _ => true) = true ∧
    ((outS 13 oOn).outp 13).state = oOn := by decide +kernel

theorem wit_LoadSwitches : ((outS 8 oRamp).outp 8).state = oRamp ∧ ((outS 13 oOn).outp 13).state = oOn ∧
    1 * 4 > live.declaredOn 8 * 50 ∧ 0 * 4 ≤ live.declaredOn 8 * 50 ∧ (live.outp 8).loadAt = none ∧
    ((live.setOut 8 (fun y => { y with loadAt := some (2 ^ 38) })).outp 8).loadAt = some (2 ^ 38) ∧
    live.now < 2 ^ 38 + 3600 * stSecond := by decide +kernel

theorem wit_Margins : (signed 8 100 = 100 ∧ signed 8 156 = -100 ∧ signed 8 101 = 101) ∧
    ((els live [(Reg.MARG_CFG 0, 50)]).el (Reg.MARG_CFG 0) % 256 = 50) ∧
    lets live (wr (Reg.MARG_REQ 0 3) 1 0) false (fun _ _ => decide (0x4000F0 ≤ rowAddr (Reg.MARG_REQ 0 3) ∧
      rowAddr (Reg.MARG_REQ 0 3) ≤ 0x4000F3)) = true ∧
    (live.runs .pw = true ∧ (els live [(Reg.MARG_NOW 0, 5)]).el (Reg.MARG_NOW 0) ≠ (els live [(Reg.MARG_NOW 0, 5)]).margTarget 0) ∧
    ((withB [bnd .held 0 1 39 1 (2 ^ 40)]).lessee 39 = some (bnd .held 0 1 39 1 (2 ^ 40)) ∧
      ((withB [bnd .held 0 1 39 1 (2 ^ 40)]).outp ((withB [bnd .held 0 1 39 1 (2 ^ 40)]).el (Reg.MARG_CFG 0) / 256)).state ≠ oOn) := by
  decide +kernel

/-! ### Chapters 17, 18 and 19 -/

/-- WD1 counting, its window open or not, with its key armed or not. -/
def wd1 (st mode : Nat) (armed isOpen grace : Bool) : State :=
  (els live [(Reg.WD_MODE 1, mode), (Reg.WD_TASKS 1, 3), (Reg.WD_NAP_MAX 1, 10)]).setWd 1 (fun x =>
    { x with st := st, armed := armed, isOpen := isOpen, grace := grace })

theorem wit_WatchdogServices :
    lets (wd1 wdRun 1 false true false) (wr (Reg.WD_KEY 1) 2 0x5C3A) false (fun t x => t.mayService x 1) = true ∧
    lets (wd1 wdRun 1 false true false) (wr (Reg.WD_KEY 1) 2 0xA3C5) false (fun t x => t.mayService x 1) = true ∧
    lets (wd1 wdRun 1 false true false) (wr (Reg.WD_KEY 1) 2 1) false (fun t x => t.mayService x 1) = true ∧
    lets (wd1 wdRun 2 false true false) (wr (Reg.WD_CHECKIN 1) 1 1) false (fun t x => t.mayService x 1) = true ∧
    lets (wd1 wdRun 1 true true false) (wr (Reg.WD_NAP 1) 4 1) false (fun t x => t.mayService x 1) = true ∧
    (0x1D0100 ≤ Reg.WD_KEY 1 ∧ Reg.WD_KEY 1 < 0x1D0400 ∧ Reg.WD_KEY 1 % 256 = 8 ∧ Reg.WD_CHECKIN 1 % 256 = 9 ∧
      Reg.WD_NAP 1 % 256 = 10 ∧ wdOfAddr (Reg.WD_NAP 1) = 1) ∧
    ((wd1 wdRun 1 true true false).wdCounts 1 = true ∧ (wd1 wdRun 1 true true false).el (Reg.WD_MODE 1) = 1 ∧
      ((wd1 wdRun 1 true true false).wdOf 1).armed = true ∧ ((wd1 wdRun 1 true true false).wdOf 1).isOpen = true ∧
      10 ≤ (wd1 wdRun 1 true true false).el (Reg.WD_NAP_MAX 1)) ∧
    ((wd1 wdRun 1 true false false).wdOf 1).isOpen = false ∧
    ((wd1 wdRun 2 false true false).el (Reg.WD_MODE 1) = 2 ∧ bitOf ((wd1 wdRun 2 false true false).el (Reg.WD_TASKS 1)) 1 = true ∧
      setBit 0 1 true &&& 3 ≠ 3 ∧ setBit 1 1 true &&& 3 = 3) := by decide +kernel

theorem wit_WatchdogViolations : (wd1 0x0F 1 false true false).wdCounts 1 = false ∧ (wd1 wdRun 1 false true false).wdCounts 1 = true ∧
    (wd1 wdRun 1 false true false).wd.length = 3 ∧ ((wd1 wdWarned 1 false true false).wdOf 1).st = wdWarned ∧
    (wd1 wdRun 1 false true false).el (Reg.WD_WARNS 1) < 2 ^ 32 - 1 := by decide +kernel

theorem wit_WatchdogTrips : (wd1 wdWarned 1 false true false).wd.length = 3 ∧
    (wd1 wdWarned 1 false true false).el (Reg.WD_TRIPS 1) < 2 ^ 32 - 1 := by decide +kernel

theorem wit_WatchdogTimers : ((wd1 wdRun 1 false true false).wdOf 1).grace = false ∧
    ((wd1 wdRun 1 false true true).wdOf 1).grace = true ∧ (wd1 wdRun 1 false false false).wdCounts 1 = true ∧
    ((wd1 wdRun 1 false false false).wdOf 1).isOpen = false ∧ ((wd1 wdRun 1 false false false).wdOf 1).held = false ∧
    (((wd1 wdRun 1 false false false).setWd 1 (fun x => { x with held := true })).wdOf 1).held = true ∧
    (live.mainPower = true ∧ (live.wdOf 1).st ≠ wdTripped ∧ live.runs .cr = true) ∧
    (wdSound wdRun (255 - wdRun) = true ∧ wdSound wdRun wdRun = false) ∧
    ((live.setWd 1 (fun x => { x with rsto := true })).wdOf 1).rsto = true := by decide +kernel

/-- Source 4 asserted; a chain sealed. -/
def tamperS (src : Nat) : State := els live [(Reg.TMP_ACTIVE, 2 ^ src)]

theorem wit_TamperSources : live.tamperSensed 4 = true ∧ (tamperS 4).tamperIs 4 = true ∧ live.tamperIs 4 = false ∧
    live.tmp.testing ≠ some 4 ∧ live.bk.ring.length ≤ 8 ∧
    live.ringAtEdge (fun x => decide (4 < x.source)) = false ∧ ¬ bitOf 16 3 = true := by decide +kernel

theorem wit_TamperCare :
    lets (tamperS 4) (wr Reg.TMP_CLEAR 4 16) false (fun t _ => t.el Reg.TMP_ACTIVE &&& 16 != 0) = true ∧
    lets (els live [(Reg.LOG_STATE 0, 256)]) (wr Reg.TMP_CLEAR 4 16) false (fun t _ => t.el Reg.TMP_ACTIVE &&& 16 == 0 &&
      t.sealed 0) = true ∧
    lets live (wr Reg.TMP_CLEAR 4 16) false (fun t _ => t.el Reg.TMP_ACTIVE &&& 16 == 0 && !t.sealed 0) = true ∧
    ([(4, 1, 1, 0, 2 ^ 40)] : List (Nat × Nat × Nat × Nat × Nat)).find?
      (fun h => h.1 == 4 && h.2.2.1 != 0 && h.2.2.2.2 != 0) = some (4, 1, 1, 0, 2 ^ 40) ∧
    (live.mainPower = true ∧ live.boot.firmware = true ∧ (live.tamperOn 9 1).votedOut = false ∧
      ({ live with boot := { live.boot with firmware := false } } : State).boot.firmware = false) := by decide +kernel

theorem wit_TamperTest :
    lets live (wr Reg.TMP_TEST 1 13) false (fun _ _ => true) = true ∧
    lets (tamperS 12) (wr Reg.TMP_TEST 1 12) false (fun t _ => t.tamperIs 12) = true ∧
    lets live (wr Reg.TMP_TEST 1 12) false (fun t _ => !t.tamperIs 12 && t.tmp.testing == none) = true ∧
    ({ live with tmp := { live.tmp with testing := some 4 } } : State).tmp.testing = some 4 := by decide +kernel

def facS (state : Nat) (l : List (Nat × Nat)) (at_ : Option Nat) : State :=
  { els live ([(Reg.STRAPS, 2), (Reg.FAC_STATE, state)] ++ l) with
    tmp := { live.tmp with challengeAt := at_, lockoutUntil := 2 ^ 30 } }

theorem wit_FieldAccess :
    ((facS 0 [] none).mainPower = true ∧ (facS 0 [] none).facEnabled = true ∧ (facS 0 [] none).el Reg.FAC_STATE ≠ 2 ∧
      (facS 0 [] none).tmp.lockoutUntil ≤ (facS 0 [] none).now ∧ ((facS 0 [] none).tamperSet 8 1).entropyBad = false) ∧
    ((facS 0 [(Reg.PROV_STATE, 128)] none).tamperSet 8 1).entropyBad = true ∧
    ((facS 1 [(Reg.FAC_KEY, 1), (Reg.FAC_UNTIL, 2 ^ 39)] (some 5)).el Reg.FAC_KEY ≠ 0 ∧
      (facS 1 [(Reg.FAC_KEY, 1), (Reg.FAC_UNTIL, 2 ^ 39)] (some 5)).now < 2 ^ 39) ∧
    ((facS 1 [] (some (1024 * 2 ^ 28))).tmp.challengeAt = some (1024 * 2 ^ 28) ∧
      (facS 1 [] none).now < 1024 * 2 ^ 28 + 60 * stSecond ∧ 5 + 60 * stSecond ≤ (facS 1 [] none).now) ∧
    (facS 1 [] (some 5)).el Reg.FAC_UNTIL ≤ (facS 1 [] (some 5)).now ∧ (facS 1 [] (some 5)).tmp.lockoutUntil ≠ 0 ∧
    (facS 2 [] none).el Reg.FAC_STATE = 2 := by decide +kernel

def logS : State := { live with log := { live.log with waiting := [⟨0, 0, 1, 0, 0, [[]], .nothing⟩] } }
def ringF (logged : Bool) : State := { live with bk := { live.bk with ring := [⟨logged, false, true, 0, 4, 9, 0, 0⟩] } }

theorem wit_LogQueue : (logS.runs .cr = true ∧ logS.boot.firmware = true ∧ logS.crossing .nv 11 = .serve ∧ logS.crossing .sc 9 = .serve ∧
      logS.el Reg.K0_USES ≠ 2 ^ 32 - 1 ∧ logS.rep.lostCopies.getD 0 0 < 2 ∧
      logS.log.waiting = [⟨0, 0, 1, 0, 0, [[]], .nothing⟩]) ∧
    (ringF true).bk.ring = [⟨true, false, true, 0, 4, 9, 0, 0⟩] ∧ (ringF false).bk.ring = [⟨false, false, true, 0, 4, 9, 0, 0⟩] ∧
    ((ringF true).ringAtEdge (fun _ => true) = false ∧
      (State.ringAtEdge { live with bk := { live.bk with ring := [⟨true, true, true, live.clk.v * 8192, 4, 9, 0, 0⟩] } } (fun _ => true) = true)) ∧
    lets live (wr (Reg.LOG_ARCHIVE 0) 8 0) false (fun _ _ => rowAddr (Reg.LOG_ARCHIVE 0) == 0x500069) = true := by decide +kernel

theorem wit_LogAppends : live.sealed 0 = false ∧ live.el (Reg.LOG_USED 0) + 1 < live.logLimit 0 - 1 ∧
    (els live [(Reg.LOG_HEAD 0, 5 * 2 ^ 256 + 9)]).headSeq 0 = 5 := by decide +kernel

/-- L1's state at an evaluation that reads nothing but its canaries. -/
def l1At (canary : Nat) : State :=
  let t := ((live.readTs []).add 4 Reg.CANARY canary).l1Rules (canary != 0)
  t.safety 1 t.l1Narrow

theorem wit_CoreVoltageLoop : live.runs .fb = true ∧ (l1At 0).loopHolds 1 = false ∧ (l1At 1).loopHolds 1 = false ∧
    ((l1At 0).marginBelow [] ((l1At 0).el Reg.L1_MARGIN) = false ∧ live.lehr.calm + 1 < 100) ∧
    99 ≤ ({ live with lehr := { live.lehr with calm := 99 } } : State).lehr.calm := by decide +kernel

theorem wit_LoopsStayInWindow : (750 ≤ live.lehr.vcore ∧ live.lehr.vcore ≤ 1000 ∧ live.lehr.s3Top ≤ 1000) ∧
    (10 ≤ live.lehr.th ∧ live.lehr.th ≤ 60) := by decide +kernel

theorem wit_DroopLoop : live.runs .fb = true ∧ live.loopHolds 2 = false ∧ live.lehr.quiet < 63 ∧
    63 ≤ ({ live with lehr := { live.lehr with quiet := 63 } } : State).lehr.quiet ∧ 256 < 2 * 256 := by decide +kernel

def vmonS (b : List (Nat × Bool)) : State :=
  { els live [(Reg.VMON_LIM 0, 900 * 2 ^ 32 + 1000)] with lehr := { live.lehr with bands := b } }

theorem wit_MonitorsAndInputs : ((vmonS []).mainPower = true ∧ (vmonS []).el (Reg.VMON_LIM 0) / 2 ^ 32 = 900 ∧
      (vmonS []).el (Reg.VMON_LIM 0) % 2 ^ 32 = 1000 ∧ 899 < 900 ∧ 1000 < 1001 ∧ (0, false) ∉ (vmonS []).lehr.bands) ∧
    ((0, false) ∈ (vmonS [(0, false)]).lehr.bands ∧ 900 * 101 ≤ 909 * 100) ∧
    ((live.loopHolds 5 = false ∧ (5, 1) ∉ live.lehr.lost) ∧
      (State.loopHolds { live with lehr := { live.lehr with lost := [(5, 1)] } } 5 = true)) ∧
    ((1, 0x10) ∉ live.lehr.lost ∧ State.loopHolds { live with lehr := { live.lehr with lost := [(1, 0x10)] } } 1 = false) := by
  decide +kernel

/-! ### Chapters 20, 21 and 22 -/

def withRep (f : RepSt → RepSt) : State := { live with rep := f live.rep }
/-- Sixteen rows of the record memory repaired: no spare is left. -/
def repaired16 : List (Nat × Nat) := (List.range 16).map (fun k => (1, k))

theorem wit_ScrubPasses : live.memThere 1 = true ∧ live.memThere 6 = true ∧ live.now < 2 ^ 64 ∧
    ([7] ∈ (withRep (fun x => { x with passes := [(1, [7])] })).passesOf 1) ∧ (1, 7) ∉ live.rep.unrepaired := by decide +kernel

theorem wit_Repairs :
    ((withRep (fun x => { x with seeds := [(1, 99)], fresh := repaired16 })).rep.seeds.find? (fun p => p.1 == 1) = some (1, 99) ∧
      (withRep (fun x => { x with seeds := [(1, 99)], fresh := repaired16 })).memThere 1 = true) ∧
    (live.runs .cr = true ∧ live.boot.firmware = true ∧ live.crossing .nv 11 = .serve ∧ live.isReadOnly 11 = false ∧
      live.mainPower = true ∧ 191 < memBlocks 8) := by decide +kernel

/-- With sixteen rows repaired no spare is free, whatever the factory used; with none repaired some are, and so are blocks. -/
theorem wit_Repairs_spares :
    (withRep (fun x => { x with seeds := [(1, 99)], fresh := repaired16 })).repFree 1 = 0 ∧
    (withRep (fun x => { x with seeds := [(1, 99)] })).repFree 1 ≠ 0 ∧ live.repFree 8 ≠ 0 := by
  have h1 : (withRep (fun x => { x with seeds := [(1, 99)], fresh := repaired16 })).repField 1 = 16 := by decide +kernel
  have h2 : (withRep (fun x => { x with seeds := [(1, 99)] })).repField 1 = 0 := by decide +kernel
  have h3 : live.repField 8 = 0 := by decide +kernel
  have f1 : repFactory 1 < 5 := by
    have h : repFactory 1 = Config.atManufacture (Reg.REPAIR_CLASS 0) % 5 := rfl
    omega
  have f8 : repFactory 8 < 7 := by
    have h : repFactory 8 = Config.atManufacture (Reg.REPAIR_CLASS 7) % 7 := rfl
    omega
  have d1 : repDesign 1 = 16 := rfl
  have d8 : repDesign 8 = 24 := rfl
  have n1 : repShared 1 = false := rfl
  refine ⟨?_, ?_, ?_⟩
  · simp only [State.repFree, State.repUsed, h1, d1, n1]; simp
  · simp only [State.repFree, State.repUsed, h2, d1, n1]; simp; omega
  · simp only [State.repFree, State.repUsed, h3, d8]; split <;> omega

theorem wit_UncorrectableErrors : EccMem (.record 4) = 1 ∧ live.memThere 1 = true ∧ live.memThere 8 = true ∧
    (ringS 1 none false).recOf 4 = some (rec0 false) ∧
    goes ((((ringS 1 none false).eccLost_ 1).eccEffect (.record 4)).seed 1 0) (wr Reg.DOORBELL 2 130) 2 .q false false
      (fun _ _ => true) = true := by decide +kernel

/-- An image of one block, sound; slot B holds it complete under a session of CID 0, slot A runs. -/
def img (security : Nat) : Image :=
  { layout := true, len := 128, version := 1, security := security, stepLo := 0, stepHi := 255, features := 0, capability := 0
    twinMin := 0, schema := 1, migrates := 1 }
def fwS (stA stB sess : Nat) (x : ImageSlot) : State :=
  { els live [(Reg.BOOT_SLOT, 1), (Reg.FW_FLOOR, 2), (Reg.FW_SLOT_INFO 0, stA * 2 ^ 184), (Reg.FW_SLOT_INFO 1, stB * 2 ^ 184),
      (Reg.FW_SESSION, sess * 2 ^ 120)] with
    fw := { live.fw with slotA := ⟨some (img 3), []⟩, slotB := x, since := some 0 } }
def fwB : State := fwS slTrial slWriting 2 ⟨some (img 3), [(0, [])]⟩
def imRq (slot block n : Nat) : Req := ask0 (numToBytes 1 slot ++ numToBytes 2 block ++ numToBytes 2 n ++ List.replicate n 0#8)

theorem wit_ImageRequests :
    (∀ b ∈ [0, 0xFFF0, 0xFFF1, 0xFFF2, 0xFFF3, 0xFFF4], goes fwB (imRq 2 b 1) 0x0D .c false false (fun t w =>
      t.isSa w && imFormed (imRq 2 b 1) && imInRange (imRq 2 b 1) && imBlock (imRq 2 b 1) == b && t.crossing .nv 11 == .serve &&
        t.sessSlot != 0 && t.sessOwner == 0) = true) ∧
    (fwS slConfirmed slConfirmed 0 ⟨some (img 3), []⟩).sessSlot = 0 := by decide +kernel

/-- Data of 1,000 bytes: block 1 is the last, of 488 bytes. -/
def long : Image := { img 3 with len := 1000 }

theorem wit_ImageSession :
    ((fwS slTrial slInvalid 0 ⟨none, []⟩).running ≠ some 1 ∧ (fwS slTrial slInvalid 0 ⟨none, []⟩).sessSlot = 0 ∧
      (fwS slTrial slInvalid 0 ⟨none, []⟩).isReadOnly 9 = false ∧ (fwS slTrial slInvalid 0 ⟨none, []⟩).sealed 0 = false ∧
      (fwS slTrial slInvalid 0 ⟨none, []⟩).now < 2 ^ 64) ∧ fwB.running = some 0 ∧ fwB.ownsSession 0 0 = false ∧
    fwB.ownsSession 0 1 = true ∧ ((fwS slTrial slWriting 2 ⟨some long, []⟩).imageOf 1).hdr = some long ∧
    (1 < long.blocks ∧ long.blockLen 1 = 488) ∧ fwB.sessSlot = 1 + 1 ∧ fwB.runs .cr = true := by decide +kernel

theorem wit_FinishVerifies : fwB.hdrOf 1 = some (img 3) ∧ (fwB.imageOf 1).complete = true ∧ fwB.sealed 0 = false ∧
    (img 3).sound = true ∧ 1 ∉ fwB.rep.badSlots ∧ fwB.el Reg.FW_FLOOR ≤ (img 3).security ∧ fwB.now < 2 ^ 64 ∧
    (img 3).version < 2 ^ 32 ∧ (64 < (img 65).security ∧ (img 1).security < fwB.el Reg.FW_FLOOR) := by decide +kernel

theorem wit_TrialAndConfirm :
    ((fwS slConfirmed slVerified 0 ⟨some (img 3), []⟩).imageActivate 0 1 true).2 = .ok ∧
    (fwS slConfirmed slVerified 0 ⟨some (img 3), []⟩).slotState 1 = slVerified ∧
    ((fwS slConfirmed slConfirmed 0 ⟨some (img 3), []⟩).imageActivate 0 1 true).2 = .ok ∧
    (fwS slConfirmed slConfirmed 0 ⟨some (img 3), []⟩).slotState 1 = slConfirmed ∧ fwB.fw.pendingFloor = none ∧
    (fwB.runs .cr = true ∧ fwB.boot.firmware = true ∧ fwB.full = true ∧ fwB.sealed 0 = false ∧ fwB.running = some 0 ∧
      fwB.fw.since = some 0 ∧ fwB.hdrOf 0 = some (img 3) ∧ fwB.slotState 0 = slTrial) := by decide +kernel

/-- A half of a pair: its role, TWIN_STATE, with a session key. -/
def half (role st : Nat) (l : List (Nat × Nat)) (f : TwinSt → TwinSt) : State :=
  { els live ([(Reg.STRAPS, role * 4), (Reg.TWIN_STATE, st), (Reg.TWIN_PEER_ID, 77)] ++ l) with
    twin := f { live.twin with key := some 5, rx := 3 } }
def fr : Bond := ⟨true, 4⟩

theorem wit_BondSends :
    (let s := half 1 2 [] (fun x => { x with helloing := true })
     s.bondServed = true ∧ s.twin.helloing = true ∧ s.crossing .sc 9 = .serve ∧ s.el Reg.K0_USES ≠ 2 ^ 32 - 1 ∧
      s.rep.lostCopies.getD 0 0 < 2 ∧ s.twinIs 2 = true) ∧
    ((half 2 3 [] id).bondRuns = true ∧ (half 2 3 [] id).twin.key = some 5 ∧ (half 2 3 [] id).twinTogether = true) ∧
    ((half 1 3 [] id).twinIs 2 = false ∧ (half 1 3 [] id).twin.digestFor ≠ (half 1 3 [] id).now) := by decide +kernel

theorem wit_BondDrops : (half 1 3 [] id).bondRuns = true ∧ (half 1 3 [] id).bondTakes ⟨false, 4⟩ = false ∧
    (half 1 3 [] id).bondTakes ⟨true, 3⟩ = false ∧ (half 1 3 [] (fun x => { x with key := none })).bondTakes fr = false := by decide +kernel

/-- A HELLO of a role, with a capability and the least it asks of its peer. -/
def hello (role cap least : Nat) : Hello := ⟨role, cap, least, 0, 0, 0, true, 0, 0⟩
/-- This half runs an image with a capability of 1 that asks for at least 1. -/
def halfI : State :=
  { half 1 2 [(Reg.BOOT_SLOT, 1)] id with fw := { live.fw with slotA := ⟨some { img 3 with capability := 1, twinMin := 1 }, []⟩ } }

theorem wit_BondHello : (halfI.bondServed = true ∧ halfI.bondRuns = true ∧ halfI.crossing .sc 9 = .serve ∧ fr.sound = true) ∧
    (halfI.twin.helloing = false ∧ halfI.twin.eph = none ∧ halfI.k0Signs = true ∧
      ({ halfI with twin := { halfI.twin with helloing := true, eph := some 5 } } : State).twin.eph = some 5) ∧
    (halfI.twinRole = 1 ∧ (hello 1 1 1).role = 1 ∧ (hello 2 1 1).role ≠ 1) ∧
    (halfI.ownCap < (hello 2 1 2).least ∧ (hello 2 1 1).least ≤ halfI.ownCap ∧ (hello 2 0 1).cap < halfI.ownLeast ∧
      halfI.ownLeast ≤ (hello 2 1 1).cap) := by decide +kernel

theorem wit_RailEchoes : (half 2 3 [] id).twinRole ≠ 1 ∧
    (let s := (half 1 3 [(Reg.RES_CFG 25, 2 ^ 73)] (fun x => { x with echo := 2 })).setOut 1 (fun y =>
       { y with state := oWaitUp, upPassed := true })
     s.twinRole = 1 ∧ s.runs .pw = true ∧
      s.sharedRails.filter (fun x => (s.outp x).state == oWaitUp && (s.outp x).upPassed && bitOf s.twin.echo x) = [1]) := by
  decide +kernel

theorem wit_BondHeartbeats : (half 1 3 [] id).bondRuns = true ∧ (half 1 3 [] id).bondTakes fr = true ∧
    (half 1 3 [] id).twin.helloing = false ∧ (half 1 3 [] id).twin.misses < 2 ∧
    2 ≤ (half 1 3 [] (fun x => { x with misses := 2 })).twin.misses ∧
    (half 1 3 [(Reg.REF_STATE, 2), (Reg.REF_ACTIVE, 1)] id).twinReady = true ∧ (half 1 3 [] id).twinReady = false := by decide +kernel

theorem wit_PairSplits : (half 2 3 [] id).el Reg.TWIN_STATE ≠ 5 ∧ (half 2 3 [] id).twinRole = 2 := by decide +kernel

theorem wit_SharedRails : (half 2 5 [] id).twinTogether = false ∧ (half 2 5 [] id).twinRole = 2 ∧ (half 1 6 [] id).twinRole = 1 ∧
    (half 1 6 [(Reg.RES_CFG 25, 2 ^ 73)] id).sharedRails = [1] := by decide +kernel

theorem wit_SharedTime :
    ((half 1 3 [] id).bondRuns = true ∧ (half 1 3 [] id).runs .fb = true ∧ (half 1 3 [] id).twinTogether = true ∧
      (half 1 3 [] id).bondTakes fr = true) ∧
    (((half 1 3 [(Reg.TWIN_LEADER, 1)] (fun x => { x with nextLeader := 1 })).bondTook fr).applyLeader.el Reg.TWIN_LEADER ≠ 3 - 1) ∧
    (((half 2 3 [(Reg.TWIN_LEADER, 1)] (fun x => { x with nextLeader := 1 })).bondTook fr).applyLeader.el Reg.TWIN_LEADER = 3 - 2) := by
  decide +kernel

def digS (st own : Nat) : State :=
  half 1 st [(Reg.TWIN_DIGEST_AT, 2 ^ 37), (Reg.TWIN_DIGEST, own)] (fun x => { x with ownDigest := true })

theorem wit_DigestsAndRecords : (∀ k ∈ [3, 4], (digS k 9).bondServed = true ∧ (digS k 9).bondTakes fr = true ∧
      (digS k 9).el Reg.TWIN_DIGEST_AT = 2 ^ 37 ∧ (digS k 9).twin.ownDigest = true ∧ (digS k 9).twinIs k = true ∧
      (digS k 9).twinIs 2 = false ∧ (digS k 9).el Reg.TWIN_DIGEST = 9 ∧ (digS k 9).twinTogether = true) ∧
    8 % 2 ^ 256 ≠ 9 := by decide +kernel

def slew (v : Nat) : List (Nat × Nat) := [(Reg.SLEW_PPM, v)]
def mir (s : State) (v : Nat) : Commit := s.twinCommit (slew v) 0 0

theorem wit_PairRequests :
    (let t := (half 1 3 [] id).bondTook fr
     t.twinIs 3 = true ∧ (slew 200).filter (fun p => t.twinElement p.1) = slew 200 ∧ t.twinViols (mir t 200) = [] ∧
      (mir t 200).items ≠ [] ∧ t.twinViols (mir t 60000) ≠ []) ∧
    (let t := (half 1 4 [] id).bondTook fr
     t.twinIs 4 = true ∧ t.twinTied = true ∧ t.tim.step = none ∧ t.sealed 0 = false ∧
      stepRangeBad (2 ^ 38) 1000 = false ∧ twinAddrs.contains Reg.SLEW_PPM = true ∧
      t.stagedEl Reg.SLEW_PPM != (t.wholeItem (Reg.SLEW_PPM, 200)).2) ∧
    (half 1 4 [(Reg.LOG_STATE 0, 256)] id).sealed 0 = true ∧
    lets (half 1 4 [] id) (wr Reg.TWIN_RESOLVE 1 1) false (fun t _ => t.twinIs 4 && t.twinRole == 1) = true ∧
    lets (half 2 4 [] id) (wr Reg.TWIN_RESOLVE 1 1) false (fun t _ => t.twinIs 4 && t.twinRole != 1) = true ∧
    lets (half 1 3 [] id) (wr Reg.TWIN_RESOLVE 1 2) false (fun t _ => !t.twinIs 4) = true ∧
    lets (half 1 3 [] id) (wr Reg.TWIN_RESOLVE 1 0) false (fun _ _ => true) = true := by decide +kernel

/-! ### Well-formed commands: a term that each check refuses -/

/-- A READ whose every field lies in its width. -/
def fit0 : Req := { ask0 [] with tr := { (ask0 []).tr with tag := List.replicate 16 0 } }
def eth0 : Eth := (ask0 []).eth
def tr0 : Trailer := fit0.tr

theorem smoke_request : wellFormed (.read fit0) = true ∧
    wellFormed (.read { fit0 with udp := 2 ^ 16 }) = false ∧ wellFormed (.read { fit0 with version := 256 }) = false ∧
    wellFormed (.read { fit0 with cidField := 2 ^ 16 }) = false ∧ wellFormed (.read { fit0 with reqNo := 2 ^ 32 }) = false ∧
    wellFormed (.read { fit0 with bodyLen := 2 ^ 16 }) = false ∧ wellFormed (.read { fit0 with flags := 256 }) = false ∧
    wellFormed (.read { fit0 with tail := 2 ^ 48 }) = false := by decide +kernel

theorem smoke_trailer : wellFormed (.read { fit0 with tr := { tr0 with stamp := 2 ^ 64 } }) = false ∧
    wellFormed (.read { fit0 with tr := { tr0 with ctr := 2 ^ 32 } }) = false ∧
    wellFormed (.read { fit0 with tr := { tr0 with gen := 2 ^ 16 } }) = false ∧
    wellFormed (.read { fit0 with tr := { tr0 with dir := 256 } }) = false ∧
    wellFormed (.read { fit0 with tr := { tr0 with epoch := 256 } }) = false ∧
    wellFormed (.read { fit0 with tr := { tr0 with tag := [] } }) = false := by decide +kernel

theorem smoke_ethernet : wellFormed (.ptpDelayReqReceived eth0 0) = true ∧
    wellFormed (.ptpDelayReqReceived { eth0 with len := 2 ^ 16 } 0) = false ∧
    wellFormed (.ptpDelayReqReceived { eth0 with etherType := 2 ^ 16 } 0) = false ∧
    wellFormed (.ptpDelayReqReceived { eth0 with dest := 2 ^ 48 } 0) = false ∧
    wellFormed (.ptpDelayReqReceived { eth0 with ip := 2 ^ 128 } 0) = false ∧
    wellFormed (.ptpDelayReqReceived { eth0 with port := 2 ^ 16 } 0) = false ∧
    wellFormed (.ptpDelayReqReceived { eth0 with udpLen := 2 ^ 16 } 0) = false ∧
    wellFormed (.ptpDelayReqReceived eth0 (2 ^ 80)) = false := by decide +kernel

theorem smoke_numbers : wellFormed (.leaseExpiry 1024 0) = false ∧ wellFormed (.leaseExpiry 0 (2 ^ 16)) = false ∧
    wellFormed (.timerFire 0 32) = false ∧ wellFormed (.planEntryFire 64 0) = false ∧
    wellFormed (.watchInterval 0 4 false) = false ∧ wellFormed (.vinOvervoltage (2 ^ 16)) = false ∧
    wellFormed (.pwNightWake (2 ^ 63) 0 0) = false ∧ wellFormed (.l3Evaluate (2 ^ 64)) = false ∧
    wellFormed (.tamperAssert 0 256) = false ∧ wellFormed (.unknownOpcode fit0 256) = false ∧
    wellFormed (.hostSend 128 1 true) = false ∧ wellFormed (.hostSend 0 256 true) = false ∧
    wellFormed (.claimTimeout 0 (2 ^ 16)) = false ∧ wellFormed (.wdStateIllegal 0 256 0) = false ∧
    wellFormed (.bkCopyReload 0 0 (some (2 ^ 64))) = false ∧ wellFormed (.facSignature (2 ^ 256) 0) = false ∧
    wellFormed (.nmeaSentence true 0 0 0 64) = false ∧ wellFormed (.evtRawTransition 0 true true (2 ^ 64)) = false := by
  decide +kernel

theorem smoke_frames : wellFormed (.canSegmentReceived true 2 0 0 0 0 true true 0 1 4) = false ∧
    wellFormed (.canSegmentReceived true 0 128 0 0 0 true true 0 1 4) = false ∧
    wellFormed (.canSegmentReceived true 0 0 0 0 0 true true 64 1 4) = false ∧
    wellFormed (.neighbourDiscoveryFrame eth0 true (2 ^ 128) 0 0) = false ∧
    wellFormed (.neighbourDiscoveryFrame eth0 true 0 0 (2 ^ 48)) = false ∧
    wellFormed (.twinDigest ⟨true, 2 ^ 32⟩ 0 0) = false ∧ wellFormed (.twinDigest ⟨true, 0⟩ 0 (2 ^ 256)) = false ∧
    wellFormed (.twinValues ⟨true, 0⟩ [(2 ^ 24, 0)]) = false := by decide +kernel

theorem smoke_hello : wellFormed (.twinHello fr (hello 1 0 0)) = true ∧
    wellFormed (.twinHello fr (hello 256 0 0)) = false ∧ wellFormed (.twinHello fr (hello 1 (2 ^ 32) 0)) = false ∧
    wellFormed (.twinHello fr (hello 1 0 (2 ^ 32))) = false ∧ wellFormed (.twinHello fr { hello 1 0 0 with uid := 2 ^ 128 }) = false ∧
    wellFormed (.twinHello fr { hello 1 0 0 with identity := 2 ^ 512 }) = false ∧
    wellFormed (.twinHello fr { hello 1 0 0 with eph := 2 ^ 512 }) = false ∧
    wellFormed (.twinHello fr { hello 1 0 0 with sigR := 2 ^ 256 }) = false ∧
    wellFormed (.twinHello fr { hello 1 0 0 with sigS := 2 ^ 256 }) = false := by decide +kernel

theorem smoke_objects : wellFormed (.eccUncorrectable (.element (2 ^ 24)) 0 false none 0) = false ∧
    wellFormed (.eccUncorrectable (.entry 4 0) 0 false none 0) = false ∧
    wellFormed (.eccUncorrectable (.stream 511 0 0) 0 false none 0) = false ∧
    wellFormed (.eccUncorrectable .core (2 ^ 32) false none 0) = false := by decide +kernel

/-! ### Small steps, against the spec's text -/

/-- The table gives no row bits. -/
theorem test_no_word_spells_a_command : decodeTableWord 0 0 = none ∧ State.reset.withFetchWord 16 5 = State.reset := ⟨rfl, rfl⟩

def after (s : State) (c : Instr) : State := match exec c s with | .next t => t | _ => s

/-- R492: the inbound queue takes a frame; R496: a frame beyond the four is dropped, counted, with ERR. -/
theorem test_host_queue : (after live (.hostSend 8 1 true)).port.hostIn = 1 ∧
    (after (hosted 4 [] 0) (.hostSend 8 1 true)).el Reg.HP_DROPPED = 1 ∧ (after (hosted 4 [] 0) (.hostSend 8 1 true)).port.hostErr = true := by
  decide +kernel

/-- R470: a first frame of two stays in the queue; its second and last empties it. -/
theorem test_can_frames : (after (canMsgs 0 []) .canFrameTransmitted).port.canTx.length = 1 ∧
    (after (canMsgs 1 []) .canFrameTransmitted).port.canTx = [] := by decide +kernel

/-- R468: the smallest data length codes that hold 9, 13, 33 and 49 bytes. -/
theorem test_can_dlc : canDlc 8 = 8 ∧ canDlc 9 = 12 ∧ canDlc 13 = 16 ∧ canDlc 33 = 48 ∧ canDlc 49 = 64 := by decide +kernel

/-- R634 and R636: a first violation warns; a second one trips with its cause. -/
theorem test_watchdog : ((after (wd1 wdRun 1 false true false) (.wdPeriodEnd 1)).wdOf 1).st = wdWarned ∧
    ((after (wd1 wdWarned 1 false true false) (.wdPeriodEnd 1)).wdOf 1).st = wdTripped ∧
    ((after (wd1 wdWarned 1 false true false) (.wdPeriodEnd 1)).wdOf 1).cause = 1 := by decide +kernel

/-- R562: VIN above VSYS + 1 V ends NIGHT; a cold battery goes to COLD; CV reached ends BULK. -/
theorem test_charge : (after (chgS chgNight 13500 12000 2000) (.chargeTransition 13500 12000 2000 false 0 false)).chg = chgBulk ∧
    (after (chgS chgBulk 20000 12000 2000) (.chargeTransition 20000 12000 (-3001) false 0 false)).chg = chgCold ∧
    (after (chgS chgBulk 20000 12000 2000) (.chargeTransition 20000 14490 2000 false 5000 false)).chg = chgAbsorb := by decide +kernel

/-- R552: above 62 V the converter stops and the charger is in FAULT, cause 0x04. -/
theorem test_overvoltage : (after (chgS chgBulk 20000 12000 2000) (.vinOvervoltage 62001)).chg = chgFault ∧
    (after (chgS chgBulk 20000 12000 2000) (.vinOvervoltage 62001)).el Reg.CHG_FAULT = 4 ∧
    (after (chgS chgBulk 20000 12000 2000) (.vinOvervoltage 62000)).chg = chgBulk := by decide +kernel

/-- R592: a ramp that comes good is ON; one that does not is a fault, cause 0x03. -/
theorem test_rail : ((after (outS 0 oRamp) (.rampTimeout 0)).outp 0).cause = 3 ∧
    ((after (outS 0 oStuck) (.railOffReached 0)).outp 0).state = oOff := by decide +kernel

/-- R655, R656: TMP_ACTIVE follows the source, TMP_STICKY keeps it. -/
theorem test_tamper : (after live (.tamperAssert 4 9)).el Reg.TMP_STICKY &&& 16 = 16 ∧
    (after (after live (.tamperAssert 4 9)) (.tamperRelease 4)).el Reg.TMP_ACTIVE = 0 ∧
    (after (after live (.tamperAssert 4 9)) (.tamperRelease 4)).el Reg.TMP_STICKY = 16 := by decide +kernel

/-- R546: a zeroize leaves every slot at its next generation and no session. -/
theorem test_zeroize : (live.zeroize 3 0xFF 0).el (Reg.KEY_STATE 0) = 0 ∧ (live.zeroize 3 0xFF 0).el (Reg.KEY_GEN 0) = 2 ∧
    (live.zeroize 3 0xFF 0).el Reg.AUTH_EPOCH = 1024 * 2 ^ 28 := by decide +kernel

/-- R752: the third miss splits a joined pair. -/
theorem test_link_lost : (after (half 1 3 [] (fun x => { x with misses := 1 })) .twinHeartbeatMiss).el Reg.TWIN_STATE = 3 ∧
    (after (half 1 3 [] (fun x => { x with misses := 2 })) .twinHeartbeatMiss).el Reg.TWIN_STATE = 5 := by decide +kernel

/-- R751: a counter that repeats is dropped and counted. -/
theorem test_bond_replay : (after (half 1 3 [] id) (.twinDigest ⟨true, 3⟩ 0 0)).el Reg.TWIN_LINK_ERR = 1 ∧
    (after (half 1 3 [] id) (.twinDigest ⟨true, 4⟩ 0 0)).el Reg.TWIN_LINK_ERR = 0 := by decide +kernel

/-- R690: a canary error lowers L2's threshold by 4, from 30 to 26. -/
theorem test_droop : (after { live with lehr := { live.lehr with th := 30 } } (.l2Evaluate true 0 256)).lehr.th = 26 := by
  decide +kernel

/-- R575: 2.05 V per cell of lead-acid is a state of charge of 50 %, 2.03 V one of 35 %. -/
theorem test_rest_voltage : (after (chgS chgRest 0 12000 2000) (.socRestCorrection 12300)).el Reg.SOC = 500 ∧
    (after (chgS chgRest 0 12000 2000) (.socRestCorrection 12180)).el Reg.SOC = 350 := by decide +kernel

/-- R248, R541: ECHO, unprovisioned, answers the station time and the service mode, under opcode 0x8E and the request's number,
with a zero trailer. -/
theorem test_echo : (match (after (els live [(Reg.KEY_STATE 0, 0)]) (.echo { ask0 [] with tr := Trailer.zero })).port.hostOut with
      | [.response _ _ _ op _ n st _ b t] =>
        op == 0x8E && n == 7 && st == 0 && b == numToBytes 8 (1024 * 2 ^ 28) ++ numToBytes 1 0 && t == Trailer.zero
      | _ => false) = true := by decide +kernel

/-- R186: the setting joins the 30-bit accumulator; a carry adds a tick edge, a borrow leaves one out. -/
theorem test_compensated_ticks :
    (State.tickEdge { live with bk := { live.bk with acc := 2 ^ 30 - 1, comp := 1 } }).clk.v = live.clk.v + 1 ∧
    (match step { live with bk := { live.bk with acc := 2 ^ 30 - 1, comp := 1 } } with
      | .next t => t.clk.v == live.clk.v + 2 && t.bk.acc == 0 | _ => false) = true ∧
    (match step { live with bk := { live.bk with acc := 0, comp := -1 } } with
      | .next t => t.clk.v == live.clk.v && t.bk.acc == 2 ^ 30 - 1 | _ => false) = true := by decide +kernel

/-- R133: a gap of five LFRC periods, or a count 2 % off, does not qualify the crystal. -/
theorem test_qualification : (after live (.x32Qualified 65536 5 65536)).el Reg.X32_STATE = 0 ∧
    (after live (.x32Qualified 65536 4 67000)).el Reg.X32_STATE = 0 := by decide +kernel

/-- R161: of sources that assert at one tick edge, the lower one's entry comes first: after a higher one it is of the next edge (log entry 85). -/
theorem test_ring_order : ((after (after live (.tamperAssert 5 0)) (.tamperAssert 4 0)).bk.ring.map (fun e => (e.source, e.stamp)))
    = [(5, live.clk.v * 8192), (4, (live.clk.v + 1) * 8192)] := by decide +kernel

/-- R475: a frame whose check sequence is wrong is counted, and does nothing else; one for another station is dropped. -/
theorem test_mac : (after linked (.icmpv6Echo { fE 0 with fcs := false } 1 2 3)).el Reg.T1L_FCS_ERR = 1 ∧
    (after linked (.icmpv6Echo { fE 0 with dest := 5 } 1 2 3)).el Reg.T1L_DROPPED = 1 ∧
    (after linked (.icmpv6Echo (fE 0) 1 2 3)).out.length = 1 := by decide +kernel

/-- FB fails with an unclaimed entry at T1: the ring is lost, and AO holds HINT_A (R445, R53). -/
theorem test_hint_held :
    (let s : State := { live with dlv := { live.dlv with entries := [⟨1, 0, 0, some 1, false⟩] } }
     s.hintLine 1 = some true ∧ s.hintLine 2 = some false ∧ (after s (.islandSupplyFail .fb)).ring 1 = [] ∧
     (after s (.islandSupplyFail .fb)).hintLine 1 = some true) := by decide +kernel

/-- An error in this pass and in the fourth before it is none of two in the latest four; in the third before it, it is (R706). -/
theorem test_seed_window :
    (let s : List (Nat × List Nat) → State := fun l => { live with rep := { live.rep with passes := l } }
     (after (s [(1, []), (1, []), (1, []), (1, [7])]) (.scrubPassEnd 1 [7] [] 1)).rep.seeds = [] ∧
     (after (s [(1, []), (1, []), (1, [7]), (1, [])]) (.scrubPassEnd 1 [7] [] 1)).rep.seeds = [(1, 7)]) := by decide +kernel

end Sys2Proof.Tests
end

section
/-! SUPPORT. The exchange's state through the delivery of records and the requests to islands: neither touches it. -/
namespace Sys2Proof.Machine
open Host

/-- A fold whose function leaves the exchange alone leaves it alone. -/
theorem foldl_exch {α : Type} {f : State → α → State} (hf : ∀ t x, (f t x).exch = t.exch) (l : List α) (s : State) :
    (l.foldl f s).exch = s.exch := by
  induction l generalizing s with
  | nil => rfl
  | cons x l ih => exact (ih (f s x)).trans (hf s x)

@[simp] theorem State.freeRecs_exch (s : State) : s.freeRecs.exch = s.exch := rfl
@[simp] theorem State.completeAt_exch (s : State) (id t : Nat) : (s.completeAt id t).exch = s.exch := rfl
@[simp] theorem State.recMap_exch (s : State) (id : Nat) (f : Rec → Rec) : (s.recMap id f).exch = s.exch := rfl
@[simp] theorem State.startGroup_exch (s : State) (g : Nat) : (s.startGroup g).exch = s.exch := rfl
@[simp] theorem State.takeSeq_exch (s : State) (t : Nat) : (s.takeSeq t).exch = s.exch := rfl
@[simp] theorem State.addWait_exch (s : State) (w : Waiting) : (s.addWait w).exch = s.exch := rfl

@[simp] theorem State.wakeFb_exch (s : State) : s.wakeFb.exch = s.exch := by
  unfold State.wakeFb; split <;> simp

@[simp] theorem State.wakeCr_exch (s : State) : s.wakeCr.exch = s.exch := by
  unfold State.wakeCr; split <;> simp

@[simp] theorem State.callCr_exch (s : State) : s.callCr.exch = s.exch := by
  unfold State.callCr State.over; split
  · split <;> simp
  · rfl

@[simp] theorem State.pushEntry_exch (s : State) (id t : Nat) (replay : Bool) : (s.pushEntry id t replay).exch = s.exch := by
  unfold State.pushEntry; dsimp only; split <;> simp

@[simp] theorem State.place_exch (s : State) (id st : Nat) (replay : Bool) : (s.place id st replay).exch = s.exch := by
  unfold State.place
  split
  · rfl
  · dsimp only
    split
    · split
      · simp
      · split
        · simp
        · rw [foldl_exch (fun t k => t.pushEntry_exch id k replay)]; simp
    · split
      · simp
      · split <;> simp

@[simp] theorem State.arrive_exch (s : State) (id st : Nat) : (s.arrive id st).exch = s.exch := by
  unfold State.arrive
  split
  · rfl
  · split
    · simp
    · split
      · simp
      · split <;> simp

@[simp] theorem State.post_exch (s : State) (id : Nat) : (s.post id).exch = s.exch := by
  unfold State.post
  split
  · rfl
  · split
    · simp
    · exact foldl_exch (fun t k => t.arrive_exch id k) _ s

@[simp] theorem State.overrun_exch (s : State) (n : NewRec) : (s.overrun n).exch = s.exch := by
  unfold State.overrun; dsimp only; split <;> simp

@[simp] theorem State.forward_exch (s : State) (r : Rec) : (s.forward r).exch = s.exch := by
  unfold State.forward; split <;> simp

/-- Writing a record is no business of the exchange. -/
@[simp] theorem State.record_exch (s : State) (n : NewRec) : (s.record n).exch = s.exch := by
  unfold State.record
  split
  · rfl
  · dsimp only; split <;> simp

@[simp] theorem State.stationRecord_exch (s : State) (src kind detail : Nat) (t0 : Bool) :
    (s.stationRecord src kind detail t0).exch = s.exch := s.record_exch _

@[simp] theorem State.islDone_exch (s : State) (i : Island) (req st : Nat) : (s.islDone i req st).exch = s.exch := by
  unfold State.islDone State.islRecord; dsimp only; split <;> simp

end Sys2Proof.Machine
end

section
/-! SUPPORT. Handshake channels: what a channel that is set shows, what the end of a handshake's limit does in each phase, and
what becomes of a request lost in its handshake. -/
namespace Sys2Proof.Machine
open Host

/-- A channel that is set reads what was set, where the part has it. -/
theorem State.chan_setChan_same {s : State} {n : Nat} (c : Chan) (hn : n < s.isl.chans.length) : (s.setChan n c).chan n = c := by
  simp [State.setChan, State.chan, hn]

theorem State.chan_setChan_ne (s : State) {n k : Nat} (c : Chan) (h : k ≠ n) : (s.setChan n c).chan k = s.chan k := by
  simp [State.setChan, State.chan, h.symm]

/-- Of the registers, a channel that is set shows in its bit of CH_STUCK. -/
theorem State.el_setChan (s : State) (n : Nat) (c : Chan) (a : Nat) :
    (s.setChan n c).el a = if a = Reg.CH_STUCK then setBit (s.el Reg.CH_STUCK) n (c == .stuck) else s.el a :=
  State.el_put _ _ _ _

/-- The channels and CH_STUCK apart, a channel that is set changes nothing. -/
theorem State.setChan_rest (s : State) (n : Nat) (c : Chan) : { s.setChan n c with dict := s.dict, isl := s.isl } = s := rfl

theorem State.setChan_isl_rest (s : State) (n : Nat) (c : Chan) :
    { (s.setChan n c).isl with chans := s.isl.chans } = s.isl := rfl

/-- With no request held nothing is served again. -/
theorem State.serveReady_nil {s : State} (h : s.isl.held = []) : s.serveReady = s := by
  simp [State.serveReady, h]

/-! ### The end of a handshake's limit -/

theorem exec_handshakeTimeout (ch : Fin 20) (p : Fin 3) (v : Option Req) (op : Nat) (s : State) :
    exec (.handshakeTimeout ch p v op) s = execHandshakeTimeout ch p v op s := rfl

theorem exec_orphanAckLow (ch : Fin 20) (s : State) : exec (.orphanAckLow ch) s = execOrphanAckLow ch s := rfl

section
variable {ch : Fin 20} {v : Option Req} {op : Nat} {s : State}

/-- R61: in REQUEST, a request of the device itself that nothing holds leaves its channel in ORPHAN, counted (R89). -/
theorem handshakeTimeout_request_none (hc : s.chan ch = .idle) (hv : s.victim ch = none) :
    exec (.handshakeTimeout ch 0 none op) s = .next ((s.setChan ch .orphan).inc 4 (Reg.CH_ABANDON ch)) := by
  simp [exec_handshakeTimeout, execHandshakeTimeout, hc, hv]

/-- R61: in REQUEST, the request that the device holds for the channel ends. -/
theorem handshakeTimeout_request_held {h : Held} (hc : s.chan ch = .idle) (hv : s.victim ch = some h) :
    exec (.handshakeTimeout ch 0 v op) s = .next ((s.setChan ch .orphan).abandon h 1).serveReady := by
  simp [exec_handshakeTimeout, execHandshakeTimeout, hc, hv]

/-- R61, R66: in REQUEST, a request that had reached its island gets no answer. -/
theorem handshakeTimeout_request_given {r : Req} (hc : s.chan ch = .idle) (hv : s.victim ch = none) :
    exec (.handshakeTimeout ch 0 (some r) op) s = .next (s.unanswered ch r op).serveReady := by
  simp [exec_handshakeTimeout, execHandshakeTimeout, hc, hv]

/-- In RELEASE, an acknowledge that stays high makes the channel STUCK (Table: Requester channel states). -/
theorem handshakeTimeout_release_stuck (hi : s.isl_ (chanEnds ch).2 ≠ islUnpowered) (hc : s.chan ch = .idle) :
    exec (.handshakeTimeout ch 1 v op) s = .next (s.setChan ch .stuck).serveReady := by
  simp [exec_handshakeTimeout, execHandshakeTimeout, hi, hc]

/-- In ORPHAN too. -/
theorem handshakeTimeout_orphan_stuck (hi : s.isl_ (chanEnds ch).2 ≠ islUnpowered) (hc : s.chan ch = .orphan) :
    exec (.handshakeTimeout ch 2 v op) s = .next (s.setChan ch .stuck).serveReady := by
  simp [exec_handshakeTimeout, execHandshakeTimeout, hi, hc]

/-- R69: an island without supply holds its acknowledge low, so no channel into it gets stuck. -/
theorem handshakeTimeout_unpowered {p : Fin 3} (hp : p.val ≠ 0) (hi : s.isl_ (chanEnds ch).2 = islUnpowered) :
    exec (.handshakeTimeout ch p v op) s = .next s := by
  simp [exec_handshakeTimeout, execHandshakeTimeout, hp, hi]

/-- R62: an acknowledge that falls makes a channel in ORPHAN IDLE again. -/
theorem orphanAckLow_idle (hc : s.chan ch = .orphan) : exec (.orphanAckLow ch) s = .next (s.setChan ch .idle).serveReady := by
  simp [exec_orphanAckLow, execOrphanAckLow, hc]

end

/-- Settles O7: each phase of a handshake's limit by its own lemma; the frame of a channel that is set by what it reads. -/
theorem handshakeChannels : Obligations.HandshakeChannels := by
  refine ⟨fun ch op s hc hv => handshakeTimeout_request_none hc hv,
    fun ch v op s => ⟨fun hi => ⟨handshakeTimeout_release_stuck hi, handshakeTimeout_orphan_stuck hi⟩,
      fun hi => ⟨handshakeTimeout_unpowered (by decide) hi, handshakeTimeout_unpowered (by decide) hi⟩⟩,
    fun ch s hc => orphanAckLow_idle hc, ?_, fun s h => State.serveReady_nil h⟩
  rintro ch c s t hinv rfl
  have hlen : ch.val < s.isl.chans.length := hinv.chans.symm ▸ ch.isLt
  refine ⟨State.chan_setChan_same c hlen, ?_, fun n hn => s.chan_setChan_ne c hn, fun a ha => ?_, s.setChan_rest ch c,
    s.setChan_isl_rest ch c⟩
  · rw [State.el_setChan, if_pos rfl]
  · rw [State.el_setChan, if_neg ha]

/-! ### Requests lost in their handshakes (R66, R90) -/

/-- The state after a request that admission let through is lost on a channel: its work done or not, as a free value says (R66),
the channel in ORPHAN, counted. -/
def State.lostWork (t : State) (ch : Nat) (r : Req) (op : Nat) (w : Who) : State :=
  ((if t.free % 2 = 1 then t.drawn.unheard r op w else t.drawn).setChan ch .orphan).inc 4 (Reg.CH_ABANDON ch)

/-- The firmware repeats a persistent write or an image block that CH11 lost; any other lost request ends with ABANDONED. -/
theorem State.unanswered_go {s t : State} {ch op : Nat} {r : Req} {w : Who} (h10 : ch ≠ 10) (h14 : ch ≠ 14)
    (ha : s.accept r op (classOf op) false false false = .go t w) :
    s.unanswered ch r op =
      if ch = 11 ∧ (op = 2 ∨ (op = 0x0D ∧ imIsBlock r = true)) then (t.lostWork ch r op w).retryLater r op
      else (t.lostWork ch r op w).finish r op (classOf op) (.abandoned 1) [] := by
  simp only [State.unanswered, State.lostWork, if_neg h10, if_neg h14, ha]

/-- R27: a frame that SC did not check is dropped. -/
theorem State.unanswered_sc (s : State) (r : Req) (op : Nat) :
    s.unanswered 10 r op = (s.setChan 10 .orphan).inc 4 (Reg.CH_ABANDON 10) := by
  simp [State.unanswered]

theorem State.unanswered_cr (s : State) (r : Req) (op : Nat) :
    s.unanswered 14 r op = ((s.setChan 14 .orphan).inc 4 (Reg.CH_ABANDON 14)).coreAbsent r op 1 := by
  simp [State.unanswered]

/-! ### What the firmware repeats (Table: Firmware retries after ABANDONED) -/

theorem exec_firmwareRetry (k : Fin 4) (ok : Bool) (s : State) :
    exec (.firmwareRetry k ok) s = execFirmwareRetry k ok s := rfl

section
variable {k : Fin 4} {s : State}

/-- R91: an append or a signing that is answered appends the oldest group that waits. -/
theorem firmwareRetry_append (hk : k.val < 2) (hr : s.runs .cr = true) (hf : s.boot.firmware = true) :
    exec (.firmwareRetry k true) s = .next ((s.appendOldest.serveReady).wdSync s) := by
  simp [exec_firmwareRetry, execFirmwareRetry, execEvidenceAppend, hk, hr, hf]

/-- One that is not is counted, on CH09 or CH11, and tried again. -/
theorem firmwareRetry_append_lost (hk : k.val < 2) (hr : s.runs .cr = true) (hf : s.boot.firmware = true)
    (hw : s.log.waiting ≠ []) :
    exec (.firmwareRetry k false) s = .next (s.inc 4 (Reg.CH_ABANDON (if k.val = 1 then 9 else 11))) := by
  simp [exec_firmwareRetry, execFirmwareRetry, hk, hr, hf, hw]

section
variable {x : Nat × Req × Nat}
  (hk : 2 ≤ k.val) (hr : s.runs .cr = true) (hf : s.boot.firmware = true)
  (hx : s.isl.retries.find? (fun y => y.1 == (if k.val = 2 then 2 else 0x0D)) = some x)
include hk hr hf hx

/-- A client's work that NV answers is done; one that is lost, or that CH11 does not take, is tried again. -/
theorem firmwareRetry_answered (hc : s.crossing .nv 11 = .serve) :
    exec (.firmwareRetry k true) s =
      .next (State.retried { s with isl := { s.isl with retries := s.isl.retries.erase x } } x.1 x.2.1).serveReady := by
  simp [exec_firmwareRetry, execFirmwareRetry, Nat.not_lt.mpr hk, hr, hf, hx, hc]

theorem firmwareRetry_lost (hc : s.crossing .nv 11 = .serve) :
    exec (.firmwareRetry k false) s = .next (s.retryAgain x 1).serveReady := by
  simp [exec_firmwareRetry, execFirmwareRetry, Nat.not_lt.mpr hk, hr, hf, hx, hc]

theorem firmwareRetry_shut {ok : Bool} {d : Nat} (hc : s.crossing .nv 11 = .shut d) :
    exec (.firmwareRetry k ok) s = .next (s.retryAgain x d).serveReady := by
  simp [exec_firmwareRetry, execFirmwareRetry, Nat.not_lt.mpr hk, hr, hf, hx, hc]

end
end

/-- The third failure of a repeat is the last. -/
theorem State.retryAgain_spent {s : State} {x : Nat × Req × Nat} (h : 2 ≤ x.2.2) (d : Nat) :
    s.retryAgain x d =
      (State.inc { s with isl := { s.isl with retries := s.isl.retries.erase x } } 4 (Reg.CH_ABANDON 11)).retriesSpent
        x.1 x.2.1 d := by
  simp [State.retryAgain, h]

/-- The first two are counted, and the repeat waits for its next turn. -/
theorem State.retryAgain_again {s : State} {x : Nat × Req × Nat} (h : x.2.2 < 2) (d : Nat) :
    s.retryAgain x d = { s.inc 4 (Reg.CH_ABANDON 11) with
      isl := { s.isl with retries := s.isl.retries.erase x ++ [(x.1, x.2.1, x.2.2 + 1)] } } := by
  simp only [State.retryAgain, if_neg (Nat.not_le.mpr h)]
  rfl

/-- Settles O8: by the lemma of each end of a request, and of each outcome of a repeat. -/
theorem lostRequests : Obligations.LostRequests := by
  refine ⟨fun ch v h op s hc hv => handshakeTimeout_request_held hc hv,
    fun ch r op s hc hv => handshakeTimeout_request_given hc hv, ?_,
    fun r op s => ⟨s.unanswered_sc r op, s.unanswered_cr r op⟩,
    fun k s hk hr hf => ⟨firmwareRetry_append hk hr hf, firmwareRetry_append_lost hk hr hf⟩, ?_⟩
  · intro ch op r s t w h10 h14 ha
    refine ⟨if t.free % 2 = 1 then t.drawn.unheard r op w else t.drawn, t.lostWork ch r op w, ?_, rfl, fun h => ?_,
      fun h => ?_⟩
    · split
      · exact .inr rfl
      · exact .inl rfl
    · rw [State.unanswered_go h10 h14 ha, if_pos h]
    · rw [State.unanswered_go h10 h14 ha, if_neg h]
  · rintro k x s t hk hr hf hx rfl
    refine ⟨fun hc => ⟨firmwareRetry_answered hk hr hf hx hc, firmwareRetry_lost hk hr hf hx hc⟩,
      fun d ok hc => firmwareRetry_shut hk hr hf hx hc, fun h d => State.retryAgain_spent h d, fun h d => ?_⟩
    refine ⟨_, rfl, ?_⟩
    rw [State.retryAgain_again h d]
    refine ⟨rfl, State.el_put_same s _ _, fun a ha => State.el_put_ne s _ ha, rfl⟩

end Sys2Proof.Machine
end

section
/-! SUPPORT. Requests to gate or reset an island: what a write to ISL_REQ answers in each case, when a request acts and how,
and the keeper's holds, which delay it. -/
namespace Sys2Proof.Machine
open Host

/-! ### The write (R76, R83 to R87) -/

section
variable {s : State} {i : Island} {v : Nat}

theorem State.islReq_range (h : 2 < v ∨ (v = 1 ∧ i = .nw) ∨ (v = 2 ∧ i = .fb)) : s.islReq i v = (s, .range 2 0) := by
  simp only [State.islReq, if_pos h]

/-- R87: the value 0 withdraws a request that has not begun to act. -/
theorem State.islReq_zero :
    s.islReq i 0 = (if s.el (Reg.ISL_REQ (islNum i)) ≠ 0 ∧ s.acts i = false then s.put (Reg.ISL_REQ (islNum i)) 0 else s, .ok) := by
  simp [State.islReq]

/-- A value that stands for a request that the island takes. -/
def ReqTaken (i : Island) (v : Nat) : Prop := (v = 1 ∧ i ≠ .nw) ∨ (v = 2 ∧ i ≠ .fb)

/-- Such a value is neither out of range nor a withdrawal. -/
theorem ReqTaken.sound (hv : ReqTaken i v) : ¬ (2 < v ∨ (v = 1 ∧ i = .nw) ∨ (v = 2 ∧ i = .fb)) ∧ v ≠ 0 := by
  rcases hv with ⟨rfl, hi⟩ | ⟨rfl, hi⟩ <;> simp [hi]

/-- R84: the island's own work forbids the request. -/
theorem State.islReq_conflict (hv : ReqTaken i v) (hc : s.islConflict i = true) : s.islReq i v = (s, .conflict 3) := by
  obtain ⟨hr, h0⟩ := hv.sound
  simp only [State.islReq, if_neg hr, if_neg h0, if_pos hc]

/-- R85: a RESET that finds a GATE acting turns its drain into one that resets. -/
theorem State.islReq_acting_widened (hv : ReqTaken i 2) (hc : s.islConflict i = false) (ha : s.acts i = true)
    (hq : s.el (Reg.ISL_REQ (islNum i)) = 1) :
    s.islReq i 2 = ((State.put { s with isl := { s.isl with
        drains := s.isl.drains.map (fun p => if p.1 = i then (p.1, DrainTo.reset) else p) } }
        (Reg.ISL_REQ (islNum i)) 2).beginActing i 2, .ok) := by
  have hi : i ≠ .fb := by simpa [ReqTaken] using hv
  simp [State.islReq, hi, hc, ha, hq]

/-- R85: any other request joins the one that acts. -/
theorem State.islReq_acting_joined (hv : ReqTaken i v) (hc : s.islConflict i = false) (ha : s.acts i = true)
    (hq : v = 1 ∨ s.el (Reg.ISL_REQ (islNum i)) ≠ 1) : s.islReq i v = (s, .ok) := by
  obtain ⟨hr, h0⟩ := hv.sound
  have hw : ¬ (v = 2 ∧ s.el (Reg.ISL_REQ (islNum i)) = 1) := by rintro ⟨rfl, h1⟩; simp [h1] at hq
  simp only [State.islReq, if_neg hr, if_neg h0]
  simp [hc, ha, if_neg hw]

/-- R85: a request that finds another pending joins it, a RESET in its place. -/
theorem State.islReq_pending (hv : ReqTaken i v) (hc : s.islConflict i = false) (ha : s.acts i = false)
    (hq : s.el (Reg.ISL_REQ (islNum i)) ≠ 0) :
    s.islReq i v = (if v = 2 then s.put (Reg.ISL_REQ (islNum i)) 2 else s, .deferred) := by
  obtain ⟨hr, h0⟩ := hv.sound
  simp only [State.islReq, if_neg hr, if_neg h0]
  simp [hc, ha, hq]

/-- R76: under a hold the request is recorded and waits. -/
theorem State.islReq_held (hv : ReqTaken i v) (hc : s.islConflict i = false) (ha : s.acts i = false)
    (hq : s.el (Reg.ISL_REQ (islNum i)) = 0) (hh : s.isHeld i = true) :
    s.islReq i v = (s.put (Reg.ISL_REQ (islNum i)) v, .deferred) := by
  obtain ⟨hr, h0⟩ := hv.sound
  simp only [State.islReq, if_neg hr, if_neg h0]
  simp [hc, ha, hq, hh]

/-- R86: an island without supply is absent, unless the reset of R852 is to come and the request is a RESET. -/
theorem State.islReq_absent (hv : ReqTaken i v) (hc : s.islConflict i = false) (ha : s.acts i = false)
    (hq : s.el (Reg.ISL_REQ (islNum i)) = 0) (hh : s.isHeld i = false) (hu : s.isl_ i = islUnpowered)
    (hf : v = 1 ∨ i ∉ s.isl.faulted) : s.islReq i v = (s.islDone i v 5, .abandoned 2) := by
  obtain ⟨hr, h0⟩ := hv.sound
  have hn : v = 2 → i ∉ s.isl.faulted := by rintro rfl; simpa using hf
  simp only [State.islReq, if_neg hr, if_neg h0]
  simp [hc, ha, hq, hh, hu]
  exact hn

/-- Any other request is taken. -/
theorem State.islReq_ok (hv : ReqTaken i v) (hc : s.islConflict i = false) (ha : s.acts i = false)
    (hq : s.el (Reg.ISL_REQ (islNum i)) = 0) (hh : s.isHeld i = false)
    (hu : s.isl_ i ≠ islUnpowered ∨ (v = 2 ∧ i ∈ s.isl.faulted)) :
    s.islReq i v = (s.put (Reg.ISL_REQ (islNum i)) v, .ok) := by
  obtain ⟨hr, h0⟩ := hv.sound
  have hn : s.isl_ i = islUnpowered → v = 2 ∧ i ∈ s.isl.faulted := fun h => hu.resolve_left (fun k => k h)
  simp only [State.islReq, if_neg hr, if_neg h0]
  simp [hc, ha, hq, hh]
  exact hn

/-- A write to ISL_REQ is no business of the exchange. -/
theorem State.islReq_exch (s : State) (i : Island) (v : Nat) : (s.islReq i v).1.exch = s.exch := by
  unfold State.islReq
  dsimp only
  repeat' split
  all_goals simp [State.beginActing]

/-- It never answers REFUSED. -/
theorem State.islReq_code (s : State) (i : Island) (v : Nat) : (s.islReq i v).2.code ≠ 1 := by
  unfold State.islReq
  dsimp only
  repeat' split
  all_goals simp

/-- R88: a write that the exchange lets through is answered, and then every request that no hold delays acts. -/
theorem State.islWrite_let {t : State} {w : Who} {cmd : Instr} {r : Req} {b : Byte} {f : Nat → Bool}
    (hl : LetThrough s r false t w) (hi : islOfReq r.addr = some i) (hb : r.value = [b]) (hv : bytesToNum [b] = v)
    (hf : f v = true) : s.islWrite cmd r f = ((t.islReq i v).1.answer r 2 (t.islReq i v).2 []).actAll := by
  have hm : (t.islReq i v).1.exch.muted = false := by rw [State.islReq_exch]; exact hl.heard
  have hg : ((islOfReq r.addr).isSome && f (bodyNum r.body 4 1)) = true := by simp [hi, bodyNum_one hb, hv, hf]
  rw [State.islWrite, if_pos hg, State.ownWrite_let hl (by simp)]
  simp only [hi, hb, hv]
  rw [State.finish_answer _ _ _ _ _ _ hm (State.islReq_code _ _ _)]

end

/-! ### When a request acts, and how (R84, R86) -/

section
variable {s : State} {i : Island} {q : Nat}

theorem State.actPending_waits
    (h : s.el (Reg.ISL_REQ (islNum i)) = 0 ∨ s.isHeld i = true ∨ s.acts i = true) : s.actPending i = s := by
  simp only [State.actPending, if_pos h]

theorem State.actPending_acts (hq : s.el (Reg.ISL_REQ (islNum i)) ≠ 0) (hh : s.isHeld i = false) (ha : s.acts i = false) :
    s.actPending i = s.actRequest i (s.el (Reg.ISL_REQ (islNum i))) := by
  simp [State.actPending, hq, hh, ha]

theorem State.actRequest_conflict (hc : s.islConflict i = true) : s.actRequest i q = s.islDone i q 3 := by
  simp [State.actRequest, hc]

/-- R80: an island in RUN drains before the request acts. -/
theorem State.actRequest_run (hc : s.islConflict i = false) (hr : s.isl_ i = islRun) (hi : i ≠ .fb) :
    s.actRequest i q = (s.beginActing i q).startDrain i (if q = 2 then .reset else .gate) := by
  simp [State.actRequest, hc, hr, hi, drainFor]

/-- R60: FB drains once its wake comparator is loaded. -/
theorem State.actRequest_fb (hc : s.islConflict .fb = false) (hr : s.isl_ .fb = islRun) (hx : s.crossing .ao 3 = .serve) :
    s.actRequest .fb q = (State.beginActing { s with isl := { s.isl with
        comparator := s.earliestDue } } .fb q).startDrain .fb .gate := by
  simp [State.actRequest, hc, hr, hx, State.loadComparator]

/-- R60: where that load is abandoned FB stays in RUN, and the request ends. -/
theorem State.actRequest_fb_abandoned (hc : s.islConflict .fb = false) (hr : s.isl_ .fb = islRun)
    (hx : s.crossing .ao 3 ≠ .serve) : s.actRequest .fb q = (s.inc 4 (Reg.CH_ABANDON 3)).islDone .fb q 5 := by
  cases h : s.crossing .ao 3 with
  | serve => exact absurd h hx
  | wait => simp [State.actRequest, hc, hr, h]
  | shut d => simp [State.actRequest, hc, hr, h]

theorem State.actRequest_gated_reset (hc : s.islConflict i = false) (hg : s.isl_ i = islGated) :
    s.actRequest i 2 = (s.resetIsl i false).beginActing i 2 := by
  have hr : s.isl_ i ≠ islRun := by rw [hg]; decide
  have hu : s.isl_ i ≠ islUnpowered := by rw [hg]; decide
  simp only [State.actRequest, hc, Bool.false_eq_true, if_false, if_neg hr, if_neg hu, if_pos hg, if_true]

theorem State.actRequest_gated_found (hc : s.islConflict i = false) (hg : s.isl_ i = islGated) (hq : q ≠ 2) :
    s.actRequest i q = s.islDone i q 0 := by
  have hr : s.isl_ i ≠ islRun := by rw [hg]; decide
  have hu : s.isl_ i ≠ islUnpowered := by rw [hg]; decide
  simp only [State.actRequest, hc, Bool.false_eq_true, if_false, if_neg hr, if_neg hu, if_pos hg, if_neg hq]

/-- A request that finds its island starting, or draining for something else, stands until the next RUN (log entry 77). -/
theorem State.actRequest_stands (hc : s.islConflict i = false) (h : s.isl_ i = islStarting ∨ s.isl_ i = islDraining) :
    s.actRequest i q = s := by
  have hr : s.isl_ i ≠ islRun := by rcases h with h | h <;> (rw [h]; decide)
  have hu : s.isl_ i ≠ islUnpowered := by rcases h with h | h <;> (rw [h]; decide)
  have hg : s.isl_ i ≠ islGated := by rcases h with h | h <;> (rw [h]; decide)
  simp only [State.actRequest, hc, Bool.false_eq_true, if_false, if_neg hr, if_neg hu, if_neg hg]

end

/-! ### The keeper's holds (R75 to R80) -/

theorem exec_islandHoldTake (i : Island) (ms : Nat) (s : State) :
    exec (.islandHoldTake i ms) s = execIslandHoldTake i ms s := rfl
theorem exec_islandHoldRelease (i : Island) (s : State) :
    exec (.islandHoldRelease i) s = execIslandHoldRelease i s := rfl
theorem exec_holdLeaseExpiry (i : Island) (s : State) :
    exec (.holdLeaseExpiry i) s = execHoldLeaseExpiry i s := rfl
theorem exec_holdExpirySignal (i : Island) (s : State) :
    exec (.holdExpirySignal i) s = execHoldExpirySignal i s := rfl

section
variable {s : State} {i : Island}

/-- R75, R78: a hold is at most 10 s, on an island without a pending request. -/
theorem islandHoldTake_granted {ms : Nat} (hi : i = .sc ∨ i = .fb ∨ i = .nw ∨ i = .pw ∨ i = .nv) (hr : s.runs .cr = true)
    (hf : s.boot.firmware = true) (h0 : 0 < ms) (h1 : ms ≤ 10000) (hq : s.el (Reg.ISL_REQ (islNum i)) = 0) :
    exec (.islandHoldTake i ms) s = .next { s with isl := { s.isl with
      holds := s.isl.holds.filter (fun h => h.1 != i) ++ [(i, s.now + stMs ms, false)] } } := by
  have hm : (i == .sc || i == .fb || i == .nw || i == .pw || i == .nv) = true := by simpa [or_assoc] using hi
  simp [exec_islandHoldTake, execIslandHoldTake, hm, hr, hf, hq, Nat.ne_of_gt h0, Nat.not_lt.mpr h1]

/-- R77: the end of a hold, by its release. -/
theorem islandHoldRelease_held (hh : s.isHeld i = true) :
    exec (.islandHoldRelease i) s = .next (s.endHold i).serveReady := by
  simp [exec_islandHoldRelease, execIslandHoldRelease, hh]

/-- R77: the end of a hold, by the expiry of its lease. -/
theorem holdLeaseExpiry_held {h : Island × Nat × Bool} (hh : s.isl.holds.find? (fun h => h.1 == i) = some h) :
    exec (.holdLeaseExpiry i) s = .next ((s.reach h.2.1).endHold i).serveReady := by
  simp [exec_holdLeaseExpiry, execHoldLeaseExpiry, hh]

/-- R79: the keeper is told 250 ms before. -/
theorem holdExpirySignal_held {h : Island × Nat × Bool} {t : State} (hh : s.isl.holds.find? (fun h => h.1 == i) = some h)
    (ht : t = s.reach (h.2.1 - stMs 250)) :
    exec (.holdExpirySignal i) s = .next { t with isl := { t.isl with
      holds := t.isl.holds.map (fun x => if x.1 = i then (x.1, x.2.1, true) else x) } } := by
  rw [exec_holdExpirySignal, execHoldExpirySignal, hh, ht]

/-- An island whose holds are taken off the list is held no longer. -/
theorem State.isHeld_filtered {t : State} (ht : t.isl.holds = s.isl.holds.filter (fun h => h.1 != i)) :
    t.isHeld i = false := by
  simp [State.isHeld, ht]

end

/-! ### The three writes of ISL_REQ -/

theorem exec_islReqGate (r : Req) (s : State) : exec (.islReqGate r) s = execIslReqGate r s := rfl
theorem exec_islReqReset (r : Req) (s : State) : exec (.islReqReset r) s = execIslReqReset r s := rfl
theorem exec_islReqWithdraw (r : Req) (s : State) : exec (.islReqWithdraw r) s = execIslReqWithdraw r s := rfl

/-- Settles O10: by the lemma of each answer of the write, of each way a request acts, and of each command on a hold. -/
theorem islandRequestsAndHolds : Obligations.IslandRequestsAndHolds := by
  refine ⟨?_, ?_, ?_, ?_, ?_, fun i ms s hi hr hf h0 h1 hq => islandHoldTake_granted hi hr hf h0 h1 hq,
    fun i s hh => islandHoldRelease_held hh,
    fun i s h hh => ⟨holdLeaseExpiry_held hh, fun t ht => holdExpirySignal_held hh ht⟩, ?_⟩
  · intro r i s t w c v hl hi hc
    rcases hc with ⟨rfl, hb, rfl⟩ | ⟨rfl, hb, rfl⟩ | ⟨rfl, hb, rfl⟩
    · rw [exec_islReqGate, execIslReqGate, State.islWrite_let (v := 1) hl hi hb (by decide) rfl]
    · rw [exec_islReqReset, execIslReqReset, State.islWrite_let (v := 2) hl hi hb (by decide) rfl]
    · rw [exec_islReqWithdraw, execIslReqWithdraw, State.islWrite_let (v := 0) hl hi hb (by decide) rfl]
  · intro i s
    refine ⟨State.islReq_range (.inr (.inl ⟨rfl, rfl⟩)), State.islReq_range (.inr (.inr ⟨rfl, rfl⟩)), fun h => ?_,
      fun hq ha => ?_⟩
    · rw [State.islReq_zero, if_neg]
      rintro ⟨hq, ha⟩
      simp [hq, ha] at h
    · rw [State.islReq_zero, if_pos ⟨hq, ha⟩]
  · intro i v s hv
    refine ⟨State.islReq_conflict hv, fun hc ha => ⟨?_, State.islReq_acting_joined hv hc ha⟩, State.islReq_pending hv,
      fun hc ha hq => ⟨State.islReq_held hv hc ha hq, State.islReq_absent hv hc ha hq, State.islReq_ok hv hc ha hq⟩⟩
    rintro rfl hq
    exact State.islReq_acting_widened hv hc ha hq
  · rintro i q s rfl
    exact ⟨State.actPending_waits, State.actPending_acts⟩
  · intro i q s
    refine ⟨State.actRequest_conflict, fun hc hr => ⟨State.actRequest_run hc hr, ?_, ?_⟩, fun hc hg => ⟨?_,
      State.actRequest_gated_found hc hg⟩, State.actRequest_stands⟩
    · rintro rfl hx
      exact State.actRequest_fb hc hr hx
    · rintro rfl hx
      exact State.actRequest_fb_abandoned hc hr hx
    · rintro rfl
      exact State.actRequest_gated_reset hc hg
  · rintro i s t rfl
    exact ⟨rfl, State.isHeld_filtered (s := s) rfl⟩

end Sys2Proof.Machine
end

section
/-! SUPPORT. The state right after reset: its dictionary in canonical form, and what its registers, islands, handshake channels
and outputs read. -/
namespace Sys2Proof.Machine
open Host

/-- No element that the reset dictionary lists has a default other than 0. -/
theorem resetDict_defaults : ∀ a ∈ resetDict.map Prod.fst, defaultOf a = 0 := by decide +kernel

theorem resetDict_rising : (resetDict.map Prod.fst).Pairwise (· < ·) := by decide +kernel

/-- FW_SLOT_INFO of a slot in the state CONFIRMED is not 0, whatever the fields of its image. -/
theorem slotInfo_ne_zero (k a b c d : Nat) : (k, 4 * 2 ^ 184 + 2 ^ 168 + a + b + c + d).2 ≠ 0 := by
  have : 0 < 2 ^ 184 := Nat.two_pow_pos 184
  dsimp only
  omega

/-- Eleven numerals, and the FW_SLOT_INFO of slot A, whose fields are the part's own. -/
theorem resetDict_nonzero : ∀ p ∈ resetDict, p.2 ≠ 0 := by
  unfold resetDict
  iterate 11 refine List.forall_mem_cons.mpr ⟨by decide, ?_⟩
  exact List.forall_mem_singleton.mpr (slotInfo_ne_zero _ _ _ _ _)

theorem resetDict_wf : dictWf resetDict = true := by
  refine (dictWf_iff _).mpr ⟨List.pairwise_map.mp resetDict_rising, fun p hp => ?_⟩
  rw [resetDict_defaults p.1 (List.mem_map_of_mem hp)]
  exact resetDict_nonzero p hp

/-- A register that the reset dictionary does not list reads its default. -/
theorem State.el_reset_unlisted {a : Nat} (h : a ∉ resetDict.map Prod.fst) : State.reset.el a = defaultOf a := by
  have : resetDict.find? (fun p => p.1 == a) = none := by
    rw [List.find?_eq_none]
    intro p hp e
    exact h (List.mem_map.mpr ⟨p, hp, by simpa using e⟩)
  simp [State.el, State.reset, dictGet, this]

/-- The part right after reset has the form that every step keeps. -/
theorem State.reset_inv : State.reset.Inv where
  dict := resetDict_wf
  answered := by simp [State.reset]
  recs := by simp [State.reset]
  seq0 := by simp [State.reset]
  seq1 := by simp [State.reset]
  seq2 := by simp [State.reset]
  seq3 := by simp [State.reset]
  ring := by simp [State.reset]
  canTx := by simp [State.reset]
  wd := rfl
  outs := rfl
  chans := rfl
  st := by simp [State.reset]
  v := by simp [State.reset]

theorem State.isl_reset (i : Island) : State.reset.isl_ i = if i = .bk then islRun else islUnpowered := by
  cases i <;> rfl

theorem State.chan_reset {n : Nat} (hn : n < 20) : State.reset.chan n = .idle := by
  simp only [State.chan, State.reset, List.getD_eq_getElem?_getD, List.getElem?_replicate_of_lt hn, Option.getD_some]

theorem State.outp_reset {o : Nat} (ho : o < 14) : (State.reset.outp o).state = oOff := by
  simp only [State.outp, State.reset, List.getD_eq_getElem?_getD, List.getElem?_replicate_of_lt ho, Option.getD_some]

/-- Settles O3: by what the registers, the islands, the channels and the outputs of the reset state read. -/
theorem resetValues : Obligations.ResetValues := by
  refine ⟨State.reset_inv, rfl, rfl, ?_, State.isl_reset .bk, fun i hi => (State.isl_reset i).trans (if_neg hi), rfl, ?_, ?_,
    fun n hn => State.chan_reset hn, fun o ho => State.outp_reset ho, rfl⟩
  · rw [State.el_reset_unlisted (by decide)]
    decide +kernel
  · rw [State.el_reset_unlisted (by decide)]
    decide +kernel
  · rw [State.el_reset_unlisted (by decide)]
    decide +kernel

end Sys2Proof.Machine
end

section
/-! SUPPORT. Resets by pin, by supply, by the keeper and by DEV_RESET: when each acts, with which scope and cause, and what the
firmware's start and WAKE_N do after it. -/
namespace Sys2Proof.Machine
open Host

/-! ### RST_N, the brown-out and the keeper (R97, R99, R102) -/

theorem exec_rstNLow (s : State) : exec .rstNLow s = execRstNLow s := rfl
theorem exec_rstNWiden (s : State) : exec .rstNWiden s = execRstNWiden s := rfl
theorem exec_vcoreBrownout (s : State) : exec .vcoreBrownout s = execVcoreBrownout s := rfl
theorem exec_keeperMainReset (s : State) : exec .keeperMainReset s = execKeeperMainReset s := rfl
theorem exec_rstoRelease (s : State) : exec .rstoRelease s = execRstoRelease s := rfl
theorem exec_stationTimeLoad (n : Nat) (s : State) : exec (.stationTimeLoad n) s = execStationTimeLoad n s := rfl
theorem exec_wakeNLow (s : State) : exec .wakeNLow s = execWakeNLow s := rfl
theorem exec_devResetMain (r : Req) (s : State) : exec (.devResetMain r) s = execDevResetMain r s := rfl
theorem exec_devResetFull (r : Req) (s : State) : exec (.devResetFull r) s = execDevResetFull r s := rfl

section
variable {s : State} {sc x : Scope} {cause c : Nat}

/-- R97, R98: a reset that finds none draining acts with its own scope and cause. -/
theorem State.widest_alone (h : s.boot.draining = none) : s.widest sc cause = (sc, cause) := by
  simp only [State.widest, h]

/-- R97, R98: one that finds another draining joins it. -/
theorem State.widest_joined (h : s.boot.draining = some (x, c)) :
    s.widest sc cause = (if x = .full then .full else sc, causeMerge c cause) := by
  simp only [State.widest, h]

theorem rstNLow_falls (hm : s.mainPower = true) (hl : s.boot.rstLow = false) : exec .rstNLow s =
    .next (State.startScope { s with boot := { s.boot with rstLow := true, rstWide := false } } .main 0x05) := by
  simp [exec_rstNLow, execRstNLow, hm, hl]

section
variable (hm : s.mainPower = true) (hl : s.boot.rstLow = true) (hw : s.boot.rstWide = false)
include hm hl hw

/-- R99: after the main reset acted, the full one acts at once and counts no second start. -/
theorem rstNWiden_acted {t : State} (hd : s.boot.draining = none)
    (ht : t = (s.scopeReset .full 0x03 true).put Reg.RESET_COUNT (s.el Reg.RESET_COUNT)) :
    exec .rstNWiden s = .next { t with boot := { t.boot with rstWide := true, lost := s.boot.lost } } := by
  subst ht
  simp [exec_rstNWiden, execRstNWiden, hm, hl, hw, hd]

/-- R99: while the main reset drains it becomes a full one. -/
theorem rstNWiden_drains (hd : s.boot.draining = some (sc, c)) : exec .rstNWiden s = .next { s with boot := { s.boot with
    rstWide := true, draining := some (.full, causeMerge c 0x03) } } := by
  simp [exec_rstNWiden, execRstNWiden, hm, hl, hw, hd, State.widest_joined hd]

end

/-- R100: a brown-out does not drain. -/
theorem vcoreBrownout_falls {t : State} (hv : s.boot.vcore = true) (hd : s.boot.draining = none)
    (ht : t = State.scopeReset { s with boot := { s.boot with vcore := false } } .main 0x06 false) :
    exec .vcoreBrownout s = .next { t with isl := { t.isl with lostState := mainIslands } } := by
  subst ht
  have hw : State.widest { s with boot := { s.boot with vcore := false } } .main 0x06 = (.main, 0x06) := State.widest_alone hd
  simp [exec_vcoreBrownout, execVcoreBrownout, hv, hw]

theorem keeperMainReset_asks (hf : s.boot.firmware = true) (hr : s.runs .cr = true) :
    exec .keeperMainReset s = .next (s.startScope .main 0x08) := by
  simp [exec_keeperMainReset, execKeeperMainReset, hf, hr]

end

/-! ### DEV_RESET (R101) -/

section
variable {s t : State} {r : Req} {w : Who} {b : Byte} {cmd : Instr} {f : Nat → Bool}

/-- A write of one byte to DEV_RESET that is let through: its effect and answer, and then the reset, where no hold remains. -/
theorem State.devResetWrite_let {eff : State × Stat} (hl : LetThrough s r false t w) (ha : r.addr = Reg.DEV_RESET)
    (hb : r.value = [b]) (hf : f (bytesToNum [b]) = true)
    (he : eff = if bytesToNum [b] = 1 then t.devReset .main else if bytesToNum [b] = 2 then t.devReset .full
      else (t, .range 2 0))
    (hx : eff.1.exch = t.exch) (hc : eff.2.code ≠ 1) :
    s.devResetWrite cmd r f = (eff.1.answer r 2 eff.2 []).pendingResetActs := by
  have hm : eff.1.exch.muted = false := hx ▸ hl.heard
  rw [State.devResetWrite, State.ownWrite_let hl (by simp [ha, bodyNum_one hb, hf])]
  simp only [hb, ← he]
  rw [State.finish_answer _ _ _ _ _ _ hm hc]

theorem State.devReset_exch (s : State) (sc : Scope) : (s.devReset sc).1.exch = s.exch := rfl

theorem State.devReset_code (s : State) (sc : Scope) : (s.devReset sc).2.code ≠ 1 := by
  unfold State.devReset
  dsimp only
  split <;> simp

/-- The first write waits for the keeper's holds, or acts after its reply. -/
theorem State.devReset_first {sc : Scope} (h : s.boot.pendingReset = none) : s.devReset sc =
    ({ s with boot := { s.boot with pendingReset := some sc } }, if s.isl.holds = [] then .ok else .deferred) := by
  simp [State.devReset, h]

/-- A further write joins the one that waits, or widens it. -/
theorem State.devReset_further {sc x : Scope} (h : s.boot.pendingReset = some x) : s.devReset sc =
    ({ s with boot := { s.boot with pendingReset := some (if x = .full then .full else sc) } }, .deferred) := by
  cases x <;> simp [State.devReset, h]

/-- Each of the two commands writes its scope. -/
theorem exec_devReset_let {c : Instr} {sc : Scope} (hl : LetThrough s r false t w) (ha : r.addr = Reg.DEV_RESET)
    (hc : (c = .devResetMain r ∧ r.value = [1] ∧ sc = .main) ∨ (c = .devResetFull r ∧ r.value = [2] ∧ sc = .full)) :
    exec c s = .next (((t.devReset sc).1.answer r 2 (t.devReset sc).2 []).pendingResetActs) := by
  rcases hc with ⟨rfl, hb, rfl⟩ | ⟨rfl, hb, rfl⟩
  · rw [exec_devResetMain, execDevResetMain,
      State.devResetWrite_let hl ha hb (by decide) rfl (t.devReset_exch .main) (t.devReset_code .main)]
    rfl
  · rw [exec_devResetFull, execDevResetFull,
      State.devResetWrite_let hl ha hb (by decide) rfl (t.devReset_exch .full) (t.devReset_code .full)]
    rfl

/-- Any other value is out of range. -/
theorem exec_devReset_range (hl : LetThrough s r false t w) (ha : r.addr = Reg.DEV_RESET) (hb : r.value = [b])
    (h1 : b ≠ 1) (h2 : b ≠ 2) : exec (.devResetMain r) s = .next (t.answer r 2 (.range 2 0) []).pendingResetActs := by
  have n1 : bytesToNum [b] ≠ 1 := fun h => h1 (BitVec.eq_of_toNat_eq (by simpa [bytesToNum] using h))
  have n2 : bytesToNum [b] ≠ 2 := fun h => h2 (BitVec.eq_of_toNat_eq (by simpa [bytesToNum] using h))
  rw [exec_devResetMain, execDevResetMain,
    State.devResetWrite_let (eff := (t, .range 2 0)) hl ha hb (by simpa using n2) (by simp [n1, n2]) rfl (by simp)]

end

section
variable {s : State}

theorem State.pendingResetActs_waits (h : s.isl.holds ≠ [] ∨ s.boot.pendingReset = none) : s.pendingResetActs = s := by
  rcases h with h | h <;> simp [State.pendingResetActs, h]

theorem State.pendingResetActs_main (hh : s.isl.holds = []) (hp : s.boot.pendingReset = some .main) :
    s.pendingResetActs = s.startScope .main 0x07 := by
  simp [State.pendingResetActs, hh, hp]

theorem State.pendingResetActs_full (hh : s.isl.holds = []) (hp : s.boot.pendingReset = some .full) :
    s.pendingResetActs = s.startScope .full 0x04 := by
  simp [State.pendingResetActs, hh, hp]

end

/-! ### The drain before a reset (R100) -/

section
variable {s : State} {sc x : Scope} {cause c : Nat} {l : List Island}

/-- With no main island in RUN, or draining, the reset acts at once. -/
theorem State.startScope_at_once (hw : s.widest sc cause = (x, c))
    (hl : mainIslands.filter (fun i => s.runs i || s.isl_ i == islDraining) = []) :
    s.startScope sc cause = s.scopeReset x c true := by
  simp [State.startScope, hw, hl]

/-- Else all of them drain, in parallel. -/
theorem State.startScope_drains (hw : s.widest sc cause = (x, c))
    (hl : mainIslands.filter (fun i => s.runs i || s.isl_ i == islDraining) = l) (hn : l ≠ []) :
    s.startScope sc cause = (l.foldl (fun (u : State) i => u.startDrain i .scope) { s with
      boot := { s.boot with draining := some (x, c), pendingReset := none }
      isl := { s.isl with holds := [] } }).wdSync s := by
  simp [State.startScope, hw, hl, hn]

/-- The state after an island has drained: the requests it made are answered, and it is off the list of those that drain. -/
def State.outOfDrain (s : State) (i : Island) : State :=
  { s.leaveRequests i with isl := { (s.leaveRequests i).isl with
      drains := (s.leaveRequests i).isl.drains.filter (fun q => q.1 != i) } }

/-- The reset acts when the last island has drained. -/
theorem State.drainDone_scope {i : Island} (hd : s.isl.drains.find? (fun p => p.1 == i) = some (i, .scope))
    (hs : (s.outOfDrain i).boot.draining = some (sc, c)) :
    s.drainDone i = if (s.outOfDrain i).isl.drains.any (fun q => q.2 == .scope) then s.outOfDrain i
      else (s.outOfDrain i).scopeReset sc c true := by
  have hs' : (s.leaveRequests i).boot.draining = some (sc, c) := hs
  simp only [State.drainDone, hd, hs']
  rfl

end

/-! ### After a start: the reset outputs, station time, WAKE_N (R109, R125, R795) -/

theorem rstoRelease_ready {s t : State} (hf : s.boot.firmware = true) (hp : s.boot.portReady = true)
    (ht : t = s.reach (s.boot.readyAt + stMsUp (s.el Reg.RSTO_EXT))) :
    exec .rstoRelease s = .next (State.wdSync { t with boot := { t.boot with rstoA := false, rstoB := false } } t) := by
  subst ht
  simp [exec_rstoRelease, execRstoRelease, hf, hp]

@[simp] theorem State.countTo_osc (s : State) (v : Nat) : (s.countTo v).osc = s.osc := by
  unfold State.countTo
  dsimp only
  split <;> simp

/-- BK's count reaches what it counts to, as far as its bits go. -/
theorem State.countTo_v (s : State) (v : Nat) : (s.countTo v).clk.v = min v (stMax / 8192) := by
  unfold State.countTo
  dsimp only
  split
  · rw [State.add_clk, State.setV_v]
  · rw [State.setV_v]

/-- Of the registers, BK's count shows only in the seconds on VBK (R145). -/
theorem State.el_countTo_ne (s : State) (v : Nat) {a : Nat} (h : a ≠ Reg.BK_ON_VBK_S) : (s.countTo v).el a = s.el a := by
  unfold State.countTo
  dsimp only
  split
  · rw [State.el_add, if_neg h, State.el_setV, State.el, State.pulsesTo_dict, State.el]
  · rw [State.el_setV, State.el, State.pulsesTo_dict, State.el]

/-- The state of station time's load, n ticks after the latch. -/
def State.timeLoaded (s : State) (n : Nat) : State :=
  let t := s.countTo (min (s.clk.v + n + 1) (stMax / 8192))
  { t with clk := ⟨t.clk.v * 8192, true, t.clk.v, 0⟩
           osc := { t.osc with phaseRun := if t.osc.phase = 0 then 0 else 2048 } }

theorem stationTimeLoad_loads (n : Nat) {s : State} (hr : s.runs .fb = true) (hl : s.clk.loaded = false)
    (hp : s.osc.pllLocked = true) : exec (.stationTimeLoad n) s = .next (s.timeLoaded n) := by
  simp [exec_stationTimeLoad, execStationTimeLoad, hr, hl, hp, State.timeLoaded]

theorem wakeNLow_wakes {s : State} (hm : s.mainPower = true) :
    exec .wakeNLow s = .next (State.wakeFb { s with boot := { s.boot with wakeN := true } }).wakeCr := by
  simp [exec_wakeNLow, execWakeNLow, hm]

/-- Settles O12: by the lemma of each source of a reset, of the drain before it and of what follows the start. -/
theorem resets : Obligations.Resets := by
  refine ⟨fun s hm hl => rstNLow_falls hm hl,
    fun s hm hl hw => ⟨fun t hd ht => rstNWiden_acted hm hl hw hd ht, fun sc c hd => rstNWiden_drains hm hl hw hd⟩,
    fun s => rfl, fun s t hv hd ht => vcoreBrownout_falls hv hd ht, fun s hf hr => keeperMainReset_asks hf hr, ?_,
    fun s => ⟨State.pendingResetActs_waits, State.pendingResetActs_main, State.pendingResetActs_full⟩,
    fun r s t w b hl ha hb h1 h2 => exec_devReset_range hl ha hb h1 h2, ?_, ?_, fun s t hf hp ht => rstoRelease_ready hf hp ht,
    ?_, fun s hm => wakeNLow_wakes hm, fun s => rfl⟩
  · intro r s t w c sc hl ha hc
    have he := exec_devReset_let hl ha hc
    refine ⟨fun hp => ⟨fun hh => ?_, fun hh => ?_⟩, fun x hp => ?_⟩
    · rw [he, State.devReset_first hp, if_neg hh]
    · rw [he, State.devReset_first hp, if_pos hh]
    · rw [he, State.devReset_further hp]
  · rintro sc x cause c s l rfl hnone hsome
    have hw : s.widest sc cause = (x, c) := by
      cases hd : s.boot.draining with
      | none => obtain ⟨rfl, rfl⟩ := hnone hd; exact State.widest_alone hd
      | some p => obtain ⟨rfl, rfl⟩ := hsome p.1 p.2 hd; exact State.widest_joined hd
    exact ⟨State.startScope_at_once hw, State.startScope_drains hw rfl⟩
  · rintro i sc c s t hd rfl hs u hu
    obtain rfl : u = s.outOfDrain i := hu
    have hdone := State.drainDone_scope hd hs
    refine ⟨fun ⟨q, hq, hqs⟩ => ?_, fun hall => ?_⟩
    · rw [hdone, if_pos (List.any_eq_true.mpr ⟨q, hq, by simp [hqs]⟩)]
    · rw [hdone, if_neg (by simpa using fun i hi => hall (i, .scope) hi rfl)]
  · intro n s hr hl hp
    refine ⟨s.timeLoaded n, stationTimeLoad_loads n hr hl hp, rfl, ?_, ?_, ?_, ?_, fun a ha => s.el_countTo_ne _ ha, ?_⟩
    · simp [State.timeLoaded, State.countTo_v]
    · simp [State.timeLoaded, State.now]
    · simp [State.timeLoaded]
    · simp [State.timeLoaded]
    · simp [State.timeLoaded]

end Sys2Proof.Machine
end

section
/-! SUPPORT. The crystal's qualification and its stop, the clocks that FB measures, and the load of the two steering words. -/
namespace Sys2Proof.Machine
open Host

theorem exec_x32Qualified (n gap p : Nat) (s : State) : exec (.x32Qualified n gap p) s = execX32Qualified n gap p s := rfl
theorem exec_x32Changeover (s : State) : exec .x32Changeover s = execX32Changeover s := rfl
theorem exec_x32QualTimeout (s : State) : exec .x32QualTimeout s = execX32QualTimeout s := rfl
theorem exec_x32RestartAttempt (s : State) : exec .x32RestartAttempt s = execX32RestartAttempt s := rfl
theorem exec_x32Stopped (s : State) : exec .x32Stopped s = execX32Stopped s := rfl
theorem exec_lfrcCalStart (s : State) : exec .lfrcCalStart s = execLfrcCalStart s := rfl
theorem exec_lfrcCalEnd (e t : Int) (s : State) : exec (.lfrcCalEnd e t) s = execLfrcCalEnd e t s := rfl
theorem exec_aorcMeasure (hz : Nat) (s : State) : exec (.aorcMeasure hz) s = execAorcMeasure hz s := rfl
theorem exec_xhMeasure (p : Int) (s : State) : exec (.xhMeasure p) s = execXhMeasure p s := rfl
theorem exec_pllLockLoss (s : State) : exec .pllLockLoss s = execPllLockLoss s := rfl
theorem exec_pllRelock (s : State) : exec .pllRelock s = execPllRelock s := rfl
theorem exec_compLoad (ts0 : Int) (s : State) : exec (.compLoad ts0) s = execCompLoad ts0 s := rfl
theorem exec_compTempWake (ts0 : Int) (s : State) : exec (.compTempWake ts0) s = execCompTempWake ts0 s := rfl

/-! ### The crystal (R132 to R136, R171) -/

section
variable {n gap p : Nat} {s : State}

theorem x32Good_iff : x32Good n gap p = true ↔ 65536 ≤ n ∧ gap ≤ 4 ∧ 50 * n ≤ 51 * p ∧ 49 * p ≤ 50 * n := by
  simp [x32Good, and_assoc]

/-- R133: a crystal that passes reads as qualified, and source 7 releases; the age of a new model begins with it (R201, log
entry 89). -/
theorem x32Qualified_good {t : State} (hr : s.runs .bk = true) (hx : s.el Reg.X32_STATE ≠ 1) (hg : x32Good n gap p = true)
    (ht : t = ((State.put { s with
      bk := { s.bk with qualified := true }
      rep := { s.rep with restarted := s.rep.restarted || s.el Reg.X32_STATE == 2 } } Reg.X32_STATE 1).tamperOff
        7).repairCheck) :
    exec (.x32Qualified n gap p) s =
      if t.osc.ageWaits then
        let u := if t.el Reg.LEARN_STATE = 0 then t.resetModel else t
        .next (State.put { u with osc := { u.osc with ageWaits := false } } Reg.AGE_ORIGIN u.now)
      else .next t := by
  rw [exec_x32Qualified, execX32Qualified, if_neg (by simp [hr, hx, hg])]
  simp only [← ht]

theorem x32Qualified_bad (hg : x32Good n gap p = false) : exec (.x32Qualified n gap p) s = .next s := by
  simp [exec_x32Qualified, execX32Qualified, hg]

theorem x32Changeover_qualified (hr : s.runs .bk = true) (hq : s.bk.qualified = true) {t : State}
    (ht : t = s.reach (s.now + ((s.clk.v + 32767) / 32768 * 32768 - s.clk.v) * 8192)) :
    exec .x32Changeover s = .next { t with bk := { t.bk with qualified := false } } := by
  subst ht
  simp [exec_x32Changeover, execX32Changeover, hr, hq]

theorem x32QualTimeout_unqualified (hr : s.runs .bk = true) (hx : s.el Reg.X32_STATE = 0) :
    exec .x32QualTimeout s = .next (s.tamperOn 7 2) := by
  simp [exec_x32QualTimeout, execX32QualTimeout, hr, hx]

theorem x32RestartAttempt_tries (hr : s.runs .bk = true) (hx : s.el Reg.X32_STATE ≠ 1) :
    exec .x32RestartAttempt s = .next (s.put Reg.X32_DRIVE s.bk.driveMax) := by
  simp [exec_x32RestartAttempt, execX32RestartAttempt, hr, hx]

/-- R171: four ticks are credited where BK counted the crystal, and the observation under way is dropped (R198). -/
theorem x32Stopped_stops (hr : s.runs .bk = true) (hx : s.el Reg.X32_STATE = 1) {t : State}
    (ht : t = if s.onCrystal then s.reach (s.now + 4 * 8192) else s) :
    exec .x32Stopped s = .next (((State.put { t with
      bk := { t.bk with qualified := false }
      osc := { t.osc with
        gap := none, obs := none, obsDue := [], disc := if t.ownLocked then t.osc.disc else 0 } }
      Reg.X32_STATE 2).tamperOn 7 1).repairCheck) := by
  subst ht
  rw [exec_x32Stopped, execX32Stopped, if_neg (by simp [hr, hx])]

end

/-! ### What FB measures (R174, R177, R178, R183) -/

section
variable {s : State}

/-- A fit exists wherever there is a record. -/
theorem lfrcFit_isSome {l : List (Int × Int)} (h : l ≠ []) : (lfrcFit l).isSome = true := by
  unfold lfrcFit
  dsimp only
  rw [if_neg (by simpa using h)]
  split
  · rfl
  · split <;> rfl

/-- R174: the latest 32 records are never none. -/
theorem lfrcRecords_ne_nil (l : List (Int × Int)) (x : Int × Int) : (l ++ [x]).drop (l.length - 31) ≠ [] := by
  rw [Ne, List.drop_eq_nil_iff, List.length_append, List.length_singleton]
  omega

theorem lfrcCalStart_runs (hr : s.runs .fb = true) (hc : s.onCrystal = true) :
    exec .lfrcCalStart s = .next { s with osc := { s.osc with lfrcRun := true } } := by
  simp [exec_lfrcCalStart, execLfrcCalStart, hr, hc]

/-- R174: at the end of a run its record is kept, and the fit's largest residual is shown. -/
theorem lfrcCalEnd_fits {e t : Int} {u : State} {l : List (Int × Int)} {f : Rat × Rat × Rat} (hl : s.osc.lfrcRun = true)
    (hr : s.runs .fb = true) (hc : s.onCrystal = true)
    (hl' : l = (s.osc.lfrcCal ++ [(e, t)]).drop (s.osc.lfrcCal.length - 31))
    (hu : u = { s with osc := { s.osc with lfrcRun := false, lfrcCal := l } }) (hf : lfrcFit l = some f) :
    exec (.lfrcCalEnd e t) s = .next (u.put Reg.LFRC_RESID (min
      (l.foldl (fun a p => max a (roundRat (absRat (p.1 - fitAt f p.2))).toNat) 0) (2 ^ 32 - 1))) := by
  rw [exec_lfrcCalEnd, execLfrcCalEnd, if_neg (by simp [hl, hr, hc])]
  simp only [← hl', hf, hu]

theorem aorcMeasure_runs (hz : Nat) (hr : s.runs .fb = true) :
    exec (.aorcMeasure hz) s = .next (s.put Reg.AORC_HZ (hz % 2 ^ 32)) := by
  simp [exec_aorcMeasure, execAorcMeasure, hr]

/-- R178: the error of XH is shown; a record when it goes beyond 50 ppm. -/
theorem xhMeasure_runs (p : Int) (hr : s.runs .fb = true) (hn : s.runs .nw = true) :
    exec (.xhMeasure p) s = if 50000 < p.natAbs ∧ (s.elS 4 Reg.XH_PPB).natAbs ≤ 50000
      then .next ((s.putS 4 Reg.XH_PPB (clampS 4 p)).refRecord 3) else .next (s.putS 4 Reg.XH_PPB (clampS 4 p)) := by
  rw [exec_xhMeasure, execXhMeasure, if_neg (by simp [hr, hn])]

theorem pllLockLoss_runs (hr : s.runs .fb = true) :
    exec .pllLockLoss s = .next { s.fbStops with osc := { s.fbStops.osc with pllLocked := false } } := by
  simp [exec_pllLockLoss, execPllLockLoss, hr]

theorem pllRelock_runs (hr : s.runs .fb = true) :
    exec .pllRelock s = .next { s with osc := { s.osc with pllLocked := true } } := by
  simp [exec_pllRelock, execPllRelock, hr]

/-- Without station time of its own FB hands BK nothing. -/
theorem State.fbStops_unloaded (h : s.clk.loaded = false) : s.fbStops = s := by
  simp [State.fbStops, h]

/-- R188: the whole ticks of station time go to BK. -/
theorem State.fbStops_v (h : s.clk.loaded = true) : s.fbStops.clk.v = min (s.clk.st / 8192) (stMax / 8192) := by
  simp [State.fbStops, h, State.setV_v]

/-- R183: once FB has stopped, stamps are COARSE. -/
theorem State.fbStops_coarse (s : State) : s.fbStops.coarseFlag = 0x80 := by
  unfold State.fbStops
  split
  · rename_i h
    simpa [State.coarseFlag] using h
  · rfl

end

/-! ### The load of the steering words (R184 to R187) -/

section
variable {s : State} {ts0 : Int}

/-- TS0 alone touches its own two registers: of TS0 no block's age is read. -/
theorem State.readTs_one (s : State) (ts0 : Int) : ∃ x y : Nat,
    s.readTs [ts0] = (s.put (Reg.TS_T 0) x).put (Reg.TS_EXT 0) y :=
  ⟨_, _, rfl⟩

theorem State.osc_readTs_one (s : State) (ts0 : Int) : (s.readTs [ts0]).osc = s.osc := by
  obtain ⟨x, y, h⟩ := s.readTs_one ts0
  simp [h]

theorem State.el_readTs_one (s : State) (ts0 : Int) {a : Nat} (h0 : a ≠ Reg.TS_T 0) (h1 : a ≠ Reg.TS_EXT 0) :
    (s.readTs [ts0]).el a = s.el a := by
  obtain ⟨x, y, h⟩ := s.readTs_one ts0
  rw [h, State.el_put_ne _ _ h1, State.el_put_ne _ _ h0]

/-- R184: AO wakes FB where TS0 is out of the window about the latest load. -/
theorem compTempWake_loaded {t : Int} (hl : s.osc.lastLoadT = some t) (hm : s.mainPower = true) :
    exec (.compTempWake ts0) s = if s.el Reg.COMP_DT < (ts0 + s.elS 2 Reg.XTAL_T_OFS - t).natAbs
      then .next (s.readTs [ts0]).wakeFb else .next (s.readTs [ts0]) := by
  simp only [exec_compTempWake, execCompTempWake, hm, State.osc_readTs_one, hl,
    s.el_readTs_one ts0 (a := Reg.COMP_DT) (by decide) (by decide)]
  simp

/-- A word is within its limits exactly where they leave it as it is. -/
theorem eq_clampInt_iff (x : Int) (m : Nat) : x = clampInt x (-m) m ↔ x.natAbs ≤ m := by
  unfold clampInt
  omega

/-- The state after a load of y at a temperature outside an episode, BK_COMP taking the word bc. -/
def State.wordsLoaded (b : State) (temp bc : Int) (y : Rat) : State :=
  let t : State := { b with
    osc := { b.osc with
      lastLoadT := some temp, lastLoadAt := b.now, base := -(y / 1000000000000) + b.osc.disc }
    bk := { b.bk with comp := bc } }
  (((t.putS 2 Reg.XTAL_T temp).steer).putS 4 Reg.BK_COMP bc).put Reg.LEARN_SIGMA
    (min (Nat.sqrt (dot (b.phiOf temp b.now) (matVec b.osc.cov (b.phiOf temp b.now))).floor.toNat) (2 ^ 32 - 1))

/-- R184 to R187: the bound integrated, the outages' correction taken up, the LFRC's trim set, FB computes y and loads both words;
a record where BK_COMP was limited. -/
theorem compLoad_loads {x a b : State} {temp bw bc : Int} {y : Rat} (hr : s.runs .fb = true) (hl : s.clk.loaded = true)
    (hx : x = s.readTs [ts0]) (ht : temp = clampS 2 (ts0 + x.elS 2 Reg.XTAL_T_OFS))
    (ha : a = (x.growHold (x.boundSince temp)).outageCorrection temp)
    (hb : b = if a.onCrystal then a else a.putS 1 Reg.LFRC_TRIM (a.trimFor temp)) (he : b.osc.epStart = none)
    (hy : y = b.ySteer temp b.now) (hw : bw = bkWord y b.osc.disc) (hc : bc = clampInt bw (-(2 ^ 20)) (2 ^ 20)) :
    exec (.compLoad ts0) s =
      .next (if bw = bc then b.wordsLoaded temp bc y else (b.wordsLoaded temp bc y).refRecord 4) := by
  rw [exec_compLoad, execCompLoad, if_neg (by simp [hr, hl])]
  simp only [← hx, ← ht, ← ha, ← hb, ← hy, ← hw, ← hc, he, Option.isSome_none, Bool.false_eq_true, if_false,
    State.wordsLoaded]

end

/-- Settles O17: by the lemma of each event of the crystal, of each clock measured, and of the load. -/
theorem clocksMeasured : Obligations.ClocksMeasured := by
  refine ⟨?_, ?_, fun s t hr hq ht => x32Changeover_qualified hr hq ht, fun s hr hx => x32QualTimeout_unqualified hr hx,
    fun s hr hx => x32RestartAttempt_tries hr hx, fun s t hr hx ht => x32Stopped_stops hr hx ht,
    fun s hr hc => lfrcCalStart_runs hr hc, ?_, fun hz s hr => aorcMeasure_runs hz hr, ?_, ?_,
    fun s hr => pllRelock_runs hr, ?_, fun s => rfl, ?_⟩
  · intro n gap p s t hr hx h1 h2 h3 h4 ht
    have hq := x32Qualified_good hr hx (x32Good_iff.mpr ⟨h1, h2, h3, h4⟩) ht
    refine ⟨fun ha => ?_, fun u ha hu => ?_⟩
    · rw [hq, if_neg (by simp [ha])]
    · rw [hq, if_pos ha, hu]
  · intro n gap p s h
    refine x32Qualified_bad (Bool.eq_false_iff.mpr fun hg => ?_)
    have := x32Good_iff.mp hg
    omega
  · intro e t s u l hl hr hc hl' hu
    exact ⟨fun f hf => lfrcCalEnd_fits hl hr hc hl' hu hf, hl' ▸ lfrcFit_isSome (lfrcRecords_ne_nil _ _)⟩
  · rintro p s t hr hn rfl
    refine ⟨fun h1 h2 => ?_, fun h => ?_⟩
    · rw [xhMeasure_runs p hr hn, if_pos ⟨h1, h2⟩]
    · rw [xhMeasure_runs p hr hn, if_neg (by omega)]
  · rintro s t hr rfl
    exact ⟨pllLockLoss_runs hr, s.fbStops_coarse, State.fbStops_v, State.fbStops_unloaded⟩
  · intro ts0 temp bw bc s x a b t c y hr hl hx ht ha hb he hy hw hbc hst hc
    have hload := compLoad_loads hr hl hx ht ha hb he hy hw hbc
    have hcw : c = b.wordsLoaded temp bc y := by rw [hc, hst, State.wordsLoaded]
    have hfit : bw = bc ↔ bw.natAbs ≤ 2 ^ 20 := hbc ▸ eq_clampInt_iff bw (2 ^ 20)
    refine ⟨fun h => ?_, fun h => ?_⟩
    · rw [hload, if_pos (hfit.mpr h), hcw]
    · rw [hload, if_neg (fun e => absurd (hfit.mp e) (Nat.not_le.mpr h)), hcw]
  · rintro ts0 t s x hl hm rfl
    refine ⟨fun h => ?_, fun h => ?_⟩
    · rw [compTempWake_loaded hl hm, if_pos h]
    · rw [compTempWake_loaded hl hm, if_neg (Nat.not_lt.mpr h)]

end Sys2Proof.Machine
end

section
/-! SUPPORT. Steps of station time: what a request answers in each case, what becomes of a pending step at its instant, and what
a step that is applied shows. -/
namespace Sys2Proof.Machine
open Host

theorem exec_timeStepWrite (r : Req) (p : Option Nat) (s : State) :
    exec (.timeStepWrite r p) s = execTimeStepWrite r p s := rfl
theorem exec_timeStepFWrite (r : Req) (p : Option Nat) (s : State) :
    exec (.timeStepFWrite r p) s = execTimeStepFWrite r p s := rfl
theorem exec_timeSetWrite (r : Req) (p : Option Nat) (s : State) : exec (.timeSetWrite r p) s = execTimeSetWrite r p s := rfl
theorem exec_stepWithdraw (r : Req) (s : State) : exec (.stepWithdraw r) s = execStepWithdraw r s := rfl
theorem exec_stepApply (ok : Bool) (s : State) : exec (.stepApply ok) s = execStepApply ok s := rfl

/-! ### The request (R233 to R238) -/

section
variable {t : State} {a : Nat} {d : Int} {forced set : Bool} {cid : Nat} {p : Option Nat}

/-- R234: the next 1/64 s boundary, for a half on its own. -/
theorem State.stepInstant_next (he : t.tim.rangeEnd = false) (ht : t.twinTied = false) :
    t.stepInstant = (t.now / 2 ^ 22 + 1) * 2 ^ 22 := by
  simp only [State.stepInstant, he, ht, Bool.false_eq_true, if_false]
  rfl

theorem State.requestStep_locked (hl : t.refLocked = true) :
    t.requestStep d forced set cid false p = (t, .conflict 3) := by
  simp [State.requestStep, hl]

theorem State.requestStep_pending (hl : t.refLocked = false) (hs : t.tim.step ≠ none) :
    t.requestStep d forced set cid false p = (t, .conflict 2) := by
  simp [State.requestStep, hl, Option.isSome_iff_ne_none, hs]

/-- A step within station time's range, that moves it, is not refused for its value. -/
theorem State.stepValue_taken (he : t.tim.rangeEnd = false) (h0 : 0 ≤ (a : Int) + d) (h1 : (a : Int) + d ≤ 2 ^ 64 - 1)
    (hd : set = false ∨ d ≠ 0) :
    ¬ ((set = true ∧ d = 0) ∨ stepRangeBad a d = true ∨ (t.tim.rangeEnd = true ∧ 0 < d)) := by
  have hmax : (stMax : Int) = 2 ^ 64 - 1 := rfl
  rintro (⟨rfl, rfl⟩ | h | ⟨h, _⟩)
  · simp at hd
  · simp only [stepRangeBad, Bool.or_eq_true, decide_eq_true_eq] at h
    omega
  · simp [he] at h

/-- R236, R238: a step that is forced, requested in UNSET, or with no instant in its crossed interval, is not blocked. -/
theorem State.unblocked (h : forced = true ∨ t.unset = true ∨ t.blockers a d = []) :
    (if forced = true ∨ t.unset = true then none else earliest (t.blockers a d)) = none := by
  split
  · rfl
  · rename_i hn
    obtain ⟨hf, hu⟩ := not_or.mp hn
    rw [(h.resolve_left hf).resolve_left hu]
    rfl

section
variable (ha : t.stepInstant = a) (hl : t.refLocked = false) (hs : t.tim.step = none)
include ha hl hs

/-- R233: a result out of station time's range, or a TIME_SET that moves nothing. -/
theorem State.requestStep_range (hr : (a : Int) + d < 0 ∨ (2 ^ 64 - 1 : Int) < a + d ∨ (set = true ∧ d = 0)) :
    t.requestStep d forced set cid false p = (t, .range 2 0) := by
  have hbad : (set = true ∧ d = 0) ∨ stepRangeBad a d = true ∨ (t.tim.rangeEnd = true ∧ 0 < d) := by
    rcases hr with h | h | h
    · exact .inr (.inl (by simp [stepRangeBad, h]))
    · exact .inr (.inl (by simpa [stepRangeBad] using .inr h))
    · exact .inl h
  simp only [State.requestStep, hl, hs, ha, if_pos hbad]
  simp

variable (he : t.tim.rangeEnd = false) (h0 : 0 ≤ (a : Int) + d) (h1 : (a : Int) + d ≤ 2 ^ 64 - 1)
  (hd : set = false ∨ d ≠ 0)
include he h0 h1 hd

theorem State.requestStep_sealed (hc : t.sealed 0 = true) :
    t.requestStep d forced set cid false p = (t, .sealed) := by
  have hv := State.stepValue_taken he h0 h1 hd
  simp only [State.requestStep, hl, hs, ha, if_neg hv, hc]
  simp

variable (ht : t.twinTied = false)
include ht

/-- R236, R238: forced, in UNSET, or with no instant in the crossed interval. -/
theorem State.requestStep_ok (hc : t.sealed 0 = false) (hb : forced = true ∨ t.unset = true ∨ t.blockers a d = []) :
    t.requestStep d forced set cid false p =
      ({ t with tim := { t.tim with step := some ⟨d, forced, a, cid, false, false⟩ } }, .ok) := by
  have hv := State.stepValue_taken he h0 h1 hd
  have hown := State.unblocked hb
  simp only [State.requestStep, hl, hs, ha, if_neg hv, hc, hown, ht]
  simp [earliest]

/-- R236: the earliest instant in the crossed interval blocks it. -/
theorem State.requestStep_blocked {b : Nat} (hc : t.sealed 0 = false) (hf : forced = false) (hu : t.unset = false)
    (hb : earliest (t.blockers a d) = some b) :
    t.requestStep d forced set cid false p = (t.put Reg.STEP_BLOCK b, .conflict 2) := by
  have hv := State.stepValue_taken he h0 h1 hd
  simp only [State.requestStep, hl, hs, ha, if_neg hv, hc, hf, hu, hb, ht]
  simp [earliest]

end

theorem State.sendStep_exch (s : State) (d : Int) (a : Nat) (forced ok : Bool) : (s.sendStep d a forced ok).exch = s.exch := by
  unfold State.sendStep
  dsimp only
  split <;> rfl

/-- A request is no business of the exchange, and never answers REFUSED. -/
theorem State.requestStep_exch (s : State) (d : Int) (forced set : Bool) (cid : Nat) (keeper : Bool) (p : Option Nat) :
    (s.requestStep d forced set cid keeper p).1.exch = s.exch ∧ (s.requestStep d forced set cid keeper p).2.code ≠ 1 := by
  unfold State.requestStep
  dsimp only
  repeat' split
  all_goals simp [State.sendStep_exch]

end

/-! ### The three writes and the withdrawal (R232, R235) -/

section
variable {s t : State} {r : Req} {w : Who} {v : Nat} {p : Option Nat}

/-- A value of eight bytes is what a row of this element reads in the body. -/
theorem bodyNum_eight (h : r.value.length = 8) : bodyNum r.body 4 8 = bytesToNum r.value := by
  have : (r.body.drop 4).take 8 = r.value := List.take_of_length_le (Nat.le_of_eq h)
  rw [bodyNum, this]

theorem State.timeStep_request (t : State) (w : Who) (forced : Bool) (h : v ≠ 0) :
    t.timeStep w v forced p = t.requestStep (signed 64 v) forced false w.cid false p := by
  simp [State.timeStep, h]

/-- An element's own write whose effect is a request for a step. -/
theorem State.ownWrite_step {cmd : Instr} {mine : Nat → Bool} {f : State → Who → Nat → Nat → State × Stat} {d : Int}
    {forced set : Bool} (hl : LetThrough s r false t w) (hm : mine r.addr = true)
    (hf : f t w r.addr (bytesToNum r.value) = t.requestStep d forced set w.cid false p) :
    s.ownWrite cmd r mine false (atOnce f) = (t.requestStep d forced set w.cid false p).1.answer r 2
      (t.requestStep d forced set w.cid false p).2 [] := by
  obtain ⟨hx, hc⟩ := t.requestStep_exch d forced set w.cid false p
  rw [State.ownWrite_let hl hm, hf, State.finish_answer _ _ _ _ _ _ (hx ▸ hl.heard) hc]

/-- R232: a write to TIME_STEP, TIME_STEP_F or TIME_SET requests a step. -/
theorem exec_step_let {c : Instr} {d : Int} {forced set : Bool} (hl : LetThrough s r false t w) (hv : v = bytesToNum r.value)
    (h8 : r.value.length = 8)
    (hc : (c = .timeStepWrite r p ∧ r.addr = Reg.TIME_STEP ∧ v ≠ 0 ∧ d = signed 64 v ∧ forced = false ∧ set = false) ∨
      (c = .timeStepFWrite r p ∧ r.addr = Reg.TIME_STEP_F ∧ v ≠ 0 ∧ d = signed 64 v ∧ forced = true ∧ set = false) ∨
      (c = .timeSetWrite r p ∧ r.addr = Reg.TIME_SET ∧ d = (v : Int) - t.now ∧ forced = false ∧ set = true)) :
    exec c s = .next ((t.requestStep d forced set w.cid false p).1.answer r 2
      (t.requestStep d forced set w.cid false p).2 []) := by
  subst hv
  have h8' := bodyNum_eight h8
  rcases hc with ⟨rfl, ha, h0, rfl, rfl, rfl⟩ | ⟨rfl, ha, h0, rfl, rfl, rfl⟩ | ⟨rfl, ha, rfl, rfl, rfl⟩
  · rw [exec_timeStepWrite, execTimeStepWrite,
      State.ownWrite_step hl (by simp [ha, h8', h0]) (t.timeStep_request w false h0)]
  · rw [exec_timeStepFWrite, execTimeStepFWrite,
      State.ownWrite_step hl (by simp [ha, h8', h0]) (t.timeStep_request w true h0)]
  · rw [exec_timeSetWrite, execTimeSetWrite, State.ownWrite_step hl (by simp [ha]) rfl]

theorem exec_stepWithdraw_let (hl : LetThrough s r false t w) (ha : r.addr = Reg.TIME_STEP ∨ r.addr = Reg.TIME_STEP_F)
    (hz : r.value = [0, 0, 0, 0, 0, 0, 0, 0]) :
    exec (.stepWithdraw r) s = .next (State.answer { t with tim := { t.tim with step := none } } r 2 .ok []) := by
  have h0 : bytesToNum r.value = 0 := by rw [hz]; rfl
  have hb : bodyNum r.body 4 8 = 0 := (bodyNum_eight (by rw [hz]; rfl)).trans h0
  rw [exec_stepWithdraw, execStepWithdraw, State.ownWrite_let hl (by simp [ha, hb])]
  simp only [h0, State.timeStep, if_pos]
  rw [State.finish_answer { t with tim := { t.tim with step := none } } _ _ _ _ _ hl.heard (by simp)]

end

/-! ### A pending step at its instant (R237, R240 to R242) -/

section
variable {ok : Bool} {x : Step} {s t : State} (hs : s.tim.step = some x) (hr : s.runs .fb = true)
  (ht : t = (s.reach x.at_).serveAt)
include hs hr ht

/-- The second check finds an instant in the crossed interval. -/
theorem stepApply_blocked {b : Nat} (hf : x.forced = false) (hu : t.unset = false)
    (hb : earliest (t.blockers t.now x.delta) = some b) :
    exec (.stepApply ok) s = .next ((t.put Reg.STEP_BLOCK b).stepFails x (.conflict 2)) := by
  simp [exec_stepApply, execStepApply, hs, hr, ← ht, hf, hu, hb]

/-- It finds none: the peer's verdict, then chain 0, and the step is applied. -/
theorem stepApply_free (hb : x.forced = true ∨ t.unset = true ∨ t.blockers t.now x.delta = []) :
    exec (.stepApply ok) s = if x.joint && !ok then .next (t.stepFails x (.conflict 2))
      else if t.sealed 0 then .next (t.stepFails x .sealed)
      else .next ((t.restamp (s.reach x.at_) x.delta).stepApplied x) := by
  have hnone := State.unblocked hb
  simp only [exec_stepApply, execStepApply, hs, hr, ← ht, hnone]
  simp

end

/-! ### What an applied step shows (R131, R240, R242) -/

section
variable (x : Step) (s : State)

theorem State.el_stepRegs (a : Nat) : (s.stepRegs x).el a =
    if a = Reg.STEP_COUNT then min (s.el Reg.STEP_COUNT + 1) (2 ^ (8 * 4) - 1)
    else if a = Reg.STEP_LAST_SIZE then unsigned (8 * 8) x.delta
    else if a = Reg.STEP_LAST_AT then s.now
    else if a = Reg.TIME_STATE then 1 else s.el a := by
  have hcount : (((s.put Reg.TIME_STATE 1).put Reg.STEP_LAST_AT s.now).put Reg.STEP_LAST_SIZE
      (unsigned (8 * 8) x.delta)).el Reg.STEP_COUNT = s.el Reg.STEP_COUNT := by
    rw [State.el_put_ne _ _ (by decide), State.el_put_ne _ _ (by decide), State.el_put_ne _ _ (by decide)]
  rw [State.stepRegs, State.putS, State.el_inc, hcount, State.el_put, State.el_put, State.el_put]

theorem State.stepRegs_onlyEls :
    OnlyEls [Reg.TIME_STATE, Reg.STEP_LAST_AT, Reg.STEP_LAST_SIZE, Reg.STEP_COUNT] s (s.stepRegs x) := by
  refine ⟨fun a ha => ?_, rfl⟩
  simp only [List.mem_cons, List.not_mem_nil, or_false, not_or] at ha
  obtain ⟨hstate, hat, hsize, hcount⟩ := ha
  rw [State.el_stepRegs, if_neg hcount, if_neg hsize, if_neg hat, if_neg hstate]

end

/-- Settles O19: by the lemma of each answer of a request, of each end of a pending step, and of the registers of an applied
one. -/
theorem steps : Obligations.Steps := by
  refine ⟨?_, fun r s t w hl ha hz => exec_stepWithdraw_let hl ha hz, ?_, ?_, ?_⟩
  · intro r s t w v a d p c forced set hl hv h8 hc he htw ha
    have hcmd := exec_step_let hl hv h8 hc
    have hat : t.stepInstant = a := (State.stepInstant_next he htw).trans ha.symm
    refine ⟨fun h => ?_, fun hk hs => ?_, fun hk hs h => ?_, fun hk hs h0 h1 hd => ⟨fun hse => ?_, fun hse hb => ?_,
      fun hse hf hu b hb => ?_⟩⟩
    · rw [hcmd, State.requestStep_locked h]
    · rw [hcmd, State.requestStep_pending hk hs]
    · rw [hcmd, State.requestStep_range hat hk hs h]
    · rw [hcmd, State.requestStep_sealed hat hk hs he h0 h1 hd hse]
    · rw [hcmd, State.requestStep_ok hat hk hs he h0 h1 hd htw hse hb]
    · rw [hcmd, State.requestStep_blocked hat hk hs he h0 h1 hd htw hse hf hu hb]
  · intro ok x s t hs hr ht
    refine ⟨fun b hf hu hb => stepApply_blocked hs hr ht hf hu hb, fun hb => ?_⟩
    have happly := stepApply_free (ok := ok) hs hr ht hb
    refine ⟨fun hj hk => ?_, fun hj hc => ?_, fun hj hc => ?_⟩
    · rw [happly, if_pos (by simp [hj, hk])]
    · rw [happly, if_neg (by rcases hj with h | h <;> simp [h]), if_pos hc]
    · rw [happly, if_neg (by rcases hj with h | h <;> simp [h]), if_neg (by simp [hc])]
  · rintro x st s t rfl
    exact ⟨fun hk => by simp [State.stepFails, hk], fun hk => by simp [State.stepFails, hk]⟩
  · intro x s
    exact ⟨State.el_stepRegs x s _, State.el_stepRegs x s _, State.el_stepRegs x s _, State.el_stepRegs x s _,
      s.stepRegs_onlyEls x⟩

end Sys2Proof.Machine
end

section
/-! SUPPORT. BK's own state through the delivery of records and the reserve warning: neither touches it. -/
namespace Sys2Proof.Machine
open Host

/-- The clock, BK's fields and every register below those of records and delivery, the backup domain's among them. -/
def State.backup (s : State) : Clk × BkSt × (Nat → Nat) :=
  (s.clk, s.bk, fun a => if a < 0x150000 then s.el a else 0)

theorem State.backup_eq_iff {s t : State} :
    t.backup = s.backup ↔ t.clk = s.clk ∧ t.bk = s.bk ∧ ∀ a < 0x150000, t.el a = s.el a := by
  simp only [State.backup, Prod.mk.injEq, funext_iff, and_congr_right_iff]
  refine fun _ _ => forall_congr' fun a => ?_
  split <;> simp [*]

theorem foldl_backup {α : Type} {f : State → α → State} (hf : ∀ t x, (f t x).backup = t.backup) (l : List α) (s : State) :
    (l.foldl f s).backup = s.backup := by
  induction l generalizing s with
  | nil => rfl
  | cons x l ih => exact (ih (f s x)).trans (hf s x)

theorem State.put_backup (s : State) {a : Nat} (v : Nat) (h : 0x150000 ≤ a) : (s.put a v).backup = s.backup :=
  State.backup_eq_iff.mpr ⟨rfl, rfl, fun _ hb => s.el_put_ne v (Nat.ne_of_lt (Nat.lt_of_lt_of_le hb h))⟩

theorem State.inc_backup (s : State) (n : Nat) {a : Nat} (h : 0x150000 ≤ a) : (s.inc n a).backup = s.backup :=
  s.put_backup _ h

@[simp] theorem State.dlvSet_backup (s : State) (d : DlvSt) : (s.dlvSet d).backup = s.backup := rfl
@[simp] theorem State.logEntry_backup (s : State) (g : LogGroup) : (s.logEntry g).backup = s.backup := rfl
@[simp] theorem State.drawn_backup (s : State) : s.drawn.backup = s.backup := rfl
@[simp] theorem State.freeRecs_backup (s : State) : s.freeRecs.backup = s.backup := rfl
@[simp] theorem State.completeAt_backup (s : State) (id t : Nat) : (s.completeAt id t).backup = s.backup := rfl
@[simp] theorem State.recMap_backup (s : State) (id : Nat) (f : Rec → Rec) : (s.recMap id f).backup = s.backup := rfl
@[simp] theorem State.startGroup_backup (s : State) (g : Nat) : (s.startGroup g).backup = s.backup := rfl
@[simp] theorem State.takeSeq_backup (s : State) (t : Nat) : (s.takeSeq t).backup = s.backup := rfl
@[simp] theorem State.addWait_backup (s : State) (w : Waiting) : (s.addWait w).backup = s.backup := rfl

@[simp] theorem State.setIsl_backup (s : State) (i : Island) (c : Nat) : (s.setIsl i c).backup = s.backup :=
  State.put_backup { s with isl := { s.isl with shadows := s.isl.shadows.set (islNum i) (255 - c) } } c
    (by unfold Reg.ISL_STATE; omega)

@[simp] theorem State.wakeFb_backup (s : State) : s.wakeFb.backup = s.backup := by
  unfold State.wakeFb; split <;> simp

@[simp] theorem State.wakeCr_backup (s : State) : s.wakeCr.backup = s.backup := by
  unfold State.wakeCr; split <;> simp

@[simp] theorem State.callCr_backup (s : State) : s.callCr.backup = s.backup := by
  unfold State.callCr State.over
  split
  · split
    · exact s.inc_backup 4 (by decide)
    · simp
  · rfl

@[simp] theorem State.pushEntry_backup (s : State) (id t : Nat) (replay : Bool) :
    (s.pushEntry id t replay).backup = s.backup := by
  unfold State.pushEntry; dsimp only; split <;> simp

/-- A placement that waits for room is counted in RING_WAITS. -/
theorem State.waitRoom_backup (s : State) (w : Waiting) : ((s.inc 4 Reg.RING_WAITS).addWait w).backup = s.backup :=
  s.inc_backup 4 (by decide)

@[simp] theorem State.place_backup (s : State) (id st : Nat) (replay : Bool) : (s.place id st replay).backup = s.backup := by
  unfold State.place
  split
  · rfl
  · dsimp only
    split
    · split
      · rfl
      · split
        · rw [State.waitRoom_backup, State.recMap_backup]
        · rw [foldl_backup (fun t k => t.pushEntry_backup id k replay), State.recMap_backup]
    · split
      · rfl
      · split
        · simp
        · exact s.waitRoom_backup _

@[simp] theorem State.arrive_backup (s : State) (id st : Nat) : (s.arrive id st).backup = s.backup := by
  unfold State.arrive
  split
  · rfl
  · split
    · rfl
    · split
      · simp
      · split <;> simp

@[simp] theorem State.post_backup (s : State) (id : Nat) : (s.post id).backup = s.backup := by
  unfold State.post
  split
  · rfl
  · split
    · simp
    · exact foldl_backup (fun t k => t.arrive_backup id k) _ s

@[simp] theorem State.overrun_backup (s : State) (n : NewRec) : (s.overrun n).backup = s.backup := by
  have hall : ((s.inc 4 (Reg.REC_OVERRUNS (quotaHid n.hid))).inc 4 Reg.REC_OVERRUN_ALL).backup = s.backup := by
    rw [State.inc_backup _ _ (by decide), State.inc_backup _ _ (by unfold Reg.REC_OVERRUNS; omega)]
  simp only [State.overrun, State.dlvSet_backup]
  split
  · rw [State.inc_backup _ _ (by unfold Reg.EVT_LOST; omega), hall]
  · exact hall

@[simp] theorem State.forward_backup (s : State) (r : Rec) : (s.forward r).backup = s.backup := by
  unfold State.forward; split <;> rfl

/-- R408: a record that is written, or finds no room, leaves BK's state alone. -/
@[simp] theorem State.record_backup (s : State) (n : NewRec) : (s.record n).backup = s.backup := by
  unfold State.record
  split
  · rfl
  · dsimp only
    split
    · simp
    · rw [State.forward_backup, State.freeRecs_backup, State.post_backup, State.put_backup _ _ (by decide),
        State.dlvSet_backup, State.wakeFb_backup]

/-- R717: the reserve warning leaves BK's state alone. -/
@[simp] theorem State.repairCheck_backup (s : State) : s.repairCheck.backup = s.backup := by
  unfold State.repairCheck
  split
  · rfl
  · split
    · rfl
    · dsimp only
      rw [State.logKeeper, State.logEntry_backup, State.drawn_backup, State.repairEvent, State.stationRecord, State.record_backup]
      rfl

end Sys2Proof.Machine
end

section
/-! SUPPORT. The change of the backup domain's supply, either way, and the loss of BK's state. -/
namespace Sys2Proof.Machine
open Host

theorem exec_switchoverToVbk (s : State) : exec .switchoverToVbk s = execSwitchoverToVbk s := rfl
theorem exec_switchoverToMain (s : State) : exec .switchoverToMain s = execSwitchoverToMain s := rfl
theorem exec_bkStateLoss (s : State) : exec .bkStateLoss s = execBkStateLoss s := rfl

section
variable {s : State}

/-- R144: the change to VBK is counted and stamped, with BK in RUN. -/
theorem switchoverToVbk_changes {t : State} (hv : s.onVbk = false) (hr : s.runs .bk = true)
    (ht : t = ((s.ageOut.inc 4 Reg.SWO_COUNT).put Reg.SWO_LAST (s.clk.v * 8192)).put Reg.BK_SUPPLY 1) :
    exec .switchoverToVbk s = .next { t.mainLoss.put Reg.VBK_MV 0 with
      boot := { t.mainLoss.boot with vsys := false }, osc := { t.mainLoss.osc with gap := none } } := by
  simp [exec_switchoverToVbk, execSwitchoverToVbk, State.coarse, hv, hr, ht]

/-- A start of main power that fails. -/
theorem switchoverToVbk_startFails (hv : s.onVbk = true) (hs : s.boot.vsys = true) :
    exec .switchoverToVbk s = .next { s.mainLoss with boot := { s.mainLoss.boot with vsys := false } } := by
  simp [exec_switchoverToVbk, execSwitchoverToVbk, hv, hs]

theorem switchoverToVbk_stays (hv : s.onVbk = true) (hs : s.boot.vsys = false) :
    exec .switchoverToVbk s = .next s := by
  simp [exec_switchoverToVbk, execSwitchoverToVbk, hv, hs]

/-- BK back on main, the return stamped (R144). -/
def State.backOnMain (s : State) : State :=
  ((s.put Reg.BK_SUPPLY 0).put Reg.SWO_RETURN (s.clk.v * 8192)).trickleSet

theorem State.el_backOnMain (s : State) (a : Nat) : s.backOnMain.el a =
    if a = Reg.SWO_RETURN then s.clk.v * 8192 else if a = Reg.BK_SUPPLY then 0 else s.el a :=
  (State.el_put _ _ _ _).trans (by rw [State.el_put])

/-- R207: an outage of a second or more waits for its correction. -/
def State.outageNoted (t : State) : State :=
  if t.el Reg.SWO_LAST + stSecond ≤ t.el Reg.SWO_RETURN then
    { t with osc := { t.osc with outages := t.osc.outages ++ [(t.el Reg.SWO_LAST, t.el Reg.SWO_RETURN)] } }
  else t

section
variable (hv : s.onVbk = true) (h5 : s.boot.vdd5 = true)
include hv h5

/-- R158: a vote that failed on VBK is raised at the return. -/
theorem switchoverToMain_returns (hl : s.bk.lost = false) :
    exec .switchoverToMain s = .next (if s.backOnMain.outageNoted.bk.voteDeferred then
      State.tamperOn { s.backOnMain.outageNoted with bk := { s.backOnMain.outageNoted.bk with voteDeferred := false } } 9 2
      else s.backOnMain.outageNoted) := by
  rw [exec_switchoverToMain, execSwitchoverToMain, if_neg (by simp [hv, h5]), if_neg (by simp [hl])]
  exact (apply_ite _ _ _ _).symm

/-- R854: a BK that lost its state starts. -/
theorem switchoverToMain_starts (hl : s.bk.lost = true) :
    exec .switchoverToMain s = .next (s.put Reg.BK_SUPPLY 0).backupReset := by
  simp [exec_switchoverToMain, execSwitchoverToMain, hv, h5, hl]

end

theorem bkStateLoss_loses {t : State} (hr : s.runs .bk = true) (hv : s.onVbk = true)
    (ht : t = (s.loseIsland .bk).setIsl .bk islUnpowered) :
    exec .bkStateLoss s = .next { t with bk := { t.bk with lost := true } } := by
  simp [exec_bkStateLoss, execBkStateLoss, hr, hv, ht]

end

/-- Settles O13: by the lemma of each change of supply, and of the loss of BK's state. -/
theorem switchover : Obligations.Switchover := by
  refine ⟨fun s hv hr => ⟨_, _, rfl, rfl, switchoverToVbk_changes hv hr rfl⟩,
    fun s hv => ⟨switchoverToVbk_startFails hv, switchoverToVbk_stays hv⟩, ?_,
    fun s hv h5 hl => switchoverToMain_starts hv h5 hl, fun s t hr hv ht => bkStateLoss_loses hr hv ht⟩
  intro s t u hv h5 hl ht hlong hshort
  obtain rfl : t = s.backOnMain := ht
  have hu : u = s.backOnMain.outageNoted := by
    unfold State.outageNoted
    split
    · exact hlong ‹_›
    · exact hshort (Nat.not_le.mp ‹_›)
  have hret := switchoverToMain_returns hv h5 hl
  rw [← hu] at hret
  refine ⟨s.el_backOnMain _, s.el_backOnMain _, fun hd => ?_, fun hd => ?_⟩
  · rw [hret, if_neg (by simp [hd])]
  · rw [hret, if_pos hd]

end Sys2Proof.Machine
end

section
/-! SUPPORT. A register's bits: what one reads after another is set. -/
namespace Sys2Proof.Machine
open Host

theorem bitOf_eq_testBit (v k : Nat) : bitOf v k = v.testBit k := by
  rw [Nat.testBit_eq_decide_div_mod_eq]; rfl

/-- A number with a bit set or cleared: what stands above that bit, the bit, and what stands below it. -/
theorem setBit_eq (v k : Nat) (b : Bool) :
    setBit v k b = 2 ^ k * (2 * (v / 2 ^ k / 2) + b.toNat) + v % 2 ^ k := by
  have hv := Nat.div_add_mod v (2 ^ k)
  have hq := Nat.div_add_mod (v / 2 ^ k) 2
  have hb : (if b then 1 else 0) % 2 = b.toNat := by cases b <;> rfl
  simp only [setBit, setField, field, Nat.pow_one, hb]
  generalize v / 2 ^ k / 2 = h at *
  generalize v / 2 ^ k % 2 = e at *
  rw [← hq, Nat.mul_add] at hv
  rw [Nat.mul_add, Nat.mul_comm e, Nat.mul_comm b.toNat]
  omega

theorem bitOf_setBit (v k j : Nat) (b : Bool) : bitOf (setBit v k b) j = if j = k then b else bitOf v j := by
  have hr : v % 2 ^ k < 2 ^ k := Nat.mod_lt _ (Nat.two_pow_pos k)
  have hb : b.toNat < 2 := Bool.toNat_lt b
  rw [bitOf_eq_testBit, bitOf_eq_testBit, setBit_eq, Nat.testBit_two_pow_mul_add _ hr]
  rcases Nat.lt_trichotomy j k with h | rfl | h
  · rw [if_pos h, if_neg (Nat.ne_of_lt h), Nat.testBit_mod_two_pow, decide_eq_true h, Bool.true_and]
  · rw [if_neg (Nat.lt_irrefl j), if_pos rfl, Nat.sub_self, Nat.testBit_zero, Nat.mul_add_mod, Nat.mod_eq_of_lt hb]
    cases b <;> rfl
  · obtain ⟨m, rfl⟩ := Nat.exists_eq_add_of_lt h
    have hm : k + m + 1 - k = m + 1 := by omega
    have hhalf : (2 * (v / 2 ^ k / 2) + b.toNat) / 2 = v / 2 ^ k / 2 := by omega
    have hj : m + 1 + k = k + m + 1 := by omega
    rw [if_neg (Nat.lt_asymm h), if_neg (Nat.ne_of_gt h), hm, Nat.testBit_succ, hhalf, ← Nat.testBit_succ,
      Nat.testBit_div_two_pow, hj]

end Sys2Proof.Machine
end

section
/-! SUPPORT. The voted counters (R156 to R159): the vote on one copy, on all three, and the tick edge that finds an upset in one
of them. -/
namespace Sys2Proof.Machine
open Host

theorem exec_bkCopyReload (c : Fin 3) (held : Nat) (voted : Option Nat) (s : State) :
    exec (.bkCopyReload c held voted) s = execBkCopyReload c held voted s := rfl
theorem exec_bkCopyFailed (c : Fin 3) (held : Nat) (s : State) :
    exec (.bkCopyFailed c held) s = execBkCopyFailed c held s := rfl

section
variable {c : Fin 3} {held : Nat} {s : State} (hr : s.runs .bk = true) (hl : s.copyLive c = true)
include hr hl

theorem bkCopyReload_runs {voted : Option Nat} (hm : s.bk.misses.getD c 0 < 15) :
    exec (.bkCopyReload c held voted) s = .next (s.upset c held voted).tickEdge := by
  rw [exec_bkCopyReload, execBkCopyReload, if_neg]
  simpa [hr, hl] using hm

theorem bkCopyFailed_runs (hm : 15 ≤ s.bk.misses.getD c 0) :
    exec (.bkCopyFailed c held) s = .next (s.upset c held none).tickEdge := by
  rw [exec_bkCopyFailed, execBkCopyFailed, if_neg]
  simpa [hr, hl] using hm

end

/-- R156: two equal values of three win, wherever the third stands. -/
theorem majority_two_of_three {p x : Nat} (c : Fin 3) (h : x ≠ p) : majority ([p, p, p].set c x) = some p := by
  match c with
  | 0 => simp [majority, List.count_cons, h, h.symm]
  | 1 => simp [majority, List.count_cons, h]
  | 2 => simp [majority, List.count_cons]

/-- The state in which copy c has agreed with V: it counts no misses. -/
def State.agreed (s : State) (c : Nat) : State := { s with bk := { s.bk with misses := s.bk.misses.set c 0 } }

@[simp] theorem State.agreed_clk (s : State) (c : Nat) : (s.agreed c).clk = s.clk := rfl
@[simp] theorem State.agreed_bk (s : State) (c : Nat) :
    (s.agreed c).bk = { s.bk with misses := s.bk.misses.set c 0 } := rfl
@[simp] theorem State.el_agreed (s : State) (c a : Nat) : (s.agreed c).el a = s.el a := rfl
@[simp] theorem State.copyLive_agreed (s : State) (c d : Nat) : (s.agreed c).copyLive d = s.copyLive d := rfl

theorem State.copyVoted_agrees {s : State} {c : Nat} (hl : s.copyLive c = true) (he : s.bk.copies.getD c 0 = s.clk.v) :
    s.copyVoted c = s.agreed c := by
  unfold State.copyVoted
  rw [if_neg (by simp [hl]), if_pos he]
  rfl

/-- The state in which copy c, for the n-th time in a row, was reloaded and counted, and is marked failed at the 16th (R157). -/
def State.reloaded (s : State) (c n : Nat) : State :=
  let u := State.inc { s with
    bk := { s.bk with copies := s.bk.copies.set c s.clk.v, misses := s.bk.misses.set c n } } 2 Reg.BK_RESYNC
  if n = 16 then u.put Reg.BK_VOTE (setBit (u.el Reg.BK_VOTE) c true) else u

theorem State.copyVoted_differs {s : State} {c : Nat} (hl : s.copyLive c = true) (hne : s.bk.copies.getD c 0 ≠ s.clk.v) :
    s.copyVoted c = s.reloaded c (s.bk.misses.getD c 0 + 1) := by
  unfold State.copyVoted
  rw [if_neg (by simp [hl]), if_neg hne]
  rfl

section
variable (s : State) (c n : Nat)

@[simp] theorem State.reloaded_clk : (s.reloaded c n).clk = s.clk := by
  unfold State.reloaded; dsimp only; split <;> rfl

@[simp] theorem State.reloaded_bk : (s.reloaded c n).bk =
    { s.bk with copies := s.bk.copies.set c s.clk.v, misses := s.bk.misses.set c n } := by
  unfold State.reloaded; dsimp only; split <;> rfl

theorem State.resync_reloaded : (s.reloaded c n).el Reg.BK_RESYNC = min (s.el Reg.BK_RESYNC + 1) (2 ^ 16 - 1) := by
  unfold State.reloaded
  dsimp only
  split
  · rw [State.el_put_ne _ _ (by decide), State.el_inc, if_pos rfl]; rfl
  · rw [State.el_inc, if_pos rfl]; rfl

/-- A copy is marked failed by its 16th reload in a row. -/
theorem State.vote_reloaded (d : Nat) : bitOf ((s.reloaded c n).el Reg.BK_VOTE) d =
    if d = c ∧ n = 16 then true else bitOf (s.el Reg.BK_VOTE) d := by
  have hvote : ∀ b : BkSt, (State.inc { s with bk := b } 2 Reg.BK_RESYNC).el Reg.BK_VOTE = s.el Reg.BK_VOTE :=
    fun b => State.el_put_ne _ _ (by decide)
  unfold State.reloaded
  dsimp only
  split
  next h => rw [State.el_put_same, bitOf_setBit, hvote]; simp only [h, and_true]
  next h => rw [hvote, if_neg (fun hd => h hd.2)]

theorem State.copyLive_reloaded_ne {d : Nat} (h : d ≠ c) : (s.reloaded c n).copyLive d = s.copyLive d := by
  rw [State.copyLive, State.vote_reloaded, if_neg (fun hd => h hd.1)]; rfl

end

/-- Where one of three live copies differs from V, it is reloaded and counted, at the 16th time in a row marked failed, and the
misses of the other two start afresh. -/
theorem votes_one_differs {s : State} {v x : Nat} (c : Fin 3) (hv : s.clk.v = v) (hl : ∀ d < 3, s.copyLive d = true)
    (hm : s.bk.misses.length = 3) (hc : s.bk.copies = [v, v, v].set c x) (hx : x ≠ v) :
    let n := s.bk.misses.getD c 0 + 1
    let t := [0, 1, 2].foldl State.copyVoted s
    t.clk = s.clk ∧ t.bk.copies = [v, v, v] ∧ t.bk.misses = [0, 0, 0].set c n ∧
    t.el Reg.BK_RESYNC = min (s.el Reg.BK_RESYNC + 1) (2 ^ 16 - 1) ∧
    ∀ d, bitOf (t.el Reg.BK_VOTE) d = if d = c ∧ n = 16 then true else bitOf (s.el Reg.BK_VOTE) d := by
  obtain ⟨m0, m1, m2, hm⟩ : ∃ m0 m1 m2, s.bk.misses = [m0, m1, m2] := by
    match s.bk.misses, hm with
    | [m0, m1, m2], _ => exact ⟨m0, m1, m2, rfl⟩
  match c with
  | 0 =>
    have ht : [0, 1, 2].foldl State.copyVoted s = ((s.reloaded 0 (m0 + 1)).agreed 1).agreed 2 := by
      simp [State.copyVoted_differs, State.copyVoted_agrees, State.copyLive_reloaded_ne, hl, hc, hv, hm, hx]
    simp [ht, hc, hv, hm, State.resync_reloaded, State.vote_reloaded]
  | 1 =>
    have ht : [0, 1, 2].foldl State.copyVoted s = ((s.agreed 0).reloaded 1 (m1 + 1)).agreed 2 := by
      simp [State.copyVoted_differs, State.copyVoted_agrees, State.copyLive_reloaded_ne, hl, hc, hv, hm, hx]
    simp [ht, hc, hv, hm, State.resync_reloaded, State.vote_reloaded]
  | 2 =>
    have ht : [0, 1, 2].foldl State.copyVoted s = ((s.agreed 0).agreed 1).reloaded 2 (m2 + 1) := by
      simp [State.copyVoted_differs, State.copyVoted_agrees, hl, hc, hv, hm, hx]
    simp [ht, hc, hv, hm, State.resync_reloaded, State.vote_reloaded]

/-- The state in which V has taken the value v that the copies l give it; on VBK a whole second is counted (R145). -/
def State.vTaken (s : State) (l : List Nat) (v : Nat) : State :=
  let u := State.put { s with clk := { s.clk with v := v }, bk := { s.bk with copies := l } } Reg.BK_VOTE
    (setBit (s.el Reg.BK_VOTE) 3 false)
  if u.onVbk && v % 32768 == 0 then u.inc 4 Reg.BK_ON_VBK_S else u

/-- With every copy live and a value that two of them hold, a tick edge is that value taken, and the vote on each copy. -/
theorem State.tickEdge_of_majority {s : State} {l : List Nat} {v : Nat} (hl : ∀ d < 3, s.copyLive d = true)
    (hc : s.bk.copies.map (fun x => min (x + 1) (stMax / 8192)) = l) (h3 : l.length = 3) (hm : majority l = some v) :
    s.tickEdge = ([0, 1, 2].foldl State.copyVoted ((s.pulsesTo (s.clk.v + 1)).vTaken l v)).voteChecked
      (s.pulsesTo (s.clk.v + 1)) := by
  have hp : (s.pulsesTo (s.clk.v + 1)).bk.copies.map (fun x => min (x + 1) (stMax / 8192)) = l := by
    rw [State.pulsesTo_bk, hc]
  have hlive : (l.zipIdx.filter (fun x => (s.pulsesTo (s.clk.v + 1)).copyLive x.2)).map (fun x => x.1) = l := by
    rw [List.filter_eq_self.mpr, List.zipIdx_map_fst]
    intro x hx
    rw [State.copyLive, State.el, State.pulsesTo_dict]
    exact hl x.2 (h3 ▸ List.snd_lt_of_mem_zipIdx hx)
  rw [State.tickEdge]
  simp only [hp, hlive, hm, Option.getD_some, Option.isNone_some]
  rfl

section
variable (s : State) (l : List Nat) (v : Nat)

@[simp] theorem State.vTaken_clk : (s.vTaken l v).clk = { s.clk with v := v } := by
  unfold State.vTaken; dsimp only; split <;> rfl

@[simp] theorem State.vTaken_bk : (s.vTaken l v).bk = { s.bk with copies := l } := by
  unfold State.vTaken; dsimp only; split <;> rfl

theorem State.el_vTaken_ne {a : Nat} (h1 : a ≠ Reg.BK_VOTE) (h2 : a ≠ Reg.BK_ON_VBK_S) : (s.vTaken l v).el a = s.el a := by
  unfold State.vTaken
  dsimp only
  split
  · rw [State.el_inc, if_neg h2, State.el_put_ne _ _ h1]; rfl
  · rw [State.el_put_ne _ _ h1]; rfl

/-- The marks of the copies stay as they were. -/
theorem State.vote_vTaken {d : Nat} (h : d < 3) :
    bitOf ((s.vTaken l v).el Reg.BK_VOTE) d = bitOf (s.el Reg.BK_VOTE) d := by
  have hvote : (s.vTaken l v).el Reg.BK_VOTE = setBit (s.el Reg.BK_VOTE) 3 false := by
    unfold State.vTaken
    dsimp only
    split
    · rw [State.el_inc, if_neg (by decide), State.el_put_same]
    · rw [State.el_put_same]
  rw [hvote, bitOf_setBit, if_neg (Nat.ne_of_lt h)]

end

/-- R158: with at most one copy marked failed the vote stands. -/
theorem State.votedOut_one {s : State} (c : Fin 3) (h : ∀ d < 3, d ≠ c.val → bitOf (s.el Reg.BK_VOTE) d = false) :
    s.votedOut = false := by
  have honly : [0, 1, 2].countP (fun k => bitOf (s.el Reg.BK_VOTE) k) ≤ [0, 1, 2].countP (fun k => k == c.val) :=
    List.countP_mono_left fun d hd hb => beq_iff_eq.mpr <| Decidable.byContradiction fun hne => by
      have hlt : d < 3 := by simp only [List.mem_cons, List.not_mem_nil, or_false] at hd; omega
      rw [h d hlt hne] at hb
      exact Bool.false_ne_true hb
  have hone : [0, 1, 2].countP (fun k => k == c.val) ≤ 1 := (by decide : ∀ c : Fin 3, [0, 1, 2].countP (fun k => k == c.val) ≤ 1) c
  rw [State.votedOut, ← List.countP_eq_length_filter, decide_eq_false_iff_not]
  omega

/-- While the vote stands, its check leaves BK's state alone. -/
theorem State.voteChecked_backup {s : State} (b : State) (h : s.votedOut = false) : (s.voteChecked b).backup = s.backup := by
  unfold State.voteChecked
  rw [if_neg (by simp [h])]
  split
  · rfl
  · exact s.repairCheck_backup

/-- R158: a second copy marked failed: source 9 asserts, on VBK when main returns. -/
theorem State.voteChecked_out {s b : State} (h : s.votedOut = true) (hb : b.votedOut = false) :
    s.voteChecked b = if s.onVbk then State.repairCheck { s with bk := { s.bk with voteDeferred := true } }
      else (s.tamperOn 9 2).repairCheck := by
  rw [State.voteChecked, if_pos (by simp [h, hb])]

/-- With every copy live and a value v that two of them hold, a tick edge is the vote on each copy in a state in which V is v, the
copies have counted, and nothing else that the vote reads has changed. -/
theorem State.tickEdge_votes {s : State} {l : List Nat} {v : Nat} (hl : ∀ d < 3, s.copyLive d = true)
    (hc : s.bk.copies.map (fun x => min (x + 1) (stMax / 8192)) = l) (h3 : l.length = 3) (hm : majority l = some v) :
    ∃ w b : State, s.tickEdge = ([0, 1, 2].foldl State.copyVoted w).voteChecked b ∧ w.clk.v = v ∧
      w.bk.copies = l ∧ w.bk.misses = s.bk.misses ∧ w.el Reg.BK_RESYNC = s.el Reg.BK_RESYNC ∧
      ∀ d < 3, bitOf (w.el Reg.BK_VOTE) d = bitOf (s.el Reg.BK_VOTE) d := by
  have hp : ∀ a, (s.pulsesTo (s.clk.v + 1)).el a = s.el a := fun a => congrArg (dictGet · a) (s.pulsesTo_dict _)
  refine ⟨_, _, State.tickEdge_of_majority hl hc h3 hm, by simp, by simp, by simp, ?_, fun d hd => ?_⟩
  · rw [State.el_vTaken_ne _ _ _ (by decide) (by decide), hp]
  · rw [State.vote_vTaken _ _ _ hd, hp]

/-- R156, R157: a tick edge at which one of three live copies, none marked failed, comes to differ from the other two. -/
theorem State.tickEdge_one_differs {s : State} {v x : Nat} (c : Fin 3)
    (hvote : ∀ d < 3, bitOf (s.el Reg.BK_VOTE) d = false) (hm : s.bk.misses.length = 3)
    (hc : s.bk.copies.map (fun x => min (x + 1) (stMax / 8192)) = [v, v, v].set c x) (hx : x ≠ v) :
    let n := s.bk.misses.getD c 0 + 1
    s.tickEdge.clk.v = v ∧ s.tickEdge.bk.copies = [v, v, v] ∧ s.tickEdge.bk.misses = [0, 0, 0].set c n ∧
    s.tickEdge.el Reg.BK_RESYNC = min (s.el Reg.BK_RESYNC + 1) (2 ^ 16 - 1) ∧
    ∀ d < 3, bitOf (s.tickEdge.el Reg.BK_VOTE) d = decide (d = c ∧ n = 16) := by
  have live {u : State} (hu : ∀ d < 3, bitOf (u.el Reg.BK_VOTE) d = false) : ∀ d < 3, u.copyLive d = true :=
    fun d hd => by rw [State.copyLive, hu d hd]; rfl
  obtain ⟨w, b, hedge, hv, hcopies, hmiss, hsync, hbits⟩ :=
    State.tickEdge_votes (live hvote) hc (List.length_set ..) (majority_two_of_three c hx)
  have hw : ∀ d < 3, bitOf (w.el Reg.BK_VOTE) d = false := fun d hd => (hbits d hd).trans (hvote d hd)
  obtain ⟨tclk, tcopies, tmiss, tsync, tbits⟩ := votes_one_differs c hv (live hw) (hmiss ▸ hm) hcopies hx
  have hout : ([0, 1, 2].foldl State.copyVoted w).votedOut = false :=
    State.votedOut_one c fun d hd hne => by rw [tbits, if_neg (fun h => hne h.1), hw d hd]
  obtain ⟨cclk, cbk, cel⟩ := State.backup_eq_iff.mp (State.voteChecked_backup b hout)
  rw [hedge, cclk, cbk, cel _ (by decide), cel _ (by decide), tclk, tcopies, tmiss, tsync, hsync, hmiss]
  refine ⟨hv, rfl, rfl, rfl, fun d hd => ?_⟩
  rw [tbits, hw d hd, hmiss]
  simp

theorem bitOf_of_mod_eight {v d : Nat} (h : v % 8 = 0) (hd : d < 3) : bitOf v d = false := by
  have : v / 2 ^ d % 2 ≠ 1 := by
    match d, hd with
    | 0, _ => omega
    | 1, _ => omega
    | 2, _ => omega
  exact beq_eq_false_iff_ne.mpr this

/-- R159: at a tick edge with an upset in one of three live copies, V takes what the other two hold, whatever was left in V. -/
theorem State.tickEdge_upset {s t : State} {c : Fin 3} {held v : Nat} {voted : Option Nat}
    (hc : s.bk.copies = [v, v, v]) (hm : s.bk.misses.length = 3) (hvote : s.el Reg.BK_VOTE % 8 = 0)
    (hx : held % 2 ^ 51 ≠ v) (hmax : v + 1 < stMax / 8192) (ht : t = (s.upset c held voted).tickEdge) :
    t.clk.v = v + 1 ∧ t.bk.copies = [v + 1, v + 1, v + 1] ∧
    t.bk.misses = [0, 0, 0].set c (s.bk.misses.getD c 0 + 1) ∧
    t.el Reg.BK_RESYNC = min (s.el Reg.BK_RESYNC + 1) (2 ^ 16 - 1) ∧
    ∀ d < 3, bitOf (t.el Reg.BK_VOTE) d = decide (d = c ∧ s.bk.misses.getD c 0 + 1 = 16) := by
  have hnext : (s.upset c held voted).bk.copies.map (fun x => min (x + 1) (stMax / 8192)) =
      [v + 1, v + 1, v + 1].set c (min (held % 2 ^ 51 + 1) (stMax / 8192)) := by
    have hmin : min (v + 1) (stMax / 8192) = v + 1 := Nat.min_eq_left (Nat.le_of_lt hmax)
    rw [State.upset, hc, List.map_set, List.map_cons, List.map_cons, List.map_cons, List.map_nil, hmin]
  have hne : min (held % 2 ^ 51 + 1) (stMax / 8192) ≠ v + 1 := by omega
  rw [ht]
  exact State.tickEdge_one_differs (s := s.upset c held voted) c (fun d hd => bitOf_of_mod_eight hvote hd) hm hnext hne

end Sys2Proof.Machine
end

section
/-! SUPPORT. The reading of VBK and the trickle charger, the release of the capture ring's oldest entry, and the statements on the
backup domain. -/
namespace Sys2Proof.Machine
open Host

/-! ### VBK and its charger (R146, R150, R151) -/

theorem exec_vbkLowCheck (mv : Nat) (s : State) : exec (.vbkLowCheck mv) s = execVbkLowCheck mv s := rfl

section
variable (mv : Nat) (s : State)

@[simp] theorem State.readVbk_bk : (s.readVbk mv).bk = s.bk := by
  unfold State.readVbk; split <;> rfl

theorem State.vbkSensed_cases : s.vbkSensed mv =
    let t : State := { s with bk := { s.bk with vbk := mv } }
    if s.el Reg.TRICKLE_MV ≤ mv then { t with bk := { t.bk with trickle := false } }
    else if mv + 50 ≤ s.el Reg.TRICKLE_MV then t.trickleSet else t := rfl

/-- VBK as sensed shows in BK's own fields alone: the value, and the charger. -/
theorem State.vbkSensed_eq : s.vbkSensed mv =
    { s with bk := { s.bk with vbk := mv, trickle := (s.vbkSensed mv).bk.trickle } } := by
  rw [State.vbkSensed_cases]
  dsimp only
  split
  · rfl
  · split <;> rfl

theorem State.vbkSensed_vbkLow : (s.vbkSensed mv).bk.vbkLow = s.bk.vbkLow := by rw [State.vbkSensed_eq]

end

section
variable {mv : Nat} {s : State}

/-- R151: at TRICKLE_MV the charger stops. -/
theorem State.vbkSensed_full (h : s.el Reg.TRICKLE_MV ≤ mv) : (s.vbkSensed mv).bk.trickle = false := by
  rw [State.vbkSensed_cases, if_pos h]

/-- Less than 50 mV below it the charger stays as it is. -/
theorem State.vbkSensed_between (h : mv < s.el Reg.TRICKLE_MV) (h' : s.el Reg.TRICKLE_MV < mv + 50) :
    (s.vbkSensed mv).bk.trickle = s.bk.trickle := by
  rw [State.vbkSensed_cases, if_neg (Nat.not_le.mpr h), if_neg (Nat.not_le.mpr h')]

/-- R150, R151: 50 mV below it the charger sources current again, where it may. -/
theorem State.vbkSensed_low (h : mv + 50 ≤ s.el Reg.TRICKLE_MV) :
    (s.vbkSensed mv).bk.trickle = (s.bk.settings && !s.onVbk && s.el Reg.TRICKLE_UA != 0) := by
  have hlow : mv < s.el Reg.TRICKLE_MV := by omega
  rw [State.vbkSensed_cases, if_neg (Nat.not_le.mpr hlow), if_pos h]
  exact (congrArg (_ && ·) (decide_eq_true hlow)).trans (Bool.and_true _)

/-- R146: below the limit that BK holds the alarm is raised, 100 mV above it it is released. -/
theorem vbkLowCheck_runs (mv : Nat) {t : State} (hr : s.runs .bk = true) (ht : t = (s.readVbk mv).vbkSensed mv) :
    t.bk.vbkLow = s.bk.vbkLow ∧ exec (.vbkLowCheck mv) s = if mv < s.bk.vbkLow then .next (t.tamperOn 6 0)
      else if s.bk.vbkLow + 100 < mv then .next (t.tamperOff 6) else .next t := by
  have hlow : t.bk.vbkLow = s.bk.vbkLow := by rw [ht, State.vbkSensed_vbkLow, State.readVbk_bk]
  refine ⟨hlow, ?_⟩
  rw [exec_vbkLowCheck, execVbkLowCheck, if_neg (by simp [hr]), ← ht, ← hlow]

end

/-! ### The capture ring (R163, R164) -/

theorem exec_ringEntryRelease (k : Fin 256) (s : State) :
    exec (.ringEntryRelease k) s = execRingEntryRelease k s := rfl

section
variable {k : Fin 256} {e : RingEntry} {l : List RingEntry} {s : State} (hr : s.bk.ring = e :: l)
include hr

/-- The oldest entry goes once its append is stored, at the next tick edge behind an entry of this one (log entry 85). -/
theorem ringEntryRelease_stored {t : State} (hk : e.seq = k.val) (hl : e.logged = true)
    (ht : t = if s.ringAtEdge (fun _ => true) then s.nextEdge else s) :
    exec (.ringEntryRelease k) s = .next { t with bk := { t.bk with ring := l } } := by
  rw [exec_ringEntryRelease, execRingEntryRelease, hr, ht]
  exact if_pos ⟨hk, hl⟩

theorem ringEntryRelease_stays (h : e.seq ≠ k.val ∨ e.logged = false) : exec (.ringEntryRelease k) s = .next s := by
  rw [exec_ringEntryRelease, execRingEntryRelease, hr]
  exact if_neg (by rintro ⟨hk, hl⟩; simp [hk, hl] at h)

end

/-- Settles O14: VBK and its charger by the lemma of each range of the reading, the voted count by that of a tick edge at which one
copy differs, the ring by that of its release. -/
theorem backupDomain : Obligations.BackupDomain := by
  refine ⟨?_, fun s => ⟨rfl, rfl⟩, ?_, fun c held voted s hr hl => ⟨bkCopyReload_runs hr hl, bkCopyFailed_runs hr hl⟩, ?_, ?_,
    fun k e l s hr => ⟨fun hk hl t ht => ringEntryRelease_stored hr hk hl ht, ringEntryRelease_stays hr⟩⟩
  · intro mv s t hr ht
    obtain ⟨hlow, hrun⟩ := vbkLowCheck_runs mv hr ht
    refine ⟨hlow, fun h => ?_, fun h h' => ?_, fun h => ?_⟩
    · rw [hrun, if_pos h]
    · rw [hrun, if_neg (Nat.not_lt.mpr h), if_neg (Nat.not_lt.mpr h')]
    · rw [hrun, if_neg (by omega), if_pos h]
  · rintro mv s t rfl
    exact ⟨s.vbkSensed_eq mv, State.vbkSensed_full, State.vbkSensed_between, State.vbkSensed_low⟩
  · intro c held v voted s t hv hc hm hvote hx hmax ht
    obtain ⟨hclk, hcopies, hmiss, hsync, hbits⟩ := State.tickEdge_upset hc hm hvote hx hmax ht
    refine ⟨hclk, hcopies, hsync, ?_, fun d hd hne => ?_, ?_⟩
    · simp [hmiss]
    · rw [hmiss, List.getD_eq_getElem?_getD, List.getElem?_set_ne (Ne.symm hne)]
      match d, hd with
      | 0, _ => rfl
      | 1, _ => rfl
      | 2, _ => rfl
    · rw [hbits c c.isLt]; simp
  · intro s b h hb
    refine ⟨fun hv => ?_, fun hv => ?_⟩
    · rw [State.voteChecked_out h hb, if_neg (by simp [hv])]
    · rw [State.voteChecked_out h hb, if_pos hv]

end Sys2Proof.Machine
end

section
/-! SUPPORT. L3, the loop of the crystal's drive: its window, the step that it sets, and what it shows. -/
namespace Sys2Proof.Machine
open Host

theorem exec_l3Evaluate (swing : Nat) (s : State) : exec (.l3Evaluate swing) s = execL3Evaluate swing s := rfl

/-- With no safety rule in force, L3's window is the fence's (R166, R691). -/
theorem loopWindow_drive {m : Nat} (hm : m ≤ 15) : loopWindow (0, 15) (0, 15) (0, (m : Int)) = (0, (m : Int)) := by
  unfold loopWindow
  dsimp only
  rw [if_pos (by omega)]
  congr 1
  omega

/-- What is wanted beyond an edge is clamped to that edge. -/
theorem clampInt_of_lt {v lo hi : Int} (hlo : lo ≤ hi) (h : hi < v) : clampInt v lo hi = hi := by
  unfold clampInt
  omega

/-- The state after L3 has set the drive step x, wanting another perhaps, with n seconds of a high swing counted. -/
def State.driven (s : State) (n x : Nat) (want : Int) (fenced : Bool) : State :=
  (((((State.put { s with bk := { s.bk with highSwing := n } } Reg.X32_DRIVE x).ruleShown 4 false).safety 3 []).fence 3
    fenced true)).showLoop 3 false false x want

/-- L3 with its input and no safety rule: k seconds of a high swing are counted, and what it wants is held in the fence. At 64
of them it lowers, and the count starts anew (R166, R167; log entry 98). -/
theorem l3Evaluate_drives {swing d m k n x : Nat} {want : Int} {fenced : Bool} {s : State} (hr : s.runs .bk = true)
    (hl : s.loopHolds 3 = false) (h4 : s.bk.s4 = false) (hd : d = s.el Reg.X32_DRIVE) (hm : m = s.bk.driveMax) (h15 : m ≤ 15)
    (hk : k = if 350 < swing then s.bk.highSwing + 1 else 0) (hn : n = if 64 ≤ k then 0 else k)
    (hw : want = if swing < 180 then (d : Int) + 1 else if 64 ≤ k then (d : Int) - 1 else d)
    (hx : (x : Int) = clampInt want 0 m) (hf : fenced = decide ((m : Int) < want)) :
    exec (.l3Evaluate swing) s = .next (s.driven n x want fenced) := by
  have hedge : (decide ((m : Int) < want) && (x : Int) == m) = fenced := by
    by_cases h : (m : Int) < want
    · rw [hx, clampInt_of_lt (Int.natCast_nonneg m) h, hf]
      simp
    · simp [hf, h]
  rw [exec_l3Evaluate, execL3Evaluate, if_neg (by simp [hr]), if_neg (by simp [hl])]
  simp only [h4, Bool.false_eq_true, if_false, ← hd, ← hm, loopWindow_drive h15, decide_eq_true_eq, ← hk, ← hn, ← hw, ← hx,
    Int.toNat_natCast, hedge, State.driven]

/-- Settles O15: in each range of the swing, by what L3 wants there and where the fence holds it. -/
theorem driveStep : Obligations.DriveStep := by
  intro swing d m h s hr hl h4 hd hm hh hdm h15
  subst hh
  have run {k n x : Nat} {want : Int} {fenced : Bool} := @l3Evaluate_drives swing d m k n x want fenced s hr hl h4 hd hm h15
  by_cases hlow : swing < 180
  · exact ⟨0, min (d + 1) m, d + 1, by omega, by omega, by omega, by omega, run (k := 0) (if_neg (by omega)).symm rfl
      (by omega) (by unfold clampInt; omega) (by simp [hlow]; omega)⟩
  by_cases hmid : swing ≤ 350
  · exact ⟨0, d, d, by omega, by omega, by omega, by omega, run (k := 0) (if_neg (by omega)).symm rfl
      (by omega) (by unfold clampInt; omega) (by simp [hlow]; omega)⟩
  by_cases hcount : s.bk.highSwing + 1 < 64
  · exact ⟨s.bk.highSwing + 1, d, d, by omega, by omega, by omega, by omega, run (if_pos (by omega)).symm
      (if_neg (by omega)).symm (by omega) (by unfold clampInt; omega) (by simp [hlow]; omega)⟩
  · exact ⟨0, d - 1, (d : Int) - 1, by omega, by omega, by omega, by omega, run (if_pos (by omega)).symm
      (if_pos (by omega)).symm (by omega) (by unfold clampInt; omega) (by simp [hlow]; omega)⟩

end Sys2Proof.Machine
end

section
/-! SUPPORT. PPS_OUT: its gate, its level, and the rise and the fall of a pulse. -/
namespace Sys2Proof.Machine
open Host

theorem exec_ppsOutPulse (s : State) : exec .ppsOutPulse s = execPpsOutPulse s := rfl
theorem exec_ppsOutPulseEnd (s : State) : exec .ppsOutPulseEnd s = execPpsOutPulseEnd s := rfl

section
variable {s : State}

/-- PPS_GATE 0x00 emits always (R214). -/
theorem State.ppsGate_always (h : s.el Reg.PPS_GATE = 0) : s.ppsGate = true := by
  simp [State.ppsGate, h]

theorem State.ppsGate_locked (h : s.el Reg.PPS_GATE = 1) : s.ppsGate = s.refLocked := by
  simp [State.ppsGate, h]

theorem State.ppsGate_bounded (h : s.el Reg.PPS_GATE = 2) :
    s.ppsGate = (s.refLocked || decide (s.holdShown * 1000 ≤ s.el Reg.PPS_UNC_MAX)) := by
  simp [State.ppsGate, h]

/-- A closed gate holds the pin low, whatever pulse is under way. -/
theorem State.ppsPin_closed (h : s.ppsGate = false) : s.ppsPin = false := by
  rw [State.ppsPin, h, Bool.and_false]

theorem State.ppsPin_open (h : s.ppsGate = true) : s.ppsPin = s.osc.ppsUntil.isSome := by
  rw [State.ppsPin, h, Bool.and_true]

/-- R211 to R214: at the whole second a pulse of PPS_W begins, where the gate is open then. -/
theorem ppsOutPulse_rises {n : Nat} {t : State}
    (hm : (s.el Reg.PPS_MODE = 1 ∧ s.runs .fb = true) ∨ (s.el Reg.PPS_MODE = 2 ∧ s.mainPower = true))
    (hn : n = (s.now / stSecond + 1) * stSecond) (hmax : n ≤ stMax) (ht : t = s.reach n) :
    exec .ppsOutPulse s = if t.ppsGate then .next (State.emit { t with osc := { t.osc with
      ppsUntil := some (n + stUs (t.el Reg.PPS_W)) } } (.frame "PPS_OUT" [n])) else .next t := by
  subst hn ht
  rw [exec_ppsOutPulse, execPpsOutPulse, if_pos ⟨hm, hmax⟩]

theorem ppsOutPulseEnd_falls {u : Nat} (h : s.osc.ppsUntil = some u) :
    exec .ppsOutPulseEnd s = .next { s.reach u with osc := { (s.reach u).osc with ppsUntil := none } } := by
  rw [exec_ppsOutPulseEnd, execPpsOutPulseEnd, h]

end

/-- Settles O16: the gate by each value of PPS_GATE, the pin by the gate, the pulse by its rise and its fall. -/
theorem ppsOut : Obligations.PpsOut := by
  refine ⟨fun s => ⟨State.ppsGate_always, State.ppsGate_locked, State.ppsGate_bounded, State.ppsPin_closed,
    State.ppsPin_open⟩, ?_, ?_⟩
  · intro n s t hm hn hmax ht
    have hrun := ppsOutPulse_rises hm hn hmax ht
    refine ⟨fun hg => ?_, fun hg => ?_⟩
    · rw [hrun, if_neg (by simp [hg])]
    · rw [hrun, if_pos hg]
  · rintro u s t h rfl
    exact ppsOutPulseEnd_falls h

end Sys2Proof.Machine
end

section
/-! SUPPORT. The last observation that ended, on the half of a pair that follows: the discipline term there is the link's. -/
namespace Sys2Proof.Machine
open Host

theorem exec_driftObservation (rb a b c l : Int) (s : State) :
    exec (.driftObservation rb a b c l) s = execDriftObservation rb a b c l s := rfl

/-- φ of an observation, from the means that FB integrated, in 10⁻⁶ (R200). -/
def obsPhi (a b c l : Int) : List Rat :=
  [1, (a : Rat) / 1000000, (b : Rat) / 1000000, (c : Rat) / 1000000, (l : Rat) / 1000000]

/-- On the half that follows, an observation that ended enters the estimator and that is all: the discipline term steers onto the
leader (R761), so the last of them leaves it. -/
theorem driftObservation_follows {rb a b c l : Int} {o : Obs} {rest : List Obs} {s t : State} (hr : s.runs .fb = true)
    (hc : s.onCrystal = true) (hd : s.osc.obsDue = o :: rest)
    (ht : t = State.estimate { s with osc := { s.osc with obsDue := rest } } o rb (obsPhi a b c l))
    (hf : t.twin.follow = true) : exec (.driftObservation rb a b c l) s = .next t := by
  subst ht
  rw [exec_driftObservation, execDriftObservation, if_neg (by simp [hr, hc])]
  simp only [hd]
  refine congrArg Outcome.next (if_neg ?_)
  rintro ⟨-, -, h⟩
  exact absurd hf (by simpa [obsPhi] using h)

/-- An observation of 1,024 s without an error. -/
def flatObs : Obs := ⟨0, 0, 1024 * stSecond, 0, 0, 20⟩

/-- A half in JOINED that follows, FB in RUN and BK on the crystal, with a discipline term of 1 ppm. The leader has left LOCKED, and
the observation of the link that ended so (R763) waits for the estimator. -/
def follower : State :=
  { State.reset with
    dict := [(Reg.X32_STATE, 1), (Reg.ISL_STATE (islNum .fb), islRun), (Reg.TWIN_STATE, 3)]
    osc := { State.reset.osc with disc := 1 / 1000000, obsDue := [flatObs] }
    twin := { State.reset.twin with follow := true } }

/-- The follower once the estimator has taken that observation. -/
def followerLearned : State :=
  State.estimate { follower with osc := { follower.osc with obsDue := [] } } flatObs 0 (obsPhi 0 0 0 0)

theorem follower_runs : follower.runs .fb = true ∧ follower.onCrystal = true := by decide +kernel

/-- Once the estimator has taken it, the follower is not LOCKED on its own, follows still, and steers by its discipline term. -/
theorem followerLearned_reads : followerLearned.ownLocked = false ∧ followerLearned.twin.follow = true ∧
    followerLearned.osc.disc ≠ 0 := by decide +kernel

/-- Refutes O18: its clause on the last observation that ended has the discipline term at 0 wherever the device is not LOCKED on a
reference of its own. A half that follows is not, and steers on by the term of its link (R761), which is not 0. -/
theorem not_references : ¬ Obligations.References := by
  intro h
  obtain ⟨-, -, -, -, -, -, -, hlearn, -⟩ := h
  obtain ⟨hfb, hx32⟩ := follower_runs
  obtain ⟨hfree, hfollow, hdisc⟩ := followerLearned_reads
  obtain ⟨hdue, -⟩ := hlearn 0 0 0 0 0 follower (obsPhi 0 0 0 0) hfb hx32 rfl
  obtain ⟨hlast, -⟩ := hdue flatObs [] followerLearned rfl rfl
  have hsame := (driftObservation_follows hfb hx32 rfl rfl hfollow).symm.trans (hlast rfl hfree)
  have hzero : followerLearned.osc.disc = 0 := congrArg (fun t : State => t.osc.disc) (Outcome.next.inj hsame)
  exact hdisc hzero

end Sys2Proof.Machine
end

section
/-! SUPPORT. Slews: the amounts that SLEW_REM and the outage correction show, what the passing of time leaves alone, and the
statement on SLEW_ADD, the end of a slew and of the range. -/
namespace Sys2Proof.Machine
open Host

theorem exec_slewAddWrite (r : Req) (s : State) : exec (.slewAddWrite r) s = execSlewAddWrite r s := rfl
theorem exec_slewComplete (s : State) : exec .slewComplete s = execSlewComplete s := rfl
theorem exec_rangeEndReached (s : State) : exec .rangeEndReached s = execRangeEndReached s := rfl
theorem exec_leapTableExpired (s : State) : exec .leapTableExpired s = execLeapTableExpired s := rfl

/-! ### Signed registers -/

/-- Two's complement reads back what it wrote, within its bits. -/
theorem signed_unsigned {k : Nat} {v : Int} (hlo : -2 ^ k ≤ v) (hhi : v < 2 ^ k) : signed (k + 1) (unsigned (k + 1) v) = v := by
  have hpow : (2 : Int) ^ (k + 1) = 2 * 2 ^ k := by rw [Int.pow_succ, Int.mul_comm]
  have hnat : (2 : Nat) ^ (k + 1) = 2 * 2 ^ k := by rw [Nat.pow_succ, Nat.mul_comm]
  have hcast : ((2 ^ k : Nat) : Int) = 2 ^ k := by push_cast; rfl
  have hmod : v % 2 ^ (k + 1) = if 0 ≤ v then v else v + 2 ^ (k + 1) := by
    split
    · exact Int.emod_eq_of_lt (by omega) (by omega)
    · rw [← Int.add_emod_right, Int.emod_eq_of_lt (by omega) (by omega)]
  have hu : unsigned (k + 1) v < 2 ^ (k + 1) := by rw [unsigned, hmod]; split <;> omega
  simp only [signed, Nat.mod_eq_of_lt hu, Nat.add_sub_cancel]
  rw [unsigned, hmod]
  split <;> split <;> omega

theorem State.elS_putS_eight {s : State} (a : Nat) {v : Int} (h : v.natAbs ≤ 10 ^ 12) : (s.putS 8 a v).elS 8 a = v := by
  rw [State.elS, State.putS, State.el_put_same]
  exact signed_unsigned (k := 63) (by omega) (by omega)

/-! ### What shows of a slew -/

section
variable (s : State)

/-- The steering word is the one register that its computation writes. -/
theorem State.el_steer_ne {a : Nat} (h : a ≠ Reg.COMP_WORD) : s.steer.el a = s.el a := State.el_put_ne s _ h

theorem State.el_setCorr_ne (x : Rat) {a : Nat} (h : a ≠ Reg.OUTAGE_CORR) : (s.setCorr x).el a = s.el a := State.el_put_ne _ _ h

theorem State.el_setSlew_ne (x : Rat) {a : Nat} (h : a ≠ Reg.SLEW_REM) : (s.setSlew x).el a = s.el a := State.el_put_ne _ _ h

/-- Nothing left shows as 0. -/
theorem unsigned_awayInt_zero (n : Nat) : unsigned (8 * n) (clampS n (awayInt 0)) = 0 := by
  have h0 : awayInt 0 = 0 := rfl
  have hc : clampS n 0 = 0 := by
    have : (0 : Int) < 2 ^ (8 * n - 1) := Int.pow_pos (by decide)
    unfold clampS clampInt
    omega
  rw [h0, hc]
  simp [unsigned]

theorem State.el_setCorr_zero : (s.setCorr 0).steer.el Reg.OUTAGE_CORR = 0 := by
  rw [State.el_steer_ne _ (by decide), State.setCorr, State.putS, State.el_put_same, Rat.div_def, Rat.zero_mul,
    unsigned_awayInt_zero]

theorem State.el_setSlew_zero : (s.setSlew 0).steer.el Reg.SLEW_REM = 0 := by
  rw [State.el_steer_ne _ (by decide), State.setSlew, State.putS, State.el_put_same, unsigned_awayInt_zero]

end

/-! ### The write (R227, R231) -/

section
variable {t : State} {x : Int}

theorem State.elS_slewMore (h : (t.elS 8 Reg.SLEW_REM + x).natAbs ≤ 10 ^ 12) :
    (t.slewMore x).elS 8 Reg.SLEW_REM = t.elS 8 Reg.SLEW_REM + x := by
  rw [State.elS, State.slewMore, State.el_steer_ne _ (by decide)]
  exact State.elS_putS_eight _ h

theorem State.el_slewMore_ne {a : Nat} (h : a ∉ [Reg.SLEW_REM, Reg.COMP_WORD]) : (t.slewMore x).el a = t.el a := by
  simp only [List.mem_cons, List.not_mem_nil, or_false, not_or] at h
  obtain ⟨hrem, hcomp⟩ := h
  rw [State.slewMore, State.el_steer_ne _ hcomp]
  exact State.el_put_ne _ _ hrem

variable {v : Nat} (hx : x = signed 64 v)
include hx

theorem State.slewAdd_taken (hl : t.refLocked = false) (hf : t.twin.follow = false)
    (h : (t.elS 8 Reg.SLEW_REM + x).natAbs ≤ 10 ^ 12) : t.slewAdd v = (t.slewMore x, .ok) := by
  subst hx
  have hin : ¬ (t.elS 8 Reg.SLEW_REM + signed 64 v < -slewMax ∨ slewMax < t.elS 8 Reg.SLEW_REM + signed 64 v) := by
    have : slewMax = 10 ^ 12 := rfl
    omega
  simp only [State.slewAdd, hl, State.follows, hf, if_neg hin]
  simp

theorem State.slewAdd_range (hl : t.refLocked = false) (hf : t.twin.follow = false)
    (h : 10 ^ 12 < (t.elS 8 Reg.SLEW_REM + x).natAbs) : t.slewAdd v = (t, .range 2 0) := by
  subst hx
  have hout : t.elS 8 Reg.SLEW_REM + signed 64 v < -slewMax ∨ slewMax < t.elS 8 Reg.SLEW_REM + signed 64 v := by
    have : slewMax = 10 ^ 12 := rfl
    omega
  simp only [State.slewAdd, hl, State.follows, hf, if_pos hout]
  simp

/-- R231, R762: a slew is refused while LOCKED and on the half that follows. -/
theorem State.slewAdd_conflict (h : t.refLocked = true ∨ t.twin.follow = true) (h0 : x ≠ 0) :
    t.slewAdd v = (t, .conflict 3) := by
  subst hx
  rw [State.slewAdd]
  exact if_pos ⟨h0, h⟩

end

/-- A write to SLEW_ADD answers what its effect gives. -/
theorem exec_slewAdd_let {s t u : State} {r : Req} {w : Who} {st : Stat} (hl : LetThrough s r false t w)
    (ha : r.addr = Reg.SLEW_ADD) (he : t.slewAdd (bytesToNum r.value) = (u, st)) (hu : u.exch = t.exch) (hc : st.code ≠ 1) :
    exec (.slewAddWrite r) s = .next (u.answer r 2 st []) := by
  rw [exec_slewAddWrite, execSlewAddWrite, State.ownWrite_let hl (by simp [ha])]
  simp only [he]
  rw [State.finish_answer u _ _ _ _ _ (hu ▸ hl.heard) hc]

/-! ### The end of a slew and of the range -/

/-- R228, R229: at the time its rate takes for what is left, the outage correction ends, or SLEW_REM after it. -/
theorem slewComplete_ends {s : State} (hr : s.runs .fb = true) (hl : s.clk.loaded = true) :
    exec .slewComplete s = if s.el Reg.OUTAGE_CORR ≠ 0
      then .next ((s.reach (s.slewEnd s.corrLeft)).setCorr 0).steer
      else .next ((s.reach (s.slewEnd s.slewLeft)).setSlew 0).steer := by
  rw [exec_slewComplete, execSlewComplete, if_neg (by simp [hr, hl])]

theorem rangeEndReached_holds {s t : State} (hr : s.runs .fb = true) (he : s.tim.rangeEnd = false)
    (ht : t = s.setTime (2 ^ 64 - 1)) :
    exec .rangeEndReached s = .next (State.refRecord { t with tim := { t.tim with rangeEnd := true } } 5) := by
  subst ht
  rw [exec_rangeEndReached, execRangeEndReached, if_neg (by simp [hr, he])]

/-! ### The passing of time -/

section
variable (s : State)

theorem State.el_slewPass_ne (n : Rat) {a : Nat} (h : a ∉ [Reg.OUTAGE_CORR, Reg.SLEW_REM, Reg.COMP_WORD]) :
    (s.slewPass n).el a = s.el a := by
  simp only [List.mem_cons, List.not_mem_nil, or_false, not_or] at h
  obtain ⟨hcorr, hrem, hcomp⟩ := h
  unfold State.slewPass
  split
  · rfl
  · rw [State.el_steer_ne _ hcomp, State.el_setSlew_ne _ _ hrem, State.el_setCorr_ne _ _ hcorr]

@[simp] theorem State.el_phasePass (k a : Nat) : (s.phasePass k).el a = s.el a :=
  congrArg (dictGet · a) (s.phasePass_dict k)

/-- Of the registers, the passing of time shows in the seconds on VBK, and in what is left of a slew with its steering word. -/
theorem State.el_reach_ne (t : Nat) {a : Nat} (h : a ∉ [Reg.BK_ON_VBK_S, Reg.OUTAGE_CORR, Reg.SLEW_REM, Reg.COMP_WORD]) :
    (s.reach t).el a = s.el a := by
  obtain ⟨hvbk, hslew⟩ := not_or.mp (mt List.mem_cons.mpr h)
  unfold State.reach
  split
  · rfl
  · unfold State.passTo
    dsimp only
    split
    · exact s.el_countTo_ne _ hvbk
    · exact (State.el_countTo_ne _ _ hvbk).trans ((State.el_phasePass _ _ _).trans (s.el_slewPass_ne _ hslew))

/-- Time passes for the clocks, the registers, the oscillators and the pulses on TMPO, and for nothing else. -/
theorem State.reach_rest (t : Nat) :
    { s.reach t with clk := s.clk, dict := s.dict, osc := s.osc, bk := s.bk, tmp := s.tmp } = s := by
  simp

theorem State.setV_loaded (v : Nat) : (s.setV v).clk.loaded = s.clk.loaded := by
  unfold State.setV
  dsimp only
  split <;> rfl

theorem State.countTo_loaded (v : Nat) : (s.countTo v).clk.loaded = s.clk.loaded := by
  unfold State.countTo
  dsimp only
  split <;> simp [State.setV_loaded]

end

/-- Station time that FB has loaded reaches an instant within its range, and never goes back. -/
theorem State.now_reach {s : State} {t : Nat} (ht : t ≤ stMax) (hl : s.clk.loaded = true) : (s.reach t).now = max s.now t := by
  unfold State.reach
  split
  next h => exact (Nat.max_eq_left h).symm
  next h =>
    have hpass : (s.passTo t).now = t := by
      simp only [State.passTo, hl, Bool.not_true, Bool.false_eq_true, if_false, State.now, State.countTo_loaded,
        State.phasePass_clk, State.slewPass_clk, if_true, Nat.min_eq_left ht]
    rw [hpass, Nat.max_eq_right (Nat.le_of_not_le h)]

/-- Settles O20: by the lemma of each answer of a write, of what the slew shows, and of the passing of time. -/
theorem slewAdds : Obligations.SlewAdds := by
  refine ⟨?_, fun t x h => ⟨State.elS_slewMore h, fun a ha => State.el_slewMore_ne ha, rfl⟩, ?_,
    fun s => ⟨s.el_setCorr_zero, s.el_setSlew_zero⟩, fun s t hr he ht => rangeEndReached_holds hr he ht, ?_⟩
  · intro r s t w x hl ha hx
    exact ⟨fun hk hf h => exec_slewAdd_let hl ha (State.slewAdd_taken hx hk hf h) rfl (by decide),
      fun hk hf h => exec_slewAdd_let hl ha (State.slewAdd_range hx hk hf h) rfl (by decide),
      fun h h0 => exec_slewAdd_let hl ha (State.slewAdd_conflict hx h h0) rfl (by decide)⟩
  · intro s hr hl
    have hend := slewComplete_ends hr hl
    exact ⟨fun h => hend.trans (if_pos h), fun h => hend.trans (if_neg (not_not_intro h))⟩
  · rintro s t rfl
    exact ⟨rfl, fun h hl => State.now_reach h hl, fun a ha => s.el_reach_ne _ ha, s.reach_rest _⟩

end Sys2Proof.Machine
end

section
/-! SUPPORT. An idle step: a cycle of BK's tick source with three live copies that agree, and of station time in FB. -/
namespace Sys2Proof.Machine
open Host

/-! ### A tick edge at which the copies agree (R156) -/

/-- The three copies of BK's count hold V, and none is marked failed. -/
structure State.InStep (s : State) : Prop where
  copies : s.bk.copies = [s.clk.v, s.clk.v, s.clk.v]
  live : s.el Reg.BK_VOTE % 8 = 0

/-- V one tick later, as far as its bits go (R216). -/
def State.nextV (s : State) : Nat := min (s.clk.v + 1) (stMax / 8192)

/-- The state after a tick edge at which V and its copies count alike. -/
def State.counted (s : State) : State :=
  ((((s.pulsesTo (s.clk.v + 1)).vTaken [s.nextV, s.nextV, s.nextV] s.nextV).agreed 0).agreed 1).agreed 2

theorem majority_three (p : Nat) : majority [p, p, p] = some p := by
  simp [majority]

/-- Bit 3 of BK_VOTE stands above the marks of the copies. -/
theorem setBit_three_mod_eight (v : Nat) (b : Bool) : setBit v 3 b % 8 = v % 8 := by
  unfold setBit setField field
  omega

theorem State.vote_vTaken_marks (s : State) (l : List Nat) (v : Nat) :
    (s.vTaken l v).el Reg.BK_VOTE % 8 = s.el Reg.BK_VOTE % 8 := by
  rw [← setBit_three_mod_eight (s.el Reg.BK_VOTE) false]
  unfold State.vTaken
  dsimp only
  split
  · rw [State.el_inc, if_neg (by decide), State.el_put_same]
  · rw [State.el_put_same]

@[simp] theorem State.agreed_isl (s : State) (c : Nat) : (s.agreed c).isl = s.isl := rfl

@[simp] theorem State.vTaken_isl (s : State) (l : List Nat) (v : Nat) : (s.vTaken l v).isl = s.isl := by
  unfold State.vTaken; dsimp only; split <;> rfl

theorem State.copyLive_of_marks {s : State} (h : s.el Reg.BK_VOTE % 8 = 0) {d : Nat} (hd : d < 3) : s.copyLive d = true := by
  rw [State.copyLive, bitOf_of_mod_eight h hd]; rfl

/-- The marks stay as they are: nothing is to be repaired. -/
theorem State.voteChecked_same {s b : State} (h : s.el Reg.BK_VOTE % 8 = 0) (hb : b.el Reg.BK_VOTE % 8 = 0) :
    s.voteChecked b = s := by
  have hout : s.votedOut = false := State.votedOut_one 0 fun d hd _ => bitOf_of_mod_eight h hd
  rw [State.voteChecked, if_neg (by simp [hout]), if_pos (h.trans hb.symm)]

/-- Live copies that all hold V only count that they agree. -/
theorem votes_agree {s : State} {v : Nat} (hv : s.clk.v = v) (hc : s.bk.copies = [v, v, v])
    (hm : s.el Reg.BK_VOTE % 8 = 0) : [0, 1, 2].foldl State.copyVoted s = ((s.agreed 0).agreed 1).agreed 2 := by
  simp [State.copyVoted_agrees, State.copyLive_of_marks hm, hv, hc]

section
variable (s : State)

theorem State.el_pulsesTo (v a : Nat) : (s.pulsesTo v).el a = s.el a := congrArg (dictGet · a) (s.pulsesTo_dict v)

@[simp] theorem State.counted_clk : s.counted.clk = { s.clk with v := s.nextV } := by simp [State.counted]

@[simp] theorem State.counted_isl : s.counted.isl = s.isl := by simp [State.counted]

@[simp] theorem State.counted_acc : s.counted.bk.acc = s.bk.acc := by simp [State.counted]

theorem State.counted_copies : s.counted.bk.copies = [s.nextV, s.nextV, s.nextV] := by simp [State.counted]

theorem State.counted_marks : s.counted.el Reg.BK_VOTE % 8 = s.el Reg.BK_VOTE % 8 := by
  simp [State.counted, State.vote_vTaken_marks, State.el_pulsesTo]

end

section
variable {s : State} (h : s.InStep)
include h

theorem State.InStep.counted : s.counted.InStep where
  copies := by rw [State.counted_copies, State.counted_clk]
  live := s.counted_marks.trans h.live

theorem State.tickEdge_inStep : s.tickEdge = s.counted := by
  have hcount : s.bk.copies.map (fun x => min (x + 1) (stMax / 8192)) = [s.nextV, s.nextV, s.nextV] := by
    rw [h.copies]; rfl
  have hpulses : (s.pulsesTo (s.clk.v + 1)).el Reg.BK_VOTE % 8 = 0 := by rw [State.el_pulsesTo, h.live]
  have hmarks := (State.vote_vTaken_marks _ [s.nextV, s.nextV, s.nextV] s.nextV).trans hpulses
  rw [State.tickEdge_of_majority (fun d hd => State.copyLive_of_marks h.live hd) hcount rfl (majority_three _),
    votes_agree (v := s.nextV) (by simp) (by simp) hmarks, State.voteChecked_same (by simpa using hmarks) hpulses,
    State.counted]

end

/-! ### A cycle of the tick source in BK (R186) -/

/-- The accumulator over a cycle. -/
def State.accumulated (s : State) : State :=
  { s with bk := { s.bk with acc := (((s.bk.acc : Int) + s.bk.comp) % 2 ^ 30).toNat } }

@[simp] theorem State.accumulated_clk (s : State) : s.accumulated.clk = s.clk := rfl
@[simp] theorem State.accumulated_isl (s : State) : s.accumulated.isl = s.isl := rfl

theorem State.InStep.accumulated {s : State} (h : s.InStep) : s.accumulated.InStep := ⟨h.copies, h.live⟩

theorem State.bkCycle_cases (s : State) : s.bkCycle =
    if (s.bk.acc : Int) + s.bk.comp < 0 then s.accumulated
    else if (2 : Int) ^ 30 ≤ s.bk.acc + s.bk.comp then s.accumulated.tickEdge.tickEdge
    else s.accumulated.tickEdge := rfl

/-- Two ticks that a bound holds are one tick of two, held by it. -/
theorem min_succ_min_succ (v m : Nat) : min (min (v + 1) m + 1) m = min (v + 2) m := by omega

/-- Over a cycle a tick edge is swallowed, stands as it is, or is followed by a second; the accumulator keeps what is left. -/
theorem State.bkCycle_inStep {s : State} {a : Int} (h : s.InStep) (ha : a = s.bk.acc + s.bk.comp)
    (hv : s.clk.v ≤ stMax / 8192) :
    s.bkCycle.InStep ∧ s.bkCycle.isl = s.isl ∧ (s.bkCycle.bk.acc : Int) = a % 2 ^ 30 ∧
    s.bkCycle.clk = { s.clk with
      v := min (s.clk.v + (if a < 0 then 0 else if a < 2 ^ 30 then 1 else 2)) (stMax / 8192) } := by
  have hacc : (s.accumulated.bk.acc : Int) = a % 2 ^ 30 := by
    rw [ha]; exact Int.toNat_of_nonneg (Int.emod_nonneg _ (by omega))
  have h0 := h.accumulated
  rw [State.bkCycle_cases, ← ha]
  rcases Int.lt_or_le a 0 with hneg | hpos
  · rw [if_pos hneg, if_pos hneg, Nat.add_zero, Nat.min_eq_left hv]
    exact ⟨h0, rfl, hacc, rfl⟩
  rw [if_neg (Int.not_lt.mpr hpos), if_neg (Int.not_lt.mpr hpos), State.tickEdge_inStep h0]
  rcases Int.lt_or_le a (2 ^ 30) with hone | htwo
  · rw [if_neg (Int.not_le.mpr hone), if_pos hone]
    exact ⟨h0.counted, by simp, by simp [hacc], by simp [State.nextV]⟩
  · rw [if_pos htwo, if_neg (Int.not_lt.mpr htwo), State.tickEdge_inStep h0.counted]
    have hnext : s.accumulated.counted.nextV = min (s.clk.v + 2) (stMax / 8192) := by
      simp only [State.nextV, State.counted_clk, State.accumulated_clk, min_succ_min_succ]
    exact ⟨h0.counted.counted, by simp, by simp [hacc], by simp [hnext]⟩

/-! ### A cycle of the tick source in FB (R182) -/

section
variable (s : State)

@[simp] theorem State.fbCycle_bk : s.fbCycle.bk = s.bk := by
  unfold State.fbCycle; dsimp only; split <;> simp

@[simp] theorem State.fbCycle_isl : s.fbCycle.isl = s.isl := by
  unfold State.fbCycle; dsimp only; split <;> simp

/-- Station time in FB is no business of BK's count. -/
@[simp] theorem State.fbCycle_v : s.fbCycle.clk.v = s.clk.v := by
  unfold State.fbCycle; dsimp only; split <;> simp

theorem State.el_fbCycle_ne {a : Nat} (h : a ∉ [Reg.OUTAGE_CORR, Reg.SLEW_REM, Reg.COMP_WORD]) : s.fbCycle.el a = s.el a := by
  unfold State.fbCycle
  dsimp only
  split
  · rfl
  · exact (State.el_phasePass _ _ _).trans (s.el_slewPass_ne _ h)

end

theorem State.InStep.fbCycle {s : State} (h : s.InStep) : s.fbCycle.InStep where
  copies := by rw [State.fbCycle_bk, State.fbCycle_v, h.copies]
  live := by rw [State.el_fbCycle_ne _ (by decide), h.live]

section
variable {s : State} (hc : s.corrLeft = 0) (hs : s.slewLeft = 0)
include hc hs

/-- With nothing left to be slewed there is no slew term, and station time gains nothing by it. -/
theorem State.slewTerm_none : s.slewTerm = 0 := by simp [State.slewTerm, hc, hs]

theorem State.slewGain_none {n : Rat} (hn : 0 ≤ n) : s.slewGain n = 0 := by
  have hprod : 0 ≤ n * (s.el Reg.SLEW_PPM : Rat) := Rat.mul_nonneg hn Rat.natCast_nonneg
  have hm : 0 ≤ n * 1000000000 / 2 ^ 28 * ((s.el Reg.SLEW_PPM : Rat) / 1000000) := by grind
  have hmin : ∀ m : Rat, 0 ≤ m → min m 0 = 0 ∧ min (m - 0) 0 = 0 := by grind
  have h0 : absRat 0 = 0 := rfl
  have hparts : s.slewParts n = (0, 0) := by
    simp only [State.slewParts, hc, hs, h0, hmin _ hm]
  simp only [State.slewGain, hparts, Rat.neg_zero, ite_self, Rat.add_zero, Rat.zero_mul, Rat.div_def]

/-- R182: without a slew and a phase term, station time moves by the 2,048 timebase cycles under the steering word. -/
theorem State.fbCycle_unslewed {x : Int} (hl : s.clk.loaded = true) (hp : s.osc.phaseRun = 0)
    (hx : x = ((s.clk.st + 8192) * 2 ^ 38 + s.clk.sub : Nat) + s.elS 4 Reg.COMP_WORD * 2 ^ 11)
    (h0 : 0 ≤ x) (hmax : x < stMax * 2 ^ 38) : (s.fbCycle.clk.st * 2 ^ 38 + s.fbCycle.clk.sub : Nat) = x := by
  have hcut : roundRat ((s.slewGain 8192 - s.slewTerm * 8192) * 2 ^ 38) = 0 := by
    rw [State.slewGain_none hc hs (by decide), State.slewTerm_none hc hs]
    decide +kernel
  have hsum : ((s.clk.st * 2 ^ 38 + s.clk.sub + 8192 * 2 ^ 38 : Nat) : Int) + s.elS 4 Reg.COMP_WORD * 2 ^ 11 + 0 + 0 = x := by
    omega
  have hst : (x / 2 ^ 38).toNat < stMax := by omega
  simp only [State.fbCycle, hl, hcut, hp, Bool.not_true, Bool.false_eq_true, if_false, if_true, hsum,
    if_neg (Nat.not_le.mpr hst), Nat.min_eq_left (Nat.le_of_lt hst)]
  omega

end

/-! ### The idle step -/

/-- With no request that waits for an island, an idle step that counts is a cycle of FB and one of BK. -/
theorem State.tick_counts {s : State} (h : s.ticks = true) (hh : s.fbCycle.bkCycle.isl.held = []) :
    s.tick = s.fbCycle.bkCycle := by
  rw [State.tick, State.pulse, if_pos h, State.serveReady_nil hh]

theorem State.tick_stands {s : State} (h : s.ticks = false) (hh : s.isl.held = []) : s.tick = s := by
  rw [State.tick, State.pulse, if_neg (by simp [h]), State.serveReady_nil hh]

theorem step_idle {s : State} (h : s.pending = []) : step s = .next s.tick := by
  rw [step, h]

/-- Settles O2: by BK's cycle with its copies in step, and FB's with no slew. -/
theorem idleStepTicks : Obligations.IdleStepTicks := by
  intro s hp hh
  refine ⟨s.tick, step_idle hp, fun h => State.tick_stands h hh, fun a h ha hc hm hv => ?_⟩
  have hin : s.fbCycle.InStep := State.InStep.fbCycle ⟨hc, hm⟩
  obtain ⟨hstep, hisl, hacc, hclk⟩ := State.bkCycle_inStep hin (a := a) (by rw [State.fbCycle_bk, ha])
    (by rw [State.fbCycle_v]; exact hv)
  rw [State.tick_counts h (by rw [hisl, State.fbCycle_isl, hh])]
  refine ⟨hacc, by rw [hclk, State.fbCycle_v], hstep.copies, fun x hl hcorr hslew hphase hx h0 hmax => ?_⟩
  rw [hclk]
  exact State.fbCycle_unslewed hcorr hslew hl hphase hx h0 hmax

end Sys2Proof.Machine
end

section
/-! SUPPORT. What every command keeps, and so every step: the form of a sound state. -/
namespace Sys2Proof.Machine
open Host

/-- Every command, in every state, keeps what `Keeps` lists: one arm for each, by the law of its own meaning. -/
theorem exec_keeps {s t : State} (h : Keeps s t) : ∀ c : Instr, KeepsOut s (exec c t)
  | .handshakeTimeout .. => execHandshakeTimeout_keeps _ _ _ _ t h
  | .orphanAckLow .. => execOrphanAckLow_keeps _ t h
  | .illegalStateEncoding .. => execIllegalStateEncoding_keeps _ _ _ t h
  | .islandSelfReset .. => execIslandSelfReset_keeps _ t h
  | .islandWake .. => execIslandWake_keeps _ _ t h
  | .islandRunReached .. => execIslandRunReached_keeps _ t h
  | .islandIdleStop .. => execIslandIdleStop_keeps _ _ t h
  | .drainComplete .. => execDrainComplete_keeps _ t h
  | .drainLimitExpiry .. => execDrainLimitExpiry_keeps _ t h
  | .islandSupplyFail .. => execIslandSupplyFail_keeps _ t h
  | .islReqGate .. => execIslReqGate_keeps _ t h
  | .islReqReset .. => execIslReqReset_keeps _ t h
  | .islReqWithdraw .. => execIslReqWithdraw_keeps _ t h
  | .islandHoldTake .. => execIslandHoldTake_keeps _ _ t h
  | .islandHoldRelease .. => execIslandHoldRelease_keeps _ t h
  | .holdLeaseExpiry .. => execHoldLeaseExpiry_keeps _ t h
  | .holdExpirySignal .. => execHoldExpirySignal_keeps _ t h
  | .wakeComparatorWake => execWakeComparatorWake_keeps t h
  | .firmwareRetry .. => execFirmwareRetry_keeps _ _ t h
  | .mainPowerUp => execMainPowerUp_keeps t h
  | .vdd5Good => execVdd5Good_keeps t h
  | .vcoreGood => execVcoreGood_keeps t h
  | .strapSample .. => execStrapSample_keeps _ _ _ _ t h
  | .strapDefaultTimeout => execStrapDefaultTimeout_keeps t h
  | .bootSlotTry => execBootSlotTry_keeps t h
  | .firmwareStart .. => execFirmwareStart_keeps _ _ t h
  | .rstoRelease => execRstoRelease_keeps t h
  | .rstNLow => execRstNLow_keeps t h
  | .rstNWiden => execRstNWiden_keeps t h
  | .rstNRelease => execRstNRelease_keeps t h
  | .vcoreBrownout => execVcoreBrownout_keeps t h
  | .devResetMain .. => execDevResetMain_keeps _ t h
  | .devResetFull .. => execDevResetFull_keeps _ t h
  | .keeperMainReset => execKeeperMainReset_keeps t h
  | .backupPowerOn => execBackupPowerOn_keeps t h
  | .stationTimeLoad .. => execStationTimeLoad_keeps _ t h
  | .x32Qualified .. => execX32Qualified_keeps _ _ _ t h
  | .x32Changeover => execX32Changeover_keeps t h
  | .x32QualTimeout => execX32QualTimeout_keeps t h
  | .x32RestartAttempt => execX32RestartAttempt_keeps t h
  | .x32Stopped => execX32Stopped_keeps t h
  | .switchoverToVbk => execSwitchoverToVbk_keeps t h
  | .switchoverToMain => execSwitchoverToMain_keeps t h
  | .vbkLowCheck .. => execVbkLowCheck_keeps _ t h
  | .trickleStop => execTrickleStop_keeps t h
  | .trickleRestart => execTrickleRestart_keeps t h
  | .bkCopyFailed .. => execBkCopyFailed_keeps _ _ t h
  | .ringEntryRelease .. => execRingEntryRelease_keeps _ t h
  | .l3Evaluate .. => execL3Evaluate_keeps _ t h
  | .lfrcCalStart => execLfrcCalStart_keeps t h
  | .lfrcCalEnd .. => execLfrcCalEnd_keeps _ _ t h
  | .aorcMeasure .. => execAorcMeasure_keeps _ t h
  | .xhMeasure .. => execXhMeasure_keeps _ t h
  | .pllLockLoss => execPllLockLoss_keeps t h
  | .pllRelock => execPllRelock_keeps t h
  | .compLoad .. => execCompLoad_keeps _ t h
  | .compTempWake .. => execCompTempWake_keeps _ t h
  | .ppsPulse .. => execPpsPulse_keeps _ t h
  | .nmeaSentence .. => execNmeaSentence_keeps _ _ _ _ _ t h
  | .ptpExchange .. => execPtpExchange_keeps _ _ _ _ t h
  | .refInputMissing => execRefInputMissing_keeps t h
  | .refQualifyTimeout => execRefQualifyTimeout_keeps t h
  | .refLabelWrite .. => execRefLabelWrite_keeps _ t h
  | .refAcceptWrite .. => execRefAcceptWrite_keeps _ t h
  | .driftObservation .. => execDriftObservation_keeps _ _ _ _ _ t h
  | .learnResetWrite .. => execLearnResetWrite_keeps _ t h
  | .modelStore => execModelStore_keeps t h
  | .episodeRollover => execEpisodeRollover_keeps t h
  | .ppsOutPulse => execPpsOutPulse_keeps t h
  | .rangeEndReached => execRangeEndReached_keeps t h
  | .leapTableExpired => execLeapTableExpired_keeps t h
  | .slewAddWrite .. => execSlewAddWrite_keeps _ t h
  | .slewComplete => execSlewComplete_keeps t h
  | .timeStepWrite .. => execTimeStepWrite_keeps _ _ t h
  | .timeStepFWrite .. => execTimeStepFWrite_keeps _ _ t h
  | .timeSetWrite .. => execTimeSetWrite_keeps _ _ t h
  | .stepWithdraw .. => execStepWithdraw_keeps _ t h
  | .stepApply .. => execStepApply_keeps _ t h
  | .read .. => execRead_keeps _ t h
  | .refusedResponseSend .. => execRefusedResponseSend_keeps _ t h
  | .write .. => execWrite_keeps _ t h
  | .gather .. => execGather_keeps _ t h
  | .gatherFreeze .. => execGatherFreeze_keeps _ t h
  | .scatter .. => execScatter_keeps _ t h
  | .commit .. => execCommit_keeps _ _ t h
  | .commitCheckOnly .. => execCommitCheckOnly_keeps _ _ t h
  | .discard .. => execDiscard_keeps _ t h
  | .lease .. => execLease_keeps _ t h
  | .release .. => execRelease_keeps _ t h
  | .subscribe .. => execSubscribe_keeps _ t h
  | .unsubscribe .. => execUnsubscribe_keeps _ t h
  | .logRead .. => execLogRead_keeps _ t h
  | .doorbell .. => execDoorbell_keeps _ t h
  | .echo .. => execEcho_keeps _ t h
  | .unknownOpcode .. => execUnknownOpcode_keeps _ _ t h
  | .imageBegin .. => execImageBegin_keeps _ t h
  | .imageData .. => execImageData_keeps _ t h
  | .imageFinish .. => execImageFinish_keeps _ t h
  | .imageAbort .. => execImageAbort_keeps _ t h
  | .imageActivate .. => execImageActivate_keeps _ t h
  | .imageConfirm .. => execImageConfirm_keeps _ t h
  | .fwAutoConfirm => execFwAutoConfirm_keeps t h
  | .fwSessionTimeout => execFwSessionTimeout_keeps t h
  | .watchInterval .. => execWatchInterval_keeps _ _ _ t h
  | .subscriptionExpiry .. => execSubscriptionExpiry_keeps _ _ t h
  | .commitPrepare => execCommitPrepare_keeps t h
  | .commitPrepared => execCommitPrepared_keeps t h
  | .commitPrepDeadline .. => execCommitPrepDeadline_keeps _ t h
  | .commitCheckStrobe .. => execCommitCheckStrobe_keeps _ t h
  | .commitStore => execCommitStore_keeps t h
  | .parisonIdleDiscard .. => execParisonIdleDiscard_keeps _ t h
  | .cmWithdrawWrite .. => execCmWithdrawWrite_keeps _ t h
  | .cmWithdrawAnyWrite .. => execCmWithdrawAnyWrite_keeps _ t h
  | .leaseExpiry .. => execLeaseExpiry_keeps _ _ t h
  | .leaseRequestTimeout .. => execLeaseRequestTimeout_keeps _ _ t h
  | .lsRenewWrite .. => execLsRenewWrite_keeps _ t h
  | .lsDropWrite .. => execLsDropWrite_keeps _ t h
  | .revokeAnyWrite .. => execRevokeAnyWrite_keeps _ t h
  | .revocationEffect .. => execRevocationEffect_keeps _ _ t h
  | .endedSlotExpiry .. => execEndedSlotExpiry_keeps _ _ t h
  | .timerArm .. => execTimerArm_keeps _ t h
  | .timerDisarm .. => execTimerDisarm_keeps _ t h
  | .timerFire .. => execTimerFire_keeps _ _ t h
  | .planEntryFire .. => execPlanEntryFire_keeps _ _ t h
  | .planExchange => execPlanExchange_keeps t h
  | .evtRawTransition .. => execEvtRawTransition_keeps _ _ _ _ t h
  | .evtEdgeQualify .. => execEvtEdgeQualify_keeps _ _ t h
  | .latchEdge .. => execLatchEdge_keeps _ _ _ _ _ t h
  | .latchHandover => execLatchHandover_keeps t h
  | .grantLevelTake .. => execGrantLevelTake_keeps _ _ _ t h
  | .l4Evaluate .. => execL4Evaluate_keeps _ _ t h
  | .fbRefRunExpiry => execFbRefRunExpiry_keeps t h
  | .claim .. => execClaim_keeps _ t h
  | .complete .. => execComplete_keeps _ t h
  | .ringStatus .. => execRingStatus_keeps _ t h
  | .doorbellWrite .. => execDoorbellWrite_keeps _ t h
  | .enSetWrite .. => execEnSetWrite_keeps _ t h
  | .enClrWrite .. => execEnClrWrite_keeps _ t h
  | .pendSetWrite .. => execPendSetWrite_keeps _ t h
  | .pendClrWrite .. => execPendClrWrite_keeps _ t h
  | .holdoffEnd .. => execHoldoffEnd_keeps _ t h
  | .claimTimeout .. => execClaimTimeout_keeps _ _ t h
  | .t0Claim => execT0Claim_keeps t h
  | .notifierClaim => execNotifierClaim_keeps t h
  | .canSegTimeout .. => execCanSegTimeout_keeps _ _ t h
  | .canTxTimeout => execCanTxTimeout_keeps t h
  | .canBusError .. => execCanBusError_keeps _ _ t h
  | .canBoffHoldExpiry => execCanBoffHoldExpiry_keeps t h
  | .canRecoveryComplete => execCanRecoveryComplete_keeps t h
  | .t1lLinkUp .. => execT1lLinkUp_keeps _ _ t h
  | .t1lLinkDown => execT1lLinkDown_keeps t h
  | .icmpv6Echo .. => execIcmpv6Echo_keeps _ _ _ _ t h
  | .ptpSyncSend => execPtpSyncSend_keeps t h
  | .hostSend .. => execHostSend_keeps _ _ _ t h
  | .hostFetch .. => execHostFetch_keeps _ _ t h
  | .hostStatus .. => execHostStatus_keeps _ t h
  | .hostUnknownCommand .. => execHostUnknownCommand_keeps _ t h
  | .kxStartWrite .. => execKxStartWrite_keeps _ t h
  | .kxPeerWrite .. => execKxPeerWrite_keeps _ t h
  | .kxExpiry .. => execKxExpiry_keeps _ t h
  | .zeroizeWrite .. => execZeroizeWrite_keeps _ t h
  | .entropyFault => execEntropyFault_keeps t h
  | .vinOvervoltage .. => execVinOvervoltage_keeps _ t h
  | .vsysOvervoltage .. => execVsysOvervoltage_keeps _ t h
  | .chargeTransition .. => execChargeTransition_keeps _ _ _ _ _ _ t h
  | .prechargeTimeout => execPrechargeTimeout_keeps t h
  | .chgClearWrite .. => execChgClearWrite_keeps _ t h
  | .l5Evaluate .. => execL5Evaluate_keeps _ _ _ _ t h
  | .mpptSweep .. => execMpptSweep_keeps _ _ t h
  | .l6Evaluate .. => execL6Evaluate_keeps _ _ t h
  | .l7Evaluate .. => execL7Evaluate_keeps _ _ t h
  | .socRestCorrection .. => execSocRestCorrection_keeps _ t h
  | .hourBoundary => execHourBoundary_keeps t h
  | .budgetCompute => execBudgetCompute_keeps t h
  | .batAlarmChange .. => execBatAlarmChange_keeps _ t h
  | .snowCheck => execSnowCheck_keeps t h
  | .pwNightWake .. => execPwNightWake_keeps _ _ _ t h
  | .railBandCross .. => execRailBandCross_keeps _ _ _ _ t h
  | .upDelayExpiry .. => execUpDelayExpiry_keeps _ t h
  | .railGood .. => execRailGood_keeps _ t h
  | .rampTimeout .. => execRampTimeout_keeps _ t h
  | .downDelayExpiry .. => execDownDelayExpiry_keeps _ t h
  | .railOffReached .. => execRailOffReached_keeps _ t h
  | .dischargeTimeout .. => execDischargeTimeout_keeps _ t h
  | .fltNAsserted => execFltNAsserted_keeps t h
  | .fltNRelease .. => execFltNRelease_keeps _ t h
  | .fltHoldExpiry .. => execFltHoldExpiry_keeps _ t h
  | .seqClearWrite .. => execSeqClearWrite_keeps _ t h
  | .retryRestore .. => execRetryRestore_keeps _ t h
  | .lswRampDone .. => execLswRampDone_keeps _ t h
  | .lswCurrentLimit .. => execLswCurrentLimit_keeps _ t h
  | .lswOvertemp .. => execLswOvertemp_keeps _ t h
  | .lswLoadCheck .. => execLswLoadCheck_keeps _ _ _ t h
  | .margReqWrite .. => execMargReqWrite_keeps _ t h
  | .margTargetReached .. => execMargTargetReached_keeps _ t h
  | .wdKeyArm .. => execWdKeyArm_keeps _ t h
  | .wdKeyService .. => execWdKeyService_keeps _ t h
  | .wdKeyBad .. => execWdKeyBad_keeps _ t h
  | .wdCheckin .. => execWdCheckin_keeps _ t h
  | .wdNap .. => execWdNap_keeps _ t h
  | .wdPeriodEnd .. => execWdPeriodEnd_keeps _ t h
  | .wdWindowOpen .. => execWdWindowOpen_keeps _ t h
  | .wdGraceExpiry .. => execWdGraceExpiry_keeps _ t h
  | .wdClockStop .. => execWdClockStop_keeps _ t h
  | .wdStateIllegal .. => execWdStateIllegal_keeps _ _ _ t h
  | .wdRstoEnd .. => execWdRstoEnd_keeps _ t h
  | .tamperAssert .. => execTamperAssert_keeps _ _ t h
  | .tamperRelease .. => execTamperRelease_keeps _ t h
  | .tmpClearWrite .. => execTmpClearWrite_keeps _ t h
  | .tamperHoldExpiry .. => execTamperHoldExpiry_keeps _ t h
  | .shadowMismatch .. => execShadowMismatch_keeps _ _ t h
  | .tmpTestWrite .. => execTmpTestWrite_keeps _ t h
  | .tmpTestEnd .. => execTmpTestEnd_keeps _ t h
  | .facOpenRequest => execFacOpenRequest_keeps t h
  | .facSignature .. => execFacSignature_keeps _ _ t h
  | .facChallengeExpiry => execFacChallengeExpiry_keeps t h
  | .facLockoutEnd => execFacLockoutEnd_keeps t h
  | .facIdleClose => execFacIdleClose_keeps t h
  | .logArchiveWrite .. => execLogArchiveWrite_keeps _ t h
  | .evidenceAppend => execEvidenceAppend_keeps t h
  | .l1Evaluate .. => execL1Evaluate_keeps _ _ _ t h
  | .l2Evaluate .. => execL2Evaluate_keeps _ _ _ t h
  | .vmonBandCross .. => execVmonBandCross_keeps _ _ _ _ t h
  | .loopInputLost .. => execLoopInputLost_keeps _ _ t h
  | .loopInputReturn .. => execLoopInputReturn_keeps _ _ t h
  | .scrubPassEnd .. => execScrubPassEnd_keeps _ _ _ _ t h
  | .seedRepair .. => execSeedRepair_keeps _ t h
  | .fieldRepairStore => execFieldRepairStore_keeps t h
  | .eccUncorrectable .. => execEccUncorrectable_keeps _ _ _ _ _ t h
  | .blockRetire .. => execBlockRetire_keeps _ _ t h
  | .twinHelloSend => execTwinHelloSend_keeps t h
  | .twinHello .. => execTwinHello_keeps _ _ t h
  | .twinHeartbeatSend => execTwinHeartbeatSend_keeps t h
  | .twinHeartbeat .. => execTwinHeartbeat_keeps _ _ _ _ _ _ t h
  | .twinHeartbeatMiss => execTwinHeartbeatMiss_keeps t h
  | .twinSyncSend => execTwinSyncSend_keeps t h
  | .twinSync .. => execTwinSync_keeps _ _ _ _ _ _ _ _ _ t h
  | .twinDigestCompute => execTwinDigestCompute_keeps t h
  | .twinDigest .. => execTwinDigest_keeps _ _ _ t h
  | .twinRecord .. => execTwinRecord_keeps _ _ _ _ _ _ t h
  | .twinCommit .. => execTwinCommit_keeps _ _ _ _ t h
  | .twinStep .. => execTwinStep_keeps _ _ _ _ _ t h
  | .twinValues .. => execTwinValues_keeps _ _ t h
  | .twinResolveWrite .. => execTwinResolveWrite_keeps _ t h
  | .wakeNLow => execWakeNLow_keeps t h
  | .wakeNHigh => execWakeNHigh_keeps t h
  | .bkStateLoss => execBkStateLoss_keeps t h
  | .bkCopyReload .. => execBkCopyReload_keeps _ _ _ t h
  | .converterVinLowStop .. => execConverterVinLowStop_keeps _ _ t h
  | .fltNLineReleased => execFltNLineReleased_keeps t h
  | .bankSupplyChange .. => execBankSupplyChange_keeps _ _ t h
  | .ptpAnnounceReceived .. => execPtpAnnounceReceived_keeps _ _ _ _ t h
  | .announceReceiptTimeout => execAnnounceReceiptTimeout_keeps t h
  | .ptpAnnounceSend => execPtpAnnounceSend_keeps t h
  | .ptpDelayReqReceived .. => execPtpDelayReqReceived_keeps _ _ t h
  | .canSegmentReceived .. => execCanSegmentReceived_keeps _ _ _ _ _ _ _ _ _ _ _ t h
  | .canFrameTransmitted => execCanFrameTransmitted_keeps t h
  | .neighbourDiscoveryFrame .. => execNeighbourDiscoveryFrame_keeps _ _ _ _ _ t h
  | .ppsOutPulseEnd => execPpsOutPulseEnd_keeps t h
  | .episodeCounted => execEpisodeCounted_keeps t h
  | .keyTableRebuilt => execKeyTableRebuilt_keeps t h

/-- The queue of waiting commands is no part of the form of a sound state. -/
theorem State.Inv.rest {s : State} (h : s.Inv) : s.rest.Inv := { h with }

/-- A step is an idle cycle of BK's tick source, or the command at the front of the queue. -/
theorem step_cases {s t : State} (h : step s = .next t) : t = s.tick ∨ ∃ c, exec c s.rest = .next t := by
  unfold step at h
  split at h
  · exact .inl (Outcome.next.inj h).symm
  · exact .inr ⟨_, h⟩

/-- Settles O4: an idle step by the law of the tick, any other by the law of its command. -/
theorem stepKeepsInv : Obligations.StepKeepsInv := by
  intro s t hs ht
  rcases step_cases ht with rfl | ⟨c, hc⟩
  · exact (State.tick_keeps s (Keeps.refl s)).inv hs
  · exact ((exec_keeps (Keeps.refl s.rest) c).of_next hc).inv hs.rest

end Sys2Proof.Machine
end

section
/-! SUPPORT. The dictionary's canonical form: what it lists is what it reads, so that equal contents are equal data. -/
namespace Sys2Proof.Machine
open Host

/-- With addresses strictly rising, a listed address reads its listed value. -/
theorem dictGet_of_mem {d : List (Nat × Nat)} (h : d.Pairwise (fun p q => p.1 < q.1)) {p : Nat × Nat} (hp : p ∈ d) :
    dictGet d p.1 = p.2 := by
  induction d with
  | nil => cases hp
  | cons x t ih =>
    obtain ⟨hx, ht⟩ := List.pairwise_cons.mp h
    rcases List.mem_cons.mp hp with rfl | hp
    · simp [dictGet]
    · have hne : (x.1 == p.1) = false := by simpa using Nat.ne_of_lt (hx p hp)
      simpa [dictGet, List.find?_cons, hne] using ih ht hp

/-- An address that does not read its default is listed, with the value it reads. -/
theorem mem_of_dictGet {d : List (Nat × Nat)} {a : Nat} (h : dictGet d a ≠ defaultOf a) : (a, dictGet d a) ∈ d := by
  cases hf : d.find? (fun p => p.1 == a) with
  | none => exact absurd (by simp [dictGet, hf]) h
  | some p =>
    obtain rfl : p.1 = a := by simpa using List.find?_some hf
    have hget : dictGet d p.1 = p.2 := by simp [dictGet, hf]
    exact hget ▸ List.mem_of_find?_eq_some hf

/-- A store in canonical form lists exactly the addresses that do not read their defaults. -/
theorem mem_iff_of_dictWf {d : List (Nat × Nat)} (h : dictWf d = true) (p : Nat × Nat) :
    p ∈ d ↔ dictGet d p.1 = p.2 ∧ p.2 ≠ defaultOf p.1 := by
  obtain ⟨hrise, hdef⟩ := (dictWf_iff d).mp h
  refine ⟨fun hp => ⟨dictGet_of_mem hrise hp, hdef p hp⟩, fun ⟨hget, hne⟩ => ?_⟩
  have hmem := mem_of_dictGet (d := d) (hget ▸ hne)
  rwa [hget] at hmem

/-- With addresses strictly rising, nothing is listed twice. -/
theorem nodup_of_rising {d : List (Nat × Nat)} (h : d.Pairwise (fun p q => p.1 < q.1)) : d.Nodup :=
  h.imp fun hlt heq => Nat.ne_of_lt hlt (congrArg Prod.fst heq)

/-- Stores in canonical form that read alike are the same list. -/
theorem dictWf_ext {d e : List (Nat × Nat)} (hd : dictWf d = true) (he : dictWf e = true)
    (h : ∀ a, dictGet d a = dictGet e a) : d = e := by
  have hdr := ((dictWf_iff d).mp hd).1
  have her := ((dictWf_iff e).mp he).1
  have hperm : d.Perm e := (List.perm_ext_iff_of_nodup (nodup_of_rising hdr) (nodup_of_rising her)).mpr fun p => by
    rw [mem_iff_of_dictWf hd, mem_iff_of_dictWf he, h]
  exact hperm.eq_of_pairwise (fun _ _ _ _ hlt hgt => absurd hgt (Nat.lt_asymm hlt)) hdr her

/-- Settles O6: by the laws of the store's read after a write, and the canonical form's extensionality. -/
theorem registerStore : Obligations.RegisterStore :=
  ⟨fun s a v => ⟨s.el_put_same a v, fun _ hb => s.el_put_ne v hb, s.put_rest a v, dictWf_set a v⟩,
    fun s a n => by rw [State.el_inc, if_pos rfl],
    fun _ _ hd he h => dictWf_ext hd he h⟩

end Sys2Proof.Machine
end

section
/-! SUPPORT. The uniform refusal: what it counts, when its response is due, what is refused so, and how the response leaves. -/
namespace Sys2Proof.Machine
open Host

theorem exec_read (r : Req) (s : State) : exec (.read r) s = execRead r s := rfl
theorem exec_refusedResponseSend (k : Nat) (s : State) :
    exec (.refusedResponseSend k) s = execRefusedResponseSend k s := rfl

/-! ### What a refusal counts and queues (R270, R271, R273) -/

section
variable {s : State} {c : Nat}

/-- R273: for a CID in use, its count and the time of its latest refusal. -/
theorem State.el_countRefusal_inUse (h : s.inUse c = true) (a : Nat) :
    (s.countRefusal c).el a =
      if a = Reg.REFUSE_LAST c then s.now
      else if a = Reg.REFUSALS c then min (s.el (Reg.REFUSALS c) + 1) (2 ^ 32 - 1) else s.el a := by
  rw [State.countRefusal, if_pos h, State.el_put, State.el_inc]

/-- R273: for any other CID, the count of the unbound. -/
theorem State.el_countRefusal_unbound (h : s.inUse c = false) (a : Nat) :
    (s.countRefusal c).el a =
      if a = Reg.REFUSE_UNBOUND then min (s.el Reg.REFUSE_UNBOUND + 1) (2 ^ 32 - 1) else s.el a := by
  rw [State.countRefusal, if_neg (by simp [h]), State.el_inc]

@[simp] theorem State.countRefusal_exch (s : State) (c : Nat) : (s.countRefusal c).exch = s.exch := by
  unfold State.countRefusal
  split <;> rfl

end

section
variable (s : State) (r : Req) (op : Nat) (cls : Cls)

/-- Of the registers, a refusal changes those that count it. -/
theorem State.el_refuse (a : Nat) : (s.refuse r op cls).el a = (s.countRefusal r.cid).el a := rfl

/-- The counts and the waiting responses apart, a refusal changes nothing. -/
theorem State.refuse_rest :
    { s.refuse r op cls with dict := s.dict, exch := { (s.refuse r op cls).exch with refused := s.exch.refused } } = s := by
  unfold State.refuse State.refuseAs State.countRefusal
  split <;> rfl

/-- R270: the response to a refused request has no body, and waits for its class's delay from now on. -/
theorem State.refuse_refused :
    (s.refuse r op cls).exch.refused =
      s.exch.refused ++ [⟨replyOf r op false .refused [] none, s.now + (s.delayOf cls * 2 ^ 28 + 999999) / 1000000⟩] := by
  simp [State.refuse, State.refuseAs, State.delayed]

end

/-! ### What is refused uniformly (R258, R269) -/

/-- A status of REFUSED that is to be answered is the uniform refusal. -/
theorem State.finish_refused (s : State) (r : Req) (op : Nat) (cls : Cls) (b : Bytes) (hm : s.exch.muted = false) :
    s.finish r op cls .refused b = s.refuse r op cls := by
  simp [State.finish, hm]

/-- R269: nobody may read an element that does not exist. -/
theorem State.mayRead_none (s : State) (w : Who) {a : Nat} (h : rowOf a = none) : s.mayRead w a = false := by
  simp [State.mayRead, h]

section
variable {s t : State} {r : Req} {op : Nat} {cls : Cls} {ring boot tagOk : Bool}

/-- Step 1 of R258: a frame that its port takes in, and that CR serves, goes on to its verification. -/
theorem State.accept_framed (hr : s.exch.resumed = none) (hp : s.portOpen r.port = true)
    (he : r.port = .t1l → s.ethIn r.eth = true ∧ s.malnanIn r.eth = true) (hf : r.framed = true)
    (hc : ¬ (r.port = .canFd ∧ 12 ≤ r.src % 16)) (ht : t = s.takeFrame r) (hcr : t.crossing .cr 14 = .serve) :
    s.accept r op cls false ring boot = t.authenticate r op cls ring boot (s.tagOk r op ring) := by
  have heth : ¬ (r.port = .t1l ∧ s.ethIn r.eth = false) := fun h => by simp [he h.1] at h
  have hmal : ¬ (r.port = .t1l ∧ s.malnanIn r.eth = false) := fun h => by simp [he h.1] at h
  simp only [State.accept, State.acceptWith, hr, ← ht, hcr, hf, hp, heth, hmal, hc, Option.isNone_none, Bool.not_true,
    Bool.not_eq_true', Bool.and_false, Bool.false_eq_true, true_and, if_false]

/-- Step 2 of R258: a request that SC finds not authentic is refused (R528). -/
theorem State.authenticate_unauthentic (hb : t.bootstrapOk r = false) (hsc : t.crossing .sc 10 = .serve)
    (hk : t.key.rebuilding = false) (ha : t.authentic r (op == 0x0E) tagOk = false) :
    t.authenticate r op cls ring boot tagOk = .done (t.refuseAs r op cls ring) := by
  simp [State.authenticate, State.verified, hb, hsc, hk, ha]

end

/-- R258, R269: a READ of an element that the requester may not read. -/
theorem read_refused {s t : State} {r : Req} {w : Who} {f : Bool} (hl : r.body.length = 3) (hf : f = fastRead r [r.addr])
    (ha : s.accept r 1 (readClass f) f false (bootRead r.addr) = .go t w) (hw : t.mayRead w r.addr = false)
    (hm : t.exch.muted = false) : exec (.read r) s = .next (t.refuse r 1 (readClass f)) := by
  subst hf
  simp [exec_read, execRead, hl, ha, State.readGate, hw, State.finish_refused, hm]

/-- R258: a READ whose admission ends it. -/
theorem read_done {s t : State} {r : Req} (hf : fastRead r [r.addr] = false)
    (ha : s.accept r 1 .q false false (bootRead r.addr) = .done t) : exec (.read r) s = .next t := by
  simp [exec_read, execRead, hf, readClass, ha]

/-! ### How a refused response leaves (R271, R528) -/

/-- A reply under no key leaves with a zero trailer. -/
theorem State.sendReply_untagged (s : State) {x : Reply} (h : x.gen = none) :
    s.sendReply x = s.send x.port x.src (x.body.length + 48) (x.out Trailer.zero) := by
  simp [State.sendReply, h]

theorem refusedResponseSend_sends {s : State} {k : Nat} {x : Reply} {due : Nat} (h : s.exch.refused[k]? = some ⟨x, due⟩) :
    exec (.refusedResponseSend k) s =
      .next ((State.reach { s with exch := { s.exch with refused := s.exch.refused.eraseIdx k } } due).sendReply x) := by
  simp [exec_refusedResponseSend, execRefusedResponseSend, h]

/-- The delay in units of station time, rounded up, is no less than the delay in µs (R271). -/
theorem delay_le_units (us : Nat) : us * 2 ^ 28 ≤ (us * 2 ^ 28 + 999999) / 1000000 * 1000000 := by omega

/-- Settles O22: the counts and the delay of a refusal, its two ways to come about for a READ, and the end of its delay. -/
theorem uniformRefusal : Obligations.UniformRefusal := by
  refine ⟨?_, ?_, ?_, ?_⟩
  · rintro r op cls s t rfl
    refine ⟨fun hu => ?_, fun hu => ?_, ⟨_, s.refuse_refused r op cls, ?_⟩, s.refuse_rest r op cls⟩
    · simp only [State.el_refuse, State.el_countRefusal_inUse hu]
      refine ⟨by simp, by simp, fun a ha => ?_⟩
      simp only [List.mem_cons, List.not_mem_nil, or_false, not_or] at ha
      rw [if_neg ha.2, if_neg ha.1]
    · simp only [State.el_refuse, State.el_countRefusal_unbound hu, if_true]
      exact ⟨trivial, fun a ha => if_neg ha⟩
    · rw [Nat.add_mul]
      exact Nat.add_le_add_left (delay_le_units _) _
  · rintro r s t w f hl hf ha hw hm
    exact read_refused hl hf ha (hw.elim (State.mayRead_none t w) id) hm
  · intro r s t hf hp hr he hc ht hcr hsc hk hb ha hfast
    exact read_done hfast ((State.accept_framed hr hp he hf hc ht hcr).trans (State.authenticate_unauthentic hb hsc hk ha))
  · rintro k due op r s t hk rfl
    rw [refusedResponseSend_sends hk, State.sendReply_untagged _ rfl]
    rfl

end Sys2Proof.Machine
end

section
/-! SUPPORT. Staging: one value for each element, and a SCATTER that stages all its items or none. -/
namespace Sys2Proof.Machine
open Host

theorem exec_scatter (r : Req) (s : State) : exec (.scatter r) s = execScatter r s := rfl

/-! ### One value for each element (R261) -/

section
variable {l : List (Nat × Nat)} {p : Nat × Nat}

/-- An element not staged before comes last. -/
theorem stageItem_new (h : ∀ q ∈ l, q.1 ≠ p.1) : stageItem l p = l ++ [p] := by
  refine if_neg fun hany => ?_
  obtain ⟨q, hq, he⟩ := List.any_eq_true.mp hany
  exact h q hq (by simpa using he)

/-- An element staged before takes its new value in its place. -/
theorem stageItem_again (h : ∃ q ∈ l, q.1 = p.1) : stageItem l p = l.map (fun x => if x.1 = p.1 then p else x) := by
  obtain ⟨q, hq, he⟩ := h
  exact if_pos (List.any_eq_true.mpr ⟨q, hq, by simpa using he⟩)

/-- An element staged before keeps its place in the order of staging. -/
theorem stageItem_again_addrs (h : ∃ q ∈ l, q.1 = p.1) :
    (stageItem l p).map (fun x => x.1) = l.map (fun x => x.1) := by
  rw [stageItem_again h, List.map_map]
  refine List.map_congr_left fun x _ => ?_
  by_cases hx : x.1 = p.1 <;> simp [hx]

theorem stageItem_mem (l : List (Nat × Nat)) (p : Nat × Nat) : p ∈ stageItem l p := by
  by_cases h : ∃ q ∈ l, q.1 = p.1
  · rw [stageItem_again h]
    obtain ⟨q, hq, he⟩ := h
    exact List.mem_map.mpr ⟨q, hq, if_pos he⟩
  · rw [stageItem_new fun q hq he => h ⟨q, hq, he⟩]
    simp

/-- The values staged for other elements stay. -/
theorem mem_stageItem_of_ne {q : Nat × Nat} (hq : q ∈ l) (hne : q.1 ≠ p.1) : q ∈ stageItem l p := by
  by_cases h : ∃ q ∈ l, q.1 = p.1
  · rw [stageItem_again h]
    exact List.mem_map.mpr ⟨q, hq, if_neg hne⟩
  · rw [stageItem_new fun q hq he => h ⟨q, hq, he⟩]
    exact List.mem_append_left _ hq

/-- No element is staged twice. -/
theorem stageItem_distinct (hl : l.Pairwise (fun x y => x.1 ≠ y.1)) : (stageItem l p).Pairwise (fun x y => x.1 ≠ y.1) := by
  by_cases h : ∃ q ∈ l, q.1 = p.1
  · rw [← List.pairwise_map (f := fun x : Nat × Nat => x.1) (R := (· ≠ ·)), stageItem_again_addrs h, List.pairwise_map]
    exact hl
  · have hnew : ∀ q ∈ l, q.1 ≠ p.1 := fun q hq he => h ⟨q, hq, he⟩
    rw [stageItem_new hnew]
    exact List.pairwise_append.mpr ⟨hl, List.pairwise_singleton _ _, fun q hq x hx => List.mem_singleton.mp hx ▸ hnew q hq⟩

end

/-! ### All the items or none (R258, R261, R282) -/

section
variable {s : State} {c : Nat} {items l : List (Nat × Nat)}

/-- Items that fit are staged, reserved bits at 0. -/
theorem State.stageAll_staged (hs : ∀ p ∈ items, s.splitFor p.1 = false)
    (hl : l = (items.map (fun p => (p.1, maskEl p.1 p.2))).foldl stageItem (s.parison c)) (h : l.length ≤ 64) :
    s.stageAll c items = (s.setParison c l, .staged l.length) := by
  subst hl
  have hsplit : items.any (fun p => s.splitFor p.1) = false := by simpa using hs
  simp only [State.stageAll, hsplit, Bool.false_eq_true, if_false, Nat.not_lt.mpr h]

/-- A parison that would be too full is left as it was (R282). -/
theorem State.stageAll_full (hs : ∀ p ∈ items, s.splitFor p.1 = false)
    (hl : l = (items.map (fun p => (p.1, maskEl p.1 p.2))).foldl stageItem (s.parison c)) (h : 64 < l.length) :
    s.stageAll c items = (s, .exhausted 3) := by
  subst hl
  have hsplit : items.any (fun p => s.splitFor p.1) = false := by simpa using hs
  simp only [State.stageAll, hsplit, Bool.false_eq_true, if_false, if_pos h]

end

section
variable {s t : State} {cmd : Instr} {r : Req} {op : Nat} {cls : Cls} {boot : Bool} {w : Who} {rights : State → Who → Bool}
  {bad : Option Stat} {home : Island} {eff : State → Who → State × Stat × Bytes}

/-- Step 5 of R258: a right lacking refuses a request. -/
theorem State.request_refused {offered : Bool} (ha : s.accept r op cls false false boot = .go t w) (hr : rights t w = false)
    (hm : t.exch.muted = false) : s.request cmd r op cls boot rights offered bad home eff = t.refuse r op cls := by
  simp [State.request, ha, hr, State.finish_refused, hm]

/-- Step 7 of R258: a body that is not sound. -/
theorem State.request_bad {st : Stat} (ha : s.accept r op cls false false boot = .go t w) (hr : rights t w = true)
    (hf : t.full = true) (hb : bad = some st) :
    s.request cmd r op cls boot rights false bad home eff = t.finish r op cls st [] := by
  simp [State.request, ha, hr, hf, hb]

/-- Step 8 of R258: the effect, and its answer. -/
theorem State.request_served (ha : s.accept r op cls false false boot = .go t w) (hr : rights t w = true)
    (hf : t.full = true) (hb : bad = none) (hs : t.crossing home (chanTo home) = .serve) :
    s.request cmd r op cls boot rights false bad home eff =
      (eff t w).1.finish r op cls (eff t w).2.1 (eff t w).2.2 := by
  simp [State.request, ha, hr, hf, hb, State.into_serve hs]

end

/-- Settles O23: a SCATTER through the steps of R258 to the staging of all its items; staging, item by item. -/
theorem scatterStages : Obligations.ScatterStages := by
  refine ⟨?_, fun l p hl => ⟨stageItem_distinct hl, stageItem_mem l p, fun _ hq hne => mem_stageItem_of_ne hq hne,
    stageItem_again_addrs, stageItem_new⟩⟩
  rintro r s t w names items l rfl rfl ha hf hm hc hl
  rw [exec_scatter, execScatter]
  refine ⟨fun ⟨a, hmem, hno⟩ => ?_, fun hmay => ?_⟩
  · have hlacks : (scatterNamed (bodyNum r.body 0 1) (r.body.drop 1)).all (t.mayWrite w) = false :=
      List.all_eq_false.mpr ⟨a, hmem, by simp [hno]⟩
    rw [State.request_refused ha hlacks hm]
  · have hright : (scatterNamed (bodyNum r.body 0 1) (r.body.drop 1)).all (t.mayWrite w) = true := List.all_eq_true.mpr hmay
    refine ⟨fun st hbad hst => ?_, fun hgood hsplit => ⟨fun hfits => ?_, fun hover => ?_⟩⟩
    · rw [State.request_bad ha hright hf hbad, State.finish_answer _ _ _ _ _ _ hm hst]
    · rw [State.request_served ha hright hf hgood hc, State.stageAll_staged hsplit hl hfits]
      exact congrArg Outcome.next (State.finish_answer _ _ _ _ _ _ hm (by decide : (0x11 : Nat) ≠ 1))
    · rw [State.request_served ha hright hf hgood hc, State.stageAll_full hsplit hl hover]
      exact congrArg Outcome.next (State.finish_answer _ _ _ _ _ _ hm (by decide : (9 : Nat) ≠ 1))

end Sys2Proof.Machine
end

section
/-! SUPPORT. The end of a commit, by itself or withdrawn: its outcome in CM_LAST, and what its record, its log entry and the keys it
erases leave alone. -/
namespace Sys2Proof.Machine
open Host

/-! ### What a record or an evidence entry leaves alone (R407, R408, R39) -/

/-- t with the registers, keys, log, delivery of records, islands, peer's frames and sent frames of s. -/
def State.unreported (t s : State) : State :=
  { t with dict := s.dict, dlv := s.dlv, key := s.key, log := s.log, isl := s.isl, twin := s.twin, out := s.out }

/-- From s to t, nothing but those has changed. -/
def Reports (s t : State) : Prop := t.unreported s = s

theorem Reports.refl (s : State) : Reports s s := rfl

theorem Reports.trans {s t u : State} (h : Reports s t) (k : Reports t u) : Reports s u :=
  (congrArg (State.unreported · s) k).trans h

/-- A fold whose function only reports reports. -/
theorem Reports.foldl {α : Type} {f : State → α → State} (hf : ∀ t x, Reports t (f t x)) (l : List α) (s : State) :
    Reports s (l.foldl f s) := by
  induction l generalizing s with
  | nil => exact .refl s
  | cons x l ih => exact (hf s x).trans (ih (f s x))

section
variable {s t : State} (h : Reports s t)
include h

theorem Reports.stage : t.stage = s.stage := (congrArg State.stage h :)
theorem Reports.arb : t.arb = s.arb := (congrArg State.arb h :)
theorem Reports.tmr : t.tmr = s.tmr := (congrArg State.tmr h :)
theorem Reports.rail : t.rail = s.rail := (congrArg State.rail h :)
theorem Reports.clk : t.clk = s.clk := (congrArg State.clk h :)

end

theorem State.put_reports (s : State) (a v : Nat) : Reports s (s.put a v) := rfl
theorem State.inc_reports (s : State) (n a : Nat) : Reports s (s.inc n a) := rfl
theorem State.dlvSet_reports (s : State) (d : DlvSt) : Reports s (s.dlvSet d) := rfl
theorem State.freeRecs_reports (s : State) : Reports s s.freeRecs := rfl
theorem State.logEntry_reports (s : State) (g : LogGroup) : Reports s (s.logEntry g) := rfl
theorem State.eraseKx_reports (s : State) (c : Nat) : Reports s (s.eraseKx c) := rfl

theorem State.wakeFb_reports (s : State) : Reports s s.wakeFb := by
  unfold State.wakeFb; split <;> rfl

theorem State.wakeCr_reports (s : State) : Reports s s.wakeCr := by
  unfold State.wakeCr
  split
  · exact s.wakeFb_reports.trans rfl
  · rfl

theorem State.callCr_reports (s : State) : Reports s s.callCr := by
  unfold State.callCr State.over
  split
  · split
    · rfl
    · exact s.wakeCr_reports
  · rfl

theorem State.pushEntry_reports (s : State) (id t : Nat) (replay : Bool) : Reports s (s.pushEntry id t replay) := by
  have hcall : Reports s (s.takeSeq t).callCr := .trans (s.dlvSet_reports _) (s.takeSeq t).callCr_reports
  unfold State.pushEntry
  dsimp only
  split <;> exact hcall.trans (State.dlvSet_reports _ _)

theorem State.place_reports (s : State) (id st : Nat) (replay : Bool) : Reports s (s.place id st replay) := by
  unfold State.place
  split
  · rfl
  · dsimp only
    split
    · split
      · rfl
      · split
        · rfl
        · exact (s.dlvSet_reports _).trans (.foldl (fun t k => t.pushEntry_reports id k replay) _ _)
    · split
      · rfl
      · split
        · exact s.pushEntry_reports id st replay
        · rfl

theorem State.arrive_reports (s : State) (id st : Nat) : Reports s (s.arrive id st) := by
  unfold State.arrive
  split
  · rfl
  · split
    · rfl
    · split
      · exact s.place_reports id st false
      · split
        · rfl
        · exact (s.place_reports id st false).trans rfl

theorem State.post_reports (s : State) (id : Nat) : Reports s (s.post id) := by
  unfold State.post
  split
  · rfl
  · split
    · exact s.arrive_reports id 4
    · exact .foldl (fun t k => t.arrive_reports id k) _ s

theorem State.overrun_reports (s : State) (n : NewRec) : Reports s (s.overrun n) := by
  have hall := (s.inc_reports 4 (Reg.REC_OVERRUNS (quotaHid n.hid))).trans (State.inc_reports _ 4 Reg.REC_OVERRUN_ALL)
  simp only [State.overrun]
  refine .trans ?_ (State.dlvSet_reports _ _)
  split
  · exact hall.trans (State.inc_reports _ _ _)
  · exact hall

theorem State.forward_reports (s : State) (r : Rec) : Reports s (s.forward r) := by
  unfold State.forward; split <;> rfl

/-- R407, R408: a record, written or overrun. -/
theorem State.record_reports (s : State) (n : NewRec) : Reports s (s.record n) := by
  unfold State.record
  split
  · rfl
  · dsimp only
    split
    · exact s.wakeFb_reports.trans (State.overrun_reports _ n)
    · exact s.wakeFb_reports.trans ((State.dlvSet_reports _ _).trans ((State.put_reports _ _ _).trans
        ((State.post_reports _ _).trans ((State.freeRecs_reports _).trans (State.forward_reports _ _)))))

/-! ### The outcome of a commit (R294, R297 to R299) -/

section
variable (s : State) (c : Commit) (ph : Phase) (st d rule : Nat)

theorem State.commitRecord_reports (kind : Nat) : Reports s (s.commitRecord c kind) := by
  unfold State.commitRecord
  split <;> exact s.record_reports _

theorem State.commitEntry_reports : Reports s (s.commitEntry c ph st) := rfl

/-- A commit that aborts or fails is counted, and erases the exchanges of its key elements. -/
theorem State.eraseAll_reports : Reports s (c.exchanges.foldl State.eraseKx (s.inc 4 Reg.CM_ABORTS)) :=
  (s.inc_reports _ _).trans (.foldl State.eraseKx_reports _ _)

/-- The commit leaves the pending ones and CM_LAST holds its outcome; all else that its end does is to report it. -/
theorem State.endCommit_reports : Reports ((s.dropCommit c).setLast c ph st d rule) (s.endCommit c ph st d rule) := by
  unfold State.endCommit
  dsimp only
  generalize (s.dropCommit c).setLast c ph st d rule = t
  have herase : Reports t (if (ph == .aborted || ph == .failed) = true then
      c.exchanges.foldl State.eraseKx (t.inc 4 Reg.CM_ABORTS) else t) := by
    split
    · exact t.eraseAll_reports c
    · exact .refl t
  split
  · exact herase.trans (.trans (State.commitRecord_reports _ c _) (State.commitEntry_reports _ c ph st))
  · exact herase.trans (State.commitRecord_reports _ c _)

theorem State.setLast_rest : { s.setLast c ph st d rule with stage := s.stage } = s := by
  unfold State.setLast; split <;> rfl

theorem State.setLast_stage_rest :
    { (s.setLast c ph st d rule).stage with last := s.stage.last } = s.stage := by
  unfold State.setLast; split <;> rfl

/-- R299: the outcome in its client's CM_LAST. -/
theorem State.cmLast_setLast_same (h : c.cid ≠ mirrorCid) :
    (s.setLast c ph st d rule).cmLast c.cid = commitBytes c.num ph.code st d rule c.items.length c.shape := by
  have hnone : (s.stage.last.filter (fun x => x.cid != c.cid)).find? (fun x => x.cid == c.cid) = none := by
    simp [List.find?_eq_none]
  simp [State.cmLast, State.setLast, h, hnone]

/-- R299: the other clients' CM_LAST. -/
theorem State.cmLast_setLast_ne {k : Nat} (h : k ≠ c.cid) : (s.setLast c ph st d rule).cmLast k = s.cmLast k := by
  have hkeep : (s.stage.last.filter (fun x => x.cid != c.cid)).find? (fun x => x.cid == k) =
      s.stage.last.find? (fun x => x.cid == k) :=
    find_filter _ _ _ fun x hx => by
      obtain rfl : x.cid = k := by simpa using hx
      simpa using h
  unfold State.setLast
  split
  · rfl
  · simp [State.cmLast, hkeep, Ne.symm h]

end

/-- Settles O25: the pending commits and CM_LAST by their laws, all else by what reporting leaves alone. -/
theorem commitEnds : Obligations.CommitEnds := by
  intro c ph st d rule s
  have hrep := s.endCommit_reports c ph st d rule
  have hlast (k : Nat) : (s.endCommit c ph st d rule).cmLast k = ((s.dropCommit c).setLast c ph st d rule).cmLast k := by
    rw [State.cmLast, State.cmLast, hrep.stage]
  have hstage := (s.dropCommit c).setLast_stage_rest c ph st d rule
  have hrest := (s.dropCommit c).setLast_rest c ph st d rule
  refine ⟨_, rfl, ?_, fun hm => ?_, fun k hk => ?_, ?_, ?_, ?_, ?_, ?_, ?_⟩
  · exact (congrArg StageSt.commits hrep.stage).trans (congrArg StageSt.commits hstage :)
  · rw [hlast, State.cmLast_setLast_same _ _ _ _ _ _ hm]
  · rw [hlast, State.cmLast_setLast_ne _ _ _ _ _ _ hk]; rfl
  · exact (congrArg StageSt.parisons hrep.stage).trans (congrArg StageSt.parisons hstage :)
  · exact (congrArg StageSt.unstored hrep.stage).trans (congrArg StageSt.unstored hstage :)
  · exact hrep.arb.trans (congrArg State.arb hrest :)
  · exact hrep.tmr.trans (congrArg State.tmr hrest :)
  · exact hrep.rail.trans (congrArg State.rail hrest :)
  · exact hrep.clk.trans (congrArg State.clk hrest :)

/-! ### Withdrawal (R298) -/

theorem exec_cmWithdrawWrite (r : Req) (s : State) : exec (.cmWithdrawWrite r) s = execCmWithdrawWrite r s := rfl
theorem exec_cmWithdrawAnyWrite (r : Req) (s : State) :
    exec (.cmWithdrawAnyWrite r) s = execCmWithdrawAnyWrite r s := rfl

section
variable {s t : State} {c n : Nat} {x : Commit}

theorem State.withdrawCommit_inTime (hf : s.stage.commits.find? (fun x => x.cid == c && x.num == n) = some x)
    (h : s.now + stMsUp 2 ≤ x.shape) : s.withdrawCommit c n = (s.endCommit x .withdrawn 0 0 0, .ok) := by
  simp [State.withdrawCommit, hf, Nat.not_lt.mpr h]

theorem State.withdrawCommit_late (hf : s.stage.commits.find? (fun x => x.cid == c && x.num == n) = some x)
    (h : x.shape < s.now + stMsUp 2) : s.withdrawCommit c n = (s, .conflict 3) := by
  simp [State.withdrawCommit, hf, h]

theorem State.withdrawCommit_unknown (hf : s.stage.commits.find? (fun x => x.cid == c && x.num == n) = none) :
    s.withdrawCommit c n = (s, .range 2 0) := by
  simp [State.withdrawCommit, hf]

variable {r : Req} {w : Who}

/-- A client's own write names the client by the row of the element. -/
theorem cmWithdrawWrite_let (hl : LetThrough s r false t w) (ha : rowAddr r.addr = 0x400041) :
    exec (.cmWithdrawWrite r) s =
      .next ((t.withdrawCommit (cidOfAddr r.addr) (bytesToNum r.value)).1.finish r 2 .q
        (t.withdrawCommit (cidOfAddr r.addr) (bytesToNum r.value)).2 []) := by
  rw [exec_cmWithdrawWrite, execCmWithdrawWrite, State.ownWrite_let hl (by simp [ha])]

/-- A station admin's write names the client in the value. -/
theorem cmWithdrawAnyWrite_let (hl : LetThrough s r false t w) (ha : r.addr = Reg.CM_WITHDRAW_ANY) :
    exec (.cmWithdrawAnyWrite r) s =
      .next ((t.withdrawCommit (bytesToNum r.value / 65536 % 1024) (bytesToNum r.value % 65536)).1.finish r 2 .q
        (t.withdrawCommit (bytesToNum r.value / 65536 % 1024) (bytesToNum r.value % 65536)).2 []) := by
  rw [exec_cmWithdrawAnyWrite, execCmWithdrawAnyWrite, State.ownWrite_let hl (by simp [ha])]

end

/-- Settles O26: either write is answered as the withdrawal of the commit that it names, found in time, found late or unknown. -/
theorem commitWithdrawal : Obligations.CommitWithdrawal := by
  intro r s t w i c n hl hi
  have hexec : exec i s = .next ((t.withdrawCommit c n).1.finish r 2 .q (t.withdrawCommit c n).2 []) := by
    rcases hi with ⟨hi, ha, hc, hn⟩ | ⟨hi, ha, hc, hn⟩
    · rw [hi, hc, hn]; exact cmWithdrawWrite_let hl ha
    · rw [hi, hc, hn]; exact cmWithdrawAnyWrite_let hl ha
  rw [hexec]
  refine ⟨fun x hf => ⟨fun h => ?_, fun h => ?_⟩, fun hf => ?_⟩
  · rw [State.withdrawCommit_inTime hf h]
  · rw [State.withdrawCommit_late hf h, State.finish_answer t _ _ _ _ _ hl.heard (by simp)]
  · rw [State.withdrawCommit_unknown hf, State.finish_answer t _ _ _ _ _ hl.heard (by simp)]

end Sys2Proof.Machine
end

section
/-! SUPPORT. Commits from the request to the store: what a COMMIT answers, how the pending ones are prepared, what the strobe at
the shape instant decides, and what is stored of it. -/
namespace Sys2Proof.Machine
open Host

theorem exec_commit (r : Req) (peer : List (Nat × Nat)) (s : State) : exec (.commit r peer) s = execCommit r peer s := rfl
theorem exec_commitCheckOnly (r : Req) (peer : List (Nat × Nat)) (s : State) :
    exec (.commitCheckOnly r peer) s = execCommitCheckOnly r peer s := rfl
theorem exec_discard (r : Req) (s : State) : exec (.discard r) s = execDiscard r s := rfl
theorem exec_parisonIdleDiscard (c : Nat) (s : State) :
    exec (.parisonIdleDiscard c) s = execParisonIdleDiscard c s := rfl
theorem exec_commitPrepare (s : State) : exec .commitPrepare s = execCommitPrepare s := rfl
theorem exec_commitPrepared (s : State) : exec .commitPrepared s = execCommitPrepared s := rfl
theorem exec_commitPrepDeadline (b : Bool) (s : State) :
    exec (.commitPrepDeadline b) s = execCommitPrepDeadline b s := rfl
theorem exec_commitCheckStrobe (p : Bool) (s : State) :
    exec (.commitCheckStrobe p) s = execCommitCheckStrobe p s := rfl
theorem exec_commitStore (s : State) : exec .commitStore s = execCommitStore s := rfl

/-! ### Parisons (R281, R283) -/

/-- A parison whose idle time starts anew now, if it is that of client c. -/
def Parison.renewed (p : Parison) (c now : Nat) : Parison := if p.cid = c then { p with lastAt := now } else p

section
variable (p : Parison) (c now : Nat)

@[simp] theorem Parison.renewed_cid : (p.renewed c now).cid = p.cid := by
  unfold Parison.renewed; split <;> rfl

@[simp] theorem Parison.renewed_items : (p.renewed c now).items = p.items := by
  unfold Parison.renewed; split <;> rfl

end

section
variable (s : State) (c : Nat)

theorem State.touchParison_parisons :
    (s.touchParison c).stage.parisons = s.stage.parisons.map (fun p => p.renewed c s.now) := rfl

theorem State.find_touchParison (d : Nat) : (s.touchParison c).stage.parisons.find? (fun x => x.cid == d) =
    (s.stage.parisons.find? (fun x => x.cid == d)).map (fun p => p.renewed c s.now) := by
  have hcid : ((fun x => x.cid == d) ∘ fun p : Parison => p.renewed c s.now) = fun p => p.cid == d :=
    funext fun p => congrArg (· == d) (p.renewed_cid c s.now)
  rw [State.touchParison_parisons, List.find?_map, hcid]

@[simp] theorem State.parison_touchParison (d : Nat) : (s.touchParison c).parison d = s.parison d := by
  unfold State.parison
  rw [State.find_touchParison]
  cases s.stage.parisons.find? (fun x => x.cid == d) <;> simp

theorem State.find_touchParison_same {p : Parison} (h : s.stage.parisons.find? (fun x => x.cid == c) = some p) :
    (s.touchParison c).stage.parisons.find? (fun x => x.cid == c) = some ⟨c, p.items, s.now⟩ := by
  obtain rfl : p.cid = c := by simpa using List.find?_some h
  simp [State.find_touchParison, h, Parison.renewed]

@[simp] theorem State.parison_emptyParison_same : (s.emptyParison c).parison c = [] := by
  have hnone : (s.stage.parisons.filter (fun p => p.cid != c)).find? (fun p => p.cid == c) = none := by
    simp [List.find?_eq_none]
  simp [State.parison, State.emptyParison, hnone]

theorem State.parison_emptyParison_ne {d : Nat} (h : d ≠ c) : (s.emptyParison c).parison d = s.parison d := by
  have hkeep : (s.stage.parisons.filter (fun p => p.cid != c)).find? (fun p => p.cid == d) =
      s.stage.parisons.find? (fun p => p.cid == d) :=
    find_filter _ _ _ fun x hx => by
      obtain rfl : x.cid = d := by simpa using hx
      simpa using h
  simp [State.parison, State.emptyParison, hkeep]

/-- A parison that empties changes nothing but the staging. -/
theorem State.emptyParison_rest : { s.emptyParison c with stage := s.stage } = s := rfl

end

/-! ### The request (R283 to R288) -/

section
variable {s t u : State} {r : Req} {w : Who} {c : Commit} {cmd : Instr} {peer : List (Nat × Nat)} {only : Bool}

/-- A COMMIT that passes steps 1 to 7 of R258, is served by FB, and is to be answered. -/
structure CommitPasses (s : State) (r : Req) (t : State) (w : Who) : Prop where
  goes : s.accept r 5 .c false false (kxOnly (s.parison r.cid)) = .go t w
  full : t.full = true
  heard : t.exch.muted = false
  length : r.body.length = 9
  mode : bodyNum r.body 0 1 ≤ 1
  served : t.crossing .fb 8 = .serve

/-- A COMMIT that passes is answered with what asking for it gives, where that is no refusal. -/
theorem CommitPasses.answers (h : CommitPasses s r t w) {st : Stat} {b : Bytes}
    (he : t.askCommit w r peer only = (u, st, b)) (hm : u.exch.muted = false) (hst : st.code ≠ 1) :
    s.commitRequest cmd r peer only = u.answer r 5 st b := by
  have hsound : commitBad r = none := by simp [commitBad, commitMode, h.length, h.mode]
  rw [State.commitRequest, State.request_served h.goes rfl h.full hsound h.served, he]
  exact State.finish_answer u r 5 .c st b hm hst

/-- R287: the first 1/64 s boundary from an instant on. -/
theorem boundaryFrom_first (n : Nat) :
    boundaryFrom n % 2 ^ 22 = 0 ∧ n ≤ boundaryFrom n ∧ boundaryFrom n < n + 2 ^ 22 := by
  unfold boundaryFrom st64
  omega

theorem State.shapeFor_named (h : bodyNum r.body 0 1 = 1) : s.shapeFor r = bodyNum r.body 1 8 := if_pos h

theorem State.shapeFor_next (h : bodyNum r.body 0 1 = 0) : s.shapeFor r = boundaryFrom (s.now + stMsUp 10) :=
  if_neg (by simp [commitMode, h])

theorem State.shapeFor_touchParison (k : Nat) : (s.touchParison k).shapeFor r = s.shapeFor r := rfl

section
variable (hu : u = t.touchParison r.cid) (hc : c = u.candidate w r)
include hu hc

/-- What a candidate takes from the request's state, its parison and its time (R287, R290). -/
theorem State.candidate_fields : c.cid = r.cid ∧ c.items = t.parison r.cid ∧ c.phase = .pending ∧
    c.order = t.stage.order ∧ c.sa = t.isSa w ∧ c.shape = t.shapeFor r := by
  subst hc hu
  refine ⟨rfl, State.parison_touchParison _ _ _, rfl, rfl, ?_, State.shapeFor_touchParison _⟩
  cases w <;> rfl

variable (hx : c.exchanges = []) (hm : u.mirrors c = false)
include hx hm

/-- A COMMIT of no key exchange that no peer mirrors, with no flipped commit unstored: what the check of this half finds
decides alone. -/
theorem State.askCommit_own (hs : only = true ∨ t.stage.unstored = []) :
    t.askCommit w r [] only = match u.violations c (bodyNum r.body 0 1 == 1) (w == .bootstrap) with
      | v :: l => (u, v.st, commitReply 0 c.shape (cutViols (v :: l)))
      | [] => if only then (u, .ok, commitReply 0 c.shape [])
        else (u.acceptCommit c, .ok, commitReply (u.nextCommit c.cid) c.shape []) := by
  have hstored : (!only && !u.stage.unstored.isEmpty) = false := by
    rcases hs with rfl | hs
    · rfl
    · have : u.stage.unstored = t.stage.unstored := hu ▸ rfl
      simp [this, hs]
  simp only [State.askCommit, ← hu, ← hc, hstored, hx, State.allViols, State.sendMirror, hm, commitMode]
  cases u.violations c (bodyNum r.body 0 1 == 1) (w == .bootstrap) <;> rfl

theorem State.askCommit_violations (hs : only = true ∨ t.stage.unstored = []) {v : Viol} {l : List Viol}
    (hv : u.violations c (bodyNum r.body 0 1 == 1) (w == .bootstrap) = v :: l) :
    t.askCommit w r [] only = (u, v.st, commitReply 0 c.shape (cutViols (v :: l))) := by
  rw [State.askCommit_own hu hc hx hm hs, hv]

theorem State.askCommit_checked (hv : u.violations c (bodyNum r.body 0 1 == 1) (w == .bootstrap) = []) :
    t.askCommit w r [] true = (u, .ok, commitReply 0 c.shape []) := by
  rw [State.askCommit_own hu hc hx hm (.inl rfl), hv]; rfl

theorem State.askCommit_accepted (hs : t.stage.unstored = [])
    (hv : u.violations c (bodyNum r.body 0 1 == 1) (w == .bootstrap) = []) :
    t.askCommit w r [] false = (u.acceptCommit c, .ok, commitReply (u.nextCommit c.cid) c.shape []) := by
  rw [State.askCommit_own hu hc hx hm (.inr hs), hv]; rfl

end

/-- R286: a response without violations. -/
theorem commitReply_nil (n shape : Nat) : commitReply n shape [] = numToBytes 2 n ++ numToBytes 8 shape ++ [0#8] := by
  simp [commitReply, numToBytes]

theorem exec_commit_asks (hb : bitOf r.flags 2 = false) (peer : List (Nat × Nat)) :
    exec (.commit r peer) s = .next (s.commitRequest (.commit r peer) r peer false) := by
  simp [exec_commit, execCommit, hb]

theorem exec_commitCheckOnly_asks (hb : bitOf r.flags 2 = true) (peer : List (Nat × Nat)) :
    exec (.commitCheckOnly r peer) s = .next (s.commitRequest (.commitCheckOnly r peer) r peer true) := by
  simp [exec_commitCheckOnly, execCommitCheckOnly, hb]

/-- R288, R290: the commit accepted is the youngest of those pending. -/
theorem State.acceptCommit_commits : (s.acceptCommit c).stage.commits = s.stage.commits ++
    [{ c with num := s.nextCommit c.cid, slot := s.freePend c.cid, order := s.stage.order }] := rfl

theorem State.parison_acceptCommit_same : (s.acceptCommit c).parison c.cid = [] := State.parison_emptyParison_same _ _

theorem State.parison_acceptCommit_ne {d : Nat} (h : d ≠ c.cid) : (s.acceptCommit c).parison d = s.parison d :=
  State.parison_emptyParison_ne _ _ h

end

/-! ### Parisons that empty (R283) -/

section
variable {s t : State} {r : Req} {w : Who}

theorem discard_empties (ha : Admitted s r 6 t w) (hb : r.body = []) (hc : t.crossing .cr noChan = .serve) :
    exec (.discard r) s = .next ((t.emptyParison r.cid).answer r 6 .ok (numToBytes 1 (t.parison r.cid).length)) := by
  obtain ⟨hgo, hf, hm⟩ := ha
  rw [exec_discard, execDiscard, State.request_served hgo rfl hf (by simp [wantLen, hb]) hc]
  exact congrArg Outcome.next (State.finish_answer (t.emptyParison r.cid) _ _ _ .ok _ hm (by decide))

theorem parisonIdleDiscard_empties {k : Nat} {p : Parison} (h : s.stage.parisons.find? (fun x => x.cid == k) = some p) :
    exec (.parisonIdleDiscard k) s =
      .next ((s.reach (p.lastAt + s.el Reg.PARISON_IDLE * stSecond)).emptyParison k) := by
  simp [exec_parisonIdleDiscard, execParisonIdleDiscard, h]

theorem State.parison_reach (n d : Nat) : (s.reach n).parison d = s.parison d := by simp [State.parison]

end

/-! ### Preparing (R290, R292) -/

section
variable {s : State} {i : Island} {ch : Nat} {go : State → State}

theorem State.cross_serve (h : s.crossing i ch = .serve) : s.cross i ch go = go s := by simp [State.cross, h]
theorem State.cross_wait (h : s.crossing i ch = .wait) : s.cross i ch go = s.wakeIsl i := by simp [State.cross, h]
theorem State.cross_shut {d : Nat} (h : s.crossing i ch = .shut d) : s.cross i ch go = s.inc 4 (Reg.CH_ABANDON ch) := by
  simp [State.cross, h]

end

/-- The detail with which a bank's way to an island is shut, if it is. -/
def State.bankShut (s : State) (i : Island) : Option Nat :=
  match s.crossing i (chanTo i) with | .shut d => some d | _ => none

section
variable {s : State} {c : Commit}

theorem State.bankShut_eq_some {i : Island} {d : Nat} (h : s.crossing i (chanTo i) = .shut d) : s.bankShut i = some d := by
  simp [State.bankShut, h]

theorem State.bankShut_eq_none {i : Island} (h : ∀ d, s.crossing i (chanTo i) ≠ .shut d) : s.bankShut i = none := by
  unfold State.bankShut
  split
  · rename_i hd
    exact absurd hd (h _)
  · rfl

theorem State.prepFailure_eq (b : Bool) : s.prepFailure c b =
    ((c.banks.filterMap s.bankShut).head?.map .abandoned).getD (if b then .timeout 2 else .abandoned 1) := by
  change (match c.banks.filterMap s.bankShut with | d :: _ => Stat.abandoned d | [] => _) = _
  cases c.banks.filterMap s.bankShut <;> rfl

/-- R292: the first island of the commit that is absent or whose channel is stuck gives the detail. -/
theorem State.prepFailure_absent {b : Bool} {i : Island} {d : Nat}
    (hi : c.banks.find? (fun j => s.crossing j (chanTo j) matches .shut _) = some i)
    (hd : s.crossing i (chanTo i) = .shut d) : s.prepFailure c b = .abandoned d := by
  obtain ⟨-, before, after, hsplit, hopen⟩ := List.find?_eq_some_iff_append.mp hi
  have hbefore : before.filterMap s.bankShut = [] := List.filterMap_eq_nil_iff.mpr fun j hj =>
    State.bankShut_eq_none fun e he => by simpa [he] using hopen j hj
  rw [State.prepFailure_eq, hsplit, List.filterMap_append, hbefore, List.filterMap_cons_some (State.bankShut_eq_some hd)]
  rfl

/-- R292: no answer in time, or the answer of an island that had not finished loading. -/
theorem State.prepFailure_present {b : Bool} (h : ∀ i ∈ c.banks, ∀ d, s.crossing i (chanTo i) ≠ .shut d) :
    s.prepFailure c b = if b then .timeout 2 else .abandoned 1 := by
  have hnone : c.banks.filterMap s.bankShut = [] :=
    List.filterMap_eq_nil_iff.mpr fun i hi => State.bankShut_eq_none (h i hi)
  rw [State.prepFailure_eq, hnone]
  rfl

theorem commitPrepare_sends {u : State} (hc : s.commitOrder.find? (fun x => x.phase == .pending && !x.shadowed) = some c)
    (hu : u = (s.reach (c.shape - stSecond)).wakeCr) : exec .commitPrepare s = .next (u.sendBanks c) := by
  simp [exec_commitPrepare, execCommitPrepare, State.firstCommit, hc, hu]

theorem commitPrepared_there (hc : s.commitOrder.find? (fun x => x.phase == .pending && x.shadowed) = some c)
    (hb : s.banksThere c = true) :
    exec .commitPrepared s = .next (s.commitMap c (fun x => { x with phase := .prepared })) := by
  simp [exec_commitPrepared, execCommitPrepared, State.firstCommit, hc, hb]

theorem commitPrepDeadline_fails (b : Bool) (hc : s.commitOrder.find? (fun x => x.phase == .pending) = some c) :
    exec (.commitPrepDeadline b) s = .next (s.servedAt (c.shape - stMs 2) (fun t =>
      t.endCommit c .failed (t.prepFailure c b).code (t.prepFailure c b).detail 0)) := by
  simp [exec_commitPrepDeadline, execCommitPrepDeadline, State.firstCommit, hc]

/-! ### The strobe and the store (R293 to R296) -/

theorem Commit.adopts_client (h : c.cid ≠ mirrorCid) : c.adopts = false := by simp [Commit.adopts, h]

theorem State.resolveFailed_client (h : c.cid ≠ mirrorCid) (rule : Nat) : s.resolveFailed c rule = s := by
  simp [State.resolveFailed, Commit.adopts_client h]

theorem State.countAdopted_client (h : c.cid ≠ mirrorCid) (b : State) : s.countAdopted b c = s := by
  simp [State.countAdopted, Commit.adopts_client h]

section
variable {t : State} {p : Bool} (hm : c.cid ≠ mirrorCid) (ht : t = c.banks.foldl State.wakeIsl s)
include hm ht

theorem State.strobe_absent (hb : c.banks.all s.strobed = false) : s.strobe c p = t.endCommit c .aborted 3 1 0 := by
  simp only [State.strobe, ← ht, hb, State.resolveFailed_client hm, Bool.not_false, if_true]

theorem State.strobe_fails (hb : c.banks.all s.strobed = true) {v : Viol} {l : List Viol}
    (hv : t.instantViols c p = v :: l) : s.strobe c p = t.endCommit c .aborted 3 1 v.rule := by
  simp only [State.strobe, ← ht, hb, hv, State.resolveFailed_client hm, Bool.not_true, Bool.false_eq_true, if_false]

/-- R296: what the flip replaces waits to be stored, where there is anything persistent. -/
theorem State.strobe_flips (hb : c.banks.all s.strobed = true) (hv : t.instantViols c p = []) {u : State}
    (hu : u = (t.flip c).rewrote c.stages) :
    s.strobe c p = (c.items.foldl (fun x q => x.directItem c q) (State.endCommit
      { u with stage := { u.stage with
        unstored := u.stage.unstored ++ (if t.beforeFlip c = [] then [] else [t.beforeFlip c]) } }
      c .applied 0 0 0)).pendingResetActs := by
  simp only [State.strobe, ← ht, hb, hv, State.countAdopted_client hm, ← hu, Bool.not_true, Bool.false_eq_true, if_false]
  by_cases hold : t.beforeFlip c = [] <;> simp [hold]

end

theorem commitCheckStrobe_turn {p : Bool} {rest : List Commit} (hc : s.commitOrder = c :: rest) (hp : c.phase = .prepared)
    (ht : s.turn c.shape (.flip c.order) = true) :
    exec (.commitCheckStrobe p) s = .next (s.servedAt c.shape (fun t => t.strobe c p)) := by
  simp [exec_commitCheckStrobe, execCommitCheckStrobe, hc, hp, ht]

theorem commitStore_stores {x : List (Nat × Nat)} {l : List (List (Nat × Nat))} (hr : s.runs .cr = true)
    (hf : s.boot.firmware = true) (hc : s.crossing .nv 11 = .serve) (hu : s.stage.unstored = x :: l) :
    exec .commitStore s = .next (State.storeBlobs { s with stage := { s.stage with unstored := l } }) := by
  simp [exec_commitStore, execCommitStore, hr, hf, hu, State.cross_serve hc]

end

/-- Settles O24: the answers of a COMMIT from its check, then each command on a pending commit by its own law. -/
theorem commits : Obligations.Commits := by
  refine ⟨?_, ?_, fun c t => ⟨t.parison_touchParison c, fun _ => t.find_touchParison_same c, rfl⟩, ?_, ?_, ?_,
    fun i s => ⟨State.cross_serve, State.cross_wait, fun d => State.cross_shut⟩, fun c s => commitPrepared_there,
    fun b c s => commitPrepDeadline_fails b, fun b c t => ⟨fun i d => State.prepFailure_absent, fun h =>
      ⟨State.prepFailure_present h, State.prepFailure_present h⟩⟩, fun p c rest s => commitCheckStrobe_turn,
    fun p c s t hm ht => ⟨State.strobe_absent hm ht, fun v l hb => State.strobe_fails hm ht hb,
      fun u hb hv => State.strobe_flips hm ht hb hv⟩, fun x l s => commitStore_stores⟩
  · intro r s t u w c hb ha hf hm hl hmode hcr hs hu hc hx hmir
    have hpass : CommitPasses s r t w := ⟨ha, hf, hm, hl, hmode, hcr⟩
    have hmu : u.exch.muted = false := hu ▸ hm
    obtain ⟨hcid, hitems, hphase, horder, hsa, hshape⟩ := State.candidate_fields hu hc
    rw [exec_commit_asks hb]
    refine ⟨⟨hcid, hitems, hphase, horder, hsa, fun h => ?_, fun h => ?_⟩, fun v l hv hst => ?_, fun hv => ?_⟩
    · rw [hshape, State.shapeFor_named h]
    · rw [hshape, State.shapeFor_next h]
      exact boundaryFrom_first _
    · rw [hpass.answers (State.askCommit_violations hu hc hx hmir (.inr hs) hv) hmu hst]
    · refine ⟨u.acceptCommit c, ?_, ?_, ?_, ?_, fun d hd => ?_, ?_⟩
      · rw [hpass.answers (State.askCommit_accepted hu hc hx hmir hs hv) hmu (by decide), commitReply_nil, hcid, hu]
        rfl
      · rw [State.acceptCommit_commits, hcid, horder]
        subst hu; rfl
      · subst hu; rfl
      · rw [← hcid]; exact State.parison_acceptCommit_same
      · rw [State.parison_acceptCommit_ne (hcid ▸ hd), hu, State.parison_touchParison]
      · subst hu; rfl
  · intro r s t u w c hb ha hf hm hl hmode hcr hu hc hx hmir
    have hpass : CommitPasses s r t w := ⟨ha, hf, hm, hl, hmode, hcr⟩
    have hmu : u.exch.muted = false := hu ▸ hm
    rw [exec_commitCheckOnly_asks hb]
    refine ⟨fun v l hv hst => ?_, fun hv => ?_⟩
    · rw [hpass.answers (State.askCommit_violations hu hc hx hmir (.inl rfl) hv) hmu hst]
    · rw [hpass.answers (State.askCommit_checked hu hc hx hmir hv) hmu (by decide)]
  · intro r s t w ha hb hc
    exact ⟨_, discard_empties ha hb hc, State.parison_emptyParison_same _ _, fun d => State.parison_emptyParison_ne _ _,
      State.emptyParison_rest _ _, rfl⟩
  · rintro c p s t hp rfl
    exact ⟨_, parisonIdleDiscard_empties hp, State.parison_emptyParison_same _ _,
      fun d hd => (State.parison_emptyParison_ne _ _ hd).trans (State.parison_reach _ _),
      State.emptyParison_rest _ _⟩
  · intro c s u hc hu
    rw [commitPrepare_sends hc hu]
    refine ⟨fun hr hf => ?_, fun hn => ?_⟩
    · rw [State.sendBanks, if_pos ⟨hr, hf⟩]; rfl
    · rw [State.sendBanks, if_neg (by rcases hn with h | h <;> simp [h])]

end Sys2Proof.Machine
end

section
/-! SUPPORT. The end of a bundle: what it makes of the bundles of the arbiter, what it leaves alone, and the expiries of a pass. -/
namespace Sys2Proof.Machine
open Host

/-! ### What a bundle takes with it (R312, R388, R406) -/

/-- From s to t, neither the arbiter nor the clocks have changed. -/
structure SparesLeases (s t : State) : Prop where
  arb : t.arb = s.arb
  clk : t.clk = s.clk

theorem SparesLeases.trans {s t u : State} (h : SparesLeases s t) (k : SparesLeases t u) : SparesLeases s u :=
  ⟨k.arb.trans h.arb, k.clk.trans h.clk⟩

theorem Reports.sparesLeases {s t : State} (h : Reports s t) : SparesLeases s t := ⟨h.arb, h.clk⟩

theorem State.clientRecord_reports (s : State) (src kind detail c : Nat) : Reports s (s.clientRecord src kind detail c) :=
  s.record_reports _

theorem State.advanceStream_reports (s : State) (src st hid : Nat) : Reports s (s.advanceStream src st hid) := by
  unfold State.advanceStream
  split
  · split
    · exact .refl s
    · exact (s.dlvSet_reports _).trans (State.place_reports _ _ _ _)
  · exact .refl s

/-- R312: records that end with their overflow lease, and the streams that move on. -/
theorem State.dropOvfRecs_reports (s : State) (c : Nat) : Reports s (s.dropOvfRecs c) := by
  refine Reports.trans (t := (s.add 4 (Reg.REC_DROPPED (s.hidOf c)) _).dlvSet _) rfl
    (.foldl (fun t r => .foldl (fun u k => ?_) _ t) _ _)
  split
  · exact .refl u
  · exact u.advanceStream_reports _ _ _

theorem State.cancelOvfTimers_sparesLeases (s : State) (c : Nat) : SparesLeases s (s.cancelOvfTimers c) :=
  List.foldlRecOn _ _ ⟨rfl, rfl⟩ fun t ht x _ => ht.trans (t.clientRecord_reports 41 0x1E x.handle c).sparesLeases

theorem State.endInput_sparesLeases (s : State) (c i : Nat) : SparesLeases s (s.endInput c i) := by
  unfold State.endInput State.inputZero
  dsimp only
  split <;> exact ⟨rfl, rfl⟩

theorem State.loseItems_sparesLeases (s : State) (b : Bundle) : SparesLeases s (s.loseItems b) := by
  refine List.foldlRecOn b.items _ ⟨rfl, rfl⟩ fun t ht p _ => ht.trans ?_
  split
  · exact t.cancelOvfTimers_sparesLeases b.cid
  · split
    · exact (t.dropOvfRecs_reports b.cid).sparesLeases
    · split
      · exact t.endInput_sparesLeases b.cid (p.1 - 1)
      · exact ⟨rfl, rfl⟩

/-! ### The end of a bundle (R321 to R323, R342) -/

/-- An ending changes the arbiter's bundle, and all else that it does spares the leases. -/
theorem State.endBundle_sparesLeases (s : State) (b : Bundle) (reason kind : Nat) :
    SparesLeases (s.bundleMap b.cid b.num (fun x => { x with st := .ended, reason := reason, inst := s.now }))
      (s.endBundle b reason kind) := by
  unfold State.endBundle
  dsimp only
  refine SparesLeases.trans ?_ (State.clientRecord_reports _ 40 kind b.num b.cid).sparesLeases
  split
  · exact State.loseItems_sparesLeases _ b
  · exact ⟨rfl, rfl⟩

/-- An ending takes no time. -/
@[simp] theorem State.endBundle_now (s : State) (b : Bundle) (reason kind : Nat) : (s.endBundle b reason kind).now = s.now := by
  rw [State.now, (s.endBundle_sparesLeases b reason kind).clk]
  rfl

theorem State.endBundle_bundles (s : State) (b : Bundle) (reason kind : Nat) :
    (s.endBundle b reason kind).arb.bundles = s.arb.bundles.map (fun x =>
      if x.is b.cid b.num then { x with st := .ended, reason := reason, inst := s.now } else x) :=
  congrArg ArbSt.bundles (s.endBundle_sparesLeases b reason kind).arb

theorem Bundle.is_iff {b : Bundle} {c n : Nat} : b.is c n = true ↔ (b.cid = c ∧ b.num = n) ∧ b.st ≠ .ended := by
  simp only [Bundle.is, Bool.and_eq_true, beq_iff_eq, bne_iff_ne]

theorem Bundle.holds_iff {b : Bundle} : b.holds = true ↔ b.st = .held ∨ b.st = .revoking := by
  simp only [Bundle.holds, Bool.or_eq_true, beq_iff_eq]

/-- A bundle that holds its amounts names itself: it has not ended. -/
theorem Bundle.is_self {b : Bundle} (h : b.holds = true) : b.is b.cid b.num = true := by
  refine Bundle.is_iff.mpr ⟨⟨rfl, rfl⟩, fun hend => ?_⟩
  rcases Bundle.holds_iff.mp h with hst | hst <;> exact absurd (hst.symm.trans hend) (by decide)

section
variable {s : State} {b x : Bundle} {reason kind : Nat}

/-- A bundle other than the one that ends is as it was. -/
theorem State.mem_endBundle_of_not_is (hx : x ∈ s.arb.bundles) (hne : x.is b.cid b.num = false) :
    x ∈ (s.endBundle b reason kind).arb.bundles := by
  rw [State.endBundle_bundles]
  exact List.mem_map.mpr ⟨x, hx, by simp only [hne, Bool.false_eq_true, if_false]⟩

/-- What still holds its amounts after an ending held them before, and is not what ended. -/
theorem State.holding_of_mem_endBundle (hx : x ∈ (s.endBundle b reason kind).arb.bundles) (hh : x.holds = true) :
    x ∈ s.arb.bundles ∧ x.is b.cid b.num = false := by
  rw [State.endBundle_bundles] at hx
  obtain ⟨y, hy, hyx⟩ := List.mem_map.mp hx
  split at hyx
  next => subst hyx; exact Bool.noConfusion hh
  next hne => subst hyx; exact ⟨hy, Bool.eq_false_iff.mpr hne⟩

end

/-! ### The expiries of a pass (R317, R336) -/

/-- The end of one bundle that is due: of a notice with reason 2, counted as a revocation, of a lease with reason 1. -/
def State.expire (s : State) (b : Bundle) : State :=
  if b.st = .revoking then (s.endBundle b 2 0x12).inc 4 Reg.ARB_REVOKES else s.endBundle b 1 0x11

theorem State.serveExpiries_eq_foldl (s : State) :
    s.serveExpiries = (s.arb.bundles.filter (fun b => b.holds && decide (b.inst ≤ s.now))).foldl State.expire s := rfl

/-- For the arbiter and the clocks, an expiry is an ending. -/
theorem State.expire_ends (s : State) (b : Bundle) : ∃ reason kind, SparesLeases (s.endBundle b reason kind) (s.expire b) := by
  unfold State.expire
  split
  · exact ⟨2, 0x12, (State.inc_reports _ _ _).sparesLeases⟩
  · exact ⟨1, 0x11, rfl, rfl⟩

@[simp] theorem State.expire_now (s : State) (b : Bundle) : (s.expire b).now = s.now := by
  obtain ⟨reason, kind, h⟩ := s.expire_ends b
  rw [State.now, h.clk]
  exact s.endBundle_now b reason kind

theorem State.mem_foldl_expire_of_not_is {x : Bundle} (l : List Bundle) {s : State} (hx : x ∈ s.arb.bundles)
    (hne : ∀ b ∈ l, x.is b.cid b.num = false) : x ∈ (l.foldl State.expire s).arb.bundles := by
  refine List.foldlRecOn l State.expire (motive := fun t => x ∈ t.arb.bundles) hx fun t ht b hb => ?_
  obtain ⟨reason, kind, h⟩ := t.expire_ends b
  rw [h.arb]
  exact State.mem_endBundle_of_not_is ht (hne b hb)

theorem State.holding_of_mem_foldl_expire {x : Bundle} (hh : x.holds = true) (l : List Bundle) {s : State}
    (hx : x ∈ (l.foldl State.expire s).arb.bundles) : x ∈ s.arb.bundles ∧ ∀ b ∈ l, x.is b.cid b.num = false := by
  induction l generalizing s with
  | nil => exact ⟨hx, fun _ hb => nomatch hb⟩
  | cons b l ih =>
    obtain ⟨hb, hl⟩ := ih hx
    obtain ⟨reason, kind, h⟩ := s.expire_ends b
    rw [h.arb] at hb
    obtain ⟨hs, hne⟩ := State.holding_of_mem_endBundle hb hh
    exact ⟨hs, List.forall_mem_cons.mpr ⟨hne, hl⟩⟩

@[simp] theorem State.serveExpiries_now (s : State) : s.serveExpiries.now = s.now := by
  rw [State.serveExpiries_eq_foldl]
  exact List.foldlRecOn _ State.expire (motive := fun t => t.now = s.now) rfl fun t ht b _ => (t.expire_now b).trans ht

end Sys2Proof.Machine
end

section
/-! PROOFS. Leases and their expiry. -/
namespace Sys2Proof.Machine
open Host

/-- Settles O28: what still holds was there before and none of those that were due; what is not due shares its name with none of
those. -/
theorem leasesExpire : Obligations.LeasesExpire := by
  refine fun s => ⟨fun b hb hh => ?_, fun b hb huniq hlive => ?_, s.serveExpiries_now⟩
  · rw [State.serveExpiries_eq_foldl] at hb
    obtain ⟨hmem, hne⟩ := State.holding_of_mem_foldl_expire hh _ hb
    refine Nat.lt_of_not_le fun hdue => ?_
    have hother := hne b (List.mem_filter.mpr ⟨hmem, by rw [hh, decide_eq_true hdue]; rfl⟩)
    exact Bool.false_ne_true (hother.symm.trans (Bundle.is_self hh))
  · rw [State.serveExpiries_eq_foldl]
    refine State.mem_foldl_expire_of_not_is _ hb fun x hx => ?_
    obtain ⟨hmem, hdue⟩ := List.mem_filter.mp hx
    rw [Bool.and_eq_true, decide_eq_true_eq] at hdue
    obtain ⟨hholds, hinst⟩ := hdue
    refine Bool.eq_false_iff.mpr fun his => ?_
    obtain ⟨⟨hcid, hnum⟩, -⟩ := Bundle.is_iff.mp his
    obtain rfl := huniq x hmem hcid.symm hnum.symm
    rcases hlive with hfree | hlater
    · exact Bool.false_ne_true (hfree.symm.trans hholds)
    · exact Nat.not_lt_of_le hinst hlater

end Sys2Proof.Machine
end

section
/-! SUPPORT. Client timers: what a handle reads after it is set, the next instant of a chain, and what a timer that fires leaves
alone. -/
namespace Sys2Proof.Machine
open Host

/-! ### Handles and chains (R353, R356, R363) -/

/-- A handle that is set reads what was set; the others read as before. -/
theorem State.timerOf_setTimer (s : State) (x : Tmr) (k i : Nat) :
    (s.setTimer x).timerOf k i = if x.cid = k ∧ x.handle = i then some x else s.timerOf k i := by
  simp only [State.timerOf, State.setTimer, List.find?_append, List.find?_singleton, Bool.and_eq_true, beq_iff_eq]
  split
  next h =>
    obtain ⟨rfl, rfl⟩ := h
    rw [List.find?_eq_none.mpr fun y hy hyx => ?_, Option.none_or]
    have hne := (List.mem_filter.mp hy).2
    rw [hyx] at hne
    exact Bool.noConfusion hne
  next h =>
    rw [Option.or_none]
    refine find_filter _ _ _ fun y hy => ?_
    simp only [Bool.and_eq_true, beq_iff_eq] at hy
    obtain ⟨rfl, rfl⟩ := hy
    have hne : ¬(y.cid = x.cid ∧ y.handle = x.handle) := fun ⟨hc, hh⟩ => h ⟨hc.symm, hh.symm⟩
    rwa [Bool.not_eq_true', Bool.and_eq_false_iff, beq_eq_false_iff_ne, beq_eq_false_iff_ne, ← not_and_or]

/-- A handle's timer has its client and its handle. -/
theorem State.timerOf_some {s : State} {c h : Nat} {x : Tmr} (hx : s.timerOf c h = some x) : x.cid = c ∧ x.handle = h := by
  simpa using List.find?_some hx

/-- R356: the next due instant of a periodic chain is the first one on it beyond the present. -/
theorem nextAfter_first {due iv t : Nat} (hiv : 0 < iv) (hdue : due ≤ t) :
    t < nextAfter due iv t ∧ nextAfter due iv t ≤ t + iv ∧ (nextAfter due iv t - due) % iv = 0 := by
  unfold nextAfter
  split
  next h => exact ⟨h, Nat.add_le_add_right hdue iv, by rw [Nat.add_sub_cancel_left, Nat.mod_self]⟩
  next h =>
    have hlow := Nat.div_mul_le_self (t - due) iv
    have hhigh := Nat.lt_div_mul_add (a := t - due) hiv
    rw [Nat.add_sub_cancel_left]
    refine ⟨?_, ?_, Nat.mul_mod_left _ _⟩ <;> rw [Nat.add_one_mul] <;> omega

/-- R363: the first instant on a chain, in either direction from its anchor, that is not before t. -/
theorem chainFrom_first (anchor t : Nat) {period : Nat} (hp : 0 < period) :
    t ≤ chainFrom anchor period t ∧ chainFrom anchor period t < t + period ∧
      ((chainFrom anchor period t : Int) - anchor) % period = 0 := by
  unfold chainFrom
  split
  next h =>
    have hlow := Nat.div_mul_le_self (anchor - t) period
    have hhigh := Nat.lt_div_mul_add (a := anchor - t) hp
    refine ⟨by omega, by omega, ?_⟩
    rw [Nat.cast_sub (by omega), Nat.cast_mul, sub_sub_cancel_left, ← neg_mul, Int.mul_emod_left]
  next h =>
    have hlow := Nat.div_mul_le_self (t - anchor + period - 1) period
    have hhigh := Nat.lt_div_mul_add (a := t - anchor + period - 1) hp
    refine ⟨by omega, by omega, ?_⟩
    rw [Nat.cast_add, add_sub_cancel_left, Nat.cast_mul, Int.mul_emod_left]

/-! ### A timer fires (R347, R348, R356, R357) -/

theorem exec_timerFire (c h : Nat) (s : State) : exec (.timerFire c h) s = execTimerFire c h s := rfl

theorem timerFire_turn {c h : Nat} {x : Tmr} {s : State} (hx : s.timerOf c h = some x) (harmed : x.state = 1)
    (ht : s.turn x.inst (.timer c h) = true) :
    exec (.timerFire c h) s = .next (s.servedAt x.inst (fun t => t.fireTimer x (max s.now x.inst))) := by
  rw [exec_timerFire, execTimerFire, hx]
  exact if_pos ⟨harmed, ht⟩

/-- What a timer is once it has fired, with a present for a periodic chain to get beyond. -/
def Tmr.fired (x : Tmr) (present : Nat) : Tmr :=
  if x.mode = 3 then
    { x with inst := nextAfter x.inst (x.interval * tick10) present, fires := min (x.fires + 1) (2 ^ 32 - 1) }
  else { x with state := 2, ovf := false, fires := min (x.fires + 1) (2 ^ 32 - 1) }

theorem Tmr.fired_names (x : Tmr) (p : Nat) : (x.fired p).cid = x.cid ∧ (x.fired p).handle = x.handle := by
  unfold Tmr.fired; split <;> exact ⟨rfl, rfl⟩

section
variable (s : State)

/-- A timer that fires is counted and set anew, and writes its own record and perhaps that of the source it posts. -/
theorem State.fireTimer_writes (x : Tmr) (p : Nat) : ∃ n,
    s.fireTimer x p = ((s.inc 4 Reg.TM_FIRES).setTimer (x.fired p)).record n ∨
      ∃ k, s.fireTimer x p = (((s.inc 4 Reg.TM_FIRES).setTimer (x.fired p)).record n).record k :=
  ⟨_, (ite_eq_or_eq _ _ _).symm.imp_right fun h => ⟨_, h⟩⟩

/-- Besides its new setting, all that a timer that fires does is to report it. -/
theorem State.fireTimer_reports (x : Tmr) (p : Nat) : Reports (s.setTimer (x.fired p)) (s.fireTimer x p) := by
  have hset : Reports (s.setTimer (x.fired p)) ((s.inc 4 Reg.TM_FIRES).setTimer (x.fired p)) := rfl
  obtain ⟨n, h | ⟨k, h⟩⟩ := s.fireTimer_writes x p <;> rw [h]
  · exact hset.trans (State.record_reports _ n)
  · exact hset.trans ((State.record_reports _ n).trans (State.record_reports _ k))

/-- Of the registers below those of records and delivery, a timer that fires counts in TM_FIRES. -/
theorem State.fireTimer_backup (x : Tmr) (p : Nat) : (s.fireTimer x p).backup = (s.inc 4 Reg.TM_FIRES).backup := by
  obtain ⟨n, h | ⟨k, h⟩⟩ := s.fireTimer_writes x p <;> rw [h]
  · exact State.record_backup _ n
  · exact (State.record_backup _ k).trans (State.record_backup _ n)

theorem State.fireTimer_clk (x : Tmr) (p : Nat) : (s.fireTimer x p).clk = s.clk := (s.fireTimer_reports x p).clk

theorem State.el_fireTimer_fires (x : Tmr) (p : Nat) :
    (s.fireTimer x p).el Reg.TM_FIRES = min (s.el Reg.TM_FIRES + 1) (2 ^ 32 - 1) := by
  obtain ⟨-, -, hel⟩ := State.backup_eq_iff.mp (s.fireTimer_backup x p)
  rw [hel _ (by decide), State.el_inc, if_pos rfl]

/-- The timer that fires reads as fired, and no other handle changes. -/
theorem State.timerOf_fireTimer (x : Tmr) (p k i : Nat) :
    (s.fireTimer x p).timerOf k i = if x.cid = k ∧ x.handle = i then some (x.fired p) else s.timerOf k i := by
  obtain ⟨hc, hh⟩ := x.fired_names p
  rw [State.timerOf, (s.fireTimer_reports x p).tmr, ← State.timerOf, State.timerOf_setTimer, hc, hh]

end

/-- Settles O30: the firing by its rule, its effect by what a handle reads after it, the chains by their first instant to
come. -/
theorem timerChains : Obligations.TimerChains := by
  refine ⟨fun c h x s => timerFire_turn, ?_, fun due iv t => nextAfter_first,
    fun anchor period t => chainFrom_first anchor t⟩
  rintro c h p x s u hx rfl
  obtain ⟨rfl, rfl⟩ := State.timerOf_some hx
  refine ⟨s.el_fireTimer_fires x p, s.fireTimer_clk x p, fun hm => ?_, fun hm => ?_, fun k i hki => ?_⟩
  · rw [State.timerOf_fireTimer, if_pos ⟨rfl, rfl⟩, Tmr.fired, if_neg hm]
  · rw [State.timerOf_fireTimer, if_pos ⟨rfl, rfl⟩, Tmr.fired, if_pos hm]
  · rw [State.timerOf_fireTimer, if_neg fun ⟨hc, hh⟩ => hki (by rw [hc, hh])]

end Sys2Proof.Machine
end

section
/-! SUPPORT. Plan exchanges: the state with the banks swapped and the timer entries carried over, and what the records of the
exchange leave of it. -/
namespace Sys2Proof.Machine
open Host

theorem exec_planExchange (s : State) : exec .planExchange s = execPlanExchange s := rfl

/-- R369: a pending exchange acts in its turn at its seam. -/
theorem planExchange_turn {s : State} (hp : s.el Reg.PLAN_PENDING = 1) (hl : s.tmr.loaded = true)
    (ht : s.turn s.exchangeAt .exchange = true) :
    exec .planExchange s = .next (s.servedAt s.exchangeAt State.planExchange) := by
  rw [exec_planExchange, execPlanExchange]
  exact if_pos ⟨hp, hl, ht⟩

section
variable (s : State)

/-- R372: a running entry that the new bank has too keeps its place. -/
def State.carried (p : PlanTimer) : Option PlanTimer :=
  match planEntry s.idleBank p.hid p.tag 1 with
  | some _ => some { p with anchor := p.due }
  | none => none

theorem State.carried_eq_some {p q : PlanTimer} :
    s.carried p = some q ↔ planEntry s.idleBank p.hid p.tag 1 ≠ none ∧ { p with anchor := p.due } = q := by
  unfold State.carried
  split <;> simp [*]

/-- R372, R373: the timer entries after an exchange: those that the new bank has too, then those that are new in it. -/
def State.exchangedTimers : List PlanTimer :=
  s.tmr.planTimers.filterMap s.carried ++
  (bankTimers s.idleBank).filterMap (fun p =>
    if s.tmr.planTimers.any (fun q => q.hid == p.1 && q.tag == peTag p.2) then none
    else some ⟨p.1, peTag p.2, chainFrom (peAnchor p.2) (periodOf p.2) s.now, peAnchor p.2⟩)

/-- The other bank live, the generation counted, the new entries in both banks and running. -/
def State.exchanged : State :=
  let t := ((s.put Reg.PLAN_LIVE (if s.el Reg.PLAN_LIVE = 2 then 1 else 2)).put Reg.PLAN_PENDING 0).inc 4 Reg.PLAN_GEN
  { t with tmr := { t.tmr with
      planTimers := s.exchangedTimers, anchors := [], bankA := s.idleBank, bankB := s.idleBank
      seamA := s.idleSeam, seamB := s.idleSeam } }

/-- Storing the anchors changes nothing else. -/
theorem State.storeAnchors_writes : ∃ l, s.storeAnchors = { s with tmr := { s.tmr with anchors := l } } := by
  unfold State.storeAnchors
  split
  · exact ⟨_, rfl⟩
  · exact ⟨s.tmr.anchors, rfl⟩

/-- After the swap an exchange only writes records: of entries that are gone, and to holders whose entries changed (R371,
R374). -/
theorem State.planExchange_records : ∃ (l : List PlanTimer) (f : State → PlanTimer → NewRec) (k : List Nat)
    (g : State → Nat → NewRec), s.planExchange =
      k.foldl (fun t h => t.record (g t h)) (l.foldl (fun t p => t.record (f t p)) s.exchanged.storeAnchors) :=
  ⟨_, _, _, _, rfl⟩

theorem State.planExchange_reports : Reports s.exchanged.storeAnchors s.planExchange := by
  obtain ⟨l, f, k, g, h⟩ := s.planExchange_records
  rw [h]
  exact (Reports.foldl (fun t _ => t.record_reports _) l _).trans (Reports.foldl (fun t _ => t.record_reports _) k _)

theorem State.planExchange_backup : s.planExchange.backup = s.exchanged.storeAnchors.backup := by
  obtain ⟨l, f, k, g, h⟩ := s.planExchange_records
  rw [h, foldl_backup fun t _ => t.record_backup _, foldl_backup fun t _ => t.record_backup _]

/-- An exchange leaves the plans as the swap has them, but for the stored anchors. -/
theorem State.planExchange_tmr : ∃ l, s.planExchange.tmr = { s.exchanged.tmr with anchors := l } := by
  obtain ⟨l, hl⟩ := s.exchanged.storeAnchors_writes
  exact ⟨l, by rw [s.planExchange_reports.tmr, hl]⟩

theorem State.el_planExchange {a : Nat} (ha : a < 0x150000) : s.planExchange.el a = s.exchanged.el a := by
  obtain ⟨l, hl⟩ := s.exchanged.storeAnchors_writes
  obtain ⟨-, -, hel⟩ := State.backup_eq_iff.mp s.planExchange_backup
  rw [hel a ha, hl]
  rfl

theorem State.el_exchanged (a : Nat) : s.exchanged.el a =
    if a = Reg.PLAN_GEN then min (s.el Reg.PLAN_GEN + 1) (2 ^ 32 - 1) else if a = Reg.PLAN_PENDING then 0
    else if a = Reg.PLAN_LIVE then (if s.el Reg.PLAN_LIVE = 2 then 1 else 2) else s.el a := by
  have h : s.exchanged.el a = (((s.put Reg.PLAN_LIVE (if s.el Reg.PLAN_LIVE = 2 then 1 else 2)).put
    Reg.PLAN_PENDING 0).inc 4 Reg.PLAN_GEN).el a := rfl
  have hgen : Reg.PLAN_GEN ≠ Reg.PLAN_PENDING ∧ Reg.PLAN_GEN ≠ Reg.PLAN_LIVE := by decide
  rw [h, State.el_inc, State.el_put_ne _ _ hgen.1, State.el_put_ne _ _ hgen.2, State.el_put, State.el_put]

/-- Both banks hold the same entries, and the same seam, after an exchange. -/
theorem State.planExchange_banks : s.planExchange.liveBank = s.idleBank ∧ s.planExchange.idleBank = s.idleBank ∧
    s.planExchange.liveSeam = s.idleSeam := by
  obtain ⟨l, hl⟩ := s.planExchange_tmr
  simp only [State.liveBank, State.idleBank, State.liveSeam, hl]
  exact ⟨ite_self _, ite_self _, ite_self _⟩

theorem State.planExchange_planTimers : s.planExchange.tmr.planTimers = s.exchangedTimers := by
  obtain ⟨l, hl⟩ := s.planExchange_tmr
  rw [hl]
  rfl

theorem State.planExchange_timers : s.planExchange.tmr.timers = s.tmr.timers := by
  obtain ⟨l, hl⟩ := s.planExchange_tmr
  rw [hl]
  rfl

/-- An entry in both banks keeps its place, anchored at its due instant; a new one starts on its chain. -/
theorem State.mem_exchangedTimers {p : PlanTimer} : p ∈ s.exchangedTimers ↔
    (∃ q ∈ s.tmr.planTimers, planEntry s.idleBank q.hid q.tag 1 ≠ none ∧ { q with anchor := q.due } = p) ∨
    ∃ h v, (h, v) ∈ bankTimers s.idleBank ∧ s.tmr.planTimers.any (fun q => q.hid == h && q.tag == peTag v) = false ∧
      ⟨h, peTag v, chainFrom (peAnchor v) (periodOf v) s.now, peAnchor v⟩ = p := by
  simp only [State.exchangedTimers, List.mem_append, List.mem_filterMap, Prod.exists, State.carried_eq_some,
    Option.ite_none_left_eq_some, Option.some.injEq, Bool.not_eq_true]

end

/-- Settles O32: the registers and banks by what each reads after the exchange, the entries by what the running ones are. -/
theorem planExchanges : Obligations.PlanExchanges := by
  refine ⟨fun s => planExchange_turn, ?_⟩
  rintro s u rfl
  obtain ⟨hlive, hidle, hseam⟩ := s.planExchange_banks
  refine ⟨?_, ?_, ?_, hlive, hidle, hseam, s.planExchange_timers, fun p hp hnew => ?_, fun p hp => ?_⟩
  · rw [s.el_planExchange (by decide), s.el_exchanged, if_neg (by decide), if_neg (by decide), if_pos rfl]
  · rw [s.el_planExchange (by decide), s.el_exchanged, if_neg (by decide), if_pos rfl]
  · rw [s.el_planExchange (by decide), s.el_exchanged, if_pos rfl]
  · rw [s.planExchange_planTimers, s.mem_exchangedTimers]
    exact .inl ⟨p, hp, hnew, rfl⟩
  · rw [s.planExchange_planTimers, s.mem_exchangedTimers] at hp
    obtain ⟨q, hq, hnew, rfl⟩ | ⟨h, v, hv, -, rfl⟩ := hp
    · exact .inl ⟨q, hq, rfl, hnew⟩
    · exact .inr ⟨v, hv, rfl, rfl, rfl⟩

end Sys2Proof.Machine
end

section
/-! SUPPORT. Writes of a timer handle: the record in the written bytes, and what the write sets and answers in each case. -/
namespace Sys2Proof.Machine
open Host

/-! ### The written record (Table: TMR record) -/

/-- Bytes read on from a number: what they spell themselves, below the number shifted up by as many. -/
theorem bytesToNum_onto (l : Bytes) (n : Nat) :
    l.foldl (fun a x => a * 256 + x.toNat) n = n * 256 ^ l.length + bytesToNum l := by
  induction l generalizing n with
  | nil => simp [bytesToNum]
  | cons b l ih =>
    rw [bytesToNum, List.foldl_cons, List.foldl_cons, ih, ih, List.length_cons, Nat.pow_succ']
    ring

theorem bytesToNum_cons (b : Byte) (l : Bytes) : bytesToNum (b :: l) = b.toNat * 256 ^ l.length + bytesToNum l := by
  rw [bytesToNum, List.foldl_cons, bytesToNum_onto, Nat.zero_mul, Nat.zero_add]

theorem bytesToNum_lt (l : Bytes) : bytesToNum l < 256 ^ l.length := by
  induction l with
  | nil => exact Nat.one_pos
  | cons b l ih =>
    rw [bytesToNum_cons, List.length_cons, Nat.pow_succ']
    have hb : (b.toNat + 1) * 256 ^ l.length ≤ 256 * 256 ^ l.length := Nat.mul_le_mul_right _ b.isLt
    rw [Nat.add_one_mul] at hb
    omega

/-- The mode of a record of 24 bytes is its first byte. -/
theorem tmrMode_bytesToNum {l : Bytes} (h : l.length = 24) : tmrMode (bytesToNum l) = bytesToNum (l.take 1) := by
  match l, h with
  | b :: l, h =>
    have hl : l.length = 23 := Nat.succ.inj h
    have hpow : (2 : Nat) ^ 184 = 256 ^ l.length := by rw [hl]; norm_num
    have hone : bytesToNum [b] = b.toNat := by rw [bytesToNum, List.foldl_cons, Nat.zero_mul, Nat.zero_add, List.foldl_nil]
    rw [tmrMode, field, bytesToNum_cons, hpow, Nat.add_comm, Nat.add_mul_div_right _ _ (Nat.pow_pos (by decide)),
      Nat.div_eq_of_lt (bytesToNum_lt l), Nat.zero_add, Nat.mod_eq_of_lt b.isLt]
    exact hone.symm

/-- Of a request that writes 24 bytes, the mode stands behind the address and the length. -/
theorem bodyNum_tmrMode {r : Req} (h : r.value.length = 24) : bodyNum r.body 4 1 = tmrMode (bytesToNum r.value) :=
  (tmrMode_bytesToNum h).symm

/-! ### The write (R350 to R355) -/

section
variable (s : State) (c h v : Nat)

/-- The instant for which a written record arms its timer: its own, or its interval from now (R350). -/
def State.tmrDue : Nat := if tmrMode v = 1 then tmrInst v else s.now + tmrInterval v * 2 ^ 18

/-- A handle's timer as a written record arms it, on a cell of the quota or of the overflow lease. -/
def State.armedTmr (ovf : Bool) : Tmr := ⟨c, h, tmrMode v, 1, tmrPost v, s.tmrDue v, tmrInterval v, 0, ovf⟩

/-- The cell on which a record arms a handle: the one that the handle has, else a free one (R353). -/
def State.TakesCell (ovf : Bool) : Prop :=
  (∃ x, s.timerOf c h = some x ∧ x.state = 1 ∧ x.ovf = ovf) ∨
    (∀ x, s.timerOf c h = some x → x.state ≠ 1) ∧ s.cellAccount c = some ovf

variable {s c h v}

/-- R351: a malformed record. -/
theorem State.writeTmr_bad (hb : tmrBad v = true) : s.writeTmr c h v = (s, .range 2 0) := by
  rw [State.writeTmr, if_pos hb]

/-- R354: mode 0x00 disarms. -/
theorem State.writeTmr_disarm (hb : tmrBad v = false) (hm : tmrMode v = 0) :
    s.writeTmr c h v = (s.setTimer ⟨c, h, 0, 0, tmrPost v, tmrInst v, tmrInterval v, 0, false⟩, .ok) := by
  rw [State.writeTmr, hb, hm]
  rfl

/-- R353: a handle that is not armed, and no cell. -/
theorem State.writeTmr_exhausted (hb : tmrBad v = false) (hm : tmrMode v ≠ 0)
    (hidle : ∀ x, s.timerOf c h = some x → x.state ≠ 1) (hcell : s.cellAccount c = none) :
    s.writeTmr c h v = (s, .exhausted 6) := by
  unfold State.writeTmr
  cases ho : s.timerOf c h with
  | none => simp [hb, hm, hcell]
  | some x => simp [hb, hm, hcell, hidle x ho]

/-- R350, R355: a record arms its handle; an absolute instant that has passed fires at once. -/
theorem State.writeTmr_arm {ovf : Bool} (hb : tmrBad v = false) (hm : tmrMode v ≠ 0) (hcell : s.TakesCell c h ovf) :
    s.writeTmr c h v = (if tmrMode v = 1 ∧ s.tmrDue v ≤ s.now then
      (s.setTimer (s.armedTmr c h v ovf)).fireTimer (s.armedTmr c h v ovf) s.now else s.setTimer (s.armedTmr c h v ovf),
      .ok) := by
  unfold State.writeTmr
  obtain ⟨x, hx, harmed, rfl⟩ | ⟨hidle, hacct⟩ := hcell
  · simp only [hb, hm, hx, harmed]
    rfl
  · cases ho : s.timerOf c h with
    | none => simp only [hb, hm, hacct]; rfl
    | some x => simp only [hb, hm, hacct, beq_false_of_ne (hidle x ho)]; rfl

end

theorem exec_timerArm (r : Req) (s : State) : exec (.timerArm r) s = execTimerArm r s := rfl
theorem exec_timerDisarm (r : Req) (s : State) : exec (.timerDisarm r) s = execTimerDisarm r s := rfl

/-- A write of a handle that the exchange lets through, with the right to what it posts. -/
structure TmrLet (s : State) (r : Req) (t : State) (w : Who) : Prop where
  goes : LetThrough s r false t w
  low : 0x400070 ≤ rowAddr r.addr
  high : rowAddr r.addr ≤ 0x40008F
  may : t.tmrMay (cidOfAddr r.addr) (bytesToNum r.value) = true
  size : r.value.length = 24

/-- What a write to the handle of an address does and answers. -/
def State.tmrWritten (t : State) (r : Req) : State × Stat :=
  t.writeTmr (cidOfAddr r.addr) (r.addr % 256 - 0x70) (bytesToNum r.value)

section
variable {s t u : State} {r : Req} {w : Who} (hl : TmrLet s r t w)
include hl

/-- A write of the command's own mode has its effect, and is answered. -/
theorem TmrLet.tmrWrite {cmd : Instr} {f : Nat → Bool} (hf : f (tmrMode (bytesToNum r.value)) = true) :
    s.tmrWrite cmd r f = (t.tmrWritten r).1.finish r 2 .q (t.tmrWritten r).2 [] := by
  refine State.rightsWrite_let hl.goes ?_ hl.may
  rw [bodyNum_tmrMode hl.size, hf, decide_eq_true ⟨hl.low, hl.high⟩, Bool.and_self]

/-- R354: with mode 0x00 the write is a disarming. -/
theorem TmrLet.disarm (hm : tmrMode (bytesToNum r.value) = 0) :
    exec (.timerDisarm r) s = .next ((t.tmrWritten r).1.finish r 2 .q (t.tmrWritten r).2 []) := by
  rw [exec_timerDisarm, execTimerDisarm, hl.tmrWrite (by rw [hm]; rfl)]

/-- R350: with any other mode the write is an arming. -/
theorem TmrLet.arm (hm : tmrMode (bytesToNum r.value) ≠ 0) :
    exec (.timerArm r) s = .next ((t.tmrWritten r).1.finish r 2 .q (t.tmrWritten r).2 []) := by
  rw [exec_timerArm, execTimerArm, hl.tmrWrite (f := fun m => m != 0) (bne_iff_ne.mpr hm)]

/-- A write that leaves the exchange alone and does not answer REFUSED is answered at once. -/
theorem TmrLet.answered {st : Stat} (hw : t.tmrWritten r = (u, st)) (hu : u.exch = t.exch) (hst : st.code ≠ 1) :
    (t.tmrWritten r).1.finish r 2 .q (t.tmrWritten r).2 [] = u.answer r 2 st [] := by
  rw [hw, State.finish_answer _ _ _ _ _ _ (hu ▸ hl.goes.heard) hst]

/-- The record arms the handle on its cell, and the write is answered. -/
theorem TmrLet.armed {ovf : Bool} (hb : tmrBad (bytesToNum r.value) = false) (hm : tmrMode (bytesToNum r.value) ≠ 0)
    (hcell : t.TakesCell (cidOfAddr r.addr) (r.addr % 256 - 0x70) ovf)
    (hdue : tmrMode (bytesToNum r.value) ≠ 1 ∨ t.now < t.tmrDue (bytesToNum r.value)) :
    exec (.timerArm r) s = .next ((t.setTimer (t.armedTmr (cidOfAddr r.addr) (r.addr % 256 - 0x70) (bytesToNum r.value)
      ovf)).answer r 2 .ok []) := by
  have hlate : ¬(tmrMode (bytesToNum r.value) = 1 ∧ t.tmrDue (bytesToNum r.value) ≤ t.now) := by
    rwa [not_and_or, Nat.not_le]
  have hw := (State.writeTmr_arm hb hm hcell).trans (congrArg (·, Stat.ok) (if_neg hlate))
  rw [hl.arm hm, hl.answered hw rfl (by decide)]

end

end Sys2Proof.Machine
end

section
/-! SUPPORT. Plan entries that fire: the count, the record and the next due instant, and then the entry's action. -/
namespace Sys2Proof.Machine
open Host

theorem exec_planEntryFire (h tag : Nat) (s : State) : exec (.planEntryFire h tag) s = execPlanEntryFire h tag s := rfl

/-- R377: an entry of the live bank fires in its turn at its due instant. -/
theorem planEntryFire_turn {h tag v : Nat} {p : PlanTimer} {s : State}
    (hp : s.tmr.planTimers.find? (fun q => q.hid == h && q.tag == tag) = some p)
    (hv : planEntry s.liveBank h tag 1 = some v) (ht : s.turn p.due (.plan h tag) = true) :
    exec (.planEntryFire h tag) s = .next (s.servedAt p.due (fun t => t.firePlan p v)) := by
  rw [exec_planEntryFire, execPlanEntryFire, hp, hv]
  exact if_pos ht

section
variable (s : State) (p : PlanTimer) (v : Nat)

/-- A firing entry of a holder and tag gets its next due instant. -/
def State.planNext (next : Nat) : State :=
  { s with tmr := { s.tmr with
    planTimers := s.tmr.planTimers.map (fun q => if q.hid = p.hid ∧ q.tag = p.tag then { q with due := next } else q) } }

/-- An entry's action, once it is counted, recorded and due again (R377 to R379). -/
def State.planAct : State :=
  if peMode v = 2 then
    if s.srcAssigned (peA v) p.hid then s.postSource (peA v) (peOwner v) 4 p.tag
    else s.planFail p.hid p.tag (peOwner v) .refused
  else if peMode v = 3 then
    if [0x00, 0x06, 0x11].contains (s.planLease v).2.code then (s.planLease v).1
    else (s.planLease v).1.planFail p.hid p.tag (peOwner v) (s.planLease v).2
  else s

/-- R347: an entry that fires before its next period has passed is due a period on. -/
theorem State.firePlan_eq_planAct (h : s.now < p.due + periodOf v) :
    s.firePlan p v = ((((s.inc 4 Reg.TM_FIRES).planNext p (p.due + periodOf v)).planRecord 41 0x19 p.tag (peOwner v)
      p.hid).planAct p v) := by
  simp only [State.firePlan, if_pos h]
  rfl

end

end Sys2Proof.Machine
end

section
/-! PROOFS. Timer handles and plan entries. -/
namespace Sys2Proof.Machine
open Host

/-- Settles O31: a handle's write by its answer for each record and each cell, an entry's firing by its action for each mode. -/
theorem timers : Obligations.Timers := by
  refine ⟨?_, fun h tag v p s => planEntryFire_turn, ?_⟩
  · rintro r s t w c h m v due hgo hlow hhigh hc hh hsize rfl rfl hmay rfl
    rw [hc] at hmay
    have hl : TmrLet s r t w := ⟨hgo, hlow, hhigh, hmay, hsize⟩
    rw [bodyNum_tmrMode hsize, hc, hh]
    refine ⟨fun hm hb => ?_, fun hm hb => ?_, fun hm hb hidle => ⟨fun hnone => ?_, fun ovf hcell hdue => ?_, ?_⟩,
      fun x hm hb hx harmed hdue => ?_⟩
    · rw [hl.disarm hm, hl.answered (State.writeTmr_disarm hb hm) rfl (by decide)]
    · rw [hl.arm hm, hl.answered (State.writeTmr_bad hb) rfl (by decide)]
    · rw [hl.arm hm, hl.answered (State.writeTmr_exhausted hb hm hidle hnone) rfl (by decide)]
    · exact hl.armed hb hm (.inr ⟨hidle, hcell⟩) hdue
    · rintro ovf x hcell habs hpast rfl
      rw [hl.arm hm, State.tmrWritten, State.writeTmr_arm hb hm (.inr ⟨hidle, hcell⟩), if_pos ⟨habs, hpast⟩]
      rfl
    · exact hl.armed hb hm (.inl ⟨x, hx, harmed, rfl⟩) hdue
  · rintro v p s a b rfl hnow rfl
    rw [s.firePlan_eq_planAct p v hnow]
    exact ⟨fun h2 h3 => (if_neg h2).trans (if_neg h3), fun h2 hsrc => (if_pos h2).trans (if_pos hsrc),
      fun h2 hsrc => (if_pos h2).trans (if_neg (Bool.eq_false_iff.mp hsrc)),
      fun h3 hok => (if_neg (by rw [h3]; decide)).trans ((if_pos h3).trans (if_pos (List.contains_iff_mem.mpr hok))),
      fun h3 hbad => (if_neg (by rw [h3]; decide)).trans ((if_pos h3).trans (if_neg (mt List.contains_iff_mem.mp hbad)))⟩

end Sys2Proof.Machine
end

section
/-! SUPPORT. What the writing of a record may touch: the rest of the state, with the registers, the islands, the peer's frames
and the claims held up to what a record may change of them. -/
namespace Sys2Proof.Machine
open Host

/-- The registers that the writing of a record may touch (R31, R63, R408, R422, R435, R456). -/
def recordEls (n : NewRec) : List Nat :=
  [Reg.REC_OVERRUNS (quotaHid n.hid), Reg.REC_OVERRUN_ALL, Reg.EVT_LOST n.cid n.source, Reg.REC_LOW,
    Reg.RING_WAITS, Reg.CH_ABANDON 4, Reg.ISL_STATE 2, Reg.ISL_STATE 3]

/-- Every other register, and the state without its registers, its sent frames and their count, the islands' shadows, and all of
delivery but the claims and the next record's identity. -/
def State.besideRecord (s : State) (n : NewRec) : (Nat → Nat) × State :=
  (fun a => if a ∈ recordEls n then 0 else s.el a,
    { s with
      dict := [], out := [], twin := { s.twin with tx := 0 }, isl := { s.isl with shadows := [] }
      dlv := ⟨[], s.dlv.nextRec, [], s.dlv.claims, [], 0, 0, 0, 0, [], []⟩ })

/-- One record more has had its identity, or none. -/
def State.numbered (s : State) (k : Nat) : State := s.dlvSet { s.dlv with nextRec := s.dlv.nextRec + k }

theorem foldl_besideRecord {α : Type} {f : State → α → State} {n : NewRec}
    (hf : ∀ t x, (f t x).besideRecord n = t.besideRecord n) (l : List α) (s : State) :
    (l.foldl f s).besideRecord n = s.besideRecord n :=
  List.foldlRecOn l f (motive := fun t => t.besideRecord n = s.besideRecord n) rfl fun t ht x _ => (hf t x).trans ht

/-- What agrees beside a record agrees in all that a record spares. -/
theorem State.besideRecord_eq {s t : State} {n : NewRec} (h : t.besideRecord n = s.besideRecord n) :
    (∀ a, a ∉ recordEls n → t.el a = s.el a) ∧
      { t with dict := s.dict, dlv := s.dlv, twin := s.twin, out := s.out, isl := s.isl } = s ∧
      { t.isl with shadows := s.isl.shadows } = s.isl ∧ { t.twin with tx := s.twin.tx } = s.twin ∧
      t.dlv.claims = s.dlv.claims ∧ t.dlv.nextRec = s.dlv.nextRec := by
  obtain ⟨hels, hrest⟩ := Prod.ext_iff.mp h
  refine ⟨fun a ha => ?_,
    congrArg (fun u => { u with dict := s.dict, dlv := s.dlv, twin := s.twin, out := s.out, isl := s.isl }) hrest,
    congrArg (fun u => { u.isl with shadows := s.isl.shadows }) hrest,
    congrArg (fun u => { u.twin with tx := s.twin.tx }) hrest,
    congrArg (fun u => u.dlv.claims) hrest, congrArg (fun u => u.dlv.nextRec) hrest⟩
  have := congrFun hels a
  simpa only [State.besideRecord, if_neg ha] using this

section
variable (s : State) (n : NewRec)

theorem State.put_besideRecord {a : Nat} (v : Nat) (h : a ∈ recordEls n) :
    (s.put a v).besideRecord n = s.besideRecord n := by
  refine Prod.ext (funext fun b => ?_) rfl
  simp only [State.besideRecord]
  split
  next => rfl
  next hb => exact s.el_put_ne v fun hab => hb (hab ▸ h)

theorem State.inc_besideRecord (k : Nat) {a : Nat} (h : a ∈ recordEls n) :
    (s.inc k a).besideRecord n = s.besideRecord n := s.put_besideRecord n _ h

/-- A change of the delivery state shows in the claims and the next identity alone. -/
theorem State.dlvSet_besideRecord {s t : State} {n : NewRec} {d e : DlvSt} (h : t.besideRecord n = s.besideRecord n)
    (hc : e.claims = d.claims) (hn : e.nextRec = d.nextRec) :
    (t.dlvSet e).besideRecord n = (s.dlvSet d).besideRecord n := by
  refine Prod.ext (congrArg Prod.fst h :) ?_
  have hrest := congrArg (fun u : (Nat → Nat) × State =>
    { u.2 with dlv := ⟨[], d.nextRec, [], d.claims, [], 0, 0, 0, 0, [], []⟩ }) h
  simp only [State.besideRecord, State.dlvSet, hc, hn] at hrest ⊢
  exact hrest

theorem State.dlvSet_besideRecord_same {s : State} {n : NewRec} {d : DlvSt} (hc : d.claims = s.dlv.claims)
    (hn : d.nextRec = s.dlv.nextRec) : (s.dlvSet d).besideRecord n = s.besideRecord n :=
  State.dlvSet_besideRecord (d := s.dlv) rfl hc hn

@[simp] theorem State.freeRecs_besideRecord : s.freeRecs.besideRecord n = s.besideRecord n := rfl
@[simp] theorem State.recMap_besideRecord (id : Nat) (f : Rec → Rec) :
    (s.recMap id f).besideRecord n = s.besideRecord n := rfl

@[simp] theorem State.takeSeq_besideRecord (t : Nat) : (s.takeSeq t).besideRecord n = s.besideRecord n := by
  unfold State.takeSeq
  split
  · rfl
  · split
    · rfl
    · split <;> rfl

theorem State.setIsl_besideRecord {i : Island} (c : Nat) (h : Reg.ISL_STATE (islNum i) ∈ recordEls n) :
    (s.setIsl i c).besideRecord n = s.besideRecord n :=
  State.put_besideRecord { s with isl := { s.isl with shadows := s.isl.shadows.set (islNum i) (255 - c) } } n c h

@[simp] theorem State.wakeFb_besideRecord : s.wakeFb.besideRecord n = s.besideRecord n := by
  unfold State.wakeFb
  split
  · exact s.setIsl_besideRecord n _ (by simp [recordEls, islNum])
  · rfl

@[simp] theorem State.wakeCr_besideRecord : s.wakeCr.besideRecord n = s.besideRecord n := by
  unfold State.wakeCr
  split
  · rw [State.setIsl_besideRecord _ n _ (by simp [recordEls, islNum]), State.wakeFb_besideRecord]
  · rfl

@[simp] theorem State.callCr_besideRecord : s.callCr.besideRecord n = s.besideRecord n := by
  unfold State.callCr State.over
  split
  · split
    · exact s.inc_besideRecord n 4 (by simp [recordEls])
    · exact s.wakeCr_besideRecord n
  · rfl

@[simp] theorem State.pushEntry_besideRecord (id t : Nat) (replay : Bool) :
    (s.pushEntry id t replay).besideRecord n = s.besideRecord n := by
  have hcall : (s.takeSeq t).callCr.besideRecord n = s.besideRecord n := by simp
  unfold State.pushEntry
  dsimp only
  split
  · exact hcall
  · exact hcall

/-- A placement that waits for room is counted in RING_WAITS (R435). -/
theorem State.waitRoom_besideRecord (w : Waiting) :
    ((s.inc 4 Reg.RING_WAITS).addWait w).besideRecord n = s.besideRecord n :=
  s.inc_besideRecord n 4 (by simp [recordEls])

@[simp] theorem State.place_besideRecord (id st : Nat) (replay : Bool) :
    (s.place id st replay).besideRecord n = s.besideRecord n := by
  unfold State.place
  split
  · rfl
  · dsimp only
    split
    · split
      · rfl
      · split
        · rw [State.waitRoom_besideRecord, State.recMap_besideRecord]
        · rw [foldl_besideRecord fun t k => t.pushEntry_besideRecord n id k replay, State.recMap_besideRecord]
    · split
      · rfl
      · split
        · exact s.pushEntry_besideRecord n id st replay
        · exact s.waitRoom_besideRecord n _

@[simp] theorem State.arrive_besideRecord (id st : Nat) : (s.arrive id st).besideRecord n = s.besideRecord n := by
  unfold State.arrive
  split
  · rfl
  · split
    · rfl
    · split
      · exact s.place_besideRecord n id st false
      · split
        · rfl
        · exact s.place_besideRecord n id st false

@[simp] theorem State.post_besideRecord (id : Nat) : (s.post id).besideRecord n = s.besideRecord n := by
  unfold State.post
  split
  · rfl
  · split
    · exact s.arrive_besideRecord n id 4
    · exact foldl_besideRecord (fun t k => t.arrive_besideRecord n id k) _ s

@[simp] theorem State.forward_besideRecord (r : Rec) : (s.forward r).besideRecord n = s.besideRecord n := by
  unfold State.forward; split <;> rfl

@[simp] theorem State.overrun_besideRecord : (s.overrun n).besideRecord n = s.besideRecord n := by
  have hall : ((s.inc 4 (Reg.REC_OVERRUNS (quotaHid n.hid))).inc 4 Reg.REC_OVERRUN_ALL).besideRecord n =
      s.besideRecord n := by
    rw [State.inc_besideRecord _ n _ (by simp [recordEls]), State.inc_besideRecord _ n _ (by simp [recordEls])]
  unfold State.overrun
  dsimp only
  refine (State.dlvSet_besideRecord_same rfl rfl).trans ?_
  split
  · exact (State.inc_besideRecord _ n 4 (by simp [recordEls])).trans hall
  · exact hall

/-- R407, R408: a record changes nothing beside it, but for the identity that a written one takes. -/
theorem State.record_besideRecord : ∃ k ≤ 1, (s.record n).besideRecord n = (s.numbered k).besideRecord n := by
  unfold State.record
  split
  · exact ⟨0, Nat.zero_le 1, rfl⟩
  · dsimp only
    split
    · exact ⟨0, Nat.zero_le 1, (State.overrun_besideRecord _ n).trans (s.wakeFb_besideRecord n)⟩
    · refine ⟨1, Nat.le_refl 1, ?_⟩
      rw [State.forward_besideRecord, State.freeRecs_besideRecord, State.post_besideRecord,
        State.put_besideRecord _ n _ (by simp [recordEls])]
      have hdlv : s.wakeFb.dlv = s.dlv := by unfold State.wakeFb; split <;> rfl
      rw [hdlv]
      exact State.dlvSet_besideRecord (s.wakeFb_besideRecord n) rfl rfl

end

/-- Settles O34: what agrees beside the record, after a state that differs in the next identity alone. -/
theorem recordFrame : Obligations.RecordFrame := by
  rintro n s t rfl
  obtain ⟨k, hk, h⟩ := s.record_besideRecord n
  obtain ⟨hels, hrest, hisl, htwin, hclaims, hnext⟩ := State.besideRecord_eq h
  have hclk : (s.record n).clk = s.clk := (s.record_reports n).clk
  refine ⟨hels, by simp only [State.now, hclk],
    congrArg (fun u => { u with dlv := s.dlv }) hrest, hisl, htwin, hclaims, ?_⟩
  rw [hnext]
  exact Nat.add_le_add_left hk _

end Sys2Proof.Machine
end

section
/-! SUPPORT. Edges of the event inputs: the comparator, the raw transition and its stamp, its qualification, and the edge's
record. -/
namespace Sys2Proof.Machine
open Host

theorem State.record_evt (s : State) (n : NewRec) : (s.record n).evt = s.evt := (congrArg State.evt (s.record_reports n) :)

/-! ### The comparator (R402, R403) -/

section
variable (s : State) (i c at_ : Nat) (up : Bool)

/-- What a comparator's turn is to one loop. -/
def State.turned (x : L4) : L4 :=
  if x.input ≠ i then x
  else if up then { x with isOpen := true, quiet := x.quiet || (!x.isOpen && decide (x.holdEnd < at_)) }
  else { x with isOpen := false, holdEnd := at_ + s.evtSet c i 10 * stSecond }

theorem State.comparator_eq :
    s.comparator i c up at_ = { s with evt := { s.evt with l4 := s.evt.l4.map (s.turned i c at_ up) } } := rfl

@[simp] theorem State.comparator_el (a : Nat) : (s.comparator i c up at_).el a = s.el a := rfl

variable {s i c at_ up} {x : L4}

theorem State.turned_mem (hx : x ∈ s.evt.l4) : s.turned i c at_ up x ∈ (s.comparator i c up at_).evt.l4 := by
  rw [State.comparator_eq]
  exact List.mem_map_of_mem hx

theorem State.turned_other (h : x.input ≠ i) : s.turned i c at_ up x = x := if_pos h

theorem State.turned_opens (h : x.input = i) : s.turned i c at_ true x =
    { x with isOpen := true, quiet := x.quiet || (!x.isOpen && decide (x.holdEnd < at_)) } := if_neg (not_not.mpr h)

theorem State.turned_closes (h : x.input = i) : s.turned i c at_ false x =
    { x with isOpen := false, holdEnd := at_ + s.evtSet c i 10 * stSecond } := if_neg (not_not.mpr h)

end

/-! ### A raw transition (R387, R393 to R396) -/

/-- R394: the error of a fine stamp. -/
theorem State.fineStamp_near (s : State) (i : Nat) :
    ((s.fineStamp i : Int) - s.now).natAbs ≤ if s.analogPin i then 6 else 1 := by
  unfold State.fineStamp
  have hmod := Nat.mod_lt s.free (y := 2 * (if s.analogPin i then 6 else 1) + 1) (Nat.succ_pos _)
  dsimp only
  omega

section
variable (s : State) (c i : Nat)

/-- The transition waits, stamped fine, or with BK's time until FB has loaded (R127). -/
def State.awaiting (up side : Bool) : State :=
  if s.clk.loaded then
    { s.drawn with evt := { s.evt with
      waits := s.evt.waits ++ [s.edgeNow c i up (s.edgeDetail i up side) (s.fineStamp i) false] } }
  else { s with evt := { s.evt with
    waits := s.evt.waits ++ [s.edgeNow c i up (s.edgeDetail i up side) s.now true] } }

theorem State.awaiting_stamped (up side : Bool) : ∃ stamp : Nat,
    ((stamp : Int) - s.now).natAbs ≤ (if s.analogPin i then 6 else 1) ∧ (s.clk.loaded = false → stamp = s.now) ∧
    (s.awaiting c i up side).evt.waits =
      s.evt.waits ++ [s.edgeNow c i up (s.edgeDetail i up side) stamp (!s.clk.loaded)] := by
  cases h : s.clk.loaded with
  | true =>
    exact ⟨s.fineStamp i, s.fineStamp_near i, nofun, by simp only [State.awaiting, h, if_true, Bool.not_true]⟩
  | false =>
    refine ⟨s.now, ?_, fun _ => rfl, by simp only [State.awaiting, h, Bool.false_eq_true, if_false, Bool.not_false]⟩
    rw [sub_self]
    exact Nat.zero_le _

/-- All that a waiting transition changes is the queue, and the free value drawn. -/
theorem State.awaiting_rest (up side : Bool) :
    { s.awaiting c i up side with evt := s.evt, freeN := s.freeN } = s := by
  unfold State.awaiting; split <;> rfl

theorem State.loseStamp_evt : (s.loseStamp c i).evt = s.evt := by
  unfold State.loseStamp; dsimp only; split <;> rfl

theorem State.loseStamp_recs : (s.loseStamp c i).dlv.recs = s.dlv.recs := by
  unfold State.loseStamp; dsimp only; split <;> rfl

/-- R396, R399: the loss is counted. -/
theorem State.el_loseStamp (a : Nat) : (s.loseStamp c i).el a = (s.inc 4 (Reg.EVT_LOST c i)).el a := by
  unfold State.loseStamp; dsimp only; split <;> rfl

/-- A loss is no binding of its client. -/
theorem State.hidOf_inc_evtLost : (s.inc 4 (Reg.EVT_LOST c i)).hidOf c = s.hidOf c := by
  unfold State.hidOf
  rw [State.el_inc, if_neg (by unfold Reg.CID_BIND Reg.EVT_LOST; omega)]

/-- R408: the next record of the input and the client's holder carries OVERRUN. -/
theorem State.mem_loseStamp_overrun : (i, s.hidOf c) ∈ (s.loseStamp c i).dlv.overrun := by
  simp only [State.loseStamp, s.hidOf_inc_evtLost c i]
  split
  next h => exact List.contains_iff_mem.mp h
  next => exact List.mem_append_right _ List.mem_cons_self

end

theorem exec_evtRawTransition (i : Fin 24) (up side : Bool) (at_ : Nat) (s : State) :
    exec (.evtRawTransition i up side at_) s = execEvtRawTransition i up side at_ s := rfl

section
variable {i : Fin 24} {up : Bool} (side : Bool) {at_ c : Nat} {s t : State} (hr : s.runs .fb = true)
  (hc : (s.reach at_).sensing i = some c) (ht : t = (s.reach at_).comparator i c up (s.reach at_).now)
include hr hc ht

/-- R388: before the detector has taken a level, a transition is the comparator's alone. -/
theorem evtRawTransition_no_level (hl : t.evt.levels.find? (fun p => p.1 == i.val) = none) :
    exec (.evtRawTransition i up side at_) s = .next t := by
  subst ht
  simp only [exec_evtRawTransition, execEvtRawTransition, hr, hc, hl, Bool.not_true, Bool.false_eq_true, if_false]

variable {p : Nat × Bool} (hl : t.evt.levels.find? (fun p => p.1 == i.val) = some p)
include hl

/-- R396: with a place left, a transition waits. -/
theorem evtRawTransition_waits (hw : (t.evt.waits.filter (fun w => w.input == i.val)).length < 4) :
    exec (.evtRawTransition i up side at_) s = .next (t.awaiting c i up side) := by
  subst ht
  simp only [exec_evtRawTransition, execEvtRawTransition, hr, hc, hl, Bool.not_true, Bool.false_eq_true, if_false,
    if_neg (Nat.not_le_of_lt hw)]
  exact (apply_ite Outcome.next _ _ _).symm

/-- R396: with four waiting, its stamp is lost. -/
theorem evtRawTransition_lost (hw : 4 ≤ (t.evt.waits.filter (fun w => w.input == i.val)).length) :
    exec (.evtRawTransition i up side at_) s = .next (t.loseStamp c i) := by
  subst ht
  simp only [exec_evtRawTransition, execEvtRawTransition, hr, hc, hl, Bool.not_true, Bool.false_eq_true, if_false,
    if_pos hw]

end

/-! ### Qualification (R390, R391) -/

theorem exec_evtEdgeQualify (i : Fin 24) (held : Bool) (s : State) :
    exec (.evtEdgeQualify i held) s = execEvtEdgeQualify i held s := rfl

section
variable {i : Fin 24} {w : EvtWait} {s : State} (hw : s.evt.waits.find? (fun x => x.input == i.val) = some w)
include hw

/-- A transition that did not hold for its filter time leaves no trace. -/
theorem evtEdgeQualify_short (hd : s.filterTime w.filter ≠ 0) :
    exec (.evtEdgeQualify i false) s = .next { s with evt := { s.evt with waits := s.evt.waits.erase w } } := by
  simp only [exec_evtEdgeQualify, execEvtEdgeQualify, hw]
  exact if_pos ⟨rfl, hd⟩

/-- One that did is the input's level, and its edge is written. -/
theorem evtEdgeQualify_held {held : Bool} {u : State}
    (hu : u = State.reach { s with evt := { s.evt with waits := s.evt.waits.erase w } } (w.stamp + s.filterTime w.filter))
    (hh : held = true ∨ s.filterTime w.filter = 0) :
    exec (.evtEdgeQualify i held) s = .next (State.writeEdge { u with evt := { u.evt with levels := u.levelAfter i w.rising } }
      w (if w.coarse then fCoarse else 0)) := by
  subst hu
  simp only [exec_evtEdgeQualify, execEvtEdgeQualify, hw]
  refine if_neg fun ⟨hno, hd⟩ => hh.elim (fun h => ?_) hd
  rw [h] at hno
  exact Bool.noConfusion hno

end

/-! ### The record of an edge (R387, R390, R860) -/

/-- What an edge's record says. -/
def EvtWait.edgeRec (e : EvtWait) (hid flags : Nat) : NewRec :=
  { source := e.input, cid := e.cid, kind := if e.rising then 1 else 2, detail := e.detail, stamp := e.stamp, flags := flags,
    hid := hid, route := e.targets, any := false, evid := e.evid }

section
variable {s : State} {e : EvtWait} (fl : Nat)

/-- R860: an edge whose client was unbound or rebound leaves no trace. -/
theorem State.writeEdge_rebound (h : s.inUse e.cid = false ∨ s.hidOf e.cid ≠ e.hid) : s.writeEdge e fl = s :=
  if_pos (h.imp_left fun hu => by rw [hu]; rfl)

variable {b : Bundle} (hu : s.inUse e.cid = true) (hh : s.hidOf e.cid = e.hid) (hl : s.lessee (e.input + 1) = some b)
  (hb : b.cid = e.cid)
include hu hh hl hb

/-- A lessee's edge is counted, and recorded where its polarity asks for it and it has a target or evidence. -/
theorem State.writeEdge_lessee : s.writeEdge e fl =
    if bitOf e.polarity (if e.rising then 0 else 1) = false ∨ (e.targets = 0 ∧ e.evid = false) then
      s.inc 4 (Reg.EVT_COUNT e.cid e.input)
    else (s.inc 4 (Reg.EVT_COUNT e.cid e.input)).record
      (e.edgeRec ((s.inc 4 (Reg.EVT_COUNT e.cid e.input)).hidOf e.cid) fl) := by
  have hbound : ¬((!s.inUse e.cid) = true ∨ s.hidOf e.cid ≠ e.hid) := by simp [hu, hh]
  rw [State.writeEdge, if_neg hbound]
  simp only [hl, hb, beq_self_eq_true, if_true, ← apply_ite (bitOf e.polarity), Bool.not_eq_true']
  rfl

theorem State.writeEdge_unasked (hp : bitOf e.polarity (if e.rising then 0 else 1) = false) :
    s.writeEdge e fl = s.inc 4 (Reg.EVT_COUNT e.cid e.input) :=
  (State.writeEdge_lessee fl hu hh hl hb).trans (if_pos (.inl hp))

theorem State.writeEdge_recorded (hp : bitOf e.polarity (if e.rising then 0 else 1) = true) (ht : e.targets ≠ 0) :
    s.writeEdge e fl = (s.inc 4 (Reg.EVT_COUNT e.cid e.input)).record
      (e.edgeRec ((s.inc 4 (Reg.EVT_COUNT e.cid e.input)).hidOf e.cid) fl) :=
  (State.writeEdge_lessee fl hu hh hl hb).trans
    (if_neg fun h => h.elim (fun hno => Bool.noConfusion (hp.symm.trans hno)) fun ⟨hno, _⟩ => ht hno)

end

end Sys2Proof.Machine
end

section
/-! SUPPORT. Edges that AO's latches caught, the levels that detectors take, and the noise threshold of loop L4. -/
namespace Sys2Proof.Machine
open Host

/-! ### The latches (R392, R397 to R399) -/

theorem exec_latchEdge (i : Fin 24) (up side ok : Bool) (n : Nat) (s : State) :
    exec (.latchEdge i up side ok n) s = execLatchEdge i up side ok n s := rfl

/-- A hardware request on a channel that is not STUCK is made. -/
theorem State.over_of_ne {s : State} {ch : Nat} (h : s.chan ch ≠ .stuck) (go : State → State) : s.over ch go = go s :=
  if_neg h

/-- R31: FB is woken from its idle rule's stop. -/
theorem State.wakeFb_gated {s : State} (h : s.isl_ .fb = islGated) : s.wakeFb = s.setIsl .fb islStarting := if_pos h

theorem State.over_wakeFb_gated {s : State} (hg : s.isl_ .fb = islGated) (h2 : s.chan 2 ≠ .stuck) :
    (if s.isl_ .fb = islGated then s.over 2 State.wakeFb else s) = s.setIsl .fb islStarting := by
  rw [if_pos hg, State.over_of_ne h2, State.wakeFb_gated hg]

/-- R63: a stamp request that BK does not answer is abandoned, and counted. -/
def State.askStamp (s : State) (answered : Bool) : State := if answered then s else s.inc 4 (Reg.CH_ABANDON 0)

/-- What a latch holds of an edge at the request for its stamp. -/
def State.latchOf (s : State) (i c : Nat) (up side answered : Bool) (n : Nat) : Latched where
  edge := s.edgeNow c i up (s.edgeDetail i up side) 0 true
  stamp := if answered then some ((s.clk.v - 2 - n * 32768 / s.aorcHz) * 8192) else none
  cycles := n
  asked := s.now

/-- The latches hold one edge more. -/
def State.latching (s : State) (l : Latched) : State :=
  { s with evt := { s.evt with latched := s.evt.latched ++ [l] } }

section
variable (s : State) (answered : Bool) (l : Latched)

theorem State.latching_evt :
    ((s.askStamp answered).latching l).evt = { s.evt with latched := s.evt.latched ++ [l] } := by
  cases answered <;> rfl

theorem State.el_latching (k : Nat) : ((s.askStamp answered).latching l).el k =
    if answered = false ∧ k = Reg.CH_ABANDON 0 then min (s.el (Reg.CH_ABANDON 0) + 1) (2 ^ 32 - 1) else s.el k := by
  cases answered with
  | true => rfl
  | false => exact (s.el_inc 4 (Reg.CH_ABANDON 0) k).trans (if_congr ⟨fun h => ⟨rfl, h⟩, And.right⟩ rfl rfl)

end

/-- With FB stopped by its idle rule, an AO latch catches an edge that held, asks for its stamp and wakes FB. -/
theorem latchEdge_caught {i : Fin 24} {up ok : Bool} (side : Bool) {n c : Nat} {s t : State} (hg : s.isl_ .fb = islGated)
    (hm : s.mainPower = true) (href : s.isRefInput i = false) (hc : s.sensing i = some c)
    (hn : aoFilter (s.evtSet c i 2) ≤ n) (hl : ∃ p ∈ s.evt.levels, p.1 = i.val) (h2 : s.chan 2 ≠ .stuck)
    (ht : t = (s.comparator i c up (s.now - n * stSecond / s.aorcHz)).setIsl .fb islStarting)
    (hroom : (s.evt.latched.filter (fun l => l.edge.input == i.val)).length < 4) :
    exec (.latchEdge i up side ok n) s =
      .next ((t.askStamp (ok && s.chan 0 == .idle)).latching (t.latchOf i c up side (ok && s.chan 0 == .idle) n)) := by
  have hstopped : ¬(s.runs .fb = true ∨ (!s.mainPower) = true) := by simp [State.runs, hg, hm]
  have hlevel : s.evt.levels.any (fun p => p.1 == i.val) = true := by simpa using hl
  have hwake := State.over_wakeFb_gated (s := s.comparator i c up (s.now - n * stSecond / s.aorcHz)) hg h2
  have hcount : ¬4 ≤ (t.evt.latched.filter (fun l => l.edge.input == i.val)).length := by
    rw [ht]
    exact Nat.not_le_of_lt hroom
  rw [← ht] at hwake
  simp only [exec_latchEdge, execLatchEdge, if_neg hstopped, href, hc, if_neg (Nat.not_lt_of_le hn), hlevel, Bool.not_true,
    Bool.false_eq_true, if_false, hwake, if_neg hcount]
  rfl

/-! ### The hand-over (R400, R401) -/

theorem exec_latchHandover (s : State) : exec .latchHandover s = execLatchHandover s := rfl

/-- FB takes one latched edge: the input has its level, and the edge is written COARSE, INCOMPLETE where BK did not answer. -/
def State.takeLatched (t : State) (p : Nat × Latched) : State :=
  State.writeEdge { t with evt := { t.evt with levels := t.levelAfter p.2.edge.input p.2.edge.rising } }
    { p.2.edge with stamp := p.1 } (fCoarse + (if p.2.stamp.isNone then fIncomplete else 0))

/-- The order of latched edges: by stamp, then by source. -/
def latchedLe (a b : Nat × Latched) : Bool :=
  decide (a.1 < b.1) || (a.1 == b.1 && decide (a.2.edge.input ≤ b.2.edge.input))

/-- R400: FB takes the latched edges one after another, in their order. -/
theorem latchHandover_takes {s : State} {l : List Latched} (hr : s.runs .fb = true) (hc : s.chan 2 = .idle)
    (hl : s.evt.latched = l) :
    exec .latchHandover s = .next (((l.map (fun x => (s.latchStamp x, x))).sortBy latchedLe).foldl State.takeLatched
      { s with evt := { s.evt with latched := [] } }) := by
  subst hl
  simp only [exec_latchHandover, execLatchHandover, hr, hc]
  rfl

/-- Two edges are taken in the order of their stamps, however they stood in the latches. -/
theorem sortBy_latchedLe_pair {a b : Nat × Latched} {l : List (Nat × Latched)} (hl : l = [a, b] ∨ l = [b, a])
    (h : a.1 < b.1) : l.sortBy latchedLe = [a, b] := by
  have hab : latchedLe a b = true := by simp [latchedLe, h]
  have hba : latchedLe b a = false := by simp [latchedLe, Nat.not_lt_of_lt h, Nat.ne_of_gt h]
  obtain rfl | rfl := hl <;> simp [List.sortBy, List.insertBy, hab, hba]

/-! ### A detector takes its level (R388) -/

theorem exec_grantLevelTake (i : Fin 24) (lv re : Bool) (s : State) :
    exec (.grantLevelTake i lv re) s = execGrantLevelTake i lv re s := rfl

/-- The detector of an input has a level. -/
def State.levelTaken (s : State) (i : Nat) (lv : Bool) : State :=
  { s with evt := { s.evt with levels := s.evt.levels ++ [(i, lv)] } }

/-- What the record of a level taken at a grant says. -/
def State.grantRec (t : State) (i c : Nat) (lv : Bool) (b : Bundle) : NewRec :=
  { source := i, cid := c, kind := 3, detail := if lv then 1 else 0, stamp := b.grantAt,
    flags := if b.coarse then fCoarse else 0, hid := t.hidOf c, route := t.evtTargets c i, any := false, evid := false }

theorem grantLevelTake_takes {i : Fin 24} {lv re : Bool} {c : Nat} {b : Bundle} {s t : State} (hc : s.sensing i = some c)
    (hb : s.lessee (i.val + 1) = some b) (hl : ∀ p ∈ s.evt.levels, p.1 ≠ i.val)
    (ht : t = (if re then s else s.reach (b.grantAt + s.filterTime (s.evtSet c i 2))).levelTaken i lv) :
    exec (.grantLevelTake i lv re) s =
      .next (if bitOf (t.evtSet c i 3) 1 = true ∧ re = false then t.record (t.grantRec i c lv b) else t) := by
  have hno : s.evt.levels.any (fun p => p.1 == i.val) = false := by simpa using hl
  subst ht
  simp only [exec_grantLevelTake, execGrantLevelTake, hc, hb, hno, Bool.false_eq_true, if_false, Bool.not_eq_true']
  exact (apply_ite Outcome.next _ _ _).symm

/-- A level once taken is not taken again. -/
theorem grantLevelTake_taken {i : Fin 24} (lv re : Bool) {s : State} (h : ∃ p ∈ s.evt.levels, p.1 = i.val) :
    exec (.grantLevelTake i lv re) s = .next s := by
  have hl : s.evt.levels.any (fun p => p.1 == i.val) = true := by simpa using h
  rw [exec_grantLevelTake, execGrantLevelTake]
  split
  · exact if_pos hl
  · rfl

/-! ### The noise threshold (R403 to R405) -/

theorem exec_fbRefRunExpiry (s : State) :
    exec .fbRefRunExpiry s = .next { s with evt := { s.evt with refAwake := false } } := rfl
theorem exec_l4Evaluate (i : Fin 8) (p : Nat) (s : State) : exec (.l4Evaluate i p) s = execL4Evaluate i p s := rfl

/-- A loop with the threshold and the noise of its second. -/
def L4.settled (x : L4) (th p : Nat) (fenced : Bool) : L4 := { x with th := th, p := p, fenced := fenced, quiet := false }

/-- The loops of all inputs, that of one settled. -/
def settledAt (l : List L4) (i th p : Nat) (fenced : Bool) : List L4 :=
  l.map (fun y => if y.input = i then y.settled th p fenced else y)

theorem State.l4Settle_l4 (s : State) (c : Nat) (x : L4) (want th p nf : Nat) :
    ∃ fenced, (s.l4Settle c x want th p nf).evt.l4 = settledAt s.evt.l4 x.input th p fenced := by
  unfold State.l4Settle
  refine ⟨decide (want < s.l4Lo x.input * 65536) || decide (s.l4Hi x.input * 65536 < want), ?_⟩
  dsimp only
  split
  · rw [State.inc_evt, State.record_evt]
    rfl
  · rfl

theorem find?_settledAt {l : List L4} {i : Nat} {x : L4} (h : l.find? (fun y => y.input == i) = some x) (th p : Nat)
    (fenced : Bool) : (settledAt l i th p fenced).find? (fun z => z.input == i) = some (x.settled th p fenced) := by
  have hin : x.input = i := by simpa using List.find?_some h
  have hsame : (fun z : L4 => z.input == i) ∘ (fun y => if y.input = i then y.settled th p fenced else y) =
      fun y => y.input == i := by
    funext y
    simp only [Function.comp_apply]
    split <;> rfl
  rw [settledAt, List.find?_map, hsame, h, Option.map_some, if_pos hin]

theorem mem_settledAt_of_ne {l : List L4} {i : Nat} {z : L4} (hz : z ∈ l) (h : z.input ≠ i) (th p : Nat) (fenced : Bool) :
    z ∈ settledAt l i th p fenced :=
  List.mem_map.mpr ⟨z, hz, if_neg h⟩

/-- The noise that a second leaves: as it was, where every sample fell in an excursion or its hold. -/
def State.l4Noise (s : State) (x : L4) (p : Nat) : Nat :=
  if (x.isOpen = true ∨ s.now < x.holdEnd) ∧ x.quiet = false then x.p else p

/-- Where a threshold moves: toward what is wanted within its fences, by one step at most. -/
def l4Move (lo hi x want : Nat) : Nat := max (x - max 1 (x / 8)) (min (max lo (min want hi)) (x + max 1 (x / 8)))

/-- R403, R405: it stays within the fences, and moves by an eighth at most, at least 1 mV. -/
theorem l4Move_bounds {lo hi x : Nat} (want : Nat) (hlo : lo ≤ x) (hhi : x ≤ hi) :
    lo ≤ l4Move lo hi x want ∧ l4Move lo hi x want ≤ hi ∧ l4Move lo hi x want ≤ x + max 1 (x / 8) ∧
      x ≤ l4Move lo hi x want + max 1 (x / 8) := by
  unfold l4Move
  omega

/-- The threshold wanted for a noise power: k times its RMS, in units of mV/65536. -/
def State.l4Want (s : State) (c i p : Nat) : Nat := s.evtSet c i 5 * Nat.sqrt (p * 65536) / 16

/-- Where an adaptive loop's threshold is after a second that leaves a noise power; what is wanted is taken in whole mV. -/
def State.l4Next (s : State) (c : Nat) (x : L4) (i p : Nat) : Nat :=
  l4Move (s.l4Lo i) (s.l4Hi i) x.th ((s.l4Want c i p + 32768) / 65536)

/-- What EVT_NF then reports (R404). -/
def State.l4Report (s : State) (c : Nat) (x : L4) (i p : Nat) : Nat :=
  nfRec (min (Nat.sqrt (p * 65536) * 100 / 65536) 65535) (s.l4Next c x i p)
    (if decide (s.l4Want c i p < s.l4Lo i * 65536) || decide (s.l4Hi i * 65536 < s.l4Want c i p) then 3
      else if x.isOpen || decide (s.now < x.holdEnd) then 2 else 1)

/-- R403: an adaptive loop that no lost input holds settles at its next threshold. -/
theorem l4Evaluate_settles {i : Fin 8} (p : Nat) {x : L4} {b : Bundle} {s : State} (hh : s.loopHolds 4 = false)
    (hx : s.evt.l4.find? (fun y => y.input == i.val) = some x) (hb : s.lessee (i.val + 1) = some b)
    (ha : s.evtSet b.cid i 4 = 1) : exec (.l4Evaluate i p) s = .next (s.l4Settle b.cid x (s.l4Want b.cid i (s.l4Noise x p))
      (s.l4Next b.cid x i (s.l4Noise x p)) (s.l4Noise x p) (s.l4Report b.cid x i (s.l4Noise x p))) := by
  have hnoise : (if (x.isOpen || decide (s.now < x.holdEnd)) = true ∧ (!x.quiet) = true then x.p else p) = s.l4Noise x p := by
    simp only [State.l4Noise, Bool.or_eq_true, decide_eq_true_eq, Bool.not_eq_true']
  simp only [exec_l4Evaluate, execL4Evaluate, hh, hx, hb, ha, ne_eq, not_true, Bool.false_eq_true, if_false, hnoise]
  rfl

end Sys2Proof.Machine
end

section
/-! PROOFS. The event inputs. -/
namespace Sys2Proof.Machine
open Host

/-- Settles O33: a transition by its place in the queue, its edge by its client's binding and polarity, a latch by its stamps'
order, a level by whether it was taken, and L4 by the bounds of its move. -/
theorem events : Obligations.Events := by
  refine ⟨?_, ?_, ?_, ?_, ?_, ?_, ?_, ?_, fun i lv re s => grantLevelTake_taken lv re, exec_fbRefRunExpiry, ?_⟩
  · rintro i c at_ up x s t hx rfl
    have hmem := State.turned_mem (i := i) (c := c) (at_ := at_) (up := up) hx
    refine ⟨fun h => State.turned_other h ▸ hmem, fun h hup => ⟨_, hmem, ?_⟩, fun h hup => ?_⟩
    · rw [hup, State.turned_opens h]
      exact ⟨rfl, rfl, rfl, rfl⟩
    · subst hup
      exact State.turned_closes h ▸ hmem
  · rintro i up side at_ c s r t hr rfl hc ht
    refine ⟨evtRawTransition_no_level side hr hc ht, fun p hl => ⟨fun hw => ?_, fun hw => ?_⟩⟩
    · obtain ⟨stamp, hnear, hcoarse, hwaits⟩ := t.awaiting_stamped c i up side
      exact ⟨_, stamp, evtRawTransition_waits side hr hc ht hl hw, hnear, hcoarse, hwaits, t.awaiting_rest c i up side⟩
    · refine ⟨_, evtRawTransition_lost side hr hc ht hl hw, ?_, t.mem_loseStamp_overrun c i, t.loseStamp_evt c i,
        t.loseStamp_recs c i⟩
      rw [State.el_loseStamp, State.el_inc, if_pos rfl]
  · rintro i w d s u hw rfl hu
    exact ⟨evtEdgeQualify_short hw, fun held => evtEdgeQualify_held hw hu⟩
  · intro e fl s t
    refine ⟨State.writeEdge_rebound fl, ?_⟩
    rintro b hu hh hl hb rfl
    exact ⟨State.writeEdge_unasked fl hu hh hl hb, State.writeEdge_recorded fl hu hh hl hb⟩
  · intro i up side ok n c s t hg hm href hc hn hl h2 ht hroom
    refine ⟨_, latchEdge_caught side hg hm href hc hn hl h2 ht hroom, ?_, ?_, fun hno => ?_, fun a ha => ?_⟩
    · rw [State.latching_evt, State.latchOf, ht]
      simp only [Bool.and_eq_true, beq_iff_eq]
      rfl
    · rw [State.isl_, State.el_latching, if_neg fun h => absurd h.2 (by decide), ht, State.el_setIsl, if_pos rfl]
    · have hnone : (ok && s.chan 0 == .idle) = false :=
        hno.elim (fun h => by rw [h]; rfl) fun h => by rw [beq_false_of_ne h, Bool.and_false]
      rw [State.el_latching, if_pos ⟨hnone, rfl⟩, ht, State.el_setIsl, if_neg (by decide), State.comparator_el]
    · obtain ⟨hisl, habandon⟩ := not_or.mp (mt List.mem_cons.mpr ha)
      rw [State.el_latching, if_neg fun h => habandon (List.mem_singleton.mpr h.2), ht, State.el_setIsl]
      exact if_neg hisl
  · rintro x s t hr hc hl rfl
    exact latchHandover_takes hr hc hl
  · rintro x y s t u hr hc hl hxy rfl rfl
    rw [latchHandover_takes hr hc rfl, sortBy_latchedLe_pair (a := (s.latchStamp x, x)) (b := (s.latchStamp y, y))
      (hl.imp (fun h => by rw [h]; rfl) (fun h => by rw [h]; rfl)) hxy]
    rfl
  · rintro i lv re c b s t u hc hb hl rfl ht
    have htake := grantLevelTake_takes hc hb hl ht
    refine ⟨fun hbit hre => htake.trans (congrArg Outcome.next (if_pos ⟨hbit, hre⟩)),
      fun hno => htake.trans (congrArg Outcome.next (if_neg fun ⟨hbit, hre⟩ => ?_))⟩
    rw [hbit, hre] at hno
    exact hno.elim Bool.noConfusion Bool.noConfusion
  · intro i p x b s hh hx hb ha hlo hhi
    have hin : x.input = i.val := by simpa using List.find?_some hx
    obtain ⟨fenced, hl4⟩ := s.l4Settle_l4 b.cid x (s.l4Want b.cid i (s.l4Noise x p)) (s.l4Next b.cid x i (s.l4Noise x p))
      (s.l4Noise x p) (s.l4Report b.cid x i (s.l4Noise x p))
    rw [hin] at hl4
    obtain ⟨hmin, hmax, hup, hdown⟩ := l4Move_bounds ((s.l4Want b.cid i (s.l4Noise x p) + 32768) / 65536) hlo hhi
    refine ⟨_, x.settled _ _ fenced, l4Evaluate_settles p hh hx hb ha, hl4 ▸ find?_settledAt hx _ _ _, hmin, hmax, hup,
      hdown, rfl, fun hex hq => if_pos ⟨hex, hq⟩, fun hclosed hheld => if_neg fun ⟨hex, _⟩ => ?_,
      fun z hz hne => hl4 ▸ mem_settledAt_of_ne hz hne _ _ _⟩
    exact hex.elim (fun h => Bool.noConfusion (h.symm.trans hclosed)) (Nat.not_lt_of_le hheld)

end Sys2Proof.Machine
end

section
/-! SUPPORT. CLAIM: what it answers and leaves for each oldest entry of a ring, and what it leaves of the other rings. -/
namespace Sys2Proof.Machine
open Host

/-! ### What the delivery operations leave of the rings and the claims -/

section
variable (s : State) (id t : Nat)

@[simp] theorem State.wakeFb_dlv : s.wakeFb.dlv = s.dlv := by
  unfold State.wakeFb; split <;> rfl

@[simp] theorem State.wakeCr_dlv : s.wakeCr.dlv = s.dlv := by
  unfold State.wakeCr; split <;> simp

@[simp] theorem State.callCr_dlv : s.callCr.dlv = s.dlv := by
  unfold State.callCr State.over
  split
  · split <;> simp
  · rfl

@[simp] theorem State.takeSeq_entries : (s.takeSeq t).dlv.entries = s.dlv.entries := by
  simp only [State.takeSeq, State.dlvSet_dlv]
  split
  · rfl
  · split
    · rfl
    · split <;> rfl

@[simp] theorem State.takeSeq_claims : (s.takeSeq t).dlv.claims = s.dlv.claims := by
  simp only [State.takeSeq, State.dlvSet_dlv]
  split
  · rfl
  · split
    · rfl
    · split <;> rfl

@[simp] theorem State.completeAt_entries : (s.completeAt id t).dlv.entries = s.dlv.entries := rfl
@[simp] theorem State.completeAt_claims : (s.completeAt id t).dlv.claims = s.dlv.claims := rfl

/-- A new entry is one of its own ring, if it is made at all (R441). -/
theorem State.pushEntry_entries (replay : Bool) : (s.pushEntry id t replay).dlv.entries = s.dlv.entries ∨
    (s.pushEntry id t replay).dlv.entries = s.dlv.entries ++ [⟨t, s.nextSeq t, id, none, replay⟩] := by
  unfold State.pushEntry
  dsimp only
  split
  · exact .inl (by simp)
  · exact .inr (by simp)

@[simp] theorem State.pushEntry_claims (replay : Bool) : (s.pushEntry id t replay).dlv.claims = s.dlv.claims := by
  unfold State.pushEntry
  dsimp only
  split <;> simp

theorem State.pushEntry_ring_of_ne {j : Nat} (hj : j ≠ t) (replay : Bool) :
    (s.pushEntry id t replay).ring j = s.ring j := by
  rcases s.pushEntry_entries id t replay with h | h
  · simp only [State.ring, h]
  · simp [State.ring, h, hj.symm]

/-- R435: the room in a ring goes to a placement that waits for it, or to none. -/
theorem State.fillRoom_cases : s.fillRoom t = s ∨
    ∃ w : Waiting, s.fillRoom t = (s.dropWait w).pushEntry w.rid t w.replay := by
  unfold State.fillRoom
  split
  next => exact .inl rfl
  next w l _ =>
    split
    · exact .inr ⟨w, rfl⟩
    · exact .inl rfl

@[simp] theorem State.fillRoom_claims : (s.fillRoom t).dlv.claims = s.dlv.claims := by
  rcases s.fillRoom_cases t with h | ⟨w, h⟩
  · rw [h]
  · rw [h, State.pushEntry_claims]; rfl

theorem State.fillRoom_ring_of_ne {j : Nat} (hj : j ≠ t) : (s.fillRoom t).ring j = s.ring j := by
  rcases s.fillRoom_cases t with h | ⟨w, h⟩
  · rw [h]
  · rw [h, State.pushEntry_ring_of_ne _ _ _ hj]; rfl

theorem State.target_of_mem_ring {s : State} {e : Entry} {j : Nat} (h : e ∈ s.ring j) : e.target = j := by
  simpa using List.of_mem_filter (p := fun e : Entry => e.target == j) h

@[simp] theorem State.consume_claims (e : Entry) : (s.consume e).dlv.claims = s.dlv.claims :=
  State.fillRoom_claims _ e.target

/-- An entry that leaves its ring leaves no other, nor does what takes its room. -/
theorem State.consume_ring_of_ne {e : Entry} {j : Nat} (hj : j ≠ e.target) : (s.consume e).ring j = s.ring j := by
  have hout : e ∉ s.ring j := fun h => hj (State.target_of_mem_ring h).symm
  calc (s.consume e).ring j
      = (s.dlvSet { s.dlv with entries := s.dlv.entries.erase e }).ring j := State.fillRoom_ring_of_ne _ _ hj
    _ = (s.ring j).erase e := List.erase_filter.symm
    _ = s.ring j := List.erase_of_not_mem hout

/-- A change of the entries that keeps each one's place in its ring keeps the rings' sequences. -/
theorem ring_map_of_kept {f : Entry → Entry}
    (hf : ∀ e, (f e).target = e.target ∧ (f e).seq = e.seq ∧ (f e).rid = e.rid)
    (l : List Entry) (j : Nat) :
    ((l.map f).filter (fun e => e.target == j)).map (fun x => (x.seq, x.rid)) =
      (l.filter (fun e => e.target == j)).map (fun x => (x.seq, x.rid)) := by
  have htarget : (fun e : Entry => e.target == j) ∘ f = fun e => e.target == j := funext fun e => by simp [hf]
  have hshown : (fun x : Entry => (x.seq, x.rid)) ∘ f = fun x => (x.seq, x.rid) := funext fun e => by simp [hf]
  rw [List.filter_map, List.map_map, htarget, hshown]

/-- R429: the entries that turn void stay where they are. -/
theorem State.voidOthers_ring (r : Rec) (seq j : Nat) :
    ((s.voidOthers r seq t).ring j).map (fun x => (x.seq, x.rid)) = (s.ring j).map (fun x => (x.seq, x.rid)) := by
  unfold State.voidOthers
  split
  · exact ring_map_of_kept (fun e => by split <;> exact ⟨rfl, rfl, rfl⟩) _ j
  · rfl

@[simp] theorem State.voidOthers_claims (r : Rec) (seq : Nat) : (s.voidOthers r seq t).dlv.claims = s.dlv.claims := by
  unfold State.voidOthers
  split <;> rfl

end

/-! ### CLAIM in each case (R436 to R438) -/

/-- A record's entry is claimed: the other entries of an ANY record turn void, and the target holds the claim from now on. -/
def State.withClaim (s : State) (t : Nat) (e : Entry) (r : Rec) : State :=
  let u := s.voidOthers r e.seq t
  u.dlvSet { u.dlv with claims := u.dlv.claims ++ [⟨t, e.seq, e.rid, s.now⟩] }

section
variable {s : State} {k : Nat}

theorem State.claimAt_full (h : 32 ≤ (s.dlv.claims.filter (fun c => c.target == k)).length) :
    s.claimAt k = (s, spurious 0 5) := by
  rw [State.claimAt, if_pos h]

variable (h : (s.dlv.claims.filter (fun c => c.target == k)).length < 32)
include h

theorem State.claimAt_empty (hk : s.ring k = []) : s.claimAt k = (s, spurious 0 0) := by
  rw [State.claimAt, if_neg (Nat.not_le.mpr h), hk]
  rfl

variable {e : Entry} {l : List Entry} (hk : s.ring k = e :: l)
include hk

theorem State.claimAt_void {n : Nat} (hv : e.void = some n) : s.claimAt k = (s.consume e, spurious e.seq n) := by
  simp only [State.claimAt, if_neg (Nat.not_le.mpr h), hk, List.head?_cons, hv]

theorem State.claimAt_lost (hv : e.void = none) (hr : s.recOf e.rid = none) :
    s.claimAt k = (s.consume e, spurious e.seq 3) := by
  simp only [State.claimAt, if_neg (Nat.not_le.mpr h), hk, List.head?_cons, hv, hr]

theorem State.claimAt_record {r : Rec} (hv : e.void = none) (hr : s.recOf e.rid = some r) :
    s.claimAt k = ((s.withClaim k e r).consume e,
      recBytes r.stamp r.source r.cid r.kind (if e.replay then setBit r.flags 4 true else r.flags) e.seq r.detail) := by
  simp only [State.claimAt, if_neg (Nat.not_le.mpr h), hk, List.head?_cons, hv, hr]
  rfl

/-- A claim leaves every other ring its entries, void or not. -/
theorem State.claimAt_ring_of_ne {j : Nat} (hj : j ≠ k) :
    ((s.claimAt k).1.ring j).map (fun x => (x.seq, x.rid)) = (s.ring j).map (fun x => (x.seq, x.rid)) := by
  have htarget : e.target = k := State.target_of_mem_ring (s := s) (hk ▸ List.mem_cons_self)
  have hne : j ≠ e.target := htarget ▸ hj
  cases hv : e.void with
  | some n => rw [State.claimAt_void h hk hv, State.consume_ring_of_ne s hne]
  | none =>
    cases hr : s.recOf e.rid with
    | none => rw [State.claimAt_lost h hk hv hr, State.consume_ring_of_ne s hne]
    | some r =>
      rw [State.claimAt_record h hk hv hr, State.consume_ring_of_ne _ hne]
      exact s.voidOthers_ring k r e.seq j

end

/-- Settles O36: a full target and an empty ring by their own answers, an oldest entry by whether it is void and whether its
record is there. -/
theorem claimsTake : Obligations.ClaimsTake := by
  intro k s
  refine ⟨State.claimAt_full, fun h => ⟨State.claimAt_empty h, fun e l hk => ⟨fun n hv => ?_, fun r hv hr => ?_,
    fun j hj => State.claimAt_ring_of_ne h hk hj⟩⟩⟩
  · rw [State.claimAt_void h hk hv]
    exact ⟨rfl, s.consume_claims e⟩
  · rw [State.claimAt_record h hk hv hr]
    refine ⟨rfl, (State.consume_claims _ e).trans ?_⟩
    simp [State.withClaim]

end Sys2Proof.Machine
end

section
/-! SUPPORT. The ring operations of the host port, the writes that post and mask sources, withdrawals, and the work of delivery
that no request asks for. -/
namespace Sys2Proof.Machine
open Host

theorem exec_claim (r : Req) (s : State) : exec (.claim r) s = execClaim r s := rfl
theorem exec_complete (r : Req) (s : State) : exec (.complete r) s = execComplete r s := rfl
theorem exec_ringStatus (r : Req) (s : State) : exec (.ringStatus r) s = execRingStatus r s := rfl
theorem exec_doorbellWrite (r : Req) (s : State) : exec (.doorbellWrite r) s = execDoorbellWrite r s := rfl
theorem exec_enSetWrite (r : Req) (s : State) : exec (.enSetWrite r) s = execEnSetWrite r s := rfl
theorem exec_enClrWrite (r : Req) (s : State) : exec (.enClrWrite r) s = execEnClrWrite r s := rfl
theorem exec_pendSetWrite (r : Req) (s : State) : exec (.pendSetWrite r) s = execPendSetWrite r s := rfl
theorem exec_pendClrWrite (r : Req) (s : State) : exec (.pendClrWrite r) s = execPendClrWrite r s := rfl
theorem exec_claimTimeout (k : Fin 3) (seq : Nat) (s : State) :
    exec (.claimTimeout k seq) s = execClaimTimeout k seq s := rfl
theorem exec_holdoffEnd (g : Fin 32) (s : State) : exec (.holdoffEnd g) s = execHoldoffEnd g s := rfl
theorem exec_t0Claim (s : State) : exec .t0Claim s = execT0Claim s := rfl
theorem exec_notifierClaim (s : State) : exec .notifierClaim s = execNotifierClaim s := rfl

/-! ### Ring operations (R436 to R440) -/

/-- A ring operation of the host port that is let through to FB at target k: t is the state after its admission. -/
structure RingLet (s : State) (r : Req) (op : Nat) (t : State) (w : Who) (k : Nat) : Prop where
  host : r.port = .host
  goes : s.accept r op .q true true false = .go t w
  target : k = (r.body.headD 0).toNat
  line : k = 1 ∨ k = 2
  may : t.mayService w k = true
  full : t.full = true
  served : t.crossing .fb 16 = .serve

/-- R440: it has its effect at that target, and is answered. -/
theorem RingLet.ringOp {s t : State} {r : Req} {op k : Nat} {w : Who} (h : RingLet s r op t w k) (cmd : Instr)
    (eff : State → Nat → State × Stat × Bytes) :
    s.ringOp cmd r op eff = (eff t k).1.replyAs r op true (eff t k).2.1 (eff t k).2.2 := by
  have hline : (k == 1 || k == 2) = true := by simpa using h.line
  have hopen : (!(k == 1 || k == 2) || !t.mayService w k) = false := by rw [hline, h.may]; rfl
  simp only [State.ringOp, if_neg (not_not.mpr h.host), h.goes, ← h.target, hopen, h.full, Bool.not_true,
    Bool.false_eq_true, if_false, State.into_serve h.served]

section
variable {s : State} {k seq : Nat}

/-- R432, R439: a claim completed frees its record at the target, and the stream's next record follows. -/
theorem State.completeClaim_held {c : Claim} {x : Rec} {u : State}
    (hc : s.dlv.claims.find? (fun c => c.target == k && c.seq == seq) = some c)
    (hu : u = s.dlvSet { s.dlv with claims := s.dlv.claims.erase c }) (hx : u.recOf c.rid = some x) :
    s.completeClaim k seq = ((u.completeAt x.id k).advanceStream x.source (x.streamTarget k) x.hid, .ok) := by
  subst hu
  simp only [State.completeClaim, hc, hx]

theorem State.completeClaim_unclaimed
    (hc : s.dlv.claims.find? (fun c => c.target == k && c.seq == seq) = none) :
    s.completeClaim k seq = (s, .conflict 3) := by
  simp only [State.completeClaim, hc]

end

/-! ### Writes that post, enable and withdraw (R423, R446 to R450) -/

theorem State.setEnable_false (s : State) (src : Nat) : s.setEnable src false =
    s.put (Reg.SRC_EN (src / 32)) (setBit (s.el (Reg.SRC_EN (src / 32))) (src % 32) false) := rfl

section
variable {s t : State} {r : Req} {w : Who} (hl : LetThrough s r false t w)
include hl

theorem doorbellWrite_let (ha : r.addr = Reg.DOORBELL) (hp : (r.port == .host) = false) (h128 : 128 ≤ bytesToNum r.value)
    (hpass : t.aliasPasses w (bytesToNum r.value) false false = true) :
    exec (.doorbellWrite r) s = .next ((t.postSource (bytesToNum r.value) w.cid 1 0).finish r 2 .q .ok []) := by
  rw [exec_doorbellWrite, execDoorbellWrite, hp,
    State.rightsWrite_let hl (by simp [ha]) (by simp [State.mayPost, h128, hpass])]
  simp only [State.writeDoorbell, if_pos (And.intro hpass h128)]

theorem pendSetWrite_let (ha : r.addr = Reg.PEND_SET) (h128 : 128 ≤ bytesToNum r.value)
    (hpass : t.aliasPasses w (bytesToNum r.value) false false = true) :
    exec (.pendSetWrite r) s = .next ((t.postSource (bytesToNum r.value) w.cid 2 0).finish r 2 .q .ok []) := by
  rw [exec_pendSetWrite, execPendSetWrite,
    State.rightsWrite_let hl (by simp [ha]) (by simp [State.mayPost, h128, hpass])]
  simp only [State.writePendSet, if_pos (And.intro hpass h128)]

theorem pendClrWrite_let (ha : r.addr = Reg.PEND_CLR) (h128 : 128 ≤ bytesToNum r.value)
    (hpass : t.aliasPasses w (bytesToNum r.value) false false = true) :
    exec (.pendClrWrite r) s = .next ((t.withdraw (bytesToNum r.value) (t.hidOf w.cid) 1).answer r 2 .ok []) := by
  rw [exec_pendClrWrite, execPendClrWrite,
    State.rightsWrite_let hl (by simp [ha]) (by simp [State.mayPost, h128, hpass])]
  simp only [State.writePendClr, if_pos (And.intro hpass h128)]
  rw [State.finish_answer (t.withdraw _ _ _) _ _ _ _ _ hl.heard (by decide)]

theorem enSetWrite_let (ha : r.addr = Reg.EN_SET) (h511 : bytesToNum r.value < 511)
    (hpass : t.aliasPasses w (bytesToNum r.value) true false = true) :
    exec (.enSetWrite r) s = .next ((t.setEnable (bytesToNum r.value) true).finish r 2 .q .ok []) := by
  rw [exec_enSetWrite, execEnSetWrite, State.rightsWrite_let hl (by simp [ha]) (by simp [h511, hpass])]
  simp only [State.writeEnSet, if_pos (And.intro hpass h511)]

theorem enClrWrite_let (ha : r.addr = Reg.EN_CLR) (h511 : bytesToNum r.value < 511)
    (hpass : t.aliasPasses w (bytesToNum r.value) true false = true) :
    exec (.enClrWrite r) s = .next ((t.put (Reg.SRC_EN (bytesToNum r.value / 32))
      (setBit (t.el (Reg.SRC_EN (bytesToNum r.value / 32))) (bytesToNum r.value % 32) false)).answer r 2 .ok []) := by
  rw [exec_enClrWrite, execEnClrWrite, State.rightsWrite_let hl (by simp [ha]) (by simp [h511, hpass])]
  simp only [State.writeEnClr, if_pos (And.intro hpass h511), State.setEnable_false]
  rw [State.finish_answer (t.put _ _) _ _ _ _ _ hl.heard (by decide)]

end

section
variable (s : State) (src : Nat)

/-- R446: with nothing that waits, enabling a source sets its bit alone. -/
theorem State.setEnable_idle (hw : s.dlv.waiting = []) : s.setEnable src true =
    s.put (Reg.SRC_EN (src / 32)) (setBit (s.el (Reg.SRC_EN (src / 32))) (src % 32) true) := by
  simp [State.setEnable, State.placeWaiting, hw]

/-- A record of a source for a holder. -/
abbrev State.ofSource (s : State) (src hid id : Nat) : Prop := ∃ r, s.recOf id = some r ∧ r.source = src ∧ r.hid = hid

theorem State.ofSource_iff (hid id : Nat) : s.ofSource src hid id ↔
    (match s.recOf id with | some r => r.source == src && r.hid == hid | none => false) = true := by
  unfold State.ofSource
  split
  next r h => simp [h]
  next h => simp [h]

/-- R449: what no claim has taken of the source for the holder turns void. -/
theorem State.withdraw_entries (hid n : Nat) :
    (s.withdraw src hid n).dlv.entries = s.dlv.entries.map (fun e =>
      if e.void = none ∧ s.ofSource src hid e.rid then { e with void := some n } else e) := by
  refine List.map_congr_left fun e _ => ?_
  exact if_congr (and_congr Option.isNone_iff_eq_none (s.ofSource_iff src hid e.rid).symm) rfl rfl

theorem State.mem_withdraw_waiting {hid n : Nat} {x : Waiting} : x ∈ (s.withdraw src hid n).dlv.waiting ↔
    x ∈ s.dlv.waiting ∧ ¬ s.ofSource src hid x.rid := by
  rw [s.ofSource_iff src hid x.rid, Bool.not_eq_true, ← Bool.not_eq_true']
  exact List.mem_filter

end

/-! ### Lost claims and hold-off groups (R442, R443, R453) -/

/-- R443: a claim that ends without its completion is counted, and its record placed again with REPLAY. -/
theorem State.returnClaim_placed {s u : State} {c : Claim} {x : Rec}
    (hu : u = (s.dlvSet { s.dlv with claims := s.dlv.claims.erase c }).inc 4 Reg.CLAIM_RETURNED)
    (hx : u.recOf c.rid = some x) : s.returnClaim c = u.place x.id (x.streamTarget c.target) true := by
  subst hu
  simp only [State.returnClaim, hx]

theorem claimTimeout_returns {s : State} {k : Fin 3} {seq : Nat} {c : Claim} (hk : k.val ≠ 0)
    (hc : s.dlv.claims.find? (fun c => c.target == k.val && c.seq == seq) = some c) (ht : s.claimTmo k ≠ 0)
    (hr : s.runs .fb = true) :
    exec (.claimTimeout k seq) s = .next ((s.reach (c.at_ + stMs (s.claimTmo k))).returnClaim c) := by
  simp only [exec_claimTimeout, execClaimTimeout, hc]
  rw [if_neg (by simp [hk, ht, hr])]

theorem holdoffEnd_runs {s : State} {g : Fin 32} {p : Nat × Nat} (hr : s.runs .fb = true)
    (hp : s.dlv.groups.find? (fun p => p.1 == g.val) = some p) :
    exec (.holdoffEnd g) s = .next (s.servedAt p.2 (fun t => t.endGroup g)) := by
  simp only [exec_holdoffEnd, execHoldoffEnd, hr, hp]
  rfl

theorem holdoffEnd_idle {s : State} {g : Fin 32} (hr : s.runs .fb = true) (hg : ∀ p ∈ s.dlv.groups, p.1 ≠ g.val) :
    exec (.holdoffEnd g) s = .next s := by
  have hnone : s.dlv.groups.find? (fun p => p.1 == g.val) = none := List.find?_eq_none.mpr (by simpa using hg)
  simp only [exec_holdoffEnd, execHoldoffEnd, hr, hnone]
  rfl

section
variable {s u : State} {g : Nat}

/-- A group that holds nothing ends with its timer alone. -/
theorem State.endGroup_empty (hw : ∀ w ∈ s.dlv.waiting, w.why ≠ .group g) :
    s.endGroup g = s.dlvSet { s.dlv with groups := s.dlv.groups.filter (fun p => p.1 != g) } := by
  have hheld : s.dlv.waiting.filter (fun w => w.why == .group g) = [] := List.filter_eq_nil_iff.mpr (by simpa using hw)
  have hrest : s.dlv.waiting.filter (fun w => !(w.why == .group g)) = s.dlv.waiting :=
    List.filter_eq_self.mpr (by simpa using hw)
  simp [State.endGroup, hheld, hrest]

/-- The one record that a group holds is placed, or waits behind its stream or its source's enable bit. -/
theorem State.endGroup_one {w : Waiting} {x : Rec} (hw : s.dlv.waiting = [w]) (hg : w.why = .group g)
    (hx : s.recOf w.rid = some x)
    (hu : u = s.dlvSet { s.dlv with groups := s.dlv.groups.filter (fun p => p.1 != g), waiting := [] }) :
    s.endGroup g = if u.enabled x.source && u.streamIdle x.source w.target x.hid then
        (u.place w.rid w.target false).startGroup g
      else u.addWait ⟨w.rid, w.target, .stream, false⟩ := by
  have hxu : u.recOf w.rid = some x := by rw [hu]; exact hx
  have hheld : [w].filter (fun w => w.why == .group g) = [w] := by simp [hg]
  have hrest : [w].filter (fun w => !(w.why == .group g)) = [] := by simp [hg]
  simp only [State.endGroup, hw, hheld, hrest, ← hu, List.foldl_cons, List.foldl_nil, hxu]
  split <;> rfl

end

/-! ### The keeper at T0 and NW at T3 (R407, R441, R857) -/

section
variable {s : State} {e : Entry} {l : List Entry} {r : Rec} (hfb : s.runs .fb = true) (hv : e.void = none)
include hfb hv

/-- The log group that a record with its evidence flag calls for (R678). -/
def Rec.evidence (r : Rec) : LogGroup :=
  { chain := if r.hid = stationHid then 0 else r.hid, stamp := r.stamp, typ := 0x0A,
    flags := if bitOf r.flags 7 then 0x80 else 0, cid := r.cid,
    payloads := [payload10 (((recBytes r.stamp r.source r.cid r.kind r.flags 0 r.detail).drop 8).take 8)],
    onStored := .freeRec r.id }

theorem t0Claim_takes (hcr : s.runs .cr = true) (hch : s.chan 7 = .idle) (hk : s.ring 0 = e :: l)
    (hr : (s.claimAt 0).1.recOf e.rid = some r) :
    exec .t0Claim s = .next (if r.evid then (((s.claimAt 0).1.completeClaim 0 e.seq).1.logEntry r.evidence)
      else ((s.claimAt 0).1.completeClaim 0 e.seq).1) := by
  simp only [exec_t0Claim, execT0Claim, hcr, hfb, hch, hk, List.head?_cons, hv, hr]
  cases r.evid <;> rfl

/-- What NW sends to a subscription of a record at its entry. -/
def State.notifyEntry (e : Entry) (r : Rec) (t : State) (x : Subscr) : State :=
  t.notify x 1 (recBytes r.stamp r.source r.cid r.kind (if e.replay then setBit r.flags 4 true else r.flags)
    (match t.exch.subs.find? (fun y => y.cid == x.cid && y.slot == x.slot) with | some y => y.seq | none => 0) r.detail)

theorem notifierClaim_takes (hnw : s.runs .nw = true) (hch : s.chan 15 = .idle) (hk : s.ring 3 = e :: l)
    (hr : (s.claimAt 3).1.recOf e.rid = some r) :
    exec .notifierClaim s = .next ((((s.claimAt 3).1.exch.subs.filter (fun x => (s.claimAt 3).1.subTakes x r)).foldl
      (State.notifyEntry e r) (s.claimAt 3).1).completeClaim 3 e.seq).1 := by
  simp only [exec_notifierClaim, execNotifierClaim, hnw, hfb, hch, hk, List.head?_cons, hv, hr]
  rfl

end

/-- Settles O37: a ring operation by its effect once it is let through, a write by that of its element, a withdrawal by the
entries and placements that it leaves; a timer's end and a claim over a channel by the law of its command. -/
theorem delivery : Obligations.Delivery := by
  refine ⟨?_, ?_, ?_, ?_, ?_, fun g s hr => ⟨fun p => holdoffEnd_runs hr, holdoffEnd_idle hr⟩,
    fun g s => State.endGroup_empty, ?_, ?_⟩
  · intro r s t w k op hp hgo hk hline hmay hfull hs
    have hl : RingLet s r op t w k := ⟨hp, hgo, hk, hline, hmay, hfull, hs⟩
    refine ⟨?_, ?_, ?_, ?_⟩
    · rintro rfl
      rw [exec_claim, execClaim, hl.ringOp]
    · rintro c rfl hc u x hu hx
      rw [exec_complete, execComplete, hl.ringOp]
      simp only [State.completeClaim_held hc hu hx]
    · rintro rfl hc
      rw [exec_complete, execComplete, hl.ringOp]
      simp only [State.completeClaim_unclaimed hc]
    · rintro rfl
      rw [exec_ringStatus, execRingStatus, hl.ringOp]
  · rintro r s t w v rfl hv
    have h511 : bytesToNum r.value < 511 := Nat.lt_succ_of_le hv
    exact ⟨fun ha hp hl h128 => doorbellWrite_let hl ha hp h128, fun ha hl => enSetWrite_let hl ha h511,
      fun ha hl => enClrWrite_let hl ha h511, fun ha hl h128 => pendSetWrite_let hl ha h128,
      fun ha hl h128 => pendClrWrite_let hl ha h128⟩
  · rintro v s t rfl
    exact ⟨rfl, s.setEnable_idle v⟩
  · intro src hid n s
    exact ⟨_, rfl, rfl, rfl, s.withdraw_entries src hid n, fun x => (s.mem_withdraw_waiting src).mp⟩
  · rintro k seq c s t hk hc ht hr rfl u x hu hx
    rw [claimTimeout_returns hk hc ht hr, State.returnClaim_placed hu hx]
  · intro g w x s u hw hg hx hu
    rw [State.endGroup_one hw hg hx hu]
    refine ⟨fun ⟨hen, hidle⟩ => by rw [hen, hidle]; rfl, ?_⟩
    rintro (h | h) <;> simp [h]
  · intro e l r s hr hv
    refine ⟨?_, ?_⟩
    · rintro t hcr hch hk rfl hx
      rw [t0Claim_takes hr hv hcr hch hk hx]
      exact ⟨fun hev => by rw [hev]; rfl, fun hev => ⟨r.evidence, rfl, rfl, rfl, rfl, rfl, by rw [hev]; rfl⟩⟩
    · rintro t hnw hch hk rfl hx
      rw [notifierClaim_takes hr hv hnw hch hk hx]
      refine ⟨fun hnone => by rw [hnone]; rfl, fun x hone hsub => ?_⟩
      rw [hone, List.foldl_cons, List.foldl_nil, State.notifyEntry, hsub]

end Sys2Proof.Machine
end

section
/-! SUPPORT. What the writing of a record leaves alone, part by part. -/
namespace Sys2Proof.Machine
open Host

section
variable (s : State) (n : NewRec)

/-- The frame of a record (R407, R408), as one equation. -/
theorem State.record_rest : { s.record n with dict := s.dict, dlv := s.dlv, twin := s.twin, out := s.out, isl := s.isl } = s :=
  (recordFrame n s _ rfl).2.2.1

theorem State.record_isl_rest : { (s.record n).isl with shadows := s.isl.shadows } = s.isl := (recordFrame n s _ rfl).2.2.2.1

theorem State.record_twin_rest : { (s.record n).twin with tx := s.twin.tx } = s.twin := (recordFrame n s _ rfl).2.2.2.2.1

theorem State.el_record_ne {a : Nat} (h : a ∉ recordEls n) : (s.record n).el a = s.el a := (recordFrame n s _ rfl).1 a h

@[simp] theorem State.record_now : (s.record n).now = s.now := (recordFrame n s _ rfl).2.1
@[simp] theorem State.record_clk : (s.record n).clk = s.clk := (congrArg State.clk (s.record_rest n) :)
@[simp] theorem State.record_key : (s.record n).key = s.key := (congrArg State.key (s.record_rest n) :)
@[simp] theorem State.record_log : (s.record n).log = s.log := (congrArg State.log (s.record_rest n) :)
@[simp] theorem State.record_held : (s.record n).isl.held = s.isl.held := (congrArg IslSt.held (s.record_isl_rest n) :)
@[simp] theorem State.record_retries : (s.record n).isl.retries = s.isl.retries :=
  (congrArg IslSt.retries (s.record_isl_rest n) :)
@[simp] theorem State.record_linkKey : (s.record n).twin.key = s.twin.key := (congrArg TwinSt.key (s.record_twin_rest n) :)

@[simp] theorem State.slotOf_record (h : Nat) : (s.record n).slotOf h = s.slotOf h := by simp [State.slotOf]
@[simp] theorem State.kxOf_record (c : Nat) : (s.record n).kxOf c = s.kxOf c := by simp [State.kxOf]

end

end Sys2Proof.Machine
end

section
/-! SUPPORT. The keeper's slots and exchanges: what setting, copying and erasing them leaves, and the flip of an exchange. -/
namespace Sys2Proof.Machine
open Host

/-! ### Slots and exchanges (R512, R513, R540) -/

/-- A slot that is set is the holder's; the other holders' slots stand. -/
theorem State.slotOf_setSlot (s : State) (x : Slot) (h : Nat) :
    (s.setSlot x).slotOf h = if h = x.hid then x else s.slotOf h := by
  by_cases hx : h = x.hid
  · subst hx
    have : (s.key.slots.filter (fun y => y.hid != x.hid)).find? (fun y => y.hid == x.hid) = none := by
      simp [List.find?_eq_none]
    simp [State.slotOf, State.setSlot, this]
  · have hkeep : (s.key.slots.filter (fun y => y.hid != x.hid)).find? (fun y => y.hid == h) =
        s.key.slots.find? (fun y => y.hid == h) :=
      find_filter _ _ _ fun y hy => by simpa [beq_iff_eq.mp hy] using hx
    have hne : (x.hid == h) = false := by simpa using Ne.symm hx
    simp [State.slotOf, State.setSlot, hkeep, hne, hx]

/-- An exchange that is erased is gone. -/
theorem State.kxOf_eraseKx (s : State) (c : Nat) : (s.eraseKx c).kxOf c = none := by
  simp [State.kxOf, State.eraseKx, State.zeroKxEls, List.find?_eq_none]

section
variable (s : State) (h : Nat)

@[simp] theorem State.el_setSlot (x : Slot) (a : Nat) : (s.setSlot x).el a = s.el a := rfl
@[simp] theorem State.el_copyKey (a : Nat) : (s.copyKey h).el a = s.el a := by unfold State.copyKey; split <;> rfl
@[simp] theorem State.slotOf_copyKey (g : Nat) : (s.copyKey h).slotOf g = s.slotOf g := by
  unfold State.copyKey; split <;> rfl
@[simp] theorem State.slotOf_eraseKx (c g : Nat) : (s.eraseKx c).slotOf g = s.slotOf g := rfl
@[simp] theorem State.slotOf_put (a v g : Nat) : (s.put a v).slotOf g = s.slotOf g := rfl
@[simp] theorem State.slotOf_clearCtrIn (g : Nat) : (s.clearCtrIn h).slotOf g = s.slotOf g := rfl
@[simp] theorem State.kxOf_put (a v c : Nat) : (s.put a v).kxOf c = s.kxOf c := rfl

/-- Erasing an exchange zeroes its five registers. -/
theorem State.el_eraseKx_ne {c a : Nat} (ha : a < Reg.KX_DEV_EPH c ∨ Reg.KX_PEER c < a) : (s.eraseKx c).el a = s.el a := by
  refine (State.el_dropEls _ _ a).trans (if_neg ?_)
  simpa using fun h => ha.resolve_left (Nat.not_lt.mpr h)

/-- The counters of a holder's clients are dropped, and no other register. -/
theorem State.el_clearCtrIn (a : Nat) : (s.clearCtrIn h).el a =
    if rowAddr a = 0x400033 ∧ (0x400000 ≤ a ∧ a < 0x440000) ∧ s.hidOf (cidOfAddr a) = h then defaultOf a else s.el a := by
  rw [State.clearCtrIn, State.el_dropEls]
  simp [and_assoc]

end

theorem rowAddr_authCtrIn {c : Nat} (hc : c < 1024) : rowAddr (Reg.AUTH_CTR_IN c) = 0x400033 := by
  have h : 0x400000 ≤ Reg.AUTH_CTR_IN c ∧ Reg.AUTH_CTR_IN c < 0x440000 := by unfold Reg.AUTH_CTR_IN; omega
  rw [rowAddr, if_pos h, Reg.AUTH_CTR_IN]
  omega

theorem cidOfAddr_authCtrIn {c : Nat} : cidOfAddr (Reg.AUTH_CTR_IN c) = c := by
  unfold cidOfAddr Reg.AUTH_CTR_IN; omega

/-- An element that is not among the special ones has the default of its row. -/
theorem defaultOf_of_row {a x v : Nat} (hs : ∀ p ∈ specialDefaults, p.1 ≠ a) (hx : rowAddr a = x)
    (hr : ((pieceOf x).find? (Row.holds x)).map Row.dflt = some (.val v)) : defaultOf a = v := by
  have hnone : specialDefaults.find? (fun p => p.1 == a) = none := by
    rw [List.find?_eq_none]
    exact fun p hp => by simpa using hs p hp
  obtain ⟨r, hf, hd⟩ := Option.map_eq_some_iff.mp hr
  simp only [defaultOf, hnone, rowOf, hx, hf, hd]

/-- A client's counter is 0 by default. -/
theorem defaultOf_authCtrIn {c : Nat} (hc : c < 1024) : defaultOf (Reg.AUTH_CTR_IN c) = 0 := by
  refine defaultOf_of_row (fun p hp => ?_) (rowAddr_authCtrIn hc) (by decide +kernel)
  simp only [specialDefaults, List.mem_cons, List.not_mem_nil, or_false] at hp
  rcases hp with rfl | rfl | rfl | rfl | rfl | rfl | rfl | rfl | rfl | rfl <;> simp only [Reg.AUTH_CTR_IN] <;> omega

/-- No key register of a slot, nor a client's counter, is one of those that the record of a key's change touches. -/
theorem State.el_keyRecord_ne (s : State) (kind h low : Nat) {a : Nat} (h1 : a % 256 ≠ 0x29) (h2 : a % 256 ≠ 0xF6)
    (ha : 0x200000 ≤ a) : (s.keyRecord kind h low).el a = s.el a := by
  refine s.el_record_ne _ fun hm => ?_
  simp only [recordEls, List.mem_cons, List.not_mem_nil, or_false, Reg.REC_OVERRUNS, Reg.EVT_LOST, Reg.REC_OVERRUN_ALL,
    Reg.REC_LOW, Reg.RING_WAITS, Reg.CH_ABANDON, Reg.ISL_STATE] at hm
  omega

@[simp] theorem State.slotOf_keyRecord (s : State) (kind h low g : Nat) :
    (s.keyRecord kind h low).slotOf g = s.slotOf g := s.slotOf_record _ g

@[simp] theorem State.kxOf_keyRecord (s : State) (kind h low c : Nat) :
    (s.keyRecord kind h low).kxOf c = s.kxOf c := s.kxOf_record _ c

/-- The state of a flip before its record: the slot taken, the counters cleared, the exchange erased. -/
def State.slotTaken (s : State) (k : Kx) (key : Nat) : State :=
  let s0 := s.copyKey k.hid
  let s1 := ((((s0.put (Reg.KEY_STATE k.hid) 1).put (Reg.KEY_ALG k.hid) k.alg).put (Reg.KEY_GEN k.hid) k.gen).put
    (Reg.KEY_USES k.hid) 0)
  s1.setSlot ⟨k.hid, key, (s1.slotOf k.hid).reserve, (s1.slotOf k.hid).blob, false⟩

theorem State.keyFlip_eq {s : State} {c : Nat} {k : Kx} (hk : s.kxOf c = some k) (wrap : Nat) :
    s.keyFlip c wrap =
      ((((s.slotTaken k (wrap ^^^ k.w)).clearCtrIn k.hid).eraseKx c).setProv).keyRecord 2 k.hid k.gen := by
  simp only [State.keyFlip, hk]; rfl

theorem State.el_slotTaken (s : State) (k : Kx) (key a : Nat) : (s.slotTaken k key).el a =
    if a = Reg.KEY_USES k.hid then 0 else if a = Reg.KEY_GEN k.hid then k.gen else if a = Reg.KEY_ALG k.hid then k.alg
    else if a = Reg.KEY_STATE k.hid then 1 else s.el a := by
  simp only [State.slotTaken, State.el_setSlot, State.el_put, State.el_copyKey]

theorem State.el_slotTaken_ne (s : State) (k : Kx) (key : Nat) {a : Nat}
    (h : a ∉ [Reg.KEY_USES k.hid, Reg.KEY_GEN k.hid, Reg.KEY_ALG k.hid, Reg.KEY_STATE k.hid]) :
    (s.slotTaken k key).el a = s.el a := by
  simp only [List.mem_cons, List.not_mem_nil, or_false, not_or] at h
  simp only [State.el_slotTaken, h, if_false]

theorem State.slotOf_slotTaken (s : State) (k : Kx) (key g : Nat) : (s.slotTaken k key).slotOf g =
    if g = k.hid then ⟨k.hid, key, (s.slotOf k.hid).reserve, (s.slotOf k.hid).blob, false⟩ else s.slotOf g := by
  simp only [State.slotTaken, State.slotOf_setSlot, State.slotOf_put, State.slotOf_copyKey]

/-- Of a slot's registers the flip changes those of its own slot alone: the counters, the exchange and the record lie elsewhere. -/
theorem State.el_keyFlip_slot {s : State} {c : Nat} {k : Kx} (hk : s.kxOf c = some k) (wrap : Nat) {a : Nat}
    (ha : 0x500000 ≤ a) (hl : 0x40 ≤ a % 256) (hu : a % 256 ≤ 0x43) :
    (s.keyFlip c wrap).el a = (s.slotTaken k (wrap ^^^ k.w)).el a := by
  rw [State.keyFlip_eq hk, State.el_keyRecord_ne _ _ _ _ (by omega) (by omega) (by omega), State.setProv,
    State.el_put_ne _ _ (by unfold Reg.PROV_STATE; omega),
    State.el_eraseKx_ne _ (by unfold Reg.KX_DEV_EPH Reg.KX_PEER; omega), State.el_clearCtrIn, if_neg (by omega)]

theorem State.slotOf_keyFlip {s : State} {c : Nat} {k : Kx} (hk : s.kxOf c = some k) (wrap g : Nat) :
    (s.keyFlip c wrap).slotOf g =
      if g = k.hid then ⟨k.hid, wrap ^^^ k.w, (s.slotOf k.hid).reserve, (s.slotOf k.hid).blob, false⟩ else s.slotOf g := by
  rw [State.keyFlip_eq hk, State.slotOf_keyRecord, State.setProv, State.slotOf_put, State.slotOf_eraseKx,
    State.slotOf_clearCtrIn, State.slotOf_slotTaken]

/-- R522: every client of the holder counts from 0. -/
theorem State.el_keyFlip_authCtrIn {s : State} {c x : Nat} {k : Kx} (hk : s.kxOf c = some k) (wrap : Nat) (hx : x < 1024)
    (hh : s.hidOf x = k.hid) : (s.keyFlip c wrap).el (Reg.AUTH_CTR_IN x) = 0 := by
  have hbind : (s.slotTaken k (wrap ^^^ k.w)).hidOf x = k.hid := by
    rw [State.hidOf, State.el_slotTaken_ne]
    · exact hh
    · simp only [List.mem_cons, List.not_mem_nil, or_false, Reg.CID_BIND, Reg.KEY_USES, Reg.KEY_GEN, Reg.KEY_ALG,
        Reg.KEY_STATE]
      omega
  have hlt : 0x400000 ≤ Reg.AUTH_CTR_IN x ∧ Reg.AUTH_CTR_IN x < 0x440000 := by unfold Reg.AUTH_CTR_IN; omega
  rw [State.keyFlip_eq hk, State.el_keyRecord_ne _ _ _ _ (by unfold Reg.AUTH_CTR_IN; omega)
      (by unfold Reg.AUTH_CTR_IN; omega) (by unfold Reg.AUTH_CTR_IN; omega), State.setProv,
    State.el_put_ne _ _ (by unfold Reg.AUTH_CTR_IN Reg.PROV_STATE; omega),
    State.el_eraseKx_ne _ (by unfold Reg.AUTH_CTR_IN Reg.KX_DEV_EPH Reg.KX_PEER; omega), State.el_clearCtrIn,
    cidOfAddr_authCtrIn, hbind, if_pos ⟨rowAddr_authCtrIn hx, hlt, rfl⟩, defaultOf_authCtrIn hx]

/-- Settles O42: the registers and the slot are read off the flip's writes; what follows them leaves them alone. -/
theorem keyFlip : Obligations.KeyFlip := by
  rintro c wrap k s t hk rfl
  have hreg (r : Nat) (hl : 0x40 ≤ r) (hu : r ≤ 0x43) (h : Nat) :
      (s.keyFlip c wrap).el (0x500000 + r + 256 * h) = (s.slotTaken k (wrap ^^^ k.w)).el (0x500000 + r + 256 * h) :=
    State.el_keyFlip_slot hk wrap (by omega) (by omega) (by omega)
  refine ⟨?_, ?_, ?_, ?_, ?_, ?_, fun x hx hh => State.el_keyFlip_authCtrIn hk wrap hx hh, fun h hh => ⟨?_, ?_⟩⟩
  · exact (hreg 0x40 (by decide) (by decide) k.hid).trans (by simp [State.el_slotTaken])
  · exact (hreg 0x42 (by decide) (by decide) k.hid).trans (by simp [State.el_slotTaken])
  · exact (hreg 0x41 (by decide) (by decide) k.hid).trans (by simp [State.el_slotTaken])
  · exact (hreg 0x43 (by decide) (by decide) k.hid).trans (by simp [State.el_slotTaken])
  · rw [State.keyFlip_eq hk, State.kxOf_keyRecord, State.setProv, State.kxOf_put, State.kxOf_eraseKx]
  · rw [State.slotOf_keyFlip hk, if_pos rfl]
  · rw [State.slotOf_keyFlip hk, if_neg hh]
  · refine (hreg 0x41 (by decide) (by decide) h).trans (s.el_slotTaken_ne k _ ?_)
    simp only [List.mem_cons, List.not_mem_nil, or_false, Reg.KEY_USES, Reg.KEY_GEN, Reg.KEY_ALG, Reg.KEY_STATE]
    omega
end Sys2Proof.Machine
end
section
/-! SUPPORT. A zeroize in its parts: the keys erased, the requests in progress dropped, the session state lost, and what it shows. -/
namespace Sys2Proof.Machine
open Host

/-- The commits and the unstored values of a zeroize: what names keys is killed and gone (R547). -/
def State.keyActsKilled (s : State) : State :=
  { s with stage := { s.stage with
    commits := s.stage.commits.map (fun k => { k with killed := k.killed || k.items.any (fun p => isKeyAct p.1) })
    unstored := s.stage.unstored.map (fun l => l.filter (fun p => !isKeyReg p.1)) } }

/-- Every exchange erased, and every slot (R513, R547). -/
def State.slotsErased (s : State) : State :=
  ((List.range 64).foldl State.emptySlot ((s.key.kx.map (fun k => k.cid)).foldl State.eraseKx s.keyActsKilled)).setProv

/-- A new K3 drawn, and no copy of a key left. -/
def State.rekeyed (s : State) : State := State.drawn { s with key := { s.key with k3 := s.free % 2 ^ 256, copies := [] } }

/-- The requests' part: none in progress, and no subscription (R547, R279). -/
def State.requestsEnded (s : State) : State := { s.dropRequests with exch := { s.dropRequests.exch with subs := [] } }

/-- The registers that show a zeroize. -/
def State.zeroizeShown (s : State) (source : Nat) : State :=
  let t := (s.inc 4 Reg.ZEROIZE_COUNT).put Reg.ZEROIZE_LAST s.now
  if source < 16 then t.put Reg.ZEROIZE_DONE (setBit (t.el Reg.ZEROIZE_DONE) source true) else t

theorem State.zeroize_eq (s : State) (cause source cid : Nat) : ∃ g : LogGroup, s.zeroize cause source cid =
    ((s.slotsErased.rekeyed.requestsEnded.sessionLoss.zeroizeShown source).stationRecord 54 1 cause false).logEntry g := by
  unfold State.zeroize State.zeroizeShown State.requestsEnded State.rekeyed State.slotsErased State.keyActsKilled State.logStation State.logKeeper
  dsimp only
  split
  · exact ⟨_, rfl⟩
  · exact ⟨_, rfl⟩

/-! ### The keys -/

section
variable (s : State) (h : Nat)

theorem State.el_emptySlot (a : Nat) : (s.emptySlot h).el a =
    if a = Reg.KEY_USES h then 0 else if a = Reg.KEY_GEN h then nextGen (s.el (Reg.KEY_GEN h))
    else if a = Reg.KEY_ALG h then 0 else if a = Reg.KEY_STATE h then 0 else s.el a := by
  simp [State.emptySlot, State.el_put]

theorem State.el_emptySlot_ne {a : Nat} (ha : a ∉ [Reg.KEY_USES h, Reg.KEY_GEN h, Reg.KEY_ALG h, Reg.KEY_STATE h]) :
    (s.emptySlot h).el a = s.el a := by
  simp only [List.mem_cons, List.not_mem_nil, or_false, not_or] at ha
  simp only [State.el_emptySlot, ha, if_false]

theorem State.key_slotOf_emptySlot (g : Nat) :
    ((s.emptySlot h).slotOf g).key = if g = h then 0 else (s.slotOf g).key := by
  simp only [State.emptySlot, State.slotOf_setSlot, State.slotOf_put]
  have hid : (s.slotOf h).hid = h := by
    unfold State.slotOf
    split
    · next x hx => simpa using List.find?_some hx
    · rfl
  rw [hid]
  split <;> rfl

@[simp] theorem State.emptySlot_kx : (s.emptySlot h).key.kx = s.key.kx := rfl
@[simp] theorem State.emptySlot_clk : (s.emptySlot h).clk = s.clk := rfl

end

/-- Every slot below n is erased, one generation on, once each; the others stand. -/
theorem State.foldl_emptySlot (s : State) (n : Nat) :
    (∀ h, h < n → ((List.range n).foldl State.emptySlot s).el (Reg.KEY_STATE h) = 0 ∧
      ((List.range n).foldl State.emptySlot s).el (Reg.KEY_GEN h) = nextGen (s.el (Reg.KEY_GEN h)) ∧
      (((List.range n).foldl State.emptySlot s).slotOf h).key = 0) ∧
    (∀ h, n ≤ h → ((List.range n).foldl State.emptySlot s).el (Reg.KEY_GEN h) = s.el (Reg.KEY_GEN h)) := by
  induction n with
  | zero => exact ⟨fun h hh => absurd hh (Nat.not_lt_zero h), fun _ _ => rfl⟩
  | succ n ih =>
    obtain ⟨hlt, hge⟩ := ih
    rw [List.range_succ, List.foldl_append, List.foldl_cons, List.foldl_nil]
    generalize (List.range n).foldl State.emptySlot s = t at hlt hge
    have hstand (r h : Nat) (hr : r < 256) (hne : h ≠ n) :
        (t.emptySlot n).el (0x500000 + r + 256 * h) = t.el (0x500000 + r + 256 * h) :=
      t.el_emptySlot_ne n (by
        simp only [List.mem_cons, List.not_mem_nil, or_false, Reg.KEY_USES, Reg.KEY_GEN, Reg.KEY_ALG, Reg.KEY_STATE]
        omega)
    refine ⟨fun h hh => ?_, fun h hh => (hstand 0x41 h (by decide) (by omega)).trans (hge h (by omega))⟩
    by_cases hn : h = n
    · subst hn
      refine ⟨by simp [State.el_emptySlot], ?_, by rw [State.key_slotOf_emptySlot, if_pos rfl]⟩
      rw [← hge h (Nat.le_refl h)]
      simp [State.el_emptySlot]
    · obtain ⟨h1, h2, h3⟩ := hlt h (by omega)
      refine ⟨(hstand 0x40 h (by decide) hn).trans h1, (hstand 0x41 h (by decide) hn).trans h2, ?_⟩
      rw [State.key_slotOf_emptySlot, if_neg hn, h3]

/-- Erasing exchanges zeroes exchange registers alone. -/
theorem State.el_foldl_eraseKx_ne (s : State) (l : List Nat) {a : Nat} (h : a % 256 < 0x91 ∨ 0x95 < a % 256) :
    (l.foldl State.eraseKx s).el a = s.el a := by
  induction l generalizing s with
  | nil => rfl
  | cons c l ih =>
    rw [List.foldl_cons, ih, State.el_eraseKx_ne]
    unfold Reg.KX_DEV_EPH Reg.KX_PEER
    omega

theorem State.foldl_eraseKx_clk (s : State) (l : List Nat) : (l.foldl State.eraseKx s).clk = s.clk := by
  induction l generalizing s with
  | nil => rfl
  | cons c l ih => exact (ih _).trans rfl

/-- Once the exchange of every client that has one is erased, none is left. -/
theorem State.foldl_eraseKx_kx (s : State) (l : List Nat) (h : ∀ k ∈ s.key.kx, k.cid ∈ l) :
    (l.foldl State.eraseKx s).key.kx = [] := by
  induction l generalizing s with
  | nil => exact List.eq_nil_iff_forall_not_mem.mpr fun k hk => List.not_mem_nil (h k hk)
  | cons c l ih =>
    refine ih _ fun k hk => ?_
    obtain ⟨hmem, hne⟩ := List.mem_filter.mp (show k ∈ s.key.kx.filter (fun k => k.cid != c) from hk)
    exact (List.mem_cons.mp (h k hmem)).resolve_left (by simpa using hne)

theorem State.foldl_emptySlot_rest (s : State) (l : List Nat) :
    (l.foldl State.emptySlot s).key.kx = s.key.kx ∧ (l.foldl State.emptySlot s).clk = s.clk ∧
    ∀ a, a < 0x500000 → (l.foldl State.emptySlot s).el a = s.el a := by
  induction l generalizing s with
  | nil => exact ⟨rfl, rfl, fun _ _ => rfl⟩
  | cons h l ih =>
    obtain ⟨hkx, hclk, hel⟩ := ih (s.emptySlot h)
    refine ⟨hkx, hclk, fun a ha => (hel a ha).trans (s.el_emptySlot_ne h ?_)⟩
    simp only [List.mem_cons, List.not_mem_nil, or_false, Reg.KEY_USES, Reg.KEY_GEN, Reg.KEY_ALG, Reg.KEY_STATE]
    omega

/-- R513, R547: what is left of the keys. -/
structure State.KeysGone (s t : State) : Prop where
  slot : ∀ h, h < 64 → t.el (Reg.KEY_STATE h) = 0 ∧ t.el (Reg.KEY_GEN h) = nextGen (s.el (Reg.KEY_GEN h)) ∧
    (t.slotOf h).key = 0
  kx : t.key.kx = []
  copies : t.key.copies = []
  prov : bitOf (t.el Reg.PROV_STATE) 0 = true
  epoch : t.el Reg.AUTH_EPOCH_N = s.el Reg.AUTH_EPOCH_N
  now : t.now = s.now

theorem State.slotsErased_gone (s : State) : s.KeysGone s.slotsErased.rekeyed := by
  have hkx := s.keyActsKilled.foldl_eraseKx_kx (s.key.kx.map (fun k => k.cid)) fun k hk => List.mem_map.mpr ⟨k, hk, rfl⟩
  have hclk : _ = s.clk := s.keyActsKilled.foldl_eraseKx_clk (s.key.kx.map (fun k => k.cid))
  have hel : ∀ a, a % 256 < 0x91 ∨ 0x95 < a % 256 → _ = s.el a :=
    fun a ha => s.keyActsKilled.el_foldl_eraseKx_ne (s.key.kx.map (fun k => k.cid)) ha
  unfold State.slotsErased
  generalize (s.key.kx.map (fun k => k.cid)).foldl State.eraseKx s.keyActsKilled = x at hkx hclk hel
  obtain ⟨hslot, -⟩ := x.foldl_emptySlot 64
  obtain ⟨hxkx, hxclk, hxel⟩ := x.foldl_emptySlot_rest (List.range 64)
  generalize (List.range 64).foldl State.emptySlot x = y at hslot hxkx hxclk hxel
  have hput : ∀ a, a ≠ Reg.PROV_STATE → y.setProv.el a = y.el a := fun a ha => y.el_put_ne _ ha
  refine ⟨fun h hh => ?_, hxkx.trans hkx, rfl, ?_, ?_, ?_⟩
  · obtain ⟨h1, h2, h3⟩ := hslot h hh
    rw [hel _ (by unfold Reg.KEY_GEN; omega)] at h2
    exact ⟨(hput _ (by unfold Reg.KEY_STATE Reg.PROV_STATE; omega)).trans h1,
      (hput _ (by unfold Reg.KEY_GEN Reg.PROV_STATE; omega)).trans h2, h3⟩
  · obtain ⟨h1, -, -⟩ := hslot 0 (by decide)
    change bitOf (y.setProv.el Reg.PROV_STATE) 0 = true
    rw [State.setProv, State.el_put_same, bitOf_setBit, if_pos rfl, h1]
    rfl
  · exact (hput _ (by decide)).trans ((hxel _ (by decide)).trans (hel _ (by decide)))
  · change (if y.clk.loaded then y.clk.st else y.clk.v * 8192) = _
    rw [hxclk, hclk]
    rfl

/-! ### The requests -/

/-- t differs from s in the counts of requests in progress, in the requests held or in those the firmware repeats. -/
structure State.RequestsOnly (s t : State) : Prop where
  el : ∀ a, a % 256 ≠ 0x32 → t.el a = s.el a
  rest : { t with dict := s.dict, isl := s.isl, exch := s.exch } = s

theorem State.RequestsOnly.refl (s : State) : s.RequestsOnly s := ⟨fun _ _ => rfl, rfl⟩

theorem State.RequestsOnly.trans {s t u : State} (h : s.RequestsOnly t) (k : t.RequestsOnly u) : s.RequestsOnly u :=
  ⟨fun a ha => (k.el a ha).trans (h.el a ha),
    (congrArg (fun x : State => { x with dict := s.dict, isl := s.isl, exch := s.exch }) k.rest).trans h.rest⟩

theorem State.RequestsOnly.foldl {α : Type} {f : State → α → State} (hf : ∀ (t : State) x, t.RequestsOnly (f t x)) (l : List α)
    (s : State) : s.RequestsOnly (l.foldl f s) :=
  List.foldlRecOn l f (motive := s.RequestsOnly) (.refl s) fun t ht x _ => ht.trans (hf t x)

theorem State.endProgress_requestsOnly (s : State) (c : Nat) : s.RequestsOnly (s.endProgress c) :=
  ⟨fun a ha => s.el_put_ne _ (by unfold Reg.IN_PROGRESS; omega), rfl⟩

theorem State.withIsl_requestsOnly (s : State) (x : IslSt) : s.RequestsOnly { s with isl := x } := ⟨fun _ _ => rfl, rfl⟩
theorem State.withExch_requestsOnly (s : State) (x : ExchSt) : s.RequestsOnly { s with exch := x } := ⟨fun _ _ => rfl, rfl⟩

theorem State.unhold_requestsOnly (s : State) (h : Held) : s.RequestsOnly (s.unhold h) := by
  unfold State.unhold
  dsimp only
  split
  · exact (s.withIsl_requestsOnly _).trans (State.endProgress_requestsOnly _ _)
  · exact s.withIsl_requestsOnly _

@[simp] theorem State.unhold_held (s : State) (h : Held) : (s.unhold h).isl.held = s.isl.held.erase h := by
  unfold State.unhold; dsimp only; split <;> rfl
@[simp] theorem State.unhold_retries (s : State) (h : Held) : (s.unhold h).isl.retries = s.isl.retries := by
  unfold State.unhold; dsimp only; split <;> rfl
@[simp] theorem State.unhold_exch (s : State) (h : Held) : (s.unhold h).exch = s.exch := by
  unfold State.unhold; dsimp only; split <;> rfl

theorem State.foldl_unhold (l : List Held) (s : State) : (l.foldl State.unhold s).isl.held = l.foldl List.erase s.isl.held ∧
    (l.foldl State.unhold s).isl.retries = s.isl.retries ∧ (l.foldl State.unhold s).exch = s.exch := by
  induction l generalizing s with
  | nil => exact ⟨rfl, rfl, rfl⟩
  | cons h l ih => simpa using ih (s.unhold h)

/-- What is dropped of the held requests is no longer held. -/
theorem State.dropHeld_held (s : State) (p : Held → Bool) : ∀ h ∈ (s.dropHeld p).isl.held, p h = false := by
  intro h hh
  rw [State.dropHeld, (State.foldl_unhold _ _).1, ← List.diff_eq_foldl] at hh
  by_contra hp
  have hcount := List.count_pos_iff.mpr hh
  rw [List.count_diff, List.count_filter (by simpa using hp), Nat.sub_self] at hcount
  exact Nat.lt_irrefl 0 hcount

theorem State.foldl_endProgress {α : Type} (f : α → Nat) (l : List α) (s : State) :
    (l.foldl (fun t x => t.endProgress (f x)) s).isl = s.isl ∧ (l.foldl (fun t x => t.endProgress (f x)) s).exch = s.exch := by
  induction l generalizing s with
  | nil => exact ⟨rfl, rfl⟩
  | cons x l ih => exact ih _

theorem State.requestsEnded_only (s : State) : s.RequestsOnly s.requestsEnded := by
  refine .trans ?_ (s.dropRequests.withExch_requestsOnly _)
  unfold State.dropRequests State.dropHeld
  dsimp only
  exact (((s.withExch_requestsOnly _).trans (.foldl (fun t (g : Gather) => t.endProgress_requestsOnly g.req.cid) _ _)).trans
    ((State.withIsl_requestsOnly _ _).trans (.foldl (fun t (x : Nat × Req × Nat) => t.endProgress_requestsOnly x.2.1.cid) _ _))).trans
    (.foldl State.unhold_requestsOnly _ _)

theorem State.requestsEnded_ended (s : State) : s.requestsEnded.isl.retries = [] ∧
    (∀ h ∈ s.requestsEnded.isl.held, h.who = none) ∧ s.requestsEnded.exch.gathers = [] ∧ s.requestsEnded.exch.subs = [] := by
  refine ⟨?_, fun h hh => by simpa using State.dropHeld_held _ _ h hh, ?_, rfl⟩
  · refine (State.foldl_unhold _ _).2.1.trans ?_
    rw [(State.foldl_endProgress (fun x : Nat × Req × Nat => x.2.1.cid) _ _).1]
  · have hdrop : s.dropRequests.exch = { s.exch with gathers := [] } := by
      unfold State.dropRequests State.dropHeld
      rw [(State.foldl_unhold _ _).2.2, (State.foldl_endProgress (fun x : Nat × Req × Nat => x.2.1.cid) _ _).2]
      exact (State.foldl_endProgress (fun g : Gather => g.req.cid) _ _).2
    exact congrArg ExchSt.gathers hdrop

/-! ### The session state, and what shows of a zeroize -/

theorem State.el_sessionLoss_ne (s : State) {a : Nat} (ha : 0x500000 ≤ a ∨ a < 0x400000)
    (h1 : a ≠ Reg.AUTH_EPOCH) (h2 : a ≠ Reg.AUTH_EPOCH_N) : s.sessionLoss.el a = s.el a := by
  refine (State.el_put_ne _ _ h2).trans ((State.el_put_ne _ _ h1).trans ((s.el_dropEls _ a).trans (if_neg ?_)))
  rw [Bool.and_eq_true, decide_eq_true_eq]
  omega

theorem State.sessionLoss_authCtrIn (s : State) {c : Nat} (hc : c < 1024) : s.sessionLoss.el (Reg.AUTH_CTR_IN c) = 0 := by
  have h : Reg.AUTH_CTR_IN c ≠ Reg.AUTH_EPOCH_N ∧ Reg.AUTH_CTR_IN c ≠ Reg.AUTH_EPOCH := by
    unfold Reg.AUTH_CTR_IN Reg.AUTH_EPOCH_N Reg.AUTH_EPOCH; omega
  refine (State.el_put_ne _ _ h.1).trans ((State.el_put_ne _ _ h.2).trans ((s.el_dropEls _ _).trans ?_))
  rw [if_pos, defaultOf_authCtrIn hc]
  have hlt : 0x400000 ≤ Reg.AUTH_CTR_IN c ∧ Reg.AUTH_CTR_IN c < 0x440000 := by unfold Reg.AUTH_CTR_IN; omega
  have hlow : Reg.AUTH_CTR_IN c % 256 = 0x33 := by unfold Reg.AUTH_CTR_IN; omega
  rw [hlow, decide_eq_true hlt]
  rfl

theorem State.sessionLoss_epoch (s : State) : s.sessionLoss.el Reg.AUTH_EPOCH = s.now ∧
    s.sessionLoss.el Reg.AUTH_EPOCH_N = (s.el Reg.AUTH_EPOCH_N + 1) % 256 := by
  refine ⟨(State.el_put_ne _ _ (by decide)).trans (State.el_put_same _ _ _), (State.el_put_same _ _ _).trans ?_⟩
  rw [State.el_dropEls, if_neg (by decide)]

theorem State.el_zeroizeShown (s : State) (source a : Nat) (h1 : a ≠ Reg.ZEROIZE_COUNT) (h2 : a ≠ Reg.ZEROIZE_DONE) :
    (s.zeroizeShown source).el a = if a = Reg.ZEROIZE_LAST then s.now else s.el a := by
  unfold State.zeroizeShown
  dsimp only
  split
  · rw [State.el_put_ne _ _ h2, State.el_put, State.el_inc, if_neg h1]
  · rw [State.el_put, State.el_inc, if_neg h1]

theorem State.zeroizeShown_rest (s : State) (source : Nat) : { s.zeroizeShown source with dict := s.dict } = s := by
  unfold State.zeroizeShown; dsimp only; split <;> rfl

/-- No register that a zeroize shows is touched by a station record of source 54. -/
theorem State.el_keeperRecord_ne (s : State) (kind detail : Nat) (t0 : Bool) {a : Nat}
    (h1 : a % 256 ≠ 0x29) (h2 : a % 256 ≠ 0xF6)
    (ha : 0x200000 ≤ a ∨ (0x1A0000 ≤ a ∧ a < 0x1B0000)) : (s.stationRecord 54 kind detail t0).el a = s.el a := by
  refine s.el_record_ne _ fun hm => ?_
  simp only [recordEls, List.mem_cons, List.not_mem_nil, or_false, Reg.REC_OVERRUNS, Reg.EVT_LOST, Reg.REC_OVERRUN_ALL,
    Reg.REC_LOW, Reg.RING_WAITS, Reg.CH_ABANDON, Reg.ISL_STATE] at hm
  omega

section
variable (s : State) (cause source : Nat) (g : LogGroup)

/-- What follows the loss of the session state. -/
def State.zeroizeTold : State := ((s.sessionLoss.zeroizeShown source).stationRecord 54 1 cause false).logEntry g

theorem State.zeroizeTold_key : (s.zeroizeTold cause source g).key = { s.key with fresh := [] } := by
  have hrec : (s.zeroizeTold cause source g).key = (s.sessionLoss.zeroizeShown source).key := State.record_key _ _
  exact hrec.trans (congrArg State.key (s.sessionLoss.zeroizeShown_rest source) :)

theorem State.zeroizeTold_parts : (s.zeroizeTold cause source g).isl.retries = s.isl.retries ∧
    (s.zeroizeTold cause source g).isl.held = s.isl.held ∧ (s.zeroizeTold cause source g).twin.key = none ∧
    (s.zeroizeTold cause source g).exch = s.exch := by
  have hrest := s.sessionLoss.zeroizeShown_rest source
  refine ⟨(State.record_retries _ _).trans ?_, (State.record_held _ _).trans ?_, (State.record_linkKey _ _).trans ?_,
    (State.stationRecord_exch _ _ _ _ _).trans ?_⟩
  · exact (congrArg (fun x => x.isl.retries) hrest :)
  · exact (congrArg (fun x => x.isl.held) hrest :)
  · exact (congrArg (fun x => x.twin.key) hrest :)
  · exact (congrArg (fun x => x.exch) hrest :)

theorem State.el_zeroizeTold {a : Nat} (h1 : a % 256 ≠ 0x29) (h2 : a % 256 ≠ 0xF6)
    (ha : 0x200000 ≤ a ∨ (0x1A0000 ≤ a ∧ a < 0x1B0000)) (h3 : a ≠ Reg.ZEROIZE_COUNT) (h4 : a ≠ Reg.ZEROIZE_DONE) :
    (s.zeroizeTold cause source g).el a = if a = Reg.ZEROIZE_LAST then s.now else s.sessionLoss.el a :=
  (State.el_keeperRecord_ne _ _ _ _ h1 h2 ha).trans (s.sessionLoss.el_zeroizeShown source a h3 h4)

/-- The keys' registers, and PROV_STATE, lie elsewhere. -/
theorem State.el_zeroizeTold_ne {a : Nat} (ha : (0x500000 ≤ a ∧ a % 256 < 0x50 ∧ 0x40 ≤ a % 256) ∨ a = Reg.PROV_STATE) :
    (s.zeroizeTold cause source g).el a = s.el a := by
  have hlow : a % 256 ≠ 0x29 ∧ a % 256 ≠ 0xF6 := by unfold Reg.PROV_STATE at ha; omega
  have hhigh : (0x200000 ≤ a ∨ (0x1A0000 ≤ a ∧ a < 0x1B0000)) ∧ (0x500000 ≤ a ∨ a < 0x400000) := by
    unfold Reg.PROV_STATE at ha; omega
  have hne : a ≠ Reg.ZEROIZE_COUNT ∧ a ≠ Reg.ZEROIZE_DONE ∧ a ≠ Reg.ZEROIZE_LAST ∧ a ≠ Reg.AUTH_EPOCH ∧
      a ≠ Reg.AUTH_EPOCH_N := by
    rcases ha with ha | rfl
    · unfold Reg.ZEROIZE_COUNT Reg.ZEROIZE_DONE Reg.ZEROIZE_LAST Reg.AUTH_EPOCH Reg.AUTH_EPOCH_N; omega
    · decide
  obtain ⟨n1, n2, n3, n4, n5⟩ := hne
  rw [State.el_zeroizeTold _ _ _ _ hlow.1 hlow.2 hhigh.1 n1 n2, if_neg n3, State.el_sessionLoss_ne _ hhigh.2 n4 n5]

end

/-- Settles O43: the keys erased, the requests ended, the session state lost and the registers shown; the record and the entry
that follow leave all of it alone. -/
theorem zeroize : Obligations.Zeroize := by
  rintro cause source cid s t rfl
  obtain ⟨g, hz⟩ := s.zeroize_eq cause source cid
  obtain ⟨hslot, hkx, hcopies, hprov, hepoch, hnow⟩ := s.slotsErased_gone
  change s.zeroize cause source cid = s.slotsErased.rekeyed.requestsEnded.zeroizeTold cause source g at hz
  rw [hz]
  generalize s.slotsErased.rekeyed = k at hslot hkx hcopies hprov hepoch hnow
  obtain ⟨hrel, hrest⟩ := k.requestsEnded_only
  obtain ⟨hretries, hheld, hgathers, hsubs⟩ := k.requestsEnded_ended
  have hukey : k.requestsEnded.key = k.key := (congrArg State.key hrest :)
  have hunow : k.requestsEnded.now = s.now := (congrArg State.now hrest :).trans hnow
  generalize k.requestsEnded = u at hrel hretries hheld hgathers hsubs hukey hunow
  have hkey := (u.zeroizeTold_key cause source g).trans (by rw [hukey])
  obtain ⟨hr, hh, hlink, hexch⟩ := u.zeroizeTold_parts cause source g
  have hel (a : Nat) (ha : (0x500000 ≤ a ∧ a % 256 < 0x50 ∧ 0x40 ≤ a % 256) ∨ a = Reg.PROV_STATE) :
      (u.zeroizeTold cause source g).el a = k.el a :=
    (u.el_zeroizeTold_ne cause source g ha).trans
      (hrel a (by rcases ha with ⟨-, -, hlow⟩ | rfl <;> [exact fun he => absurd (he ▸ hlow) (by decide); decide]))
  refine ⟨fun h hlt => ?_, ?_, ?_, ?_, hr.trans hretries, hh ▸ hheld, hlink, hexch ▸ hgathers, hexch ▸ hsubs, fun c hc => ?_,
    ?_, ?_, ?_, ?_⟩
  · obtain ⟨h1, h2, h3⟩ := hslot h hlt
    refine ⟨(hel _ ?_).trans h1, (hel _ ?_).trans h2, ?_⟩
    · unfold Reg.KEY_STATE; omega
    · unfold Reg.KEY_GEN; omega
    · unfold State.slotOf at h3 ⊢
      rw [hkey]
      exact h3
  · rw [hkey]; exact hkx
  · rw [hkey]; exact hcopies
  · rw [hkey]
  · rw [State.el_zeroizeTold _ _ _ _ (by unfold Reg.AUTH_CTR_IN; omega) (by unfold Reg.AUTH_CTR_IN; omega)
      (.inl (by unfold Reg.AUTH_CTR_IN; omega)) (by unfold Reg.AUTH_CTR_IN Reg.ZEROIZE_COUNT; omega)
      (by unfold Reg.AUTH_CTR_IN Reg.ZEROIZE_DONE; omega), if_neg (by unfold Reg.AUTH_CTR_IN Reg.ZEROIZE_LAST; omega),
      State.sessionLoss_authCtrIn _ hc]
  · rw [State.el_zeroizeTold _ _ _ _ (by decide) (by decide) (by decide) (by decide) (by decide), if_neg (by decide),
      u.sessionLoss_epoch.1, hunow]
  · rw [State.el_zeroizeTold _ _ _ _ (by decide) (by decide) (by decide) (by decide) (by decide), if_pos rfl, hunow]
  · rw [hel _ (.inr rfl)]
    exact hprov
  · rw [State.el_zeroizeTold _ _ _ _ (by decide) (by decide) (by decide) (by decide) (by decide), if_neg (by decide),
      u.sessionLoss_epoch.2, hrel _ (by decide), hepoch]

end Sys2Proof.Machine
end

section
/-! SUPPORT. The key exchange (R535 to R540): its start, the peer's point, its expiry, and a ZEROIZE by request. -/
namespace Sys2Proof.Machine
open Host

theorem exec_kxStartWrite (r : Req) (s : State) : exec (.kxStartWrite r) s = execKxStartWrite r s := rfl
theorem exec_kxPeerWrite (r : Req) (s : State) : exec (.kxPeerWrite r) s = execKxPeerWrite r s := rfl
theorem exec_kxExpiry (c : Nat) (s : State) : exec (.kxExpiry c) s = execKxExpiry c s := rfl
theorem exec_zeroizeWrite (r : Req) (s : State) : exec (.zeroizeWrite r) s = execZeroizeWrite r s := rfl
theorem exec_entropyFault (s : State) : exec .entropyFault s = execEntropyFault s := rfl
theorem exec_keyTableRebuilt (s : State) : exec .keyTableRebuilt s = execKeyTableRebuilt s := rfl

/-- A sound write without the rights to what its value names is refused uniformly (R258, step 5). -/
theorem State.rightsWrite_refused {s t : State} {cmd : Instr} {r : Req} {fast boot : Bool} {w : Who} {mine : Nat → Bool}
    {rights : State → Who → Nat → Nat → Bool} {eff : Effect} (hm : mine r.addr = true)
    (ha : s.accept r 2 .q fast false boot = .go t w) (hv : valueNamed r = true)
    (hr : rights t w r.addr (bytesToNum r.value) = false) :
    s.rightsWrite cmd r mine fast boot rights eff = t.finish r 2 .q .refused [] := by
  simp [State.rightsWrite, hm, ha, hv, hr]

/-- A write that is let through and whose effect leaves the exchange unmuted is answered at once. -/
theorem State.rightsWrite_answers {s t u : State} {cmd : Instr} {r : Req} {boot : Bool} {w : Who} {mine : Nat → Bool}
    {rights : State → Who → Nat → Nat → Bool} {f : State → Who → Nat → Nat → State × Stat} {st : Stat}
    (h : LetThrough s r boot t w) (hm : mine r.addr = true) (hr : rights t w r.addr (bytesToNum r.value) = true)
    (he : f t w r.addr (bytesToNum r.value) = (u, st)) (hu : u.exch = t.exch) (hc : st.code ≠ 1) :
    s.rightsWrite cmd r mine false boot rights (atOnce f) = u.answer r 2 st [] := by
  rw [State.rightsWrite_let h hm hr, he]
  exact u.finish_answer r 2 .q st [] (hu ▸ h.heard) hc

theorem State.ownWrite_answers {s t u : State} {cmd : Instr} {r : Req} {boot : Bool} {w : Who} {mine : Nat → Bool}
    {f : State → Who → Nat → Nat → State × Stat} {st : Stat} (h : LetThrough s r boot t w) (hm : mine r.addr = true)
    (he : f t w r.addr (bytesToNum r.value) = (u, st)) (hu : u.exch = t.exch) (hc : st.code ≠ 1) :
    s.ownWrite cmd r mine boot (atOnce f) = u.answer r 2 st [] :=
  State.rightsWrite_answers h hm rfl he hu hc

/-! ### The start of an exchange (R535 to R537) -/

/-- The exchange that a start opens: the slot's next generation, an expiry KX_LIFE later, an ephemeral key drawn (R536). -/
def State.kxNew (t : State) (c v : Nat) : Kx :=
  ⟨c, v / 256, v % 256, nextGen (t.el (Reg.KEY_GEN (v / 256))), t.now + t.el Reg.KX_LIFE * stSecond, t.free % 2 ^ 256, false, 0, 0⟩

/-- The state with the exchange open, but for its signature. -/
def State.kxOpened (t : State) (x : Kx) : State :=
  let s2 : State := State.drawn { t.eraseKx x.cid with key := { (t.eraseKx x.cid).key with
    kx := (t.eraseKx x.cid).key.kx ++ [x], lastKx := t.now } }
  (s2.put (Reg.KX_CTX x.cid) (kxContext x.hid x.alg x.gen t.now x.expiry)).put (Reg.KX_DEV_EPH x.cid)
    (Config.p256Public x.eph % 2 ^ 264)

/-- The signature under K0, and its count. -/
def State.kxSignedBy (t : State) (c : Nat) : State :=
  let x := t.signK0 (t.kxSigned c)
  (x.1.put (Reg.KX_SIG_R c) x.2.1).put (Reg.KX_SIG_S c) x.2.2

section
variable {t : State} {c v : Nat}

theorem State.kxStart_conflict (h : t.entropyBad = true ∨ (t.key.lastKx ≠ 0 ∧ t.now < t.key.lastKx + stSecond)) :
    t.kxStart c v = (t, .conflict 3) := by
  unfold State.kxStart
  dsimp only
  rcases h with h | h
  · rw [if_pos h]
  · by_cases hb : t.entropyBad = true
    · rw [if_pos hb]
    · rw [if_neg hb, if_pos h]

theorem State.kxStart_opens (he : t.entropyBad = false) (hl : t.key.lastKx = 0 ∨ t.key.lastKx + stSecond ≤ t.now)
    (hk : t.el Reg.K0_USES < 2 ^ 32 - 1) (hc : t.rep.lostCopies.getD 0 0 < 2) :
    t.kxStart c v = ((t.kxOpened (t.kxNew c v)).kxSignedBy c, .ok) := by
  have hwait : ¬ (t.key.lastKx ≠ 0 ∧ t.now < t.key.lastKx + stSecond) := by omega
  unfold State.kxStart
  dsimp only
  have hgen : (t.eraseKx c).el (Reg.KEY_GEN (v / 256)) = t.el (Reg.KEY_GEN (v / 256)) :=
    t.el_eraseKx_ne (by unfold Reg.KEY_GEN Reg.KX_DEV_EPH Reg.KX_PEER; omega)
  have hlife : (t.eraseKx c).el Reg.KX_LIFE = t.el Reg.KX_LIFE :=
    t.el_eraseKx_ne (by unfold Reg.KX_LIFE Reg.KX_DEV_EPH Reg.KX_PEER; omega)
  rw [if_neg (by simp [he]), if_neg hwait, if_neg (Nat.ne_of_lt hk), if_neg (Nat.not_le.mpr hc), hgen, hlife]
  rfl

theorem State.el_kxOpened_ne {x : Kx} {a : Nat} (h : a % 256 < 0x91 ∨ 0x95 < a % 256) : (t.kxOpened x).el a = t.el a := by
  refine (State.el_put_ne _ _ ?_).trans ((State.el_put_ne _ _ ?_).trans (t.el_eraseKx_ne ?_))
  · unfold Reg.KX_DEV_EPH; omega
  · unfold Reg.KX_CTX; omega
  · unfold Reg.KX_DEV_EPH Reg.KX_PEER; omega

theorem State.el_kxSignedBy_ne {a : Nat} (h1 : a ≠ Reg.KX_SIG_S c) (h2 : a ≠ Reg.KX_SIG_R c) (h3 : a ≠ Reg.K0_USES) :
    (t.kxSignedBy c).el a = t.el a :=
  (State.el_put_ne _ _ h1).trans ((State.el_put_ne _ _ h2).trans ((State.el_put_ne _ _ h3).trans rfl))

end

@[simp] theorem State.eraseKx_exch (s : State) (c : Nat) : (s.eraseKx c).exch = s.exch := rfl
@[simp] theorem State.eraseKx_now (s : State) (c : Nat) : (s.eraseKx c).now = s.now := rfl

@[simp] theorem State.kxSignedBy_exch (t : State) (c : Nat) : (t.kxSignedBy c).exch = t.exch := by
  simp [State.kxSignedBy, State.signK0]
@[simp] theorem State.kxSignedBy_key (t : State) (c : Nat) : (t.kxSignedBy c).key = t.key := by
  simp [State.kxSignedBy, State.signK0]
@[simp] theorem State.kxOpened_exch (t : State) (x : Kx) : (t.kxOpened x).exch = t.exch :=
  (State.put_exch _ _ _).trans (State.put_exch _ _ _)

section
variable {t u : State} {x : Kx} (hu : u = (t.kxOpened x).kxSignedBy x.cid)
include hu

theorem State.kxOf_opened : u.kxOf x.cid = some x := by
  have hnone : (t.key.kx.filter (fun k => k.cid != x.cid)).find? (fun k => k.cid == x.cid) = none := by
    simp [List.find?_eq_none]
  rw [hu, State.kxOf, State.kxSignedBy_key]
  change List.find? _ (t.key.kx.filter (fun k => k.cid != x.cid) ++ [x]) = _
  rw [List.find?_append, hnone, List.find?_cons_of_pos (by simp)]
  rfl

theorem State.el_opened_ctx : u.el (Reg.KX_CTX x.cid) = kxContext x.hid x.alg x.gen t.now x.expiry := by
  rw [hu, State.el_kxSignedBy_ne, State.kxOpened, State.el_put_ne, State.el_put_same] <;>
    simp only [Reg.KX_SIG_S, Reg.KX_SIG_R, Reg.K0_USES, Reg.KX_CTX, Reg.KX_DEV_EPH] <;> omega

theorem State.el_opened_point : u.el (Reg.KX_DEV_EPH x.cid) = Config.p256Public x.eph % 2 ^ 264 := by
  rw [hu, State.el_kxSignedBy_ne, State.kxOpened, State.el_put_same] <;>
    simp only [Reg.KX_SIG_S, Reg.KX_SIG_R, Reg.K0_USES, Reg.KX_DEV_EPH] <;> omega

/-- What is signed does not hang on the signature's own registers. -/
theorem State.kxSigned_opened : u.kxSigned x.cid = (t.kxOpened x).kxSigned x.cid := by
  unfold State.kxSigned State.devUid
  rw [hu, State.el_kxSignedBy_ne, State.el_kxSignedBy_ne, State.el_kxSignedBy_ne] <;>
    simp only [Reg.KX_SIG_S, Reg.KX_SIG_R, Reg.K0_USES, Reg.KX_CTX, Reg.KX_DEV_EPH, Reg.DEV_UID] <;> omega

theorem State.el_opened_signature :
    u.el (Reg.KX_SIG_R x.cid) =
      (Config.ecdsaSign Config.identityKey (Config.sha256 (u.kxSigned x.cid)) (t.kxOpened x).free).1 % 2 ^ 256 ∧
    u.el (Reg.KX_SIG_S x.cid) =
      (Config.ecdsaSign Config.identityKey (Config.sha256 (u.kxSigned x.cid)) (t.kxOpened x).free).2 % 2 ^ 256 := by
  rw [State.kxSigned_opened hu, hu, State.kxSignedBy, State.el_put_same, State.el_put_ne, State.el_put_same, State.signK0]
  · exact ⟨rfl, rfl⟩
  · unfold Reg.KX_SIG_R Reg.KX_SIG_S; omega

theorem State.el_opened_uses (hk : t.el Reg.K0_USES < 2 ^ 32 - 1) : u.el Reg.K0_USES = t.el Reg.K0_USES + 1 := by
  have huses : (t.kxOpened x).el Reg.K0_USES = t.el Reg.K0_USES := State.el_kxOpened_ne (.inl (by decide))
  rw [hu, State.kxSignedBy, State.el_put_ne, State.el_put_ne, State.signK0, State.el_inc, if_pos rfl, State.el_drawn, huses]
  · omega
  · unfold Reg.K0_USES Reg.KX_SIG_R; omega
  · unfold Reg.K0_USES Reg.KX_SIG_S; omega

end

/-- A start that is taken: what it opens, and what its registers read (R536). -/
theorem State.kxStart_done {t : State} {c v : Nat} (he : t.entropyBad = false)
    (hl : t.key.lastKx = 0 ∨ t.key.lastKx + stSecond ≤ t.now) (hk : t.el Reg.K0_USES < 2 ^ 32 - 1)
    (hc : t.rep.lostCopies.getD 0 0 < 2) : ∃ (u : State) (e n : Nat), t.kxStart c v = (u, .ok) ∧ u.exch = t.exch ∧
    u.key.lastKx = t.now ∧
    u.kxOf c = some ⟨c, v / 256, v % 256, nextGen (t.el (Reg.KEY_GEN (v / 256))),
      t.now + t.el Reg.KX_LIFE * stSecond, e, false, 0, 0⟩ ∧
    u.el (Reg.KX_CTX c) = kxContext (v / 256) (v % 256) (nextGen (t.el (Reg.KEY_GEN (v / 256)))) t.now
      (t.now + t.el Reg.KX_LIFE * stSecond) ∧
    u.el (Reg.KX_DEV_EPH c) = Config.p256Public e % 2 ^ 264 ∧
    u.el (Reg.KX_SIG_R c) = (Config.ecdsaSign Config.identityKey (Config.sha256 (u.kxSigned c)) n).1 % 2 ^ 256 ∧
    u.el (Reg.KX_SIG_S c) = (Config.ecdsaSign Config.identityKey (Config.sha256 (u.kxSigned c)) n).2 % 2 ^ 256 ∧
    u.el Reg.K0_USES = t.el Reg.K0_USES + 1 := by
  have hx : (t.kxNew c v).cid = c := rfl
  obtain ⟨hr, hs⟩ := State.el_opened_signature (t := t) (x := t.kxNew c v) rfl
  refine ⟨_, (t.kxNew c v).eph, (t.kxOpened (t.kxNew c v)).free, State.kxStart_opens he hl hk hc, by simp, ?_,
    State.kxOf_opened rfl, State.el_opened_ctx rfl, State.el_opened_point rfl, hr, hs, State.el_opened_uses rfl hk⟩
  rw [State.kxSignedBy_key]
  rfl

/-- Settles O40: the refusal of the rights, and the effect of a write that is let through. -/
theorem keyExchangeStarts : Obligations.KeyExchangeStarts := by
  intro r s t w b v c ha hv hc hb
  subst hv hb
  rw [hc]
  clear hc c
  have hm : (rowAddr r.addr == 0x400090) = true := by simpa using ha
  refine ⟨fun hacc hv hmay => ?_, fun hl hmay => ⟨fun hc => ?_, fun he hlast hk hcopies => ?_⟩⟩
  · rw [exec_kxStartWrite, execKxStartWrite, State.rightsWrite_refused hm hacc hv hmay]
  · rw [exec_kxStartWrite, execKxStartWrite, State.rightsWrite_answers hl hm hmay (State.kxStart_conflict hc) rfl (by decide)]
  · obtain ⟨u, e, n, hs, hexch, hshows⟩ := State.kxStart_done (c := cidOfAddr r.addr) he hlast hk hcopies
    refine ⟨u, e, n, ?_, hshows⟩
    exact congrArg Outcome.next (State.rightsWrite_answers hl hm hmay hs hexch (by decide))

/-! ### The peer's point (R538) -/

section
variable {t : State} {c v : Nat} {k : Kx}

theorem State.kxPeer_again (hk : t.kxOf c = some k) (hp : k.peerDone = true) : t.kxPeer c v = (t, .conflict 3) := by
  simp [State.kxPeer, hk, hp]

theorem State.kxPeer_off (hk : t.kxOf c = some k) (hp : k.peerDone = false) (hz : Config.p256Shared k.eph v = none) :
    t.kxPeer c v = (t, .range 2 0) := by
  simp [State.kxPeer, hk, hp, hz]

/-- The exchanges with the one of a client given its peer's keys. -/
def kxShared (l : List Kx) (c : Nat) (b : Bytes) : List Kx :=
  l.map (fun x => if x.cid = c then { x with peerDone := true, w := bytesToNum (b.take 32), m := bytesToNum (b.drop 32) } else x)

theorem State.kxPeer_on {z : Nat} {b : Bytes} (hk : t.kxOf c = some k) (hp : k.peerDone = false)
    (hz : Config.p256Shared k.eph v = some z) (hb : b = (t.put (Reg.KX_PEER c) v).kxKeys c z) :
    t.kxPeer c v = ({ t.put (Reg.KX_PEER c) v with key := { t.key with kx := kxShared t.key.kx c b } }, .ok) := by
  subst hb
  simp [State.kxPeer, hk, hp, hz, kxShared]

theorem find?_kxShared {l : List Kx} (b : Bytes) (h : l.find? (fun x => x.cid == c) = some k) :
    (kxShared l c b).find? (fun x => x.cid == c) =
      some { k with peerDone := true, w := bytesToNum (b.take 32), m := bytesToNum (b.drop 32) } := by
  have hcid : k.cid = c := by simpa using List.find?_some h
  have hsame : (fun x : Kx => x.cid == c) ∘ (fun x : Kx => if x.cid = c then
      { x with peerDone := true, w := bytesToNum (b.take 32), m := bytesToNum (b.drop 32) } else x) = fun x => x.cid == c := by
    funext x
    simp only [Function.comp_apply]
    split <;> rfl
  rw [kxShared, List.find?_map, hsame, h, Option.map_some, if_pos hcid]

end

theorem State.kxPeer_done {t : State} {c v z : Nat} {k : Kx} {b : Bytes} (hk : t.kxOf c = some k) (hp : k.peerDone = false)
    (hz : Config.p256Shared k.eph v = some z)
    (hb : b = hkdf t.devUid (numToBytes 32 z) (ascii "MALNAN-K" ++ numToBytes 22 (t.el (Reg.KX_CTX c))) 64) :
    ∃ u : State, t.kxPeer c v = (u, .ok) ∧ u.exch = t.exch ∧ u.el (Reg.KX_PEER c) = v ∧
      (∀ a, a ≠ Reg.KX_PEER c → u.el a = t.el a) ∧
      u.kxOf c = some { k with peerDone := true, w := bytesToNum (b.take 32), m := bytesToNum (b.drop 32) } := by
  have hkeys : b = (t.put (Reg.KX_PEER c) v).kxKeys c z := by
    unfold State.kxKeys State.devUid
    rw [State.el_put_ne, State.el_put_ne]
    · exact hb
    · unfold Reg.KX_CTX Reg.KX_PEER; omega
    · unfold Reg.DEV_UID Reg.KX_PEER; omega
  exact ⟨_, State.kxPeer_on hk hp hz hkeys, rfl, State.el_put_same _ _ _, fun a ha => State.el_put_ne _ _ ha,
    find?_kxShared b hk⟩

/-! ### A ZEROIZE by request (R546, R547) -/

@[simp] theorem State.el_rekeyed (s : State) (a : Nat) : s.rekeyed.el a = s.el a := rfl

theorem State.el_slotsErased_client (s : State) {a : Nat} (h1 : 0x400000 ≤ a) (h2 : a < 0x500000)
    (hlow : a % 256 < 0x91 ∨ 0x95 < a % 256) : s.slotsErased.rekeyed.el a = s.el a := by
  rw [State.el_rekeyed, State.slotsErased, State.setProv, State.el_put_ne, (State.foldl_emptySlot_rest _ _).2.2 a h2,
    State.el_foldl_eraseKx_ne _ _ hlow]
  · rfl
  · unfold Reg.PROV_STATE; omega

theorem State.el_sessionLoss_client (s : State) {a : Nat} (h1 : 0x400000 ≤ a) (h33 : a % 256 ≠ 0x33) (h34 : a % 256 ≠ 0x34) :
    s.sessionLoss.el a = s.el a := by
  refine (State.el_put_ne _ _ ?_).trans ((State.el_put_ne _ _ ?_).trans ((s.el_dropEls _ a).trans (if_neg ?_)))
  · unfold Reg.AUTH_EPOCH_N; omega
  · unfold Reg.AUTH_EPOCH; omega
  · simp [h33, h34]

/-- After a zeroize the client's binding stands. -/
theorem State.hidOf_zeroize (s : State) (cause source cid : Nat) {c : Nat} (hc : c < 1024) :
    (s.zeroize cause source cid).hidOf c = s.hidOf c := by
  obtain ⟨g, hz⟩ := s.zeroize_eq cause source cid
  change s.zeroize cause source cid = s.slotsErased.rekeyed.requestsEnded.zeroizeTold cause source g at hz
  have hlow : Reg.CID_BIND c % 256 = 1 ∧ 0x400000 ≤ Reg.CID_BIND c ∧ Reg.CID_BIND c < 0x500000 := by
    unfold Reg.CID_BIND; omega
  obtain ⟨h1, hge, hlt⟩ := hlow
  unfold State.hidOf
  rw [hz, State.el_zeroizeTold _ _ _ _ (by omega) (by omega) (by omega) (by unfold Reg.ZEROIZE_COUNT; omega)
      (by unfold Reg.ZEROIZE_DONE; omega), if_neg (by unfold Reg.ZEROIZE_LAST; omega),
    State.el_sessionLoss_client _ hge (by omega) (by omega), (State.requestsEnded_only _).el _ (by omega),
    State.el_slotsErased_client _ hge hlt (by omega)]

/-- No reply leaves under a key that is erased. -/
theorem State.replyKey_zeroize (s : State) (cause source cid gen : Nat) {c : Nat} (hc : c < 1024) (hh : s.hidOf c < 64) :
    (s.zeroize cause source cid).replyKey c gen = none := by
  obtain ⟨hslot, -, hcopies, -⟩ := Machine.zeroize cause source cid s _ rfl
  have hst := (hslot _ hh).1
  simp [State.replyKey, State.hidOf_zeroize s cause source cid hc, hst, hcopies]

theorem State.sendReply_unkeyed {s : State} {x : Reply} {g : Nat} (hg : x.gen = some g)
    (hk : s.replyKey x.cid g = none) : s.sendReply x = s := by
  simp only [State.sendReply, hg, hk]

theorem State.replyKey_keepReply (s : State) (r : Req) (x : Reply) (l : Option Nat) (c g : Nat) :
    (s.keepReply r x l).replyKey c g = s.replyKey c g := rfl

theorem State.replyAs_unkeyed {s : State} {r : Req} (hz : r.zeroTrailer = false)
    (hk : s.replyKey r.cid r.tr.gen = none) (op : Nat) (ring : Bool) (st : Stat) (b : Bytes) : s.replyAs r op ring st b = s := by
  have hgen : replyGen r = some r.tr.gen := by simp [replyGen, hz]
  unfold State.replyAs
  split
  · rfl
  · exact State.sendReply_unkeyed (x := replyOf r op ring st b (replyGen r)) hgen hk

/-- A response whose key is gone is not sent. -/
theorem State.finish_out_unkeyed {u : State} {r : Req} (hz : r.zeroTrailer = false) (hk : u.replyKey r.cid r.tr.gen = none) :
    (u.finish r 2 .q .ok []).out = u.out := by
  unfold State.finish
  split
  · rfl
  · rw [if_neg (by decide), State.answer, State.reply,
      State.replyAs_unkeyed hz ((u.replyKey_keepReply r _ none r.cid r.tr.gen).trans hk)]
    rfl

/-- Settles O41: the peer's point, the expiry, ZEROIZE, the entropy source and SC's table, in turn. -/
theorem keyEvents : Obligations.KeyEvents := by
  refine ⟨?_, ?_, ?_, ?_, ?_, ?_⟩
  · intro r s t w v c ha hv hc
    subst hv
    rw [hc]
    clear hc c
    have hm : (rowAddr r.addr == 0x400095) = true := by simpa using ha
    refine ⟨fun hacc hv hn => ?_, fun k hl hk => ?_⟩
    · rw [exec_kxPeerWrite, execKxPeerWrite, State.rightsWrite_refused hm hacc hv (by simp [hn])]
    · have hr : (t.kxOf (cidOfAddr r.addr)).isSome = true := by simp [hk]
      refine ⟨fun hp => ?_, fun hp hz => ?_, fun z b hp hz hb => ?_⟩
      · exact congrArg Outcome.next (State.rightsWrite_answers hl hm hr (State.kxPeer_again hk hp) rfl (by decide))
      · exact congrArg Outcome.next (State.rightsWrite_answers hl hm hr (State.kxPeer_off hk hp hz) rfl (by decide))
      · obtain ⟨u, hu, hexch, hshows⟩ := State.kxPeer_done hk hp hz hb
        exact ⟨u, congrArg Outcome.next (State.rightsWrite_answers hl hm hr hu hexch (by decide)), hshows⟩
  · intro c k s hk
    exact ⟨by simp [exec_kxExpiry, execKxExpiry, hk], State.kxOf_eraseKx _ c⟩
  · rintro r s t u w ha hl rfl
    have hm : (r.addr == Reg.ZEROIZE) = true := by simpa using ha
    refine ⟨fun hv => ⟨?_, fun hz hg hh => ?_⟩, fun hv => ?_⟩
    · rw [exec_zeroizeWrite, execZeroizeWrite, State.ownWrite_let hl hm, if_pos hv]
    · exact State.finish_out_unkeyed hz (State.replyKey_zeroize t 3 0xFF w.cid r.tr.gen (Nat.mod_lt _ (by decide)) hh)
    · refine congrArg Outcome.next (State.ownWrite_answers hl hm ?_ rfl (by decide))
      rw [if_neg hv]
  · intro s hr he
    simp [exec_entropyFault, execEntropyFault, hr, he]
  · intro s he
    simp [exec_entropyFault, execEntropyFault, he]
  · intro s hr
    simp [exec_keyTableRebuilt, execKeyTableRebuilt, hr]

end Sys2Proof.Machine
end

section
/-! SUPPORT. The sequencer's operations: what a change of an output leaves alone, and what an output reads after it. -/
namespace Sys2Proof.Machine
open Host

/-! ### What the sequencer leaves alone (chapter 16) -/

/-- From s to t the outputs have changed, and what reports of it: not the configuration of rails and switches, not FLT_N. -/
structure State.Sequences (s t : State) : Prop where
  cfg : ∀ a, 0x1C0100 ≤ a → a < 0x1C0800 → t.el a = s.el a
  line : { t.rail with outs := s.rail.outs } = s.rail
  rest : Reports { s with rail := t.rail } t

theorem State.Sequences.refl (s : State) : s.Sequences s := ⟨fun _ _ _ => rfl, rfl, rfl⟩

theorem State.Sequences.trans {s t u : State} (h : s.Sequences t) (k : t.Sequences u) : s.Sequences u where
  cfg a h1 h2 := (k.cfg a h1 h2).trans (h.cfg a h1 h2)
  line := (congrArg (fun r : RailSt => { r with outs := s.rail.outs }) k.line).trans h.line
  rest := by
    have hu : u.unreported t = { t with rail := u.rail } := k.rest
    have ht : t.unreported s = { s with rail := t.rail } := h.rest
    calc u.unreported s = (u.unreported t).unreported s := rfl
      _ = { t.unreported s with rail := u.rail } := by rw [hu]; rfl
      _ = { s with rail := u.rail } := by rw [ht]

theorem State.Sequences.foldl {α : Type} {f : State → α → State} (hf : ∀ (t : State) x, t.Sequences (f t x)) (l : List α)
    (s : State) : s.Sequences (l.foldl f s) :=
  List.foldlRecOn l f (motive := s.Sequences) (.refl s) fun t ht x _ => ht.trans (hf t x)

theorem State.Sequences.fltLow {s t : State} (h : s.Sequences t) : t.rail.fltLow = s.rail.fltLow :=
  (congrArg RailSt.fltLow h.line :)
theorem State.Sequences.driving {s t : State} (h : s.Sequences t) : t.rail.driving = s.rail.driving :=
  (congrArg RailSt.driving h.line :)
theorem State.Sequences.clk {s t : State} (h : s.Sequences t) : t.clk = s.clk := (congrArg State.clk h.rest :)
theorem State.Sequences.arb {s t : State} (h : s.Sequences t) : t.arb = s.arb := (congrArg State.arb h.rest :)

theorem State.Sequences.joined {s t : State} (h : s.Sequences t) {o : Nat} (ho : o < 14) : t.joined o = s.joined o := by
  unfold State.joined
  rw [h.cfg (Reg.RAIL_CFG o) (by unfold Reg.RAIL_CFG; omega) (by unfold Reg.RAIL_CFG; omega),
    h.cfg (Reg.LSW_CFG (o - 8)) (by unfold Reg.LSW_CFG; omega) (by unfold Reg.LSW_CFG; omega)]

theorem State.setOut_sequences (s : State) (o : Nat) (f : Output → Output) : s.Sequences (s.setOut o f) :=
  ⟨fun _ _ _ => rfl, rfl, rfl⟩

/-- From s to t something is told: the configuration and the outputs stand. -/
structure State.Tells (s t : State) : Prop where
  cfg : ∀ a, 0x1C0100 ≤ a → a < 0x1C0800 → t.el a = s.el a
  rest : Reports s t

theorem State.Tells.refl (s : State) : s.Tells s := ⟨fun _ _ _ => rfl, .refl s⟩

theorem State.Tells.trans {s t u : State} (h : s.Tells t) (k : t.Tells u) : s.Tells u :=
  ⟨fun a h1 h2 => (k.cfg a h1 h2).trans (h.cfg a h1 h2), h.rest.trans k.rest⟩

theorem State.Tells.foldl {α : Type} {f : State → α → State} (hf : ∀ (t : State) x, t.Tells (f t x)) (l : List α)
    (s : State) : s.Tells (l.foldl f s) :=
  List.foldlRecOn l f (motive := s.Tells) (.refl s) fun t ht x _ => ht.trans (hf t x)

theorem State.Tells.rail {s t : State} (h : s.Tells t) : t.rail = s.rail := h.rest.rail

theorem State.Tells.sequences {s t : State} (h : s.Tells t) : s.Sequences t where
  cfg := h.cfg
  line := by rw [h.rail]
  rest := by
    have hr : t.unreported s = s := h.rest
    rw [h.rail]
    exact hr

theorem State.record_tells (s : State) (n : NewRec) : s.Tells (s.record n) where
  cfg a h1 h2 := s.el_record_ne n fun hm => by
    simp only [recordEls, List.mem_cons, List.not_mem_nil, or_false, Reg.REC_OVERRUNS, Reg.EVT_LOST, Reg.REC_OVERRUN_ALL,
      Reg.REC_LOW, Reg.RING_WAITS, Reg.CH_ABANDON, Reg.ISL_STATE] at hm
    omega
  rest := s.record_reports n

theorem State.put_tells (s : State) {a : Nat} (v : Nat) (h : a < 0x1C0100 ∨ 0x1C0800 ≤ a) : s.Tells (s.put a v) :=
  ⟨fun b h1 h2 => s.el_put_ne v (by omega), rfl⟩

/-- A station record of an event in PW, whether its channel takes it or not. -/
theorem State.powerEvent_tells (s : State) (src kind detail : Nat) : s.Tells (s.powerEvent src kind detail) := by
  unfold State.powerEvent State.over
  split
  · exact s.put_tells _ (.inr (by decide))
  · exact s.record_tells _

theorem State.railRecord_tells (s : State) (kind detail : Nat) : s.Tells (s.railRecord kind detail) :=
  s.powerEvent_tells 48 kind detail

theorem State.outClientRecords_tells (s : State) (o kind : Nat) : s.Tells (s.outClientRecords o kind) :=
  .foldl (fun t _ => t.record_tells _) _ s

theorem State.marginsOff_tells (s : State) (r : Nat) : s.Tells (s.marginsOff r) :=
  .foldl (fun t m => by
    split
    · exact t.put_tells 0 (.inr (by unfold Reg.MARG_NOW; omega))
    · exact .refl t) _ s

/-- An output with a new state and cause. -/
def Output.gone (x : Output) (st cause : Nat) (f : Output → Output) : Output :=
  { f x with state := st, cause := cause, upPassed := false }

/-- What follows the change of an output itself: its records, and its margin outputs. -/
theorem State.outGo_tells (s : State) (o st cause : Nat) (f : Output → Output) :
    (s.setOut o (fun x => x.gone st cause f)).Tells (s.outGo o st cause f) := by
  have h1 := (s.setOut o (fun x => x.gone st cause f)).railRecord_tells 1 (o * 4096 + st * 256 + cause)
  unfold State.outGo
  dsimp only
  have h2 : (s.setOut o (fun x => x.gone st cause f)).Tells
      (if st = oOn ∧ (s.outp o).state ≠ oWaitDown then
        ((s.setOut o (fun x => x.gone st cause f)).railRecord 1 (o * 4096 + st * 256 + cause)).outClientRecords o 0x0A
      else if cause ≠ 0 ∧ cause ≠ 4 ∧ ((s.outp o).state = oOn ∨ (s.outp o).state = oRamp ∨ (s.outp o).state = oWaitUp) then
        ((s.setOut o (fun x => x.gone st cause f)).railRecord 1 (o * 4096 + st * 256 + cause)).outClientRecords o 0x0B
      else (s.setOut o (fun x => x.gone st cause f)).railRecord 1 (o * 4096 + st * 256 + cause)) := by
    split
    · exact h1.trans (State.outClientRecords_tells _ _ _)
    · split
      · exact h1.trans (State.outClientRecords_tells _ _ _)
      · exact h1
  split
  · exact h2.trans (State.marginsOff_tells _ _)
  · exact h2

theorem State.outGo_sequences (s : State) (o st cause : Nat) (f : Output → Output) : s.Sequences (s.outGo o st cause f) :=
  (s.setOut_sequences o _).trans (s.outGo_tells o st cause f).sequences

/-- The change that a transition makes of output o: none, one of the output's own fields, or one of its state. -/
inductive State.Turns (s : State) (o : Nat) : State → Prop
  | stays : s.Turns o s
  | set (f : Output → Output) : s.Turns o (s.setOut o f)
  | goes (st cause : Nat) (f : Output → Output) : s.Turns o (s.outGo o st cause f)

theorem State.Turns.ite {s a b : State} {o : Nat} {c : Prop} [Decidable c] (ha : s.Turns o a) (hb : s.Turns o b) :
    s.Turns o (if c then a else b) := by
  split
  · exact ha
  · exact hb

/-- Table: Rail transitions; every row is such a change. -/
theorem State.settleOut_turns (s : State) (o : Nat) : s.Turns o (s.settleOut o) :=
  .ite
    (.ite (.goes ..) (.ite (.set _) (.ite (.goes ..) (.ite (.goes ..) (.ite (.goes ..) (.ite (.goes ..) (.ite (.set _)
      (.ite (.goes ..) (.ite (.goes ..) .stays)))))))))
    (.ite (.goes ..) (.ite (.goes ..) (.ite (.goes ..) (.ite (.goes ..) (.ite (.goes ..) .stays)))))

theorem State.Turns.sequences {s t : State} {o : Nat} (h : s.Turns o t) : s.Sequences t := by
  cases h with
  | stays => exact .refl s
  | set f => exact s.setOut_sequences o f
  | goes st cause f => exact s.outGo_sequences o st cause f

/-! ### What an output reads -/

theorem State.outp_setOut (s : State) (o p : Nat) (f : Output → Output) :
    (s.setOut o f).outp p = if p = o ∧ o < s.rail.outs.length then f (s.outp o) else s.outp p := by
  simp only [State.outp, State.setOut, List.getD_eq_getElem?_getD, List.getElem?_modify]
  by_cases hp : p = o
  · subst hp
    by_cases hlen : p < s.rail.outs.length
    · simp [hlen]
    · simp [hlen]
  · simp [hp, Ne.symm hp]

theorem State.Tells.outp {s t : State} (h : s.Tells t) (p : Nat) : t.outp p = s.outp p := by
  unfold State.outp; rw [h.rail]

theorem State.outp_outGo (s : State) (o p st cause : Nat) (f : Output → Output) :
    (s.outGo o st cause f).outp p =
      if p = o ∧ o < s.rail.outs.length then (s.outp o).gone st cause f else s.outp p := by
  rw [(s.outGo_tells o st cause f).outp, State.outp_setOut]

/-- An output that has ever been used has its place. -/
theorem State.lt_of_outp_state {s : State} {o : Nat} (h : (s.outp o).state ≠ oOff) : o < s.rail.outs.length := by
  by_contra hge
  exact h (by simp [State.outp, List.getD_eq_getElem?_getD, List.getElem?_eq_none (Nat.not_lt.mp hge), Output.idle])

/-- The transition of an output leaves the others as they were. -/
theorem State.Turns.outp_ne {s t : State} {o p : Nat} (h : s.Turns o t) (hp : p ≠ o) : t.outp p = s.outp p := by
  cases h with
  | stays => rfl
  | set f => rw [State.outp_setOut, if_neg (by simp [hp])]
  | goes st cause f => rw [State.outp_outGo, if_neg (by simp [hp])]

/-! ### Under a fault-down (R602 to R604) -/

/-- Output o is joined, and FLT_N reads low. -/
def State.HeldDown (s : State) (o : Nat) : Prop := s.rail.fltLow = true ∧ s.joined o = true

theorem State.Sequences.heldDown {s t : State} (h : s.Sequences t) {o : Nat} (ho : o < 14) (hd : s.HeldDown o) :
    t.HeldDown o := ⟨h.fltLow.trans hd.1, (h.joined ho).trans hd.2⟩

/-- Neither on nor on its way up. -/
def Output.down (o : Nat) (x : Output) : Prop := x.state ≠ oRamp ∧ x.state ≠ oOn ∧ (o < 8 → x.state ≠ oWaitUp)

theorem Output.gone_down {x : Output} {o st cause : Nat} {f : Output → Output} (h : st ≠ oRamp ∧ st ≠ oOn ∧ st ≠ oWaitUp) :
    (x.gone st cause f).down o := ⟨h.1, h.2.1, fun _ => h.2.2⟩

theorem State.outp_setOut_state {s : State} {o p : Nat} {f : Output → Output} (hf : ∀ x, (f x).state = x.state) :
    ((s.setOut o f).outp p).state = (s.outp p).state := by
  rw [State.outp_setOut]
  split
  next h => rw [hf, h.1]
  next => rfl

/-- A joined output that is going up is turned: a rail waits to go down, a switch is held. -/
theorem State.settleOut_turned {s : State} {o : Nat} (hd : s.HeldDown o) (h : ¬ (s.outp o).down o) :
    ((s.settleOut o).outp o).down o := by
  obtain ⟨hf, hj⟩ := hd
  have hup : (s.outp o).state = oRamp ∨ (s.outp o).state = oOn ∨ (o < 8 ∧ (s.outp o).state = oWaitUp) := by
    unfold Output.down at h
    omega
  have hlen : o < s.rail.outs.length := State.lt_of_outp_state fun h0 => by simp [h0] at hup
  by_cases h8 : o < 8
  · have hst : (s.outp o).state = oRamp ∨ (s.outp o).state = oOn ∨ (s.outp o).state = oWaitUp := by simpa [h8] using hup
    simp only [State.settleOut, h8, hst, hf, hj, if_true, Bool.and_self, true_or, and_self]
    rw [State.outp_outGo, if_pos ⟨rfl, hlen⟩]
    exact Output.gone_down (by decide)
  · have hst : (s.outp o).state = oRamp ∨ (s.outp o).state = oOn := by simpa [h8] using hup
    simp only [State.settleOut, h8, hst, hf, hj, if_true, if_false, Bool.and_self, and_self]
    rw [State.outp_outGo, if_pos ⟨rfl, hlen⟩]
    exact Output.gone_down (by decide)

/-- A joined output that is not going up keeps its state: no row takes it up while FLT_N reads low. -/
theorem State.settleOut_stays {s : State} {o : Nat} (hd : s.HeldDown o) (h : (s.outp o).down o) :
    ((s.settleOut o).outp o).state = (s.outp o).state := by
  obtain ⟨hf, hj⟩ := hd
  obtain ⟨hr, hon, hw⟩ := h
  by_cases h8 : o < 8
  · simp only [State.settleOut, h8, hr, hon, hw h8, hf, hj, if_true, Bool.and_self, true_or, Bool.not_true, or_self, false_and,
      and_false, if_false, Bool.false_eq_true, and_true]
    by_cases hdown : (s.outp o).state = oWaitDown ∧ (!(s.outp o).faultDown) = true
    · rw [if_pos hdown]
      exact State.outp_setOut_state fun _ => rfl
    · rw [if_neg hdown, if_neg fun h => hdown ⟨h.1, h.2.1⟩]
      split
      · exact State.outp_setOut_state fun _ => rfl
      · rfl
  · simp [State.settleOut, h8, hr, hon, hf, hj]

theorem State.settleOut_isDown {s : State} {o : Nat} (hd : s.HeldDown o) : ((s.settleOut o).outp o).down o := by
  by_cases h : (s.outp o).down o
  · unfold Output.down
    rw [State.settleOut_stays hd h]
    exact h
  · exact State.settleOut_turned hd h

/-- What every transition keeps a pass over outputs keeps. -/
theorem State.foldl_settleOut {p : State → Prop} (hk : ∀ t q, p t → p (t.settleOut q)) (l : List Nat) {s : State} (h : p s) :
    p (l.foldl State.settleOut s) :=
  List.foldlRecOn l _ h fun t ht q _ => hk t q ht

/-- And so does the settling of the sequencer. -/
theorem State.settle_of_settleOut {p : State → Prop} (hk : ∀ t q, p t → p (t.settleOut q)) {s : State} (h : p s) : p s.settle := by
  unfold State.settle
  split
  · exact List.foldlRecOn _ _ h fun t ht _ _ => State.foldl_settleOut hk _ ht
  · exact h

theorem State.settle_sequences (s : State) : s.Sequences s.settle :=
  State.settle_of_settleOut (p := s.Sequences) (fun t q ht => ht.trans (t.settleOut_turns q).sequences) (.refl s)

/-- Output o is held down, and is down. -/
def State.Downed (s : State) (o : Nat) : Prop := s.HeldDown o ∧ (s.outp o).down o

theorem State.HeldDown.settleOut {s : State} {o : Nat} (ho : o < 14) (hd : s.HeldDown o) (q : Nat) :
    (s.settleOut q).HeldDown o := (s.settleOut_turns q).sequences.heldDown ho hd

theorem State.Downed.settleOut {s : State} {o : Nat} (ho : o < 14) (h : s.Downed o) (q : Nat) : (s.settleOut q).Downed o := by
  refine ⟨h.1.settleOut ho q, ?_⟩
  by_cases hq : o = q
  · exact hq ▸ State.settleOut_isDown h.1
  · rw [(s.settleOut_turns q).outp_ne hq]
    exact h.2

/-- A pass that comes to an output held down takes it down. -/
theorem State.downed_of_pass {o : Nat} (ho : o < 14) (l : List Nat) (hl : o ∈ l) {s : State} (hd : s.HeldDown o) :
    (l.foldl State.settleOut s).Downed o := by
  induction l generalizing s with
  | nil => exact absurd hl List.not_mem_nil
  | cons q l ih =>
    rw [List.foldl_cons]
    by_cases hq : o = q
    · subst hq
      exact State.foldl_settleOut (p := fun t => t.Downed o) (fun t q ht => ht.settleOut ho q) l ⟨hd.settleOut ho o, State.settleOut_isDown hd⟩
    · exact ih ((List.mem_cons.mp hl).resolve_left hq) (hd.settleOut ho q)

theorem State.Downed.settlePass {o : Nat} (ho : o < 14) {s : State} (h : s.Downed o) : s.settlePass.Downed o :=
  State.foldl_settleOut (p := fun u => u.Downed o) (fun _ q hu => hu.settleOut ho q) _ h

theorem State.HeldDown.settlePass {o : Nat} (ho : o < 14) {s : State} (h : s.HeldDown o) : s.settlePass.Downed o :=
  State.downed_of_pass ho _ (List.mem_range.mpr ho) h

/-- Passes, of which there is at least one. -/
theorem State.downed_of_passes {o : Nat} (ho : o < 14) (k : Nat) (l : List Nat) {s : State} (hd : s.HeldDown o) :
    ((k :: l).foldl (fun t _ => t.settlePass) s).Downed o := by
  rw [List.foldl_cons]
  have h := hd.settlePass ho
  generalize s.settlePass = t at h
  induction l generalizing t with
  | nil => exact h
  | cons q l ih =>
    rw [List.foldl_cons]
    exact ih _ (h.settlePass ho)

/-- Settles O48: no transition takes a joined output up while FLT_N reads low, and the first pass takes down what is up. -/
theorem faultDown : Obligations.FaultDown := by
  refine ⟨fun s o hf ho hj _ hst => ?_, fun s o hr hf ho hj => ?_⟩
  · have hdown : (s.outp o).down o := by rcases hst with h | h | h <;> simp [Output.down, h]
    refine (State.settle_of_settleOut (p := fun t => t.Downed o ∧ (t.outp o).state = (s.outp o).state) ?_
      ⟨⟨⟨hf, hj⟩, hdown⟩, rfl⟩).2
    rintro t q ⟨hd, ht⟩
    refine ⟨hd.settleOut ho q, ?_⟩
    by_cases hq : o = q
    · rw [← hq, State.settleOut_stays hd.1 hd.2, ht]
    · rw [(t.settleOut_turns q).outp_ne hq, ht]
  · have hall : s.settle.Downed o := by
      rw [State.settle, if_pos hr]
      exact State.downed_of_passes ho 0 ((List.range 15).map Nat.succ) ⟨hf, hj⟩
    exact hall.2

end Sys2Proof.Machine
end

section
/-! SUPPORT. The meanings of the rail family: a rail's way up and down, its bands, FLT_N, and the retries. -/
namespace Sys2Proof.Machine
open Host

theorem exec_railBandCross (r : Fin 8) (b : Fin 4) (e : Bool) (mv : Nat) (s : State) :
    exec (.railBandCross r b e mv) s = execRailBandCross r b e mv s := rfl
theorem exec_upDelayExpiry (r : Fin 8) (s : State) : exec (.upDelayExpiry r) s = execUpDelayExpiry r s := rfl
theorem exec_railGood (r : Fin 8) (s : State) : exec (.railGood r) s = execRailGood r s := rfl
theorem exec_rampTimeout (r : Fin 8) (s : State) : exec (.rampTimeout r) s = execRampTimeout r s := rfl
theorem exec_downDelayExpiry (r : Fin 8) (s : State) : exec (.downDelayExpiry r) s = execDownDelayExpiry r s := rfl
theorem exec_railOffReached (r : Fin 8) (s : State) : exec (.railOffReached r) s = execRailOffReached r s := rfl
theorem exec_dischargeTimeout (r : Fin 8) (s : State) : exec (.dischargeTimeout r) s = execDischargeTimeout r s := rfl
theorem exec_fltNAsserted (s : State) : exec .fltNAsserted s = execFltNAsserted s := rfl
theorem exec_fltNRelease (h : Bool) (s : State) : exec (.fltNRelease h) s = execFltNRelease h s := rfl
theorem exec_fltNLineReleased (s : State) : exec .fltNLineReleased s = execFltNLineReleased s := rfl
theorem exec_fltHoldExpiry (c : Nat) (s : State) : exec (.fltHoldExpiry c) s = execFltHoldExpiry c s := rfl
theorem exec_seqClearWrite (r : Req) (s : State) : exec (.seqClearWrite r) s = execSeqClearWrite r s := rfl
theorem exec_retryRestore (o : Fin 14) (s : State) : exec (.retryRestore o) s = execRetryRestore o s := rfl

/-! ### The way up and down (R595, R596, R598) -/

section
variable {r : Fin 8} {s : State} (hr : s.runs .pw = true)
include hr

theorem upDelayExpiry_ramps (hw : (s.outp r).state = oWaitUp) (ht : s.twinRole = 0 ∨ bitOf s.twin.echo r = true) :
    exec (.upDelayExpiry r) s = .next (s.outGo r oRamp 0 (fun y => { y with below := false })).settle := by
  rw [exec_upDelayExpiry, execUpDelayExpiry]
  refine if_pos ⟨hr, hw, ?_⟩
  rcases ht with ht | ht <;> simp [ht]

theorem railGood_on (hw : (s.outp r).state = oRamp) : exec (.railGood r) s = .next (s.outGo r oOn 0 id).settle :=
  if_pos ⟨hr, hw⟩

theorem rampTimeout_faults (hw : (s.outp r).state = oRamp) : exec (.rampTimeout r) s = .next (s.enterFault r 3).settle :=
  if_pos ⟨hr, hw⟩

theorem downDelayExpiry_falls (hw : (s.outp r).state = oWaitDown) (ht : (s.outp r).turn = true) :
    exec (.downDelayExpiry r) s =
      .next (s.outGo r oFall (s.outp r).cause (fun y => { y with turn := false, below := false })).settle :=
  if_pos ⟨hr, hw, ht⟩

theorem railOffReached_ends (hw : (s.outp r).state = oFall ∨ (s.outp r).state = oStuck) :
    exec (.railOffReached r) s = .next (s.outGo r (if (s.outp r).faultDown then oHeld else oOff)
      (if (s.outp r).faultDown then (s.outp r).cause else 0) (fun y => { y with below := true })).settle := by
  rw [exec_railOffReached, execRailOffReached]
  simp only [hr, hw, Bool.not_true, Bool.false_eq_true, if_false, if_true]

theorem dischargeTimeout_sticks (hw : (s.outp r).state = oFall) :
    exec (.dischargeTimeout r) s = .next (s.outGo r oStuck 4 id).settle := if_pos ⟨hr, hw⟩

/-! ### The bands of a rail's monitor (R592, R593, R595) -/

theorem railBandCross_stands {b : Fin 4} {e : Bool} {mv : Nat}
    (hc : (s.put (Reg.RAIL_MV r) (mv % 65536)).crossesBand r b e mv = false) :
    exec (.railBandCross r b e mv) s = .next (s.put (Reg.RAIL_MV r) (mv % 65536)) := by
  rw [exec_railBandCross, execRailBandCross]
  simp only [hr, hc, Bool.not_true, Bool.not_false, Bool.false_eq_true, if_false, if_true]

/-- The monitor of an output with one band entered or left. -/
def Output.banded (b : Fin 4) (e : Bool) (y : Output) : Output :=
  { y with
    warnLo := if b = 0 then e else y.warnLo
    warnHi := if b = 1 then e else y.warnHi
    faultLo := if b = 2 then e else y.faultLo
    faultHi := if b = 3 then e else y.faultHi }

theorem railBandCross_crosses {b : Fin 4} {e : Bool} {mv : Nat} {t : State}
    (hc : (s.put (Reg.RAIL_MV r) (mv % 65536)).crossesBand r b e mv = true)
    (ht : t = (s.put (Reg.RAIL_MV r) (mv % 65536)).setOut r (Output.banded b e)) :
    exec (.railBandCross r b e mv) s =
      if b = 0 ∨ b = 1 then .next (t.railRecord 2 (r * 4096 + (if b = 1 then 2 else 0) + (if e then 1 else 0)))
      else if e ∧ b = 3 ∧ ((s.outp r).state = oRamp ∨ (s.outp r).state = oOn) then .next (t.enterFault r 1).settle
      else if e ∧ b = 2 ∧ (s.outp r).state = oOn then .next (t.enterFault r 2).settle
      else .next t := by
  subst ht
  rw [exec_railBandCross, execRailBandCross]
  simp only [hr, hc, Bool.not_true, Bool.false_eq_true, if_false]
  rfl

end

/-- R592: beyond the level, or back on the other side of it by 1 %. -/
theorem State.crossesBand_iff (s : State) (r b : Nat) (e : Bool) (mv : Nat) : s.crossesBand r b e mv = true ↔
    (s.outp r).inBand b = !e ∧
      if e then (if b = 0 ∨ b = 2 then mv < s.bandLevel r b else s.bandLevel r b < mv)
      else (if b = 0 ∨ b = 2 then 101 * s.bandLevel r b ≤ 100 * mv else 100 * mv ≤ 99 * s.bandLevel r b) := by
  have hlow : (b == 0 || b == 2) = decide (b = 0 ∨ b = 2) := by simp [beq_eq_decide]
  simp only [State.crossesBand, hlow]
  by_cases hb : b = 0 ∨ b = 2
  · cases e <;> simp only [hb] <;> simp
  · cases e <;> simp only [hb] <;> simp

/-! ### FAULT (R599, R600) -/

/-- An output that enters FAULT, before FLT_N. -/
theorem State.outp_enterFault (s : State) (o cause p : Nat) : (s.enterFault o cause).outp p =
    if p = o ∧ o < s.rail.outs.length then
      (s.outp o).gone oFault cause (fun x => { x with faultDown := false, turn := false, below := decide (8 ≤ o) })
    else s.outp p := by
  have h (t : State) : (t.driveFlt o cause).outp p = t.outp p := by
    unfold State.driveFlt
    split
    · rfl
    · split <;> rfl
  rw [State.enterFault, h, State.outp_outGo]

theorem State.driveFlt_arb (s : State) (o cause : Nat) : (s.driveFlt o cause).arb = s.arb := by
  unfold State.driveFlt
  split
  · rfl
  · split <;> rfl

theorem State.driveFlt_apart {s : State} {o cause : Nat} (h : s.joined o = false) : s.driveFlt o cause = s := by
  simp [State.driveFlt, h]

theorem State.driveFlt_drives {s : State} {o cause : Nat} (h : s.joined o = true) :
    (s.driveFlt o cause).rail.driving = true := by
  cases hd : s.rail.driving with
  | false => simp [State.driveFlt, h, hd]
  | true =>
    simp only [State.driveFlt, h, hd, Bool.not_true, Bool.and_false, Bool.false_eq_true, if_false]
    split
    · rfl
    · exact hd

theorem State.driveFlt_names {s : State} {o cause : Nat} (h : s.joined o = true) (hd : s.rail.driving = false) :
    (s.driveFlt o cause).rail.fltOut = o ∧ (s.driveFlt o cause).rail.fltCause = cause := by
  simp [State.driveFlt, h, hd]

/-! ### FLT_N (R600 to R606) -/

/-- What is kept of an assertion of FLT_N: the device's own cause where it drives the line, else that of another. -/
def State.fltTaken (s : State) : State :=
  { s with rail := { s.rail with
      fltLow := true
      holdOk := false
      originator := s.rail.driving && s.rail.originator
      fltOut := if s.rail.driving then s.rail.fltOut else 0
      fltCause := if s.rail.driving then s.rail.fltCause else 7
      fltAt := if s.rail.driving then s.rail.fltAt else s.now } }

/-- A joined output is still going down. -/
def State.goingDown (s : State) : Prop :=
  ∃ o, o < 14 ∧ s.joined o = true ∧ ((s.outp o).state = oWaitDown ∨ (s.outp o).state = oFall)

theorem State.goingDown_iff (s : State) : ((List.range 14).any (fun o =>
    s.joined o && ((s.outp o).state == oWaitDown || (s.outp o).state == oFall))) = true ↔ s.goingDown := by
  simp [State.goingDown]

section
variable {s : State} (hr : s.runs .pw = true)
include hr

theorem fltNAsserted_runs (hl : s.rail.fltLow = false) : exec .fltNAsserted s = .next
    (((s.fltTaken.inc 4 Reg.FLT_COUNT).railRecord 3 ((if s.rail.driving then s.rail.fltOut * 4096 + 256 else 0) +
      (if s.fltTaken.rail.originator then 1 else 0))).logKeeper 0x08
        [payload10 (numToBytes 1 (if s.fltTaken.rail.originator then 1 else 0) ++ numToBytes 1 s.fltTaken.rail.fltOut ++
          numToBytes 1 s.fltTaken.rail.fltCause)] .nothing).settle := by
  have hand : (if s.rail.driving then s.rail.originator else false) = (s.rail.driving && s.rail.originator) := by
    cases s.rail.driving <;> rfl
  rw [exec_fltNAsserted, execFltNAsserted, if_neg (by simp [hr, hl])]
  simp only [hand]
  rfl

theorem fltNRelease_busy (hd : s.rail.driving = true) (hb : s.goingDown) (h : Bool) :
    exec (.fltNRelease h) s = .next { s with rail := { s.rail with minPassed := true } } := by
  rw [exec_fltNRelease, execFltNRelease, s.goingDown_iff.mpr hb]
  simp [hr, hd]

theorem fltNRelease_releases (hd : s.rail.driving = true) (hb : ¬ s.goingDown) (h : Bool) :
    exec (.fltNRelease h) s = .next
      (if h = true ∧ s.rail.fltLow = true then
        (({ s with rail := { s.rail with driving := false, minPassed := true, fltLow := false } }).railRecord 4 0)
      else { s with rail := { s.rail with driving := false, minPassed := true } }) := by
  rw [exec_fltNRelease, execFltNRelease, Bool.eq_false_iff.mpr (mt s.goingDown_iff.mp hb)]
  simp only [hr, hd, Bool.not_true, Bool.false_eq_true, or_self, if_false]
  split <;> rfl

theorem fltNLineReleased_releases (hl : s.rail.fltLow = true) (hd : s.rail.driving = false) :
    exec .fltNLineReleased s = .next (({ s with rail := { s.rail with fltLow := false } }).railRecord 4 0) :=
  if_pos ⟨hr, hl, by simp [hd]⟩

theorem fltHoldExpiry_none (hl : s.rail.fltLow = false) :
    exec (.fltHoldExpiry 0) s = .next ({ s with rail := { s.rail with holdOk := true } }).settle := by
  rw [exec_fltHoldExpiry, execFltHoldExpiry, if_neg (by simp [hr, hl])]
  have hcool (t : State) (l : List Nat) :
      l.foldl (fun t k => if bitOf 0 k then t.setOut (8 + k) (fun y => { y with hot := false }) else t) t = t :=
    List.foldlRecOn l _ (motive := (· = t)) rfl fun u hu k _ => by simp [bitOf, hu]
  simp only [hcool]

theorem retryRestore_restores {o : Fin 14} (ho : (s.outp o).state = oOn) :
    exec (.retryRestore o) s = .next (s.setOut o (fun y => { y with retries := s.fltRetry })) := if_pos ⟨hr, ho⟩

end

theorem seqClearWrite_let {r : Req} {s t : State} {w : Who} (ha : r.addr = Reg.SEQ_CLEAR) (hl : LetThrough s r false t w) :
    (bytesToNum r.value = 1 → exec (.seqClearWrite r) s = .next (t.seqClear.finish r 2 .q .ok [])) ∧
    (bytesToNum r.value ≠ 1 → exec (.seqClearWrite r) s = .next (t.answer r 2 (.range 2 0) [])) := by
  have hm : (r.addr == Reg.SEQ_CLEAR) = true := by simpa using ha
  refine ⟨fun hv => ?_, fun hv => ?_⟩
  · rw [exec_seqClearWrite, execSeqClearWrite, State.ownWrite_let hl hm, if_pos hv]
  · refine congrArg Outcome.next (State.ownWrite_answers hl hm ?_ rfl (by decide))
    rw [if_neg hv]

/-- Settles O47: a rail's way, its bands, its faults, FLT_N and the retries, in turn. -/
theorem rails : Obligations.Rails := by
  refine ⟨fun r s hr => ⟨fun hw ht => upDelayExpiry_ramps hr hw ht,
      fun hw => ⟨railGood_on hr hw, rampTimeout_faults hr hw⟩, fun hw ht => downDelayExpiry_falls hr hw ht,
      fun hw => ⟨fun hf => ?_, fun hf => ?_⟩, fun hw => dischargeTimeout_sticks hr hw⟩, ?_, ?_, ?_, ?_, ?_,
    fun s hr hl hd => fltNLineReleased_releases hr hl hd, fun s hr hl => fltHoldExpiry_none hr hl,
    fun r s t w ha hl => seqClearWrite_let ha hl, fun o s hr ho => retryRestore_restores hr ho⟩
  · rw [railOffReached_ends hr hw, hf]; rfl
  · rw [railOffReached_ends hr hw, hf]; rfl
  · intro r b e mv s t hr
    refine ⟨fun hc => railBandCross_stands hr hc, fun hc ht => ⟨fun hb => ?_, fun hb he hst => ?_, fun hb he hst => ?_,
      fun hb he => ?_⟩⟩
    · rw [railBandCross_crosses hr hc ht, if_pos hb]
    · rw [railBandCross_crosses hr hc ht, if_neg (by subst hb; decide), if_pos ⟨he, hb, hst⟩]
    · rw [railBandCross_crosses hr hc ht, if_neg (by subst hb; decide), if_neg (by subst hb; simp), if_pos ⟨he, hb, hst⟩]
    · rw [railBandCross_crosses hr hc ht, if_neg (by rcases hb with rfl | rfl <;> decide), if_neg (by simp [he]),
        if_neg (by simp [he])]
  · intro r mv l s
    refine ⟨?_, ?_, ?_, ?_⟩ <;> rintro rfl <;> simp [State.crossesBand_iff, State.bandLevel, Output.inBand]
  · rintro o cause s t ho hlen rfl
    have hout := State.outp_enterFault s o cause
    refine ⟨?_, ?_, fun p hp => ?_, fun hj => ?_, fun hj hd => ?_, fun hj => ?_, ?_⟩
    · rw [hout, if_pos ⟨rfl, hlen ▸ ho⟩]; rfl
    · rw [hout, if_pos ⟨rfl, hlen ▸ ho⟩]; rfl
    · rw [hout, if_neg (by simp [hp])]
    all_goals
      have hgo := s.outGo_sequences o oFault cause
        (fun x => { x with faultDown := false, turn := false, below := decide (8 ≤ o) })
    · exact State.driveFlt_drives ((hgo.joined ho).trans hj)
    · exact State.driveFlt_names ((hgo.joined ho).trans hj) (hgo.driving.trans hd)
    · rw [State.enterFault, State.driveFlt_apart ((hgo.joined ho).trans hj), hgo.driving]
    · exact (State.driveFlt_arb _ _ _).trans hgo.arb
  · rintro s t u hr hl rfl rfl
    exact fltNAsserted_runs hr hl
  · intro h s hr hd
    refine ⟨fun hb => fltNRelease_busy hr hd hb h, fun hb => ?_⟩
    have hnot : ¬ s.goingDown := fun ⟨o, ho, hj, hst⟩ => hst.elim (hb o ho hj).1 (hb o ho hj).2
    refine ⟨fun hh hl => ?_, fun hh => ?_⟩
    · rw [fltNRelease_releases hr hd hnot, if_pos ⟨hh, hl⟩]
    · rw [fltNRelease_releases hr hd hnot, if_neg (by simp [hh])]

end Sys2Proof.Machine
end

section
/-! SUPPORT. What a step does with its command: it runs it, every command answers a next state, and a switch or a margin output
moves as its command says. -/
namespace Sys2Proof.Machine
open Host

/-- Settles O1: a step is a match on the queue, and a command put at its front leaves the rest as it was. -/
theorem stepTakesFront : Obligations.StepTakesFront := by
  refine ⟨fun c l s h => ?_, fun c s => rfl⟩
  rw [step, h]
  exact congrArg (exec c) (by rw [State.rest, h]; rfl)

/-! ### Every command answers a next state -/

/-- The outcome is a next state. -/
def Goes (o : Outcome State Fault Refusal) : Prop := ∃ t, o = .next t

theorem Goes.next (t : State) : Goes (.next t) := ⟨t, rfl⟩

theorem Goes.ite {c : Prop} [Decidable c] {a b : Outcome State Fault Refusal} (ha : Goes a) (hb : Goes b) :
    Goes (if c then a else b) := by
  split
  · exact ha
  · exact hb

/-- Every command answers a next state: those whose meaning asks conditions in each branch, those that look for an object in
each case, and the rest at once. -/
theorem exec_goes (c : Instr) (s : State) : Goes (exec c s) := by
  cases c
  case
    orphanAckLow | illegalStateEncoding | islandSelfReset | islandWake | islandRunReached | islandIdleStop | drainComplete |
    drainLimitExpiry | islandSupplyFail | islandHoldTake | islandHoldRelease | mainPowerUp | vdd5Good | vcoreGood |
    strapSample | strapDefaultTimeout | firmwareStart | rstoRelease | rstNLow | rstNWiden | vcoreBrownout | keeperMainReset |
    backupPowerOn | stationTimeLoad | x32Qualified | x32Changeover | x32QualTimeout | x32RestartAttempt | x32Stopped |
    switchoverToVbk | switchoverToMain | vbkLowCheck | bkCopyFailed | l3Evaluate | lfrcCalStart | aorcMeasure | xhMeasure |
    pllLockLoss | pllRelock | compLoad | ptpExchange | refInputMissing | refQualifyTimeout | modelStore | ppsOutPulse |
    rangeEndReached | slewComplete | fwSessionTimeout | planExchange | latchHandover | canSegTimeout | canBusError |
    canBoffHoldExpiry | canRecoveryComplete | t1lLinkUp | ptpSyncSend | hostFetch | hostStatus | entropyFault |
    vinOvervoltage | chargeTransition | prechargeTimeout | l5Evaluate | mpptSweep | l6Evaluate | l7Evaluate | hourBoundary |
    budgetCompute | railBandCross | upDelayExpiry | railGood | rampTimeout | downDelayExpiry | railOffReached |
    dischargeTimeout | fltNAsserted | fltNRelease | fltHoldExpiry | retryRestore | lswRampDone | lswCurrentLimit |
    lswOvertemp | lswLoadCheck | margTargetReached | wdPeriodEnd | wdWindowOpen | wdGraceExpiry | wdClockStop |
    wdStateIllegal | wdRstoEnd | tamperAssert | tamperRelease | shadowMismatch | facOpenRequest | facLockoutEnd |
    facIdleClose | l1Evaluate | l2Evaluate | vmonBandCross | loopInputLost | loopInputReturn | scrubPassEnd |
    eccUncorrectable | blockRetire | twinHelloSend | twinHeartbeatSend | twinHeartbeat | twinHeartbeatMiss | twinSyncSend |
    twinSync | twinDigestCompute | twinDigest | twinRecord | twinCommit | twinStep | wakeNLow | bkStateLoss | bkCopyReload |
    converterVinLowStop | fltNLineReleased | bankSupplyChange | announceReceiptTimeout | ptpAnnounceSend | keyTableRebuilt =>
    repeat' apply Goes.ite
    all_goals exact .next _
  case
    handshakeTimeout | holdLeaseExpiry | holdExpirySignal | wakeComparatorWake | firmwareRetry | bootSlotTry |
    ringEntryRelease | lfrcCalEnd | compTempWake | ppsPulse | nmeaSentence | driftObservation | episodeRollover | stepApply |
    read | refusedResponseSend | write | gather | gatherFreeze | unknownOpcode | fwAutoConfirm | watchInterval |
    subscriptionExpiry | commitPrepare | commitPrepared | commitPrepDeadline | commitCheckStrobe | commitStore |
    parisonIdleDiscard | leaseExpiry | leaseRequestTimeout | revocationEffect | endedSlotExpiry | timerFire | planEntryFire |
    evtRawTransition | evtEdgeQualify | latchEdge | grantLevelTake | l4Evaluate | holdoffEnd | claimTimeout | t0Claim |
    notifierClaim | canTxTimeout | kxExpiry | vsysOvervoltage | socRestCorrection | batAlarmChange | snowCheck | pwNightWake |
    wdKeyArm | wdKeyService | tamperHoldExpiry | tmpTestEnd | facSignature | facChallengeExpiry | seedRepair |
    fieldRepairStore | twinHello | twinValues | canSegmentReceived | canFrameTransmitted | ppsOutPulseEnd | episodeCounted =>
    simp only [exec,
      execHandshakeTimeout, execHoldLeaseExpiry, execHoldExpirySignal, execWakeComparatorWake, execFirmwareRetry,
      execBootSlotTry, execRingEntryRelease, execLfrcCalEnd, execCompTempWake, execPpsPulse, execNmeaSentence,
      execDriftObservation, execEpisodeRollover, execStepApply, execRead, execRefusedResponseSend, execWrite, execGather,
      execGatherFreeze, execUnknownOpcode, execFwAutoConfirm, execWatchInterval, execSubscriptionExpiry, execCommitPrepare,
      execCommitPrepared, execCommitPrepDeadline, execCommitCheckStrobe, execCommitStore, execParisonIdleDiscard,
      execLeaseExpiry, execLeaseRequestTimeout, execRevocationEffect, execEndedSlotExpiry, execTimerFire, execPlanEntryFire,
      execEvtRawTransition, execEvtEdgeQualify, execLatchEdge, execGrantLevelTake, execL4Evaluate, execHoldoffEnd,
      execClaimTimeout, execT0Claim, execNotifierClaim, execCanTxTimeout, execKxExpiry, execVsysOvervoltage,
      execSocRestCorrection, execBatAlarmChange, execSnowCheck, execPwNightWake, execWdKeyArm, execWdKeyService,
      execTamperHoldExpiry, execTmpTestEnd, execFacSignature, execFacChallengeExpiry, execSeedRepair, execFieldRepairStore,
      execTwinHello, execTwinValues, execCanSegmentReceived, execCanFrameTransmitted, execPpsOutPulseEnd, execEpisodeCounted]
    repeat' first | apply Goes.ite | split
    all_goals exact .next _
  all_goals exact .next _

/-- Settles O5: every command goes on (`exec_goes`) and keeps what `Keeps` lists (`exec_keeps`). -/
theorem commandsComplete : Obligations.CommandsComplete := by
  intro c s
  obtain ⟨t, ht⟩ := exec_goes c s
  have hk : Keeps s t := by
    have h := exec_keeps (Keeps.refl s) c
    rwa [ht] at h
  exact ⟨t, ht, hk.pending, hk.out, hk.free, hk.inv⟩

/-! ### Load switches (R607 to R611) -/

theorem exec_lswRampDone (k : Fin 6) (s : State) : exec (.lswRampDone k) s = execLswRampDone k s := rfl
theorem exec_lswCurrentLimit (k : Fin 6) (s : State) : exec (.lswCurrentLimit k) s = execLswCurrentLimit k s := rfl
theorem exec_lswOvertemp (k : Fin 6) (s : State) : exec (.lswOvertemp k) s = execLswOvertemp k s := rfl
theorem exec_lswLoadCheck (k : Fin 6) (ma mw : Nat) (s : State) : exec (.lswLoadCheck k ma mw) s = execLswLoadCheck k ma mw s := rfl
theorem exec_margReqWrite (r : Req) (s : State) : exec (.margReqWrite r) s = execMargReqWrite r s := rfl
theorem exec_margTargetReached (m : Fin 4) (s : State) : exec (.margTargetReached m) s = execMargTargetReached m s := rfl

theorem State.outp_put (s : State) (a v o : Nat) : (s.put a v).outp o = s.outp o := rfl

section
variable {k : Fin 6} {s : State} (hr : s.runs .pw = true)
include hr

theorem lswRampDone_on (h : (s.outp (8 + k)).state = oRamp) :
    exec (.lswRampDone k) s = .next (s.outGo (8 + k) oOn 0 id).settle := if_pos ⟨hr, h⟩

theorem lswCurrentLimit_faults (h : (s.outp (8 + k)).state = oRamp ∨ (s.outp (8 + k)).state = oOn) :
    exec (.lswCurrentLimit k) s = .next (s.enterFault (8 + k) 5).settle := if_pos ⟨hr, h⟩

theorem lswOvertemp_faults (h : (s.outp (8 + k)).state = oRamp ∨ (s.outp (8 + k)).state = oOn) : exec (.lswOvertemp k) s =
    .next ((s.setOut (8 + k) (fun y => { y with hot := true })).enterFault (8 + k) 6).settle := by
  rw [exec_lswOvertemp, execLswOvertemp]
  simp only [hr, h, Bool.not_true, Bool.false_eq_true, if_false, if_true]

/-- R611: a load within the amounts declared is measured and no more. -/
theorem lswLoadCheck_within {ma mw : Nat} {t : State} (ht : t = s.put (Reg.LSW_MA k) (ma % 65536))
    (h : mw * 4 ≤ t.declaredOn (8 + k) * 50) : exec (.lswLoadCheck k ma mw) s = .next t := by
  subst ht
  rw [exec_lswLoadCheck, execLswLoadCheck]
  simp only [hr, Bool.not_true, Bool.false_eq_true, if_false]
  exact if_neg (fun hc => by have := hc.1; omega)

/-- R611: one above them is recorded, the first time. -/
theorem lswLoadCheck_records {ma mw : Nat} {t : State} (ht : t = s.put (Reg.LSW_MA k) (ma % 65536))
    (h : t.declaredOn (8 + k) * 50 < mw * 4) (hn : (s.outp (8 + k)).loadAt = none) : exec (.lswLoadCheck k ma mw) s =
      .next ((t.setOut (8 + k) (fun y => { y with loadAt := some t.now })).railRecord 6 (8 + k)) := by
  subst ht
  rw [exec_lswLoadCheck, execLswLoadCheck]
  simp only [hr, Bool.not_true, Bool.false_eq_true, if_false]
  refine if_pos ⟨by omega, ?_⟩
  rw [State.outp_put, hn]

/-- R611: at most once an hour. -/
theorem lswLoadCheck_again {ma mw at_ : Nat} {t : State} (ht : t = s.put (Reg.LSW_MA k) (ma % 65536))
    (ho : (s.outp (8 + k)).loadAt = some at_) (h : s.now < at_ + 3600 * stSecond) :
    exec (.lswLoadCheck k ma mw) s = .next t := by
  subst ht
  rw [exec_lswLoadCheck, execLswLoadCheck]
  simp only [hr, Bool.not_true, Bool.false_eq_true, if_false]
  refine if_neg (fun hc => ?_)
  have hd := hc.2
  rw [State.outp_put, ho] at hd
  exact absurd (of_decide_eq_true hd) (Nat.not_le.mpr h)

end

/-! ### Margin outputs (R612, R613) -/

theorem State.writeMargReq_range {s : State} {cid m v : Nat} (h : signed 8 v < -100 ∨ 100 < signed 8 v) :
    s.writeMargReq cid m v = (s, .range 2 0) := if_pos h

theorem State.writeMargReq_fenced {s : State} {cid m v : Nat} (h : ¬(signed 8 v < -100 ∨ 100 < signed 8 v))
    (hf : ((s.el (Reg.MARG_CFG m) % 256 : Nat) : Int) < signed 8 v ∨ signed 8 v < -((s.el (Reg.MARG_CFG m) % 256 : Nat) : Int)) :
    s.writeMargReq cid m v = (s, .conflict 3) := (if_neg h).trans (if_pos hf)

theorem State.writeMargReq_taken {s : State} {cid m v : Nat} (h : ¬(signed 8 v < -100 ∨ 100 < signed 8 v))
    (hf : ¬(((s.el (Reg.MARG_CFG m) % 256 : Nat) : Int) < signed 8 v ∨
      signed 8 v < -((s.el (Reg.MARG_CFG m) % 256 : Nat) : Int))) :
    s.writeMargReq cid m v = (s.put (Reg.MARG_REQ cid m) v, .ok) := (if_neg h).trans (if_neg hf)

/-- A request leaves the exchange alone and is no uniform refusal. -/
theorem State.writeMargReq_exch (s : State) (cid m v : Nat) :
    (s.writeMargReq cid m v).1.exch = s.exch ∧ (s.writeMargReq cid m v).2.code ≠ 1 := by
  by_cases h : signed 8 v < -100 ∨ 100 < signed 8 v
  · rw [State.writeMargReq_range h]
    exact ⟨rfl, fun h => absurd h (by simp)⟩
  · by_cases hf : ((s.el (Reg.MARG_CFG m) % 256 : Nat) : Int) < signed 8 v ∨
        signed 8 v < -((s.el (Reg.MARG_CFG m) % 256 : Nat) : Int)
    · rw [State.writeMargReq_fenced h hf]
      exact ⟨rfl, fun h => absurd h (by simp)⟩
    · rw [State.writeMargReq_taken h hf]
      exact ⟨rfl, fun h => absurd h (by simp)⟩

theorem margReqWrite_let {r : Req} {s t : State} {w : Who} {u : State × Stat} (h₀ : 0x4000F0 ≤ rowAddr r.addr)
    (h₁ : rowAddr r.addr ≤ 0x4000F3) (hl : LetThrough s r false t w)
    (hu : u = t.writeMargReq (cidOfAddr r.addr) (r.addr % 256 - 0xF0) (bytesToNum r.value)) :
    exec (.margReqWrite r) s = .next (u.1.answer r 2 u.2 []) := by
  have hx : u.1.exch = t.exch ∧ u.2.code ≠ 1 := hu ▸ t.writeMargReq_exch _ _ _
  rw [exec_margReqWrite, execMargReqWrite]
  exact congrArg Outcome.next (State.ownWrite_answers hl (decide_eq_true ⟨h₀, h₁⟩) hu.symm hx.1 hx.2)

theorem margTargetReached_moves {m : Fin 4} {s : State} (hr : s.runs .pw = true) (h : s.el (Reg.MARG_NOW m) ≠ s.margTarget m) :
    exec (.margTargetReached m) s =
      .next ((s.put (Reg.MARG_NOW m) (s.margTarget m)).railRecord 5 (m * 4096 + s.margTarget m % 256)) := by
  rw [exec_margTargetReached, execMargTargetReached]
  exact if_neg (by simp [hr, h])

/-- Settles O49: the switches' ramps, faults and loads, then the margin outputs' requests and targets. -/
theorem switches : Obligations.Switches := by
  refine ⟨fun k s hr => ⟨fun h => lswRampDone_on hr h, fun h => ⟨lswCurrentLimit_faults hr h, lswOvertemp_faults hr h⟩,
      fun ma mw t ht => ⟨fun h => lswLoadCheck_within hr ht h, fun h hn => lswLoadCheck_records hr ht h hn,
        fun at_ ho h => lswLoadCheck_again hr ht ho h⟩⟩, ?_, fun r s t w u h₀ h₁ hl hu => margReqWrite_let h₀ h₁ hl hu,
    fun m s hr h => margTargetReached_moves hr h, ?_⟩
  · rintro cid m v s x fence rfl rfl
    refine ⟨fun h => State.writeMargReq_range h, fun h₀ h₁ hf => State.writeMargReq_fenced (by omega) hf.symm,
      fun h₀ h₁ hf₀ hf₁ => State.writeMargReq_taken (by omega) (by omega)⟩
  · intro m b s hb
    refine ⟨fun ho f hf => ?_, fun ho => ?_⟩
    · subst hf
      rw [State.margTarget, hb]
      exact if_pos ho
    · rw [State.margTarget, hb]
      exact if_neg ho

end Sys2Proof.Machine
end

section
/-! SUPPORT. A watchdog channel's first violation, its trips, its services and its timers. -/
namespace Sys2Proof.Machine
open Host

/-! ### The channels (chapter 17) -/

theorem State.wdOf_setWd (s : State) (w x : Nat) (f : Wd → Wd) (h : w < s.wd.length) :
    (s.setWd w f).wdOf x = if x = w then f (s.wdOf w) else s.wdOf x := by
  by_cases hx : x = w
  · subst hx
    simp [State.wdOf, List.getD_eq_getElem?_getD, h]
  · simp [State.wdOf, List.getD_eq_getElem?_getD, hx, Ne.symm hx]

theorem State.wdOf_of_wd {s t : State} (h : t.wd = s.wd) (x : Nat) : t.wdOf x = s.wdOf x := by
  rw [State.wdOf, State.wdOf, h]

@[simp] theorem State.wdOf_put (s : State) (a v x : Nat) : (s.put a v).wdOf x = s.wdOf x := rfl
@[simp] theorem State.wdOf_inc (s : State) (n a x : Nat) : (s.inc n a).wdOf x = s.wdOf x := rfl

theorem Reports.wd {s t : State} (h : Reports s t) : t.wd = s.wd := (congrArg State.wd h :)

theorem Reports.wdOf {s t : State} (h : Reports s t) (x : Nat) : t.wdOf x = s.wdOf x := State.wdOf_of_wd h.wd x

theorem Reports.now {s t : State} (h : Reports s t) : t.now = s.now := by rw [State.now, State.now, h.clk]

/-- No register of a channel is one of those that a record of the station touches. -/
theorem State.el_of_besideStation {s t : State} {n : NewRec} (h : t.besideRecord n = s.besideRecord n) (hh : n.hid = stationHid)
    {a : Nat} (ha : 0x1D0000 ≤ a) (ha' : a < 0x1D0500) : t.el a = s.el a := by
  refine (State.besideRecord_eq h).1 a fun hm => ?_
  have hq : quotaHid n.hid = 0 := by rw [hh]; rfl
  simp only [recordEls, List.mem_cons, List.not_mem_nil, or_false, hq, Reg.REC_OVERRUNS, Reg.EVT_LOST, Reg.REC_OVERRUN_ALL,
    Reg.REC_LOW, Reg.RING_WAITS, Reg.CH_ABANDON, Reg.ISL_STATE] at hm
  omega

theorem State.el_wdRecord (s : State) (w kind detail : Nat) {a : Nat} (ha : 0x1D0000 ≤ a) (ha' : a < 0x1D0500) :
    (s.wdRecord w kind detail).el a = s.el a := by
  refine s.el_record_ne _ fun hm => ?_
  have hq : quotaHid stationHid = 0 := rfl
  simp only [recordEls, List.mem_cons, List.not_mem_nil, or_false, hq, Reg.REC_OVERRUNS, Reg.EVT_LOST, Reg.REC_OVERRUN_ALL,
    Reg.REC_LOW, Reg.RING_WAITS, Reg.CH_ABANDON, Reg.ISL_STATE] at hm
  omega

theorem State.wdRecord_reports (s : State) (w kind detail : Nat) : Reports s (s.wdRecord w kind detail) := s.record_reports _

/-- A station record of no source, to speak of what it may touch. -/
def stationNote : NewRec := ⟨0, 0, 0, 0, 0, 0, stationHid, 0, false, false⟩

theorem State.el_callCr (s : State) {a : Nat} (ha : 0x1D0000 ≤ a) (ha' : a < 0x1D0500) : s.callCr.el a = s.el a :=
  State.el_of_besideStation (s.callCr_besideRecord stationNote) rfl ha ha'

/-! ### Claims that are lost (R442, R443) -/

theorem State.place_claims (s : State) (id st : Nat) (replay : Bool) : (s.place id st replay).dlv.claims = s.dlv.claims :=
  (State.besideRecord_eq (s.place_besideRecord stationNote id st replay)).2.2.2.2.1

/-- The state with the claim gone, and counted. -/
def State.claimGone (s : State) (c : Claim) : State :=
  (s.dlvSet { s.dlv with claims := s.dlv.claims.erase c }).inc 4 Reg.CLAIM_RETURNED

theorem State.returnClaim_besideRecord (s : State) (c : Claim) (n : NewRec) :
    (s.returnClaim c).besideRecord n = (s.claimGone c).besideRecord n := by
  unfold State.returnClaim
  dsimp only
  split
  · rfl
  · exact State.place_besideRecord _ n _ _ _

theorem State.returnClaim_reports (s : State) (c : Claim) : Reports s (s.returnClaim c) := by
  unfold State.returnClaim
  dsimp only
  split
  · rfl
  · exact Reports.trans (t := s.claimGone c) rfl (State.place_reports _ _ _ _)

theorem State.returnClaim_claims (s : State) (c : Claim) : (s.returnClaim c).dlv.claims = s.dlv.claims.erase c :=
  (State.besideRecord_eq (s.returnClaim_besideRecord c stationNote)).2.2.2.2.1

theorem State.el_returnClaim (s : State) (c : Claim) {a : Nat} (ha : 0x1D0000 ≤ a) (ha' : a < 0x1D0500) :
    (s.returnClaim c).el a = s.el a := by
  rw [State.el_of_besideStation (s.returnClaim_besideRecord c stationNote) rfl ha ha', State.claimGone, State.el_inc, if_neg]
  · rfl
  · unfold Reg.CLAIM_RETURNED
    omega

theorem State.returnClaims_reports (s : State) (t : Nat) : Reports s (s.returnClaims t) :=
  .foldl (fun u c => u.returnClaim_reports c) _ s

theorem State.el_returnClaims (s : State) (t : Nat) {a : Nat} (ha : 0x1D0000 ≤ a) (ha' : a < 0x1D0500) :
    (s.returnClaims t).el a = s.el a :=
  List.foldlRecOn _ _ (motive := fun u : State => u.el a = s.el a) rfl
    fun u hu c _ => (State.el_returnClaim u c ha ha').trans hu

theorem State.foldl_returnClaim_claims (l : List Claim) (s : State) :
    (l.foldl State.returnClaim s).dlv.claims = s.dlv.claims.diff l := by
  induction l generalizing s with
  | nil => rfl
  | cons c l ih => rw [List.foldl_cons, ih, State.returnClaim_claims, List.diff_cons]

/-- No claim of the target is left. -/
theorem State.returnClaims_claims (s : State) (t : Nat) : ∀ c ∈ (s.returnClaims t).dlv.claims, c.target ≠ t := by
  intro c hc ht
  rw [State.returnClaims, State.foldl_returnClaim_claims, ← List.count_pos_iff, List.count_diff,
    List.count_filter (by simpa using ht), Nat.sub_self] at hc
  exact absurd hc (Nat.lt_irrefl 0)

/-! ### Violations and trips (R634 to R638) -/

section
variable {s : State} {w cause : Nat}

theorem State.wdViolation_uncounted (h : s.wdCounts w = false) : s.wdViolation w cause = s := by
  simp [State.wdViolation, h]

theorem State.wdViolation_trips (h : s.wdCounts w = true) (hc : (s.wdOf w).st = wdWarned ∨ cause = 4 ∨ cause = 6) :
    s.wdViolation w cause = s.wdTrip w cause := by
  rw [State.wdViolation, if_neg (by simp [h]), if_pos hc]

/-- The channel as the warning leaves it. -/
def State.wdWarning (s : State) (w cause : Nat) : State :=
  ((s.newPeriod w).setWd w (fun x => { x with st := wdWarned, cause := cause })).inc 4 (Reg.WD_WARNS w)

theorem State.wdViolation_warns (h : s.wdCounts w = true) (hs : (s.wdOf w).st = wdRun) (h4 : cause ≠ 4) (h6 : cause ≠ 6) :
    s.wdViolation w cause = (if w = 0 then (s.wdWarning w cause).callCr else s.wdWarning w cause).wdRecord w 1 cause := by
  rw [State.wdViolation, if_neg (by simp [h]), if_neg (by simp [hs, h4, h6])]
  rfl

/-- What the violation shows is what the warning left. -/
theorem State.wdViolation_shows (h : s.wdCounts w = true) (hs : (s.wdOf w).st = wdRun) (h4 : cause ≠ 4) (h6 : cause ≠ 6) :
    (s.wdViolation w cause).wd = (s.wdWarning w cause).wd ∧
      ∀ a, 0x1D0000 ≤ a → a < 0x1D0500 → (s.wdViolation w cause).el a = (s.wdWarning w cause).el a := by
  rw [State.wdViolation_warns h hs h4 h6]
  split
  · exact ⟨((State.wdRecord_reports _ _ _ _).wd).trans (State.callCr_reports _).wd,
      fun a ha ha' => (State.el_wdRecord _ _ _ _ ha ha').trans (State.el_callCr _ ha ha')⟩
  · exact ⟨(State.wdRecord_reports _ _ _ _).wd, fun a ha ha' => State.el_wdRecord _ _ _ _ ha ha'⟩

theorem State.wdOf_wdWarning (hl : w < s.wd.length) (x : Nat) : (s.wdWarning w cause).wdOf x =
    if x = w then { (s.newPeriod w).wdOf w with st := wdWarned, cause := cause } else s.wdOf x := by
  have hn : w < (s.newPeriod w).wd.length := by simpa [State.newPeriod, State.startPeriod] using hl
  rw [State.wdWarning, State.wdOf_inc, State.wdOf_setWd _ _ _ _ hn]
  split
  · rfl
  next hx => rw [State.newPeriod, State.startPeriod, State.wdOf_setWd _ _ _ _ hl, if_neg hx]

theorem State.wdOf_newPeriod_began (hl : w < s.wd.length) : ((s.newPeriod w).wdOf w).began = s.now := by
  rw [State.newPeriod, State.startPeriod, State.wdOf_setWd _ _ _ _ hl, if_pos rfl]

/-- The channel as a trip leaves it, counted and kept. -/
def State.wdTripping (s : State) (w cause : Nat) : State :=
  let t := (s.setWd w (fun x => { x with st := wdTripped, armed := false, grace := false, held := false, cause := cause }))
  (t.inc 4 (Reg.WD_TRIPS w)).put (Reg.WD_LAST_TRIP w) (t.now * 2 ^ 64 + cause * 2 ^ 56)

/-- A trip of a host's channel: its reset output, its claims, and the call for an evidence entry. -/
theorem State.wdTrip_host (hw : w ≠ 0) : s.wdTrip w cause =
    ((((s.wdTripping w cause).wdRecord w 2 cause).setWd w (fun x => { x with rsto := true })).returnClaims w).logKeeper 0x09
      [payload10 (numToBytes 1 w ++ numToBytes 1 cause)] .nothing := if_neg hw

theorem State.wdTripping_length : (s.wdTripping w cause).wd.length = s.wd.length := List.length_modify ..

/-- What the trip shows is what it left before its record, but for the reset output. -/
theorem State.wdOf_wdTrip (hw : w ≠ 0) (hl : w < s.wd.length) :
    (s.wdTrip w cause).wdOf w = { (s.wdTripping w cause).wdOf w with rsto := true } := by
  have hrec := (s.wdTripping w cause).wdRecord_reports w 2 cause
  rw [← State.wdTripping_length (w := w) (cause := cause), ← hrec.wd] at hl
  rw [State.wdTrip_host hw, State.logKeeper, (State.logEntry_reports _ _).wdOf, (State.returnClaims_reports _ w).wdOf,
    State.wdOf_setWd _ _ _ _ hl, if_pos rfl, hrec.wdOf]

theorem State.el_wdTrip (hw : w ≠ 0) {a : Nat} (ha : 0x1D0000 ≤ a) (ha' : a < 0x1D0500) :
    (s.wdTrip w cause).el a = (s.wdTripping w cause).el a := by
  rw [State.wdTrip_host hw, State.logKeeper, State.el_logEntry, State.el_returnClaims _ _ ha ha', State.el_setWd,
    State.el_wdRecord _ _ _ _ ha ha']

theorem State.wdTrip_claims (hw : w ≠ 0) : ∀ c ∈ (s.wdTrip w cause).dlv.claims, c.target ≠ w := by
  rw [State.wdTrip_host hw, State.logKeeper, State.logEntry_dlv]
  exact State.returnClaims_claims _ w

theorem State.wdOf_wdTripping (hl : w < s.wd.length) : (s.wdTripping w cause).wdOf w =
    { s.wdOf w with st := wdTripped, armed := false, grace := false, held := false, cause := cause } := by
  rw [State.wdTripping, State.wdOf_put, State.wdOf_inc, State.wdOf_setWd _ _ _ _ hl, if_pos rfl]

end

/-- Settles O51: the first violation by what its warning leaves, a host's trip by what it leaves before its record. -/
theorem watchdogViolations : Obligations.WatchdogViolations := by
  refine ⟨fun s w cause => ⟨State.wdViolation_uncounted, fun hc hw hl _ => ⟨fun hs => State.wdViolation_trips hc (.inl hs),
    fun h => State.wdViolation_trips hc (.inr h), ?_⟩⟩, ?_⟩
  · rintro hs h4 h6 t rfl
    have hl' : w < s.wd.length := by omega
    obtain ⟨hwd, hel⟩ := State.wdViolation_shows hc hs h4 h6
    have hof := fun x => (State.wdOf_of_wd hwd x).trans (State.wdOf_wdWarning (cause := cause) hl' x)
    have hself := (hof w).trans (if_pos rfl)
    refine ⟨by rw [hself], by rw [hself], ?_, fun hmax => ?_, fun x hx => (hof x).trans (if_neg hx)⟩
    · rw [hself]
      exact State.wdOf_newPeriod_began hl'
    · rw [hel _ (by unfold Reg.WD_WARNS; omega) (by unfold Reg.WD_WARNS; omega), State.wdWarning, State.el_inc, if_pos rfl]
      exact Nat.min_eq_left (Nat.succ_le_of_lt hmax)
  · rintro s t w cause hw hl rfl
    have hl' : w < s.wd.length := by omega
    have hw' : w ≠ 0 := by omega
    have hof := (State.wdOf_wdTrip (cause := cause) hw' hl').trans (by rw [State.wdOf_wdTripping hl'])
    refine ⟨by rw [hof], by rw [hof], by rw [hof], fun hmax => ?_, ?_, State.wdTrip_claims hw'⟩
    · rw [State.el_wdTrip hw' (by unfold Reg.WD_TRIPS; omega) (by unfold Reg.WD_TRIPS; omega), State.wdTripping,
        State.el_put_ne _ _ (by unfold Reg.WD_TRIPS Reg.WD_LAST_TRIP; omega), State.el_inc, if_pos rfl]
      exact Nat.min_eq_left (Nat.succ_le_of_lt hmax)
    · rw [State.el_wdTrip hw' (by unfold Reg.WD_LAST_TRIP; omega) (by unfold Reg.WD_LAST_TRIP; omega), State.wdTripping, State.el_put_same]
      rfl

/-! ### Services (R622 to R633) -/

theorem exec_wdKeyArm (r : Option Req) (s : State) : exec (.wdKeyArm r) s = execWdKeyArm r s := rfl
theorem exec_wdKeyService (r : Option Req) (s : State) : exec (.wdKeyService r) s = execWdKeyService r s := rfl
theorem exec_wdKeyBad (r : Req) (s : State) : exec (.wdKeyBad r) s = execWdKeyBad r s := rfl
theorem exec_wdCheckin (r : Req) (s : State) : exec (.wdCheckin r) s = execWdCheckin r s := rfl
theorem exec_wdNap (r : Req) (s : State) : exec (.wdNap r) s = execWdNap r s := rfl
theorem exec_wdPeriodEnd (w : Fin 3) (s : State) : exec (.wdPeriodEnd w) s = execWdPeriodEnd w s := rfl
theorem exec_wdGraceExpiry (w : Fin 3) (s : State) : exec (.wdGraceExpiry w) s = execWdGraceExpiry w s := rfl
theorem exec_wdClockStop (w : Fin 3) (s : State) : exec (.wdClockStop w) s = execWdClockStop w s := rfl
theorem exec_wdWindowOpen (w : Fin 3) (s : State) : exec (.wdWindowOpen w) s = execWdWindowOpen w s := rfl
theorem exec_wdStateIllegal (w : Fin 3) (code shadow : Nat) (s : State) :
    exec (.wdStateIllegal w code shadow) s = execWdStateIllegal w code shadow s := rfl
theorem exec_wdRstoEnd (w : Fin 3) (s : State) : exec (.wdRstoEnd w) s = execWdRstoEnd w s := rfl

/-- A service write by whom R622 allows has its effect, and its answer. -/
theorem State.wdWrite_let {s t : State} {cmd : Instr} {r : Req} {x : Who} {elem : Nat} {f : Nat → Bool}
    {eff : State → Nat → Nat → State × Stat} {w v : Nat} (h₀ : 0x1D0100 ≤ r.addr) (h₁ : r.addr < 0x1D0400)
    (he : r.addr % 256 = elem) (hw : w = wdOfAddr r.addr) (hv : v = bytesToNum r.value) (hf : f v = true)
    (hl : LetThrough s r false t x) (hm : t.mayService x w = true) :
    s.wdWrite cmd r elem f eff = (eff t w v).1.finish r 2 .q (eff t w v).2 [] := by
  rw [hw] at hm ⊢
  rw [hv] at hf ⊢
  exact State.rightsWrite_let hl (by simp [h₀, h₁, he, hf]) hm

section
variable {s : State} {w v : Nat}

theorem State.wdKey_mode (h : s.el (Reg.WD_MODE w) ≠ 1) : s.wdKey w v = (s, .conflict 3) := if_pos h
theorem State.wdNap_mode (h : s.el (Reg.WD_MODE w) ≠ 1) : s.wdNap w v = (s, .conflict 3) := if_pos h

section
variable (hc : s.wdCounts w = true) (hm : s.el (Reg.WD_MODE w) = 1)
include hc hm

theorem State.wdKey_arm : s.wdKey w 0x5C3A = (s.setWd w (fun x => { x with armed := true }), .ok) := by
  simp [State.wdKey, hc, hm]

/-- R628, R629: the service key of a channel that is armed. -/
theorem State.wdKey_service (ha : (s.wdOf w).armed = true) : s.wdKey w 0xA3C5 =
    (if (s.wdOf w).isOpen then s.wdServed w (s.el (Reg.WD_PERIOD w)) else s.wdViolation w 2, .ok) := by
  simp [State.wdKey, hc, hm, ha]

/-- R629: any other value, or the service key of a channel that is not armed. -/
theorem State.wdKey_order (h : v ≠ 0x5C3A) (ha : v = 0xA3C5 → (s.wdOf w).armed = false) :
    s.wdKey w v = (s.wdViolation w 3, .ok) := by
  have h' : ¬(v = 0xA3C5 ∧ (s.wdOf w).armed = true) := fun ⟨hv, hw⟩ => by simp [ha hv] at hw
  simp only [State.wdKey, hc, hm, h, h', not_true, ne_eq, Bool.not_true, Bool.false_eq_true, if_false]

theorem State.wdNap_served (ha : (s.wdOf w).armed = true) (ho : (s.wdOf w).isOpen = true) (h0 : 0 < v)
    (hn : v ≤ s.el (Reg.WD_NAP_MAX w)) : s.wdNap w v = (s.wdServed w (v * 1000), .ok) := by
  have h' : ¬(v = 0 ∨ s.el (Reg.WD_NAP_MAX w) < v) := by omega
  simp only [State.wdNap, hc, hm, ha, ho, h', not_true, ne_eq, Bool.not_true, Bool.false_eq_true, if_false]

end

/-- R630 to R632: a check-in of an enabled slot marks it. -/
theorem State.wdCheckin_marks (hc : s.wdCounts w = true) (hm : s.el (Reg.WD_MODE w) = 2) (hv : v ≤ 31)
    (hb : bitOf (s.el (Reg.WD_TASKS w)) v = true) {m : Nat} {t : State} (h : m = setBit (s.wdOf w).slots v true)
    (ht : t = s.setWd w (fun x => { x with slots := m })) : s.wdCheckin w v =
      if m &&& s.el (Reg.WD_TASKS w) ≠ s.el (Reg.WD_TASKS w) then (t, .ok)
      else if (t.wdOf w).isOpen then (t.wdServed w (s.el (Reg.WD_PERIOD w)), .ok)
      else (t.setWd w (fun x => { x with held := true }), .ok) := by
  have h' : ¬(31 < v ∨ (!bitOf (s.el (Reg.WD_TASKS w)) v) = true) := by simp [hb]; omega
  subst ht h
  simp only [State.wdCheckin, hc, hm, h', not_true, ne_eq, Bool.not_true, Bool.false_eq_true, if_false]
  rfl

end

/-! ### Timers (R624, R626, R634, R638 to R641) -/

section
variable {w : Fin 3} {s : State}

theorem wdClockStop_trips (h : s.wdCounts w = true) :
    exec (.wdClockStop w) s = .next ((s.wdTrip w 4).setWd w (fun x => { x with other := !x.other })) := by
  rw [exec_wdClockStop, execWdClockStop, if_neg (by simp [h]), State.wdViolation_trips h (.inr (.inl rfl))]

theorem wdWindowOpen_opens (h : s.wdCounts w = true) (ho : (s.wdOf w).isOpen = false) {t : State}
    (ht : t = (s.wdReach w (s.el (Reg.WD_WIN w) % 8)).setWd w (fun x => { x with isOpen := true })) :
    exec (.wdWindowOpen w) s = if (t.wdOf w).held then .next (t.wdServed w (t.el (Reg.WD_PERIOD w))) else .next t := by
  subst ht
  exact if_neg (by simp [h, ho])

theorem wdStateIllegal_sound {code shadow : Nat} (h : wdSound code shadow = true) :
    exec (.wdStateIllegal w code shadow) s = .next s := if_pos (.inr (.inl h))

theorem wdStateIllegal_trips {code shadow : Nat} (h : wdSound code shadow = false) (hp : s.mainPower = true)
    (ht : (s.wdOf w).st ≠ wdTripped) :
    exec (.wdStateIllegal w code shadow) s = .next (((s.tamperOn 10 (0x11 + w)).wdTrip w 6).tamperOff 10) :=
  if_neg (by simp [h, hp, ht])

theorem wdRstoEnd_releases (h : (s.wdOf w).rsto = true) {t : State}
    (ht : t = s.reach (s.el (Reg.WD_LAST_TRIP w) / 2 ^ 64 + stMs (s.el (Reg.WD_RSTO w)))) :
    exec (.wdRstoEnd w) s = .next ((t.setWd w (fun x => { x with rsto := false })).wdSync t) := by
  rw [exec_wdRstoEnd, execWdRstoEnd, if_neg (by simp [h]), ht]

end

/-- Settles O50: the service writes, what each service does to its channel, and the timers. -/
theorem watchdogs : Obligations.Watchdogs := by
  refine ⟨?_, fun s w v hc => ⟨fun hm => ⟨State.wdKey_mode hm, State.wdNap_mode hm⟩, fun hm => ⟨State.wdKey_arm hc hm, ?_, ?_,
    ?_, ?_⟩, ?_⟩, fun w s => ⟨fun h => ?_, fun h => if_pos h, fun hc => ⟨wdClockStop_trips hc, ?_⟩,
    fun code shadow => ⟨wdStateIllegal_sound, wdStateIllegal_trips⟩, fun h t => wdRstoEnd_releases h,
    fun hr => ⟨if_pos hr, if_pos hr⟩⟩⟩
  · intro r s t x w v h₀ h₁ hw hv hl hs
    refine ⟨fun he => ⟨fun hk => ?_, fun hk => ?_, fun hk hk' => ?_⟩, fun he => ?_, fun he => ?_⟩
    · exact congrArg Outcome.next (State.wdWrite_let h₀ h₁ he hw hv (by simp [hk]) hl hs)
    · exact congrArg Outcome.next (State.wdWrite_let h₀ h₁ he hw hv (by simp [hk]) hl hs)
    · exact congrArg Outcome.next (State.wdWrite_let h₀ h₁ he hw hv (by simp [hk, hk']) hl hs)
    · exact congrArg Outcome.next (State.wdWrite_let h₀ h₁ he hw hv rfl hl hs)
    · exact congrArg Outcome.next (State.wdWrite_let h₀ h₁ he hw hv rfl hl hs)
  · intro ha ho
    refine ⟨?_, fun h0 hn => State.wdNap_served hc hm ha ho h0 hn⟩
    rw [State.wdKey_service hc hm ha, if_pos ho]
  · intro ha ho
    rw [State.wdKey_service hc hm ha, if_neg (by simp [ho])]
  · exact fun ha => State.wdKey_order hc hm (by decide) fun _ => ha
  · exact fun hv hv' => State.wdKey_order hc hm hv fun h => absurd h hv'
  · intro hm hv hb m t h ht
    rw [State.wdCheckin_marks hc hm hv hb h ht]
    exact ⟨fun hne => if_pos hne, fun heq => ⟨fun ho => by rw [if_neg (not_not.mpr heq), if_pos ho],
      fun ho => by rw [if_neg (not_not.mpr heq), if_neg (by simp [ho])]⟩⟩
  · exact if_neg (by simp [h])
  · intro ho t ht
    rw [wdWindowOpen_opens hc ho ht]
    exact ⟨fun hh => if_neg (by simp [hh]), fun hh => if_pos hh⟩

end Sys2Proof.Machine
end

section
/-! SUPPORT. Loops L1 and L2 (chapter 19): what an evaluation sets and what its records leave, the voltage monitors, and the
inputs that are lost. -/
namespace Sys2Proof.Machine
open Host

theorem exec_l1Evaluate (freqs : List Nat) (ts : List Int) (canary : Nat) (s : State) :
    exec (.l1Evaluate freqs ts canary) s = execL1Evaluate freqs ts canary s := rfl
theorem exec_l2Evaluate (canary : Bool) (stretched edges : Nat) (s : State) :
    exec (.l2Evaluate canary stretched edges) s = execL2Evaluate canary stretched edges s := rfl
theorem exec_vmonBandCross (m : Fin 8) (high entered : Bool) (mv : Nat) (s : State) :
    exec (.vmonBandCross m high entered mv) s = execVmonBandCross m high entered mv s := rfl
theorem exec_loopInputLost (k : Fin 7) (mon : Nat) (s : State) : exec (.loopInputLost k mon) s = execLoopInputLost k mon s := rfl
theorem exec_loopInputReturn (k : Fin 7) (mon : Nat) (s : State) :
    exec (.loopInputReturn k mon) s = execLoopInputReturn k mon s := rfl

/-! ### What the loops' shared operations leave alone -/

/-- What L1 and L2 set, with station time and the arbiter. -/
def State.loopCore (s : State) : Clk × ArbSt × Nat × Nat × Nat × Nat × Nat :=
  (s.clk, s.arb, s.lehr.vcore, s.lehr.calm, s.lehr.th, s.lehr.quiet, s.lehr.s3Top)

theorem foldl_loopCore {α : Type} {f : State → α → State} (hf : ∀ t x, (f t x).loopCore = t.loopCore) (l : List α) (s : State) :
    (l.foldl f s).loopCore = s.loopCore :=
  List.foldlRecOn l f (motive := fun t => t.loopCore = s.loopCore) rfl fun t ht x _ => (hf t x).trans ht

theorem Reports.lehr {s t : State} (h : Reports s t) : t.lehr = s.lehr := (congrArg State.lehr h :)

theorem Reports.loopCore {s t : State} (h : Reports s t) : t.loopCore = s.loopCore := by
  rw [State.loopCore, State.loopCore, h.clk, h.arb, h.lehr]

section
variable (s : State) (n : Nat)

@[simp] theorem State.put_loopCore (a v : Nat) : (s.put a v).loopCore = s.loopCore := rfl
@[simp] theorem State.add_loopCore (a v : Nat) : (s.add n a v).loopCore = s.loopCore := rfl
@[simp] theorem State.inc_loopCore (a : Nat) : (s.inc n a).loopCore = s.loopCore := rfl
@[simp] theorem State.ruleShown_loopCore (on : Bool) : (s.ruleShown n on).loopCore = s.loopCore := rfl
@[simp] theorem State.loopRecord_loopCore (kind detail : Nat) : (s.loopRecord kind detail).loopCore = s.loopCore :=
  (s.record_reports _).loopCore

theorem State.loopRecord_lehr (kind detail : Nat) : (s.loopRecord kind detail).lehr = s.lehr := (s.record_reports _).lehr

@[simp] theorem State.fence_loopCore (fenced high : Bool) : (s.fence n fenced high).loopCore = s.loopCore := by
  unfold State.fence
  dsimp only
  split
  · split
    · exact State.loopRecord_loopCore _ _ _
    · rfl
  · split
    · split
      · exact State.loopRecord_loopCore _ _ _
      · rfl
    · rfl

@[simp] theorem State.safety_loopCore (rules : List Nat) : (s.safety n rules).loopCore = s.loopCore :=
  (foldl_loopCore (fun t r => t.loopRecord_loopCore 3 (n * 256 + r)) _ _).trans
    (foldl_loopCore (fun t r => t.loopRecord_loopCore 4 (n * 256 + r)) _ _)

@[simp] theorem State.showLoop_loopCore (off following : Bool) (out want : Int) :
    (s.showLoop n off following out want).loopCore = s.loopCore := by
  by_cases h : s.isl_ .fb = islUnpowered
  · rw [State.showLoop, if_pos h]
  · rw [State.showLoop, if_neg h]
    exact State.put_loopCore _ _ _

@[simp] theorem State.reshow_loopCore (off following : Bool) : (s.reshow n off following).loopCore = s.loopCore :=
  s.showLoop_loopCore n off following _ _

@[simp] theorem State.ageTo_loopCore : s.ageTo.loopCore = s.loopCore := by
  unfold State.ageTo
  split <;> rfl

@[simp] theorem State.ageRead_loopCore (t : Int) : (s.ageRead t).loopCore = s.loopCore := by
  unfold State.ageRead
  split
  · exact State.ageTo_loopCore _
  · exact s.ageTo_loopCore

@[simp] theorem State.readTs_loopCore (ts : List Int) : (s.readTs ts).loopCore = s.loopCore := by
  refine foldl_loopCore (fun t p => ?_) _ s
  dsimp only
  split
  · exact State.ageRead_loopCore _ _
  · rfl

end

/-! ### Windows (R691) -/

/-- A loop's window lies within H where S leaves any of it. -/
theorem loopWindow_within {h s f : Int × Int} (hle : max h.1 s.1 ≤ min h.2 s.2) :
    h.1 ≤ (loopWindow h s f).1 ∧ (loopWindow h s f).1 ≤ (loopWindow h s f).2 ∧ (loopWindow h s f).2 ≤ h.2 := by
  unfold loopWindow
  dsimp only
  split
  · dsimp only; omega
  · split <;> (dsimp only; omega)

/-- An output that is clamped to a window and to a step stays in the range it was in. -/
theorem clampInt_within {lo hi v want down up : Int} {w : Int × Int} (hw : lo ≤ w.1 ∧ w.1 ≤ w.2 ∧ w.2 ≤ hi) (hv : lo ≤ v ∧ v ≤ hi)
    (hd : 0 ≤ down) (hu : 0 ≤ up) {x : Int} (hx : x = clampInt (clampInt want w.1 w.2) (v - down) (v + up)) :
    lo ≤ x ∧ x ≤ hi ∧ x ≤ v + up ∧ v ≤ x + down := by
  subst hx
  unfold clampInt
  omega

/-- S of L1 leaves some of H, up to 1,000 mV. -/
theorem State.l1Window_within {s : State} (h : s.lehr.s3Top ≤ 1000) :
    750 ≤ s.l1Window.1 ∧ s.l1Window.1 ≤ s.l1Window.2 ∧ s.l1Window.2 ≤ 1000 := by
  refine loopWindow_within (h := (750, 1000)) ?_
  unfold State.l1Safe
  dsimp only
  split <;> split <;> split <;> omega

/-! ### L1 (R688, R689, R693) -/

/-- What agrees in what L1 and L2 set agrees in each part of it. -/
theorem State.loopCore_parts {s t : State} (h : t.loopCore = s.loopCore) : t.clk = s.clk ∧ t.arb = s.arb ∧
    t.lehr.vcore = s.lehr.vcore ∧ t.lehr.calm = s.lehr.calm ∧ t.lehr.th = s.lehr.th ∧ t.lehr.quiet = s.lehr.quiet ∧
    t.lehr.s3Top = s.lehr.s3Top := by
  simpa only [State.loopCore, Prod.mk.injEq] using h

/-- L1's readings. -/
def State.l1Read (s : State) (freqs : List Nat) (ts : List Int) (canary : Nat) : State :=
  (((freqs.take 12).zipIdx).foldl (fun t p => t.put (Reg.PROC_F p.2) (min p.1 (2 ^ 32 - 1))) (s.readTs ts)).add 4
    Reg.CANARY canary

theorem State.l1Read_loopCore (s : State) (freqs : List Nat) (ts : List Int) (canary : Nat) :
    (s.l1Read freqs ts canary).loopCore = s.loopCore :=
  (foldl_loopCore (fun t _ => t.put_loopCore _ _) _ _).trans (s.readTs_loopCore ts)

/-- The state in which L1 is evaluated: its readings taken, its safety rules as they stand. -/
def State.l1Ready (s : State) (freqs : List Nat) (ts : List Int) (canary : Nat) : State :=
  ((s.l1Read freqs ts canary).l1Rules (canary != 0)).safety 1 ((s.l1Read freqs ts canary).l1Rules (canary != 0)).l1Narrow

/-- The rules leave what L1 sets, but for the top of the window before S3. -/
theorem State.l1Ready_parts (s : State) (freqs : List Nat) (ts : List Int) (canary : Nat) :
    (s.l1Ready freqs ts canary).clk = s.clk ∧ (s.l1Ready freqs ts canary).arb = s.arb ∧
    (s.l1Ready freqs ts canary).lehr.vcore = s.lehr.vcore ∧ (s.l1Ready freqs ts canary).lehr.calm = s.lehr.calm ∧
    (s.lehr.s3Top ≤ 1000 → (s.l1Ready freqs ts canary).lehr.s3Top ≤ 1000) := by
  obtain ⟨hclk, harb, hv, hc, -, -, ht⟩ := State.loopCore_parts (t := s.l1Ready freqs ts canary)
    (s := (s.l1Read freqs ts canary).l1Rules (canary != 0)) (State.safety_loopCore _ _ _)
  obtain ⟨hclk', harb', hv', hc', -, -, ht'⟩ := State.loopCore_parts (s.l1Read_loopCore freqs ts canary)
  refine ⟨hclk.trans hclk', harb.trans harb', hv.trans hv', hc.trans hc', fun h => ?_⟩
  rw [ht]
  have hw := (State.l1Window_within (ht'.trans_le h)).2.2
  change (if (s.l1Read freqs ts canary).lehr.s3.isNone then (s.l1Read freqs ts canary).l1Window.2.toNat
    else (s.l1Read freqs ts canary).lehr.s3Top) ≤ 1000
  split <;> omega

section
variable (u : State) (freqs : List Nat) (canary : Nat)

/-- A canary error, or a bank without its margin. -/
def State.l1Low : Bool := canary != 0 || u.marginBelow freqs (u.el Reg.L1_MARGIN)

/-- The evaluations with every bank above the margin by more than 4 %, this one with them. -/
def State.l1Calm : Nat :=
  if u.l1Low freqs canary ∨ !u.marginAbove freqs (u.el Reg.L1_MARGIN + 4) then 0 else u.lehr.calm + 1

/-- What L1 asks for. -/
def State.l1Want : Int :=
  if u.l1Low freqs canary then (u.lehr.vcore : Int) + 10
  else if u.marginAbove freqs (u.el Reg.L1_MARGIN + 4) ∧ 100 ≤ u.l1Calm freqs canary then (u.lehr.vcore : Int) - 5
  else u.lehr.vcore

/-- What it gets: in its window, and no further than its steps. -/
def State.l1Out : Int :=
  clampInt (clampInt (u.l1Want freqs canary) u.l1Window.1 u.l1Window.2) ((u.lehr.vcore : Int) - 5) ((u.lehr.vcore : Int) + 10)

end

theorem l1Evaluate_sleeps {freqs : List Nat} {ts : List Int} {canary : Nat} {s : State} (hr : s.runs .fb = false) :
    exec (.l1Evaluate freqs ts canary) s = .next s := if_pos (by simp [hr])

theorem l1Evaluate_holds {freqs : List Nat} {ts : List Int} {canary : Nat} {s : State} (hr : s.runs .fb = true)
    (hh : (s.l1Ready freqs ts canary).loopHolds 1 = true) :
    exec (.l1Evaluate freqs ts canary) s = .next ((s.l1Ready freqs ts canary).reshow 1 false false) :=
  (if_neg (by simp [hr])).trans (if_pos hh)

/-- An evaluation sets the core voltage to L1's answer, and leaves the rest of what the loops set but its count. -/
theorem l1Evaluate_sets {freqs : List Nat} {ts : List Int} {canary : Nat} {s u : State} (hr : s.runs .fb = true)
    (hu : u = s.l1Ready freqs ts canary) (hh : u.loopHolds 1 = false) : ∃ x : State,
    exec (.l1Evaluate freqs ts canary) s = .next x ∧ x.clk = s.clk ∧ x.arb = s.arb ∧
      x.lehr.vcore = (u.l1Out freqs canary).toNat ∧ x.lehr.s3Top = u.lehr.s3Top := by
  subst hu
  refine ⟨_, (if_neg (by simp [hr])).trans (if_neg (by rw [Bool.not_eq_true]; exact hh)), ?_⟩
  obtain ⟨hclk, harb, -⟩ := s.l1Ready_parts freqs ts canary
  obtain ⟨hclk', harb', hv, -, -, -, ht⟩ := State.loopCore_parts
    ((State.showLoop_loopCore _ 1 false false _ _).trans (State.fence_loopCore _ 1 _ _))
  exact ⟨hclk'.trans hclk, harb'.trans harb, hv, ht⟩

/-! ### L2 (R690) -/

/-- L2's count of quiet evaluations, this one with them. -/
def State.l2Quiet (s : State) (canary : Bool) : Nat := if canary then 0 else s.lehr.quiet + 1

/-- The threshold rises. -/
def State.l2Rise (s : State) (canary : Bool) (stretched edges : Nat) : Bool :=
  !canary && decide (64 ≤ s.l2Quiet canary) && decide (edges < stretched * 256)

/-- What L2 asks for. -/
def State.l2Want (s : State) (canary : Bool) (stretched edges : Nat) : Int :=
  if canary then (s.lehr.th : Int) - 4 else if s.l2Rise canary stretched edges then (s.lehr.th : Int) + 1 else s.lehr.th

/-- What it gets. -/
def State.l2Out (s : State) (canary : Bool) (stretched edges : Nat) : Int :=
  clampInt (clampInt (s.l2Want canary stretched edges) (loopWindow (10, 60) (10, 60) s.l2Fence).1
    (loopWindow (10, 60) (10, 60) s.l2Fence).2) ((s.lehr.th : Int) - 4) ((s.lehr.th : Int) + 1)

theorem l2Evaluate_holds {canary : Bool} {stretched edges : Nat} {s : State} (hr : s.runs .fb = true)
    (hh : s.loopHolds 2 = true) : exec (.l2Evaluate canary stretched edges) s = .next (s.reshow 2 false false) :=
  (if_neg (by simp [hr])).trans (if_pos hh)

theorem l2Evaluate_sets {canary : Bool} {stretched edges : Nat} {s : State} (hr : s.runs .fb = true)
    (hh : s.loopHolds 2 = false) : ∃ t : State, exec (.l2Evaluate canary stretched edges) s = .next t ∧
      t.lehr.th = (s.l2Out canary stretched edges).toNat ∧
      t.lehr.quiet = if s.l2Rise canary stretched edges then 0 else s.l2Quiet canary := by
  refine ⟨_, (if_neg (by simp [hr])).trans (if_neg (by rw [Bool.not_eq_true]; exact hh)), ?_⟩
  obtain ⟨-, -, -, -, hth, hq, -⟩ := State.loopCore_parts
    ((State.showLoop_loopCore _ 2 false false _ _).trans (State.fence_loopCore _ 2 _ _))
  exact ⟨hth, hq⟩

/-- Settles O55: an answer clamped to its window and its step stays in both. -/
theorem loopsStayInWindow : Obligations.LoopsStayInWindow := by
  refine ⟨fun freqs ts canary s t h₀ h₁ h₂ he => ?_, fun canary stretched edges s t h₀ h₁ he => ?_⟩
  · cases hr : s.runs .fb with
    | false =>
      rw [l1Evaluate_sleeps hr] at he
      cases he
      omega
    | true =>
      obtain ⟨-, -, hv, -, htop⟩ := s.l1Ready_parts freqs ts canary
      cases hh : (s.l1Ready freqs ts canary).loopHolds 1 with
      | true =>
        rw [l1Evaluate_holds hr hh] at he
        cases he
        obtain ⟨-, -, hv', -, -, -, ht'⟩ := State.loopCore_parts (State.reshow_loopCore (s.l1Ready freqs ts canary) 1 false false)
        rw [hv', ht', hv]
        exact ⟨h₀, h₁, htop h₂, by omega, by omega⟩
      | false =>
        obtain ⟨x, hx, -, -, hvx, htx⟩ := l1Evaluate_sets hr rfl hh
        cases hx.symm.trans he
        have hin := clampInt_within (State.l1Window_within (htop h₂)) (v := (s.l1Ready freqs ts canary).lehr.vcore) (by omega)
          (by decide : (0 : Int) ≤ 5) (by decide : (0 : Int) ≤ 10)
          (rfl : (s.l1Ready freqs ts canary).l1Out freqs canary = _)
        rw [hv] at hin
        rw [htx, hvx]
        exact ⟨by omega, by omega, htop h₂, by omega, by omega⟩
  · cases hr : s.runs .fb with
    | false =>
      rw [exec_l2Evaluate, execL2Evaluate, if_pos (by simp [hr])] at he
      cases he
      omega
    | true =>
      cases hh : s.loopHolds 2 with
      | true =>
        rw [l2Evaluate_holds hr hh] at he
        cases he
        obtain ⟨-, -, -, -, hth, -⟩ := State.loopCore_parts (State.reshow_loopCore s 2 false false)
        omega
      | false =>
        obtain ⟨x, hx, hth, -⟩ := l2Evaluate_sets hr hh
        cases hx.symm.trans he
        have hin := clampInt_within (loopWindow_within (h := (10, 60)) (s := (10, 60)) (f := s.l2Fence) (by decide))
          (v := s.lehr.th) (by omega) (by decide : (0 : Int) ≤ 4) (by decide : (0 : Int) ≤ 1)
          (rfl : s.l2Out canary stretched edges = _)
        rw [hth]
        omega

/-! ### The voltage monitors (R685) -/

section
variable {m : Fin 8} {high : Bool} {mv : Nat} {s t : State} (hp : s.mainPower = true)
  (ht : t = s.put (Reg.VMON_MV m) (min mv (2 ^ 32 - 1)))
include hp ht

/-- A monitor of both limits that goes beyond one for the first time. -/
theorem vmonBandCross_enters (h₀ : t.el (Reg.VMON_LIM m) / 2 ^ 32 ≠ 0) (h₁ : t.el (Reg.VMON_LIM m) % 2 ^ 32 ≠ 0)
    (hb : (m.val, high) ∉ s.lehr.bands)
    (hx : if high then t.el (Reg.VMON_LIM m) % 2 ^ 32 < mv else mv < t.el (Reg.VMON_LIM m) / 2 ^ 32) :
    exec (.vmonBandCross m high true mv) s =
      .next (({ t with lehr := { t.lehr with bands := t.lehr.bands ++ [(m.val, high)] } }).loopRecord 7
        (m * 256 + (if high then 2 else 0) + 1)) := by
  subst ht
  have hb' : (s.put (Reg.VMON_MV m) (min mv (2 ^ 32 - 1))).lehr.bands.contains (m.val, high) = false := by simpa using hb
  rw [exec_vmonBandCross, execVmonBandCross, if_neg (by simp [hp])]
  dsimp only
  rw [if_neg (by simp only [h₀, h₁, or_self, not_false_eq_true]), if_pos]
  · rfl
  · rw [hb']
    cases high <;> simpa using hx

/-- One that returns 1 % inside it. -/
theorem vmonBandCross_leaves (h₀ : t.el (Reg.VMON_LIM m) / 2 ^ 32 ≠ 0) (h₁ : t.el (Reg.VMON_LIM m) % 2 ^ 32 ≠ 0)
    (hb : (m.val, high) ∈ s.lehr.bands)
    (hx : if high then mv * 100 ≤ t.el (Reg.VMON_LIM m) % 2 ^ 32 * 99 else t.el (Reg.VMON_LIM m) / 2 ^ 32 * 101 ≤ mv * 100) :
    exec (.vmonBandCross m high false mv) s =
      .next (({ t with lehr := { t.lehr with bands := t.lehr.bands.erase (m.val, high) } }).loopRecord 7
        (m * 256 + (if high then 2 else 0))) := by
  subst ht
  have hb' : (s.put (Reg.VMON_MV m) (min mv (2 ^ 32 - 1))).lehr.bands.contains (m.val, high) = true := by simpa using hb
  rw [exec_vmonBandCross, execVmonBandCross, if_neg (by simp [hp])]
  dsimp only
  rw [if_neg (by simp only [h₀, h₁, or_self, not_false_eq_true]), if_pos]
  · simp only [Bool.false_eq_true, if_false, Nat.add_zero]
  · rw [hb']
    cases high <;> simpa using hx

/-- One that is beyond it already. -/
theorem vmonBandCross_again (hb : (m.val, high) ∈ s.lehr.bands) : exec (.vmonBandCross m high true mv) s = .next t := by
  subst ht
  have hb' : (s.put (Reg.VMON_MV m) (min mv (2 ^ 32 - 1))).lehr.bands.contains (m.val, high) = true := by simpa using hb
  rw [exec_vmonBandCross, execVmonBandCross, if_neg (by simp [hp])]
  dsimp only
  rw [hb']
  simp only [Bool.not_true, Bool.false_eq_true, and_false, false_and, or_self, if_false, ite_self]

end

/-! ### Inputs lost and returned (R698, R699) -/

theorem State.loopHolds_of_lehr {s t : State} (h : t.lehr = s.lehr) (n : Nat) : t.loopHolds n = s.loopHolds n := by
  rw [State.loopHolds, State.loopHolds, h]

theorem loopInputLost_holds {k : Fin 7} {n mon : Nat} {s t : State} (hn : n = k.val + 1) (hl : (n, mon) ∉ s.lehr.lost)
    (ht : t = ({ s with lehr := { s.lehr with lost := s.lehr.lost ++ [(n, mon)] } }).loopRecord 5 (n * 256 + mon % 256)) :
    exec (.loopInputLost k mon) s = .next ((if t.loopHolds n ∧ !s.loopHolds n then t.inc 4 (Reg.LOOP_STALE k) else t).reshow n
      false false) := by
  have hlost : s.lehr.lost.contains (n, mon) = false := by simpa using hl
  rw [ht, State.loopHolds_of_lehr (State.loopRecord_lehr _ _ _)]
  subst hn
  rw [exec_loopInputLost, execLoopInputLost]
  exact if_neg (by rw [hlost]; exact Bool.false_ne_true)

theorem loopInputReturn_goes {k : Fin 7} {n mon : Nat} {s t : State} (hn : n = k.val + 1) (hl : (n, mon) ∈ s.lehr.lost)
    (ht : t = { s with lehr := { s.lehr with lost := s.lehr.lost.erase (n, mon) } }) : exec (.loopInputReturn k mon) s =
      .next ((t.loopRecord 6 (n * 256 + mon % 256)).reshow n false (n == 5 && t.pwr.follow)) := by
  have hlost : s.lehr.lost.contains (n, mon) = true := by simpa using hl
  subst ht hn
  rw [exec_loopInputReturn, execLoopInputReturn]
  exact if_neg (by rw [hlost]; exact Bool.false_ne_true)

/-- Settles O56: L1 and L2 by what each asks for, the monitors in each case, and a loop's inputs. -/
theorem loops : Obligations.Loops := by
  refine ⟨?_, ?_, ?_, ?_, fun k n mon s t hn hl ht => loopInputReturn_goes hn hl ht⟩
  · intro freqs ts canary s t u v w hr ht hu hh hv hw
    have hu' : u = s.l1Ready freqs ts canary := by rw [hu, ht]; rfl
    obtain ⟨x, hx, hclk, harb, hvc, -⟩ := l1Evaluate_sets hr hu' hh
    obtain ⟨-, -, hv', hc', -⟩ := s.l1Ready_parts freqs ts canary
    rw [← hu'] at hv' hc'
    have hout : u.l1Out freqs canary = clampInt (clampInt (u.l1Want freqs canary) w.1 w.2) (v - 5) (v + 10) := by
      rw [State.l1Out, hv', hv, hw]
    rw [hout] at hvc
    refine ⟨x, hx, hclk, harb, fun h => ?_, fun h0 hb => ⟨fun h => ?_, fun ha hcalm => ?_⟩⟩
    · have hlow : u.l1Low freqs canary = true := by
        rcases h with h | h <;> simp [State.l1Low, h]
      rw [hvc, State.l1Want, if_pos hlow, hv', hv]
    · have hlow : u.l1Low freqs canary = false := by simp [State.l1Low, h0, hb]
      rw [hvc, State.l1Want, if_neg (by simp [hlow]), if_neg, hv', hv]
      rintro ⟨ha, hn⟩
      rw [State.l1Calm, if_neg (by simp [hlow, ha]), hc'] at hn
      rcases h with h | h
      · rw [h] at ha
        exact Bool.false_ne_true ha
      · omega
    · have hlow : u.l1Low freqs canary = false := by simp [State.l1Low, h0, hb]
      rw [hvc, State.l1Want, if_neg (by simp [hlow]), if_pos, hv', hv]
      refine ⟨ha, ?_⟩
      rw [State.l1Calm, if_neg (by simp [hlow, ha]), hc']
      omega
  · intro canary stretched edges s w hr hh hw
    obtain ⟨t, ht, hth, hq⟩ := l2Evaluate_sets (canary := canary) (stretched := stretched) (edges := edges) hr hh
    rw [State.l2Out, ← hw] at hth
    refine ⟨t, ht, fun hc => ?_, fun hc hquiet he => ?_, fun hc hquiet => ?_⟩
    · subst hc
      exact ⟨hq, hth⟩
    · subst hc
      have hrise : s.l2Rise false stretched edges = true := by
        simp [State.l2Rise, State.l2Quiet, he]
        omega
      rw [hrise, if_pos rfl] at hq
      rw [State.l2Want, if_neg Bool.false_ne_true, hrise, if_pos rfl] at hth
      exact ⟨hq, hth⟩
    · subst hc
      have hrise : s.l2Rise false stretched edges = false := by
        simp [State.l2Rise, State.l2Quiet]
        omega
      rw [hrise] at hq
      exact hq
  · intro m high mv s t hp ht h₀ h₁
    have hbands : t.lehr.bands = s.lehr.bands := by rw [ht]; rfl
    refine ⟨fun hh hv hb l hl => ?_, fun hh hv hb l hl => ?_, fun hh hv hb => ?_, vmonBandCross_again hp ht⟩
    · subst hh
      rw [vmonBandCross_enters hp ht h₀ h₁ hb hv, hl, hbands]
      simp
    · subst hh
      rw [vmonBandCross_enters hp ht h₀ h₁ hb hv, hl, hbands]
      simp
    · subst hh
      rw [vmonBandCross_leaves hp ht h₀ h₁ hb hv]
      simp
  · intro k n mon s t hn hl ht
    rw [loopInputLost_holds hn hl ht]
    refine ⟨fun h hs => by rw [if_pos (by simp [h, hs])], fun h => ?_⟩
    rw [if_neg]
    rcases h with h | h <;> simp [h]

end Sys2Proof.Machine
end

section
/-! SUPPORT. The charger's faults and the table of its states (R552, R556, R562). -/
namespace Sys2Proof.Machine
open Host

theorem exec_vinOvervoltage (vin : Nat) (s : State) : exec (.vinOvervoltage vin) s = execVinOvervoltage vin s := rfl
theorem exec_vsysOvervoltage (vsys : Nat) (s : State) : exec (.vsysOvervoltage vsys) s = execVsysOvervoltage vsys s := rfl
theorem exec_converterVinLowStop (vin vsys : Nat) (s : State) :
    exec (.converterVinLowStop vin vsys) s = execConverterVinLowStop vin vsys s := rfl
theorem exec_prechargeTimeout (s : State) : exec .prechargeTimeout s = execPrechargeTimeout s := rfl
theorem exec_chgClearWrite (r : Req) (s : State) : exec (.chgClearWrite r) s = execChgClearWrite r s := rfl
theorem exec_chargeTransition (vin vsys : Nat) (temp : Int) (ntc : Bool) (ib : Int) (long : Bool) (s : State) :
    exec (.chargeTransition vin vsys temp ntc ib long) s = execChargeTransition vin vsys temp ntc ib long s := rfl

/-! ### Stops and faults (R552, R556, R562) -/

/-- A reading of VIN changes no charge state. -/
theorem State.chg_readVin (s : State) (vin : Nat) : (s.readVin vin).chg = s.chg := by
  unfold State.readVin State.chg
  rw [State.el_put_ne _ _ (by decide), State.el_put_ne _ _ (by decide)]
  rfl

theorem State.chg_readVsys (s : State) (vsys : Nat) : (s.readVsys vsys).chg = s.chg := by
  unfold State.readVsys State.chg
  rw [State.el_put_ne _ _ (by decide), State.el_put_ne _ _ (by decide)]
  rfl

theorem vinOvervoltage_stops {vin : Nat} {s t : State} (hl : s.pwLoaded = true) (hv : 62000 < vin)
    (ht : t = { s.readVin vin with pwr := { (s.readVin vin).pwr with high := true } }) : exec (.vinOvervoltage vin) s =
      if s.chg = chgOff then .next t else if s.chg = chgFault then .next t.stopConverter
      else .next (t.stopConverter.chgGo chgFault 4) := by
  have hc : t.chg = s.chg := by
    rw [ht]
    exact s.chg_readVin vin
  rw [exec_vinOvervoltage, execVinOvervoltage, if_neg (by simp [hl, hv]), ← hc, ht]

theorem vsysOvervoltage_stops {vsys : Nat} {p : Profile} {s t : State} (hp : s.profile = some p) (hl : s.pwLoaded = true)
    (hv : p.above * p.cells < vsys) (ht : t = s.readVsys vsys) : exec (.vsysOvervoltage vsys) s =
      if s.chg = chgOff then .next s else if s.chg = chgFault then .next t.stopConverter
      else .next (t.stopConverter.chgGo chgFault 1) := by
  have hc : t.chg = s.chg := by rw [ht, State.chg_readVsys]
  rw [exec_vsysOvervoltage, execVsysOvervoltage, hp, ← ht]
  dsimp only
  by_cases hoff : s.chg = chgOff
  · rw [if_pos (.inr (.inr hoff)), if_pos hoff]
  · rw [if_neg (by simp [hl, hv, hoff]), if_neg hoff, hc]

theorem converterVinLowStop_stops {vin vsys : Nat} {s : State} (hl : s.pwLoaded = true) (hv : vin < vsys + 500) :
    exec (.converterVinLowStop vin vsys) s =
      if s.pwr.on then .next (s.readBus vin vsys).stopConverter else .next (s.readBus vin vsys) :=
  if_neg (by simp [hl, hv])

theorem State.chgClear_else {t : State} (h : ¬(t.chg = chgFault ∧ t.el Reg.CHG_FAULT = 3)) : t.chgClear 1 = (t, .ok) :=
  (if_neg (not_not.mpr rfl)).trans (if_neg h)

theorem chgClearWrite_let {r : Req} {s t : State} {w : Who} (ha : r.addr = Reg.CHG_CLEAR) (hl : LetThrough s r false t w) :
    exec (.chgClearWrite r) s =
      .next ((t.chgClear (bytesToNum r.value)).1.finish r 2 .q (t.chgClear (bytesToNum r.value)).2 []) :=
  congrArg Outcome.next (State.ownWrite_let hl (beq_iff_eq.mpr ha))

theorem ntcBad_eq {temp : Int} {ntc n : Bool} (h : n = true ↔ ntc = true ∨ temp < -6000 ∨ 10000 < temp) : ntcBad temp ntc = n := by
  rw [Bool.eq_iff_iff, h]
  simp [ntcBad, or_assoc]

/-! ### The table of the charge states (R562) -/

section
variable {t : State} {p : Profile} {ib : Int} {ntc long : Bool} (hp : t.profile = some p)

theorem State.chgStep_disabled (hd : t.chgDisabled = true) : t.chgStep ntc ib long = t.chgGo chgOff 0 := if_pos hd

variable (hd : t.chgDisabled = false)
include hp hd

/-- The rows that fault a charger that is neither OFF nor in FAULT come first. -/
theorem State.chgStep_faults (ho : t.chg ≠ chgOff) (hf : t.chg ≠ chgFault) :
    (p.above * p.cells < t.pwr.vsys → t.chgStep ntc ib long = t.stopConverter.chgGo chgFault 1) ∧
    (t.pwr.vsys ≤ p.above * p.cells → ntc = true → t.lead = false → t.chgStep ntc ib long = t.chgGo chgFault 2) ∧
    (t.pwr.vsys ≤ p.above * p.cells → ntc = false → 62000 < t.pwr.vin →
      t.chgStep ntc ib long = t.stopConverter.chgGo chgFault 4) := by
  refine ⟨fun ha => ?_, fun ha hn hlead => ?_, fun ha hn hv => ?_⟩
  · simp only [State.chgStep, hp, hd, ha, ho, hf, ne_eq, not_false_eq_true, decide_true, and_self, Bool.false_eq_true, if_true,
      if_false]
  · simp only [State.chgStep, hp, hd, Nat.not_lt.mpr ha, ho, hf, hn, hlead, ne_eq, not_false_eq_true, decide_false, Bool.not_false,
      and_true, Bool.false_eq_true, and_false, if_true, if_false]
  · simp only [State.chgStep, hp, hd, Nat.not_lt.mpr ha, ho, hf, hn, hv, ne_eq, not_false_eq_true, decide_false, and_true,
      Bool.false_eq_true, false_and, and_false, if_true, if_false]

variable (ha : t.pwr.vsys ≤ p.above * p.cells) (hn : ntc = false) (hv : t.pwr.vin ≤ 62000) (hfr : t.pwr.fresh = false)
include ha hn hv hfr

/-- With no fault and the profile's change past, VIN below VSYS + 0.5 V ends the charge. -/
theorem State.chgStep_night (hc : chargeState t.chg = true) (hl : t.pwr.vin < t.pwr.vsys + 500) :
    t.chgStep ntc ib long = t.chgGo chgNight 0 := by
  have hc' : 4 ≤ t.chg ∧ t.chg ≤ 7 := of_decide_eq_true hc
  have ho : t.chg ≠ 0 := by omega
  have hf : t.chg ≠ 9 := by omega
  have hr : t.chg ≠ 8 := by omega
  have hconv : convState t.chg = true := decide_eq_true (show 2 ≤ t.chg ∧ t.chg ≤ 8 by omega)
  simp only [State.chgStep, hp, hd, Nat.not_lt.mpr ha, Nat.not_lt.mpr hv, ho, hf, hr, hn, hfr, hconv, hl, ne_eq, not_false_eq_true,
    decide_false, and_self, Bool.false_eq_true, false_and, and_false, if_true, if_false]

/-- At night the charger waits for VIN. -/
theorem State.chgStep_atNight (hc : t.chg = chgNight) :
    t.chgStep ntc ib long = if t.pwr.vsys + 1000 < t.pwr.vin then t.evaluate else t := by
  simp [State.chgStep, hp, hd, Nat.not_lt.mpr ha, Nat.not_lt.mpr hv, hc, hn, hfr, convState]

variable (hl : t.pwr.vsys + 500 ≤ t.pwr.vin)
include hl

/-- By day a battery out of its temperatures is not charged. -/
theorem State.chgStep_temperature (hc : chargeState t.chg = true) (hT : t.batTemp < t.tLo ∨ t.tHi < t.batTemp) :
    t.chgStep ntc ib long = t.chgGo (if t.batTemp < t.tLo then chgCold else chgHot) 0 := by
  have hc' : 4 ≤ t.chg ∧ t.chg ≤ 7 := of_decide_eq_true hc
  have ho : t.chg ≠ 0 := by omega
  have hf : t.chg ≠ 9 := by omega
  have hni : t.chg ≠ 1 := by omega
  by_cases hlo : t.batTemp < t.tLo
  · simp [State.chgStep, hp, hd, Nat.not_lt.mpr ha, Nat.not_lt.mpr hv, Nat.not_lt.mpr hl, ho, hf, hni, hc, hn, hfr, hlo]
  · have hhi := hT.resolve_left hlo
    simp [State.chgStep, hp, hd, Nat.not_lt.mpr ha, Nat.not_lt.mpr hv, Nat.not_lt.mpr hl, ho, hf, hni, hc, hn, hfr, hlo, hhi]

theorem State.chgStep_cold (hc : t.chg = chgCold) :
    t.chgStep ntc ib long = if t.tLo + 100 ≤ t.batTemp then t.evaluate else t := by
  have hno : chargeState chgCold = false := by decide
  simp [State.chgStep, hp, hd, Nat.not_lt.mpr ha, Nat.not_lt.mpr hv, Nat.not_lt.mpr hl, hc, hn, hfr, hno]

theorem State.chgStep_hot (hc : t.chg = chgHot) :
    t.chgStep ntc ib long = if t.batTemp ≤ t.tHi - 200 then t.evaluate else t := by
  have hno : chargeState chgHot = false := by decide
  simp [State.chgStep, hp, hd, Nat.not_lt.mpr ha, Nat.not_lt.mpr hv, Nat.not_lt.mpr hl, hc, hn, hfr, hno]

variable (hlo : t.tLo ≤ t.batTemp) (hhi : t.batTemp ≤ t.tHi)
include hlo hhi

theorem State.chgStep_pre (hc : t.chg = chgPre) : t.chgStep ntc ib long =
    if t.preMv + 100 ≤ t.cellMv then ({ t with pwr := { t.pwr with tries := 0 } }).chgGo chgBulk 0 else t := by
  simp [State.chgStep, hp, hd, Nat.not_lt.mpr ha, Nat.not_lt.mpr hv, Nat.not_lt.mpr hl, Int.not_lt.mpr hlo, Int.not_lt.mpr hhi, hc,
    hn, hfr]

theorem State.chgStep_bulk (hc : t.chg = chgBulk) : t.chgStep ntc ib long =
    if t.cvMv * p.cells ≤ t.pwr.vsys then t.chgGo chgAbsorb 0 else t := by
  simp [State.chgStep, hp, hd, Nat.not_lt.mpr ha, Nat.not_lt.mpr hv, Nat.not_lt.mpr hl, Int.not_lt.mpr hlo, Int.not_lt.mpr hhi, hc,
    hn, hfr]

theorem State.chgStep_absorb (hc : t.chg = chgAbsorb) : t.chgStep ntc ib long =
    if ib < 20 * (t.el Reg.BAT_CAP_AH : Nat) ∨ long = true then t.chgGo (if t.lead then chgFloat else chgRest) 0 else t := by
  simp [State.chgStep, hp, hd, Nat.not_lt.mpr ha, Nat.not_lt.mpr hv, Nat.not_lt.mpr hl, Int.not_lt.mpr hlo, Int.not_lt.mpr hhi, hc,
    hn, hfr]

theorem State.chgStep_full (hc : t.chg = chgFloat ∨ t.chg = chgRest) : t.chgStep ntc ib long =
    if t.cellMv < t.rechMv then t.chgGo chgBulk 0 else t := by
  rcases hc with hc | hc
  · simp [State.chgStep, hp, hd, Nat.not_lt.mpr ha, Nat.not_lt.mpr hv, Nat.not_lt.mpr hl, Int.not_lt.mpr hlo, Int.not_lt.mpr hhi, hc,
      hn, hfr]
  · simp [State.chgStep, hp, hd, Nat.not_lt.mpr ha, Nat.not_lt.mpr hv, Nat.not_lt.mpr hl, Int.not_lt.mpr hlo, Int.not_lt.mpr hhi, hc,
      hn, hfr]

end

/-- Settles O44: the stops, CHG_CLEAR, and the rows of the table in their order. -/
theorem charger : Obligations.Charger := by
  refine ⟨fun vin s t hl hv ht => ?_, fun vsys p s t hp hl hv ht => ?_, fun vin vsys s hl hv => ?_,
    fun s hl hc => if_pos ⟨hl, hc⟩, fun r s t w ha hl => ?_, ?_, fun ib ntc long p t hp => ⟨State.chgStep_disabled,
    fun hd ho hf => ?_, fun hc hd ha hn hv hfr hle => ?_⟩⟩
  · rw [vinOvervoltage_stops hl hv ht]
    exact ⟨fun ho hf => by rw [if_neg ho, if_neg hf], fun hf => by rw [if_neg (by rw [hf]; decide), if_pos hf],
      fun ho => if_pos ho⟩
  · rw [vsysOvervoltage_stops hp hl hv ht]
    exact ⟨fun ho hf => by rw [if_neg ho, if_neg hf], fun hf => by rw [if_neg (by rw [hf]; decide), if_pos hf],
      fun ho => if_pos ho⟩
  · rw [converterVinLowStop_stops hl hv]
    exact ⟨fun ho => if_pos ho, fun ho => if_neg (by simp [ho])⟩
  · rw [chgClearWrite_let ha hl]
    refine ⟨fun hv => ?_, fun hv hc hf => ?_, fun hv hc => ?_⟩
    · rw [State.chgClear, if_pos hv]
      exact congrArg Outcome.next (State.finish_answer _ _ _ _ _ _ hl.heard (by simp))
    · rw [State.chgClear, if_neg (by simp [hv]), if_pos ⟨hc, hf⟩]
    · rw [hv, State.chgClear_else (fun h => hc h.1)]
      exact congrArg Outcome.next (State.finish_answer _ _ _ _ _ _ hl.heard (by simp))
  · intro vin vsys temp ib ntc n long s t hl ht hn
    rw [exec_chargeTransition, execChargeTransition, if_neg (by simp [hl]), ntcBad_eq hn, ht]
  · obtain ⟨h1, h2, h4⟩ := State.chgStep_faults (ib := ib) (ntc := ntc) (long := long) hp hd ho hf
    refine ⟨h1, fun ha => ⟨h2 ha, fun hn => ⟨h4 ha hn, fun hv hfr hl => ⟨fun hc hlt => ?_, fun hc hT => ?_, fun hc hlo hT => ?_,
      fun hc hT => ?_, fun hc hT => ?_, fun hlo hhi => ⟨fun hc hx => ?_, fun hc hx => ?_, fun hc hx => ?_, fun hc hx => ?_⟩⟩⟩,
      fun hn hv hfr hl hc => State.chgStep_night hp hd ha hn hv hfr hc hl⟩⟩
    · rw [State.chgStep_atNight hp hd ha hn hv hfr hc, if_pos hlt]
    · rw [State.chgStep_temperature hp hd ha hn hv hfr hl hc (.inl hT), if_pos hT]
    · rw [State.chgStep_temperature hp hd ha hn hv hfr hl hc (.inr hT), if_neg (Int.not_lt.mpr hlo)]
    · rw [State.chgStep_cold hp hd ha hn hv hfr hl hc, if_pos hT]
    · rw [State.chgStep_hot hp hd ha hn hv hfr hl hc, if_pos hT]
    · rw [State.chgStep_pre hp hd ha hn hv hfr hl hlo hhi hc, if_pos hx]
    · rw [State.chgStep_bulk hp hd ha hn hv hfr hl hlo hhi hc, if_pos hx]
    · rw [State.chgStep_absorb hp hd ha hn hv hfr hl hlo hhi hc, if_pos hx]
    · rw [State.chgStep_full hp hd ha hn hv hfr hl hlo hhi hc, if_pos hx]
  · rw [State.chgStep_atNight hp hd ha hn hv hfr hc, if_neg (by omega)]

end Sys2Proof.Machine
end

section
/-! SUPPORT. Loops L5 to L7, the energy budget and the battery's watch (chapter 15): what the loops' records leave of the power
elements, and what each command sets. -/
namespace Sys2Proof.Machine
open Host

theorem exec_l5Evaluate (vin vsys ichg : Nat) (full : Bool) (s : State) :
    exec (.l5Evaluate vin vsys ichg full) s = execL5Evaluate vin vsys ichg full s := rfl
theorem exec_mpptSweep (voc best : Nat) (s : State) : exec (.mpptSweep voc best) s = execMpptSweep voc best s := rfl
theorem exec_l6Evaluate (ib : Int) (dev : Nat) (s : State) : exec (.l6Evaluate ib dev) s = execL6Evaluate ib dev s := rfl
theorem exec_l7Evaluate (temp : Int) (ntc : Bool) (s : State) : exec (.l7Evaluate temp ntc) s = execL7Evaluate temp ntc s := rfl
theorem exec_hourBoundary (s : State) : exec .hourBoundary s = execHourBoundary s := rfl
theorem exec_socRestCorrection (vsys : Nat) (s : State) : exec (.socRestCorrection vsys) s = execSocRestCorrection vsys s := rfl
theorem exec_batAlarmChange (vsys : Nat) (s : State) : exec (.batAlarmChange vsys) s = execBatAlarmChange vsys s := rfl
theorem exec_snowCheck (s : State) : exec .snowCheck s = execSnowCheck s := rfl
theorem exec_pwNightWake (charge : Int) (vin vsys : Nat) (s : State) :
    exec (.pwNightWake charge vin vsys) s = execPwNightWake charge vin vsys s := rfl

/-! ### What the loops' records and states leave of the power elements -/

/-- The elements that the power loops read: those of chapter 15, the temperatures of the die, and the states of AO and PW. -/
def powerEl (a : Nat) : Bool :=
  decide (0x1B0000 ≤ a ∧ a < 0x1C0000) || decide (0x1F0001 ≤ a ∧ a ≤ 0x1F0009) ||
  a == Reg.ISL_STATE (islNum .ao) || a == Reg.ISL_STATE (islNum .pw)

/-- From s to t these, PW's own state and the inputs lost stand. -/
structure State.PowerSame (s t : State) : Prop where
  el : ∀ a, powerEl a = true → t.el a = s.el a
  pwr : t.pwr = s.pwr
  lost : t.lehr.lost = s.lehr.lost

theorem State.PowerSame.refl (s : State) : s.PowerSame s := ⟨fun _ _ => rfl, rfl, rfl⟩

theorem State.PowerSame.trans {s t u : State} (h : s.PowerSame t) (k : t.PowerSame u) : s.PowerSame u :=
  ⟨fun a ha => (k.el a ha).trans (h.el a ha), k.pwr.trans h.pwr, k.lost.trans h.lost⟩

theorem State.PowerSame.foldl {α : Type} {f : State → α → State} (hf : ∀ (t : State) x, t.PowerSame (f t x)) (l : List α)
    (s : State) : s.PowerSame (l.foldl f s) :=
  List.foldlRecOn l f (motive := fun t => s.PowerSame t) (.refl s) fun t ht x _ => ht.trans (hf t x)

theorem Reports.pwr {s t : State} (h : Reports s t) : t.pwr = s.pwr := (congrArg State.pwr h :)

section
variable (s : State)

theorem State.put_powerSame {a : Nat} (v : Nat) (h : powerEl a = false) : s.PowerSame (s.put a v) where
  el b hb := s.el_put_ne v fun he => by rw [he, h] at hb; exact Bool.false_ne_true hb
  pwr := rfl
  lost := rfl

/-- The fenced loops and the safety rules are no power element. -/
theorem State.withLehr_powerSame {l : LehrSt} (h : l.lost = s.lehr.lost) : s.PowerSame { s with lehr := l } :=
  ⟨fun _ _ => rfl, rfl, h⟩

theorem State.record_powerSame (n : NewRec) : s.PowerSame (s.record n) where
  el a ha := by
    refine s.el_record_ne n fun hm => ?_
    have ha' : (0x1B0000 ≤ a ∧ a < 0x1C0000) ∨ (0x1F0001 ≤ a ∧ a ≤ 0x1F0009) ∨ a = Reg.ISL_STATE 1 ∨ a = Reg.ISL_STATE 6 := by
      simpa [powerEl, or_assoc, islNum] using ha
    simp only [recordEls, List.mem_cons, List.not_mem_nil, or_false, Reg.REC_OVERRUNS, Reg.EVT_LOST, Reg.REC_OVERRUN_ALL,
      Reg.REC_LOW, Reg.RING_WAITS, Reg.CH_ABANDON, Reg.ISL_STATE] at hm ha'
    omega
  pwr := (s.record_reports n).pwr
  lost := congrArg LehrSt.lost (s.record_reports n).lehr

theorem State.powerRecord_powerSame (kind detail : Nat) : s.PowerSame (s.powerRecord kind detail) := by
  unfold State.powerRecord State.powerEvent State.over
  split
  · exact s.put_powerSame _ (by decide)
  · exact s.record_powerSame _

theorem State.ruleShown_powerSame (r : Nat) (on : Bool) : s.PowerSame (s.ruleShown r on) := s.put_powerSame _ (by decide)

theorem State.loopRecord_powerSame (kind detail : Nat) : s.PowerSame (s.loopRecord kind detail) := s.record_powerSame _

theorem State.safety_powerSame (n : Nat) (rules : List Nat) : s.PowerSame (s.safety n rules) := by
  refine State.PowerSame.trans ?_ (State.PowerSame.foldl (fun t r => t.loopRecord_powerSame 3 (n * 256 + r)) _ _)
  refine State.PowerSame.trans ?_ (State.PowerSame.foldl (fun t r => t.loopRecord_powerSame 4 (n * 256 + r)) _ _)
  exact s.withLehr_powerSame (by exact rfl)

theorem powerEl_loop {a : Nat} (h : 0x1F1000 ≤ a ∧ a < 0x1F2000) : powerEl a = false := by
  simp only [powerEl, islNum, Reg.ISL_STATE, Bool.or_eq_false_iff, decide_eq_false_iff_not, beq_eq_false_iff_ne]
  omega

theorem State.fence_powerSame {n : Nat} (hn : n ≤ 8) (fenced high : Bool) : s.PowerSame (s.fence n fenced high) := by
  have hput {l : LehrSt} (hl : l.lost = s.lehr.lost) :
      s.PowerSame (State.inc { s with lehr := l } 4 (Reg.LOOP_FENCED (n - 1))) :=
    (s.withLehr_powerSame hl).trans (State.put_powerSame _ _ (powerEl_loop (by unfold Reg.LOOP_FENCED; omega)))
  unfold State.fence
  dsimp only
  split
  · split
    · exact (hput (by exact rfl)).trans (State.loopRecord_powerSame _ _ _)
    · exact hput (by exact rfl)
  · split
    · split
      · exact (s.withLehr_powerSame (by exact rfl)).trans (State.loopRecord_powerSame _ _ _)
      · exact s.withLehr_powerSame (by exact rfl)
    · exact .refl s

theorem State.showLoop_powerSame {n : Nat} (hn : n ≤ 8) (off following : Bool) (out want : Int) :
    s.PowerSame (s.showLoop n off following out want) := by
  by_cases h : s.isl_ .fb = islUnpowered
  · rw [State.showLoop, if_pos h]
    exact .refl s
  · rw [State.showLoop, if_neg h]
    exact s.put_powerSame _ (powerEl_loop (by unfold Reg.LOOP_STATE; omega))

end

section
variable {s t : State} (h : s.PowerSame t)
include h

theorem State.PowerSame.loopHolds (n : Nat) : t.loopHolds n = s.loopHolds n := by rw [State.loopHolds, State.loopHolds, h.lost]
theorem State.PowerSame.chg : t.chg = s.chg := h.el _ (by decide)
theorem State.PowerSame.s5 : t.s5 = s.s5 := by
  rw [State.s5, State.s5, h.chg, h.el Reg.BAT_ALARM (by decide), h.el Reg.CHG_FAULT (by decide)]
theorem State.PowerSame.elS {n a : Nat} (ha : powerEl a = true) : t.elS n a = s.elS n a := by rw [State.elS, State.elS, h.el a ha]
theorem State.PowerSame.pwLoaded : t.pwLoaded = s.pwLoaded := by
  simp only [State.pwLoaded, State.mainPower, State.runs, State.isl_, h.pwr, h.el (Reg.ISL_STATE (islNum .ao)) (by decide),
    h.el (Reg.ISL_STATE (islNum .pw)) (by decide)]
theorem State.PowerSame.batTemp : t.batTemp = s.batTemp := by
  have hts : t.tsMean = s.tsMean := by
    simp only [State.tsMean, List.range, List.range.loop, List.foldl_cons, List.foldl_nil, h.elS (a := Reg.TS_T 1) (by decide),
      h.elS (a := Reg.TS_T 2) (by decide), h.elS (a := Reg.TS_T 3) (by decide), h.elS (a := Reg.TS_T 4) (by decide),
      h.elS (a := Reg.TS_T 5) (by decide), h.elS (a := Reg.TS_T 6) (by decide), h.elS (a := Reg.TS_T 7) (by decide),
      h.elS (a := Reg.TS_T 8) (by decide), Nat.reduceAdd]
  rw [State.batTemp, State.batTemp, hts, h.el Reg.BAT_T (by decide), h.elS (by decide)]

/-- What L6 wants rests on power elements alone. -/
theorem State.PowerSame.l6Want (ib : Int) : t.l6Want ib = s.l6Want ib := by
  simp only [State.l6Want, h.batTemp, h.pwr, h.elS (a := Reg.HTR_T_SET) (by decide), h.el Reg.HTR_DUTY (by decide),
    h.el Reg.HTR_MODE (by decide), h.el Reg.HTR_BAT_TOL (by decide), h.el Reg.HTR_SOC_MIN (by decide), h.el Reg.SOC (by decide),
    h.el Reg.HTR_DUTY_MAX (by decide)]

end

/-! ### Loop L5 (R555, R569 to R571) -/

/-- The readings of VIN, VSYS and the harvest touch their own elements. -/
theorem State.el_readBus_ne (s : State) (vin vsys : Nat) {a : Nat}
    (h : a ∉ [Reg.VIN_MV, Reg.VMON_MV 0, Reg.BAT_V, Reg.VMON_MV 1]) : (s.readBus vin vsys).el a = s.el a := by
  simp only [List.mem_cons, List.not_mem_nil, or_false, not_or] at h
  obtain ⟨h1, h2, h3, h4⟩ := h
  unfold State.readBus State.readVsys State.readVin
  rw [State.el_put_ne _ _ h4, State.el_put_ne _ _ h3]
  exact (State.el_put_ne _ _ h2).trans (State.el_put_ne _ _ h1)

/-- VIN, VSYS and the harvest as L5 reads them, with the converter running. -/
def State.l5Read (s : State) (vin vsys ichg : Nat) : State :=
  (s.readBus vin vsys).put Reg.PV_MW (min (vsys * ichg / 1000) (2 ^ 32 - 1))

theorem State.el_l5Read_ne (s : State) (vin vsys ichg : Nat) {a : Nat}
    (h : a ∉ [Reg.PV_MW, Reg.VIN_MV, Reg.VMON_MV 0, Reg.BAT_V, Reg.VMON_MV 1]) : (s.l5Read vin vsys ichg).el a = s.el a := by
  rw [List.mem_cons, not_or] at h
  obtain ⟨h1, h2⟩ := h
  exact (State.el_put_ne _ _ h1).trans (s.el_readBus_ne vin vsys h2)

section
variable {vin vsys ichg : Nat} {full : Bool} {s : State}

theorem State.l5Read_pwr : (s.l5Read vin vsys ichg).pwr = { s.pwr with vin := vin, vsys := vsys } := rfl

theorem State.chg_l5Read : (s.l5Read vin vsys ichg).chg = s.chg := s.el_l5Read_ne _ _ _ (by decide)

theorem State.curLimit_l5Read : (s.l5Read vin vsys ichg).curLimit = s.curLimit := by
  simp only [State.curLimit, State.avgLimit, State.chg_l5Read, State.l5Read_pwr,
    s.el_l5Read_ne vin vsys ichg (a := Reg.CHG_IMAX) (by decide), s.el_l5Read_ne vin vsys ichg (a := Reg.CSH_UOHM) (by decide),
    s.el_l5Read_ne vin vsys ichg (a := Reg.BAT_CAP_AH) (by decide)]

theorem State.l5Window_l5Read : (s.l5Read vin vsys ichg).l5Window = s.l5Window := by
  simp only [State.l5Window, State.l5Read_pwr, s.el_l5Read_ne vin vsys ichg (a := Reg.MPPT_VMIN) (by decide),
    s.el_l5Read_ne vin vsys ichg (a := Reg.MPPT_VMAX) (by decide)]

/-- L5 turns where the power fell, if no limit is reached. -/
def State.l5Turn (s : State) (p : Nat) (limited : Bool) : Bool := !limited && decide (p < s.pwr.pLast)
def State.l5Up (s : State) (p : Nat) (limited : Bool) : Bool := if s.l5Turn p limited then !s.pwr.up else s.pwr.up

/-- What L5 wants of V_ref. -/
def State.l5Want (s : State) (vin p : Nat) (limited : Bool) : Int :=
  if limited then min ((s.pwr.vRef : Int) + (vin / 200 : Nat)) (s.el Reg.MPPT_VMAX : Nat)
  else if s.l5Up p limited then (s.pwr.vRef : Int) + (vin / 200 : Nat) else (s.pwr.vRef : Int) - (vin / 200 : Nat)

/-- L5 with nothing that holds it and the converter running. -/
theorem l5Evaluate_sets (hr : s.runs .pw = true) (hh : s.loopHolds 5 = false) (hc : convState s.chg = true)
    (ho : s.pwr.on = true) {limited : Bool} {p : Nat} (hl : (full || decide (s.curLimit ≤ ichg)) = limited)
    (hp : p = vsys * ichg / 1000) :
    ∃ t : State, exec (.l5Evaluate vin vsys ichg full) s = .next t ∧
      t.pwr = { s.pwr with
        vin := vin
        vsys := vsys
        vRef := (clampInt (s.l5Want vin p limited) s.l5Window.1 s.l5Window.2).toNat
        vRefLast := s.pwr.vRef
        pLast := p
        up := s.l5Up p limited
        follow := limited } ∧
      (s.l5Turn p limited = true → t.el Reg.VMPP_MV = min s.pwr.vRefLast 65535) := by
  subst hp
  have hread : (s.readBus vin vsys).put Reg.PV_MW (if (s.readBus vin vsys).pwr.on then min (vsys * ichg / 1000) (2 ^ 32 - 1)
      else 0) = s.l5Read vin vsys ichg := congrArg (State.put _ _) (if_pos ho)
  have hruns : (s.l5Read vin vsys ichg).converterRuns = s.l5Read vin vsys ichg := if_pos ho
  have hmax := s.el_l5Read_ne vin vsys ichg (a := Reg.MPPT_VMAX) (by decide)
  rw [exec_l5Evaluate, execL5Evaluate, if_neg (by simp [hr])]
  have hhold : ¬(s.l5Read vin vsys ichg).loopHolds 5 = true := by rw [Bool.not_eq_true]; exact hh
  obtain ⟨turn, ht⟩ : ∃ turn, (!limited && decide (vsys * ichg / 1000 < s.pwr.pLast)) = turn := ⟨_, rfl⟩
  have ht' : s.l5Turn (vsys * ichg / 1000) limited = turn := ht
  simp only [hread, hruns, State.chg_l5Read, hc, State.curLimit_l5Read, hl, State.l5Window_l5Read, State.l5Read_pwr, hmax, ht,
    State.l5Want, State.l5Up, ht']
  cases turn with
  | true =>
    refine ⟨_, (if_neg hhold).trans ((if_neg (by simp)).trans (if_neg (by simp [ho]))), ?_, fun _ => ?_⟩
    · exact (State.showLoop_powerSame _ (n := 5) (by decide) _ _ _ _).pwr
    · exact ((State.showLoop_powerSame _ (n := 5) (by decide) _ _ _ _).el _ (by decide)).trans (State.el_put_same _ _ _)
  | false =>
    refine ⟨_, (if_neg hhold).trans ((if_neg (by simp)).trans (if_neg (by simp [ho]))), ?_, fun h => absurd h (by simp)⟩
    exact (State.showLoop_powerSame _ (n := 5) (by decide) _ _ _ _).pwr

end

/-- A loop that enters or leaves FENCED, its record and its LOOP_STATE leave the power elements. -/
theorem State.fenced_powerSame (s : State) {n : Nat} (hn : n ≤ 8) (hit was off following : Bool) (out want : Int) :
    s.PowerSame ((if hit && !was then (s.fence n hit false).powerRecord 3 n else s.fence n hit false).showLoop n off following
      out want) := by
  refine (s.fence_powerSame hn hit false).trans (.trans ?_ (State.showLoop_powerSame _ hn off following out want))
  split
  · exact State.powerRecord_powerSame _ 3 n
  · exact .refl _

theorem mpptSweep_sets {voc best : Nat} {s : State} (hl : s.pwLoaded = true) (ho : s.pwr.on = true) (hf : s.pwr.follow = false)
    (hh : s.loopHolds 5 = false) : ∃ t : State, exec (.mpptSweep voc best) s = .next t ∧
      t.pwr.vRef = (clampInt (min best (voc * 19 / 20) : Nat) s.l5Window.1 s.l5Window.2).toNat ∧
      t.el Reg.VMPP_MV = min t.pwr.vRef 65535 := by
  refine ⟨_, if_neg (by simp [hl, ho, hf, hh]), ?_⟩
  have hsame {v : Nat} {hit was : Bool} (out want : Int) := State.fenced_powerSame (State.put { s with pwr :=
    { s.pwr with vRef := v, vRefLast := v, pLast := 0 } } Reg.VMPP_MV (min v 65535)) (n := 5) (by decide) hit was false false out want
  refine ⟨congrArg PwrSt.vRef (hsame _ _).pwr, ((hsame _ _).el _ (by decide)).trans ((State.el_put_same _ _ _).trans ?_)⟩
  exact congrArg (min · 65535) (congrArg PwrSt.vRef (hsame _ _).pwr).symm

/-! ### Loops L6 and L7 (R565 to R568, R572 to R574) -/

/-- The state that L6 evaluates: the net harvest of the 10 s counted. -/
def State.l6Counted (t : State) (dev : Nat) : State :=
  { t with pwr := { t.pwr with
      acc := t.pwr.acc + ((t.el Reg.PV_MW : Int) - (t.el Reg.HTR_W * 10 * t.el Reg.HTR_DUTY : Nat) - dev) * 10 } }

/-- With its safety rule as it stands. -/
def State.l6Ready (t : State) (dev : Nat) : State :=
  ((t.l6Counted dev).ruleShown 5 (t.l6Counted dev).s5).safety 6 (if (t.l6Counted dev).s5 then [5] else [])

theorem State.l6Ready_same (t : State) (dev : Nat) : (t.l6Counted dev).PowerSame (t.l6Ready dev) :=
  (State.ruleShown_powerSame _ _ _).trans (State.safety_powerSame _ _ _)

/-- L6's window: its fence, and nothing under S5. -/
def State.l6Window (t : State) : Int × Int :=
  loopWindow (0, 100) (if t.s5 then (0, 0) else (0, 100)) (0, (t.el Reg.HTR_DUTY_MAX : Nat))

theorem State.PowerSame.l6Window {s t : State} (h : s.PowerSame t) : t.l6Window = s.l6Window := by
  rw [State.l6Window, State.l6Window, h.s5, h.el Reg.HTR_DUTY_MAX (by decide)]

/-- The duty that L6 sets. -/
def State.l6Duty (t : State) (ib : Int) : Int :=
  if t.chg == chgOff || !t.pwLoaded then 0 else clampInt (t.l6Want ib) t.l6Window.1 t.l6Window.2

theorem State.PowerSame.l6Duty {s t : State} (h : s.PowerSame t) (ib : Int) : t.l6Duty ib = s.l6Duty ib := by
  rw [State.l6Duty, State.l6Duty, h.chg, h.pwLoaded, h.l6Want, h.l6Window]

/-- R691: L6's window is that of S5 or of no rule, cut by the fence. -/
theorem loopWindow_duty (c m : Nat) : loopWindow (0, 100) (0, (c : Int)) (0, (m : Int)) = (0, ((min (min 100 c) m : Nat) : Int)) := by
  unfold loopWindow
  dsimp only
  rw [if_pos (by omega), Prod.mk.injEq]
  omega

/-- R693: under S5 no heater. -/
theorem State.l6Duty_cut {t : State} (h : t.s5 = true) (ib : Int) : t.l6Duty ib = 0 := by
  have hw : t.l6Window = (0, 0) := by
    rw [State.l6Window, if_pos h]
    exact (loopWindow_duty 0 _).trans (by simp)
  rw [State.l6Duty, hw]
  unfold clampInt
  split <;> omega

theorem State.l6Duty_heats {t : State} (h : t.s5 = false) (hc : t.chg ≠ chgOff) (hl : t.pwLoaded = true) (ib : Int) :
    t.l6Duty ib = clampInt (t.l6Want ib) 0 (min 100 (t.el Reg.HTR_DUTY_MAX) : Nat) := by
  have hw : t.l6Window = (0, ((min 100 (t.el Reg.HTR_DUTY_MAX) : Nat) : Int)) := by
    rw [State.l6Window, if_neg (by simp [h])]
    exact loopWindow_duty 100 _
  rw [State.l6Duty, if_neg (by simp [hc, hl]), hw]

theorem State.l6Counted_duty (t : State) (dev : Nat) (ib : Int) : (t.l6Counted dev).l6Duty ib = t.l6Duty ib := rfl

theorem l6Evaluate_sets {ib : Int} {dev : Nat} {s t : State} (hr : s.runs .pw = true)
    (ht : t = ((s.putS 4 Reg.BAT_I ib).put Reg.DEV_MW (min dev 65535)).countCharge (ib * 10)) (hh : s.loopHolds 6 = false) :
    ∃ u : State, exec (.l6Evaluate ib dev) s = .next u ∧ u.el Reg.SOC = t.el Reg.SOC ∧ u.pwr.acc = (t.l6Counted dev).pwr.acc ∧
      u.el Reg.HTR_DUTY = (t.l6Duty ib).toNat := by
  have hready := t.l6Ready_same dev
  have hhold : ¬(t.l6Ready dev).loopHolds 6 = true := by
    rw [hready.loopHolds, Bool.not_eq_true, ← hh, ht]
    rfl
  rw [exec_l6Evaluate, execL6Evaluate, if_neg (by simp [hr]), ← ht]
  refine ⟨_, if_neg hhold, ?_⟩
  have hsame {u : State} {hit was off : Bool} (out want : Int) :=
    State.fenced_powerSame u (n := 6) (by decide) hit was off false out want
  refine ⟨?_, ?_, ?_⟩
  · exact ((hsame _ _).el _ (by decide)).trans ((State.el_put_ne _ _ (by decide)).trans (hready.el _ (by decide)))
  · exact (congrArg PwrSt.acc (hsame _ _).pwr).trans
      (congrArg PwrSt.acc hready.pwr : (t.l6Ready dev).pwr.acc = (t.l6Counted dev).pwr.acc)
  · exact ((hsame _ _).el _ (by decide)).trans ((State.el_put_same _ _ _).trans
      (congrArg Int.toNat ((hready.l6Duty ib).trans (t.l6Counted_duty dev ib))))

/-- The state after L7 has moved the limit. -/
theorem l7Evaluate_sets {temp : Int} {ntc : Bool} {s t : State} (hr : s.runs .pw = true) (ht : t = s.readTemp temp ntc)
    (hh : s.loopHolds 7 = false) : ∃ u : State, exec (.l7Evaluate temp ntc) s = .next u ∧
      u.pwr.l7 = (clampInt (min t.i7 (t.el Reg.CHG_IMAX : Nat)) ((t.pwr.l7 : Int) - (t.el Reg.CHG_IMAX / 20 : Nat))
        ((t.pwr.l7 : Int) + (t.el Reg.CHG_IMAX / 20 : Nat))).toNat := by
  have hhold : ¬t.loopHolds 7 = true := by
    rw [Bool.not_eq_true, ← hh, ht, State.readTemp]
    split <;> rfl
  rw [exec_l7Evaluate, execL7Evaluate, if_neg (by simp [hr]), ← ht]
  refine ⟨_, if_neg hhold, ?_⟩
  exact congrArg PwrSt.l7 (State.fenced_powerSame _ (n := 7) (by decide) _ _ _ false _ _).pwr

/-! ### The energy budget (R577 to R579) -/

/-- The budget before its record. -/
def State.budgetShown (s : State) : State :=
  ((s.put Reg.P_ADM_MW (min s.pAdm.floor.toNat (2 ^ 32 - 1))).put Reg.P_HARV_MW
    (min s.harvestMean.floor.toNat (2 ^ 32 - 1))).put Reg.ENERGY_CAP (s.energyCap % 65536)

theorem State.el_of_ite {c : Prop} [Decidable c] {u v : State} {a x : Nat} (hu : u.el a = x) (hv : v.el a = x) :
    (if c then u else v).el a = x := by
  split
  · exact hu
  · exact hv

theorem State.el_computeBudget (s : State) {a : Nat} (h : powerEl a = true) : s.computeBudget.el a = s.budgetShown.el a :=
  State.el_of_ite ((State.record_powerSame _ _).el a h) rfl

/-- ENERGY_CAP has 16 bits. -/
theorem State.energyCap_computeBudget (s : State) : s.computeBudget.el Reg.ENERGY_CAP = s.energyCap % 65536 :=
  (s.el_computeBudget (by decide)).trans (State.el_put_same _ _ _)

theorem State.pAdm_computeBudget (s : State) : s.computeBudget.el Reg.P_ADM_MW = min s.pAdm.floor.toNat (2 ^ 32 - 1) := by
  rw [s.el_computeBudget (by decide), State.budgetShown, State.el_put_ne _ _ (by decide), State.el_put_ne _ _ (by decide),
    State.el_put_same]

/-- The energy cap in each state of the alarm. -/
theorem State.energyCap_of_alarm (s : State) :
    (s.el Reg.BAT_ALARM = 0 → s.energyCap = min (s.pAdm.floor.toNat / 10) (s.el Reg.ENERGY_MAX)) ∧
    (s.el Reg.BAT_ALARM = 1 → s.energyCap = s.standingAmount 43) ∧ (s.el Reg.BAT_ALARM = 2 → s.energyCap = 0) := by
  refine ⟨fun h => ?_, fun h => ?_, fun h => if_pos h⟩
  · rw [State.energyCap, if_neg (by simp [h]), if_neg (by simp [h])]
  · rw [State.energyCap, if_neg (by simp [h]), if_pos h]

/-! ### The hours (R576 to R578) -/

theorem hourBoundary_crosses {s t u : State} (hk : s.pwKept = true)
    (ht : t = (s.reach ((s.pwr.hour + 1) * 3600 * stSecond)).closeHours)
    (hu : u = if t.runs .cr ∧ t.boot.firmware then { t with pwr := { t.pwr with socStored := t.el Reg.SOC } } else t) :
    exec .hourBoundary s = .next (u.cross .pw 17 (fun x => (x.budget false).pass)) := by
  rw [exec_hourBoundary, execHourBoundary, if_neg (by simp [hk]), hu, ht]

/-! ### The battery's watch (R574, R575, R579, R581, R582) -/

/-- A reading of VSYS touches two elements. -/
theorem State.el_readVsys_ne (s : State) (vsys : Nat) {a : Nat} (h : a ∉ [Reg.BAT_V, Reg.VMON_MV 1]) :
    (s.readVsys vsys).el a = s.el a := by
  simp only [List.mem_cons, List.not_mem_nil, or_false, not_or] at h
  exact (State.el_put_ne _ _ h.2).trans (State.el_put_ne _ _ h.1)

/-- SOC set, and stale no more. -/
theorem State.el_socSet (s : State) (v a : Nat) : ((s.put Reg.SOC v).put Reg.SOC_STALE 0).el a =
    if a = Reg.SOC_STALE then 0 else if a = Reg.SOC then v else s.el a := by
  rw [State.el_put, State.el_put]

section
variable {vsys : Nat} {p : Profile} {s : State} (hp : s.profile = some p) (hr : s.runs .pw = true)
include hp hr

theorem socRestCorrection_corrects {x : Nat} (hx : restSoc (vsys / p.cells) (restTable (s.el Reg.BAT_CHEM)) = some x) :
    exec (.socRestCorrection vsys) s =
      if isLife (s.el Reg.BAT_CHEM) ∧ 200 ≤ x ∧ x ≤ 800 then .next (s.readVsys vsys)
      else .next { ((s.readVsys vsys).put Reg.SOC x).put Reg.SOC_STALE 0 with pwr := { (s.readVsys vsys).pwr with charge := 0 } } := by
  have hchem := s.el_readVsys_ne vsys (a := Reg.BAT_CHEM) (by decide)
  rw [exec_socRestCorrection, execSocRestCorrection, hp]
  dsimp only
  rw [if_neg (by simp [hr]), hchem, hx]

/-- Beyond the table's ends SOC is a value that the manual leaves open. -/
theorem socRestCorrection_open (hx : restSoc (vsys / p.cells) (restTable (s.el Reg.BAT_CHEM)) = none) :
    exec (.socRestCorrection vsys) s = .next { (((s.readVsys vsys).put Reg.SOC ((s.readVsys vsys).free % 1001)).put
      Reg.SOC_STALE 0).drawn with pwr := { (s.readVsys vsys).pwr with charge := 0 } } := by
  have hchem := s.el_readVsys_ne vsys (a := Reg.BAT_CHEM) (by decide)
  rw [exec_socRestCorrection, execSocRestCorrection, hp]
  dsimp only
  rw [if_neg (by simp [hr]), hchem, hx]

end

theorem batAlarmChange_moves {vsys a : Nat} {p : Profile} {s t : State} (hp : s.profile = some p) (hl : s.pwLoaded = true)
    (ht : t = s.readVsys vsys) (ha : a = t.alarmAt p (vsys / p.cells)) : exec (.batAlarmChange vsys) s =
      if a = t.el Reg.BAT_ALARM then .next t else .next ((((t.put Reg.BAT_ALARM a).powerRecord 5 a).budget (a != 0)).pass) := by
  rw [exec_batAlarmChange, execBatAlarmChange, hp]
  dsimp only
  rw [if_neg (by simp [hl]), ← ht, ← ha]

section
variable {d1 d2 : Int} {l : List Int} {s : State} (hk : s.pwKept = true) (hd : s.pwr.days = d1 :: d2 :: l)
include hk hd

theorem snowCheck_suspects (h0 : s.el Reg.SNOW_SUSPECT = 0) (hl : 7 ≤ l.length) (h1 : 10 * d1 < median7 l)
    (h2 : 10 * d2 < median7 l) : exec .snowCheck s =
      .next (((State.wakeIsl { s with pwr := { s.pwr with snowMed := median7 l } } .pw).put Reg.SNOW_SUSPECT 1).powerRecord 6 1) := by
  rw [exec_snowCheck, execSnowCheck, if_neg (by simp [hk]), hd]
  dsimp only
  rw [if_neg (by simp [h0]), if_neg (by omega), if_pos ⟨h1, h2⟩]

theorem snowCheck_clears (h1 : s.el Reg.SNOW_SUSPECT = 1) (hm : s.pwr.snowMed ≤ 2 * d1) :
    exec .snowCheck s = .next (((s.wakeIsl .pw).put Reg.SNOW_SUSPECT 0).powerRecord 6 0) := by
  rw [exec_snowCheck, execSnowCheck, if_neg (by simp [hk]), hd]
  dsimp only
  rw [if_pos h1, if_pos hm]

end

section
variable {charge : Int} {vin vsys : Nat} {p : Nat × Nat × Nat} {s : State} (hn : s.pwr.night = some p)
include hn

theorem pwNightWake_wakes (hi : s.isl_ .pw = islGated) (h : p.1 < vin ∨ vsys < p.2.1 ∨ vsys < p.2.2) (hc : s.chan 6 ≠ .stuck) :
    exec (.pwNightWake charge vin vsys) s =
      .next ((State.setIsl { s with pwr := { s.pwr with night := none } } .pw islStarting).countCharge charge) := by
  rw [exec_pwNightWake, execPwNightWake, hn]
  dsimp only
  rw [if_neg, State.over, if_neg hc]
  rw [not_or, hi]
  refine ⟨not_not.mpr rfl, ?_⟩
  simp only [Bool.not_eq_true', Bool.not_eq_false, Bool.or_eq_true, decide_eq_true_eq, or_assoc]
  exact h

theorem pwNightWake_sleeps (h1 : vin ≤ p.1) (h2 : p.2.1 ≤ vsys) (h3 : p.2.2 ≤ vsys) :
    exec (.pwNightWake charge vin vsys) s = .next s := by
  rw [exec_pwNightWake, execPwNightWake, hn]
  dsimp only
  rw [if_pos]
  simp [Nat.not_lt.mpr h1, Nat.not_lt.mpr h2, Nat.not_lt.mpr h3]

end

/-- Settles O46: the loops by what each sets, the budget by what it shows, and the watch's commands in each case. -/
theorem harvest : Obligations.Harvest := by
  refine ⟨?_, ?_, fun voc best s hl ho hf hh => mpptSweep_sets hl ho hf hh, ?_, ?_, ?_, fun s hl => if_pos hl, ?_, ?_, ?_, ?_, ?_, ?_⟩
  · rintro vin vsys ichg s q w hr hh hc ho rfl rfl hlim
    obtain ⟨t, ht, hpwr, hmpp⟩ := l5Evaluate_sets (full := false) (limited := false) hr hh hc ho (by simpa using hlim) rfl
    refine ⟨t, ht, ?_, fun h => hmpp (by simp [State.l5Turn, h])⟩
    rw [hpwr]
    simp [State.l5Want, State.l5Up, State.l5Turn]
  · rintro vin vsys ichg full s q w hr hh hc ho rfl rfl hlim
    obtain ⟨t, ht, hpwr, -⟩ := l5Evaluate_sets (full := full) (limited := true) hr hh hc ho (by simpa using hlim) rfl
    refine ⟨t, ht, ?_⟩
    rw [hpwr]
    simp [State.l5Want, State.l5Up, State.l5Turn]
  · intro ib dev s t hr ht hh
    obtain ⟨u, hu, hsoc, hacc, hduty⟩ := l6Evaluate_sets hr ht hh
    have hacc₀ : t.pwr.acc = s.pwr.acc := by rw [ht]; rfl
    refine ⟨u, hu, hsoc, ?_, fun h5 => ?_, fun h5 hoff hl => ?_⟩
    · rw [hacc, ← hacc₀]
      rfl
    · rw [hduty, State.l6Duty_cut h5]
      rfl
    · rw [hduty, State.l6Duty_heats h5 hoff hl, Nat.cast_min, Nat.cast_ofNat]
  · intro temp ntc s t hr ht hh
    obtain ⟨u, hu, hl7⟩ := l7Evaluate_sets hr ht hh
    have hl : t.pwr.l7 = s.pwr.l7 := by
      rw [ht, State.readTemp]
      split <;> rfl
    refine ⟨u, hu, ?_⟩
    rw [hl7, hl]
    omega
  · rintro s t rfl
    obtain ⟨h0, h1, h2⟩ := s.energyCap_of_alarm
    rw [State.energyCap_computeBudget]
    refine ⟨fun h hm => ?_, fun h hm => ?_, fun h => ?_, State.pAdm_computeBudget s⟩
    · rw [h0 h]
      omega
    · rw [h1 h]
      omega
    · rw [h2 h]
  · intro s t u hk ht hu1 hu2
    have hu : u = if t.runs .cr ∧ t.boot.firmware then { t with pwr := { t.pwr with socStored := t.el Reg.SOC } } else t := by
      split
      next h => exact hu1 h.1 h.2
      next h =>
        refine hu2 ?_
        cases hc : t.runs .cr with
        | false => exact .inl rfl
        | true => exact .inr (by simpa [hc] using h)
    rw [hourBoundary_crosses hk ht hu]
    exact ⟨fun h => by rw [State.cross, h], fun h => by rw [State.cross, h]⟩
  · intro vsys x p s hp hr hx
    rw [socRestCorrection_corrects hp hr hx]
    by_cases h : isLife (s.el Reg.BAT_CHEM) = true ∧ 200 ≤ x ∧ x ≤ 800
    · rw [if_pos h]
      refine ⟨_, rfl, fun hn => ?_, fun _ _ _ => s.el_readVsys_ne vsys (by decide)⟩
      obtain ⟨hl, h₀, h₁⟩ := h
      rcases hn with hn | hn | hn
      · rw [hl] at hn
        exact absurd hn (by decide)
      · omega
      · omega
    · rw [if_neg h]
      have hel := (s.readVsys vsys).el_socSet x
      exact ⟨_, rfl, fun _ => ⟨(hel Reg.SOC).trans (by simp), (hel Reg.SOC_STALE).trans (if_pos rfl)⟩,
        fun hl h₀ h₁ => absurd ⟨hl, h₀, h₁⟩ h⟩
  · intro vsys p s hp hr hx
    have hel := (s.readVsys vsys).el_socSet ((s.readVsys vsys).free % 1001)
    refine ⟨_, socRestCorrection_open hp hr hx, ?_, (hel Reg.SOC_STALE).trans (if_pos rfl), fun a ha => ?_⟩
    · refine ((hel Reg.SOC).trans ((if_neg (by decide)).trans (if_pos rfl))).trans_le ?_
      exact Nat.lt_succ_iff.mp (Nat.mod_lt _ (by decide))
    · simp only [List.mem_cons, List.not_mem_nil, or_false, not_or] at ha
      obtain ⟨h1, h2, h3, h4⟩ := ha
      exact (hel a).trans (((if_neg h2).trans (if_neg h1)).trans (s.el_readVsys_ne vsys (by simp [h3, h4])))
  · intro vsys a p s t hp hl ht ha
    rw [batAlarmChange_moves hp hl ht ha]
    exact ⟨fun h => if_pos h, fun h => if_neg h⟩
  · rintro d1 d2 l s t hk hd rfl
    exact ⟨fun h0 hl h1 h2 => snowCheck_suspects hk hd h0 hl h1 h2, fun h1 hm => snowCheck_clears hk hd h1 hm⟩
  · intro charge vin vsys p s hi hn
    exact ⟨fun h hc => pwNightWake_wakes hn hi h hc, fun h1 h2 h3 => pwNightWake_sleeps hn h1 h2 h3⟩

end Sys2Proof.Machine
end

section
/-! SUPPORT. The field access port (R673 to R675), the oldest group of the log (R678) and LOG_ARCHIVE (R681). -/
namespace Sys2Proof.Machine
open Host

theorem exec_facOpenRequest (s : State) : exec .facOpenRequest s = execFacOpenRequest s := rfl
theorem exec_facSignature (r x : Nat) (s : State) : exec (.facSignature r x) s = execFacSignature r x s := rfl
theorem exec_facChallengeExpiry (s : State) : exec .facChallengeExpiry s = execFacChallengeExpiry s := rfl
theorem exec_facLockoutEnd (s : State) : exec .facLockoutEnd s = execFacLockoutEnd s := rfl
theorem exec_facIdleClose (s : State) : exec .facIdleClose s = execFacIdleClose s := rfl
theorem exec_evidenceAppend (s : State) : exec .evidenceAppend s = execEvidenceAppend s := rfl
theorem exec_logArchiveWrite (r : Req) (s : State) : exec (.logArchiveWrite r) s = execLogArchiveWrite r s := rfl

/-! ### The field access port -/

/-- The challenge that a request sends. -/
def State.facChallenged (t : State) : State :=
  let u := (t.drawn.put Reg.FAC_STATE 1).emit (.frame "FAC challenge" [t.free % 2 ^ 128, t.el Reg.DEV_UID, t.now])
  { u with tmp := { u.tmp with challengeAt := some u.now, challenge := t.free % 2 ^ 128 } }

theorem facOpenRequest_asks {s t : State} (hp : s.mainPower = true) (he : s.facEnabled = true) (hs : s.el Reg.FAC_STATE ≠ 2)
    (hl : s.tmp.lockoutUntil ≤ s.now) (ht : t = s.tamperSet 8 1) : exec .facOpenRequest s =
      if t.entropyBad then .next (t.emit (.frame "FAC conflict" [0x03, 3])) else .next t.facChallenged := by
  rw [exec_facOpenRequest, execFacOpenRequest, if_neg (by simp [hp, he, hs, Nat.not_lt.mpr hl]), ← ht]
  rfl

theorem State.facChallenged_parts (t : State) : t.facChallenged.el Reg.FAC_STATE = 1 ∧
    t.facChallenged.tmp.challengeAt = some t.now ∧ t.facChallenged.tmp.challenge = t.free % 2 ^ 128 ∧
    t.facChallenged.out = t.out ++ [.frame "FAC challenge" [t.free % 2 ^ 128, t.el Reg.DEV_UID, t.now]] :=
  ⟨(t.drawn.el_put_same Reg.FAC_STATE 1 :), rfl, rfl, rfl⟩

section
variable {x y a : Nat} {s t : State} (hc : s.tmp.challengeAt = some a) (ht : t = s.unchallenged)
include hc ht

theorem facSignature_lapsed (h : a + 60 * stSecond ≤ s.now) : exec (.facSignature x y) s = .next (t.tamperOff 8) := by
  rw [exec_facSignature, execFacSignature, hc, ht]
  exact if_pos h

theorem facSignature_opens (h : s.now < a + 60 * stSecond) {k : Nat} (hk : s.facSigner x y = some k) :
    exec (.facSignature x y) s = .next
      (((t.zeroize 2 0xFF 0).logKeeper 0x07 [payload10 (numToBytes 1 3 ++ numToBytes 1 k)] .openFac).tamperSet 8 3) := by
  rw [exec_facSignature, execFacSignature, hc, ht]
  refine (if_neg (Nat.not_le.mpr h)).trans ?_
  rw [hk]

theorem facSignature_fails (h : s.now < a + 60 * stSecond) (hk : s.facSigner x y = none) {u : State}
    (hu : u = t.tamperSet 8 2) : exec (.facSignature x y) s =
      .next { u with tmp := { u.tmp with lockoutUntil := u.now + 10 * stSecond } } := by
  rw [exec_facSignature, execFacSignature, hc, hu, ht]
  refine (if_neg (Nat.not_le.mpr h)).trans ?_
  rw [hk]

end

/-- R673: a signer is named where one of the three verifies. -/
theorem State.facSigner_isSome {x y : Nat} {d : Bytes} {s : State}
    (hd : d = Config.sha256 (ascii "MALNAN-FAC" ++ s.devUid ++ numToBytes 16 s.tmp.challenge)) :
    (s.facSigner x y).isSome = true ↔
      (s.el Reg.FAC_KEY ≠ 0 ∧ s.now < s.el Reg.FAC_UNTIL ∧ Config.ecdsaVerify (s.el Reg.FAC_KEY) d x y = true) ∨
      s.rootVerifies 1 d x y = true ∨ s.rootVerifies 2 d x y = true := by
  rw [State.facSigner, ← hd]
  split
  next h => exact ⟨fun _ => .inl h, fun _ => rfl⟩
  next h =>
    split
    next h1 => exact ⟨fun _ => .inr (.inl h1), fun _ => rfl⟩
    next h1 =>
      split
      next h2 => exact ⟨fun _ => .inr (.inr h2), fun _ => rfl⟩
      next h2 => simp [h, h1, h2]

theorem State.rootVerifies_iff (s : State) (k : Nat) (d : Bytes) (r x : Nat) : s.rootVerifies k d r x = true ↔
    s.rep.lostCopies.getD k 0 < 2 ∧ Config.ecdsaVerify (Config.firmwareRoot (k == 2)) d r x = true := by
  simp [State.rootVerifies]

theorem facLockoutEnd_ends {s t : State} (h : s.tmp.lockoutUntil ≠ 0) (ht : t = s.reach s.tmp.lockoutUntil) :
    exec .facLockoutEnd s = .next (({ t with tmp := { t.tmp with lockoutUntil := 0 } }).tamperOff 8) := by
  rw [exec_facLockoutEnd, execFacLockoutEnd, if_neg h, ht]

theorem facIdleClose_closes {s : State} (h : s.el Reg.FAC_STATE = 2) :
    exec .facIdleClose s = .next (((s.reach (s.tmp.lastFrame + 600 * stSecond)).put Reg.FAC_STATE 0).tamperOff 8) :=
  if_neg (not_not.mpr h)

/-! ### The queue of the evidence log -/

theorem State.appendOldest_goes {g : LogGroup} {l : List LogGroup} {s : State} (hr : s.runs .cr = true)
    (hf : s.boot.firmware = true) (hsc : s.crossing .sc 9 = .serve) (hnv : s.crossing .nv 11 = .serve)
    (hk : s.el Reg.K0_USES ≠ 2 ^ 32 - 1) (hc : s.rep.lostCopies.getD 0 0 < 2) (hw : s.log.waiting = g :: l) :
    s.appendOldest = ({ s with log := { s.log with waiting := l } }).appendGroup g := by
  rw [State.appendOldest, if_neg (by simp only [hr, hf, hk, Nat.not_le.mpr hc]; simp), hw]
  exact (State.cross_serve hsc).trans (State.cross_serve hnv)

/-- Settles O53: the port's commands in turn, then the queue, the ring's release and LOG_ARCHIVE. -/
theorem fieldAndLog : Obligations.FieldAndLog := by
  refine ⟨fun s t hp he hs hl ht => ?_, fun x y a s t u hc ht hu => ⟨fun h => ?_, fun h => facSignature_lapsed hc ht h⟩,
    fun x y d s hd => ?_, fun a s hc => ?_, fun s => ⟨rfl, State.el_put_same _ _ _⟩, fun s t h ht => facLockoutEnd_ends h ht,
    fun s h => facIdleClose_closes h, fun g l s hr hf hsc hnv hk hc hw => ?_, fun q e l s hr => ⟨fun hq hl => ⟨fun h => ?_,
    fun h t ht => ?_⟩, fun hl => ringEntryRelease_stays hr (.inr hl)⟩, fun r s t w u ha hl hu => ?_⟩
  · rw [facOpenRequest_asks hp he hs hl ht]
    refine ⟨fun hb => if_pos hb, fun hb => ⟨t.facChallenged, if_neg (by simp [hb]), ?_⟩⟩
    obtain ⟨hst, hat, hch, hout⟩ := t.facChallenged_parts
    exact ⟨hst, hat, by rw [hout, hch], hch⟩
  · cases hk : s.facSigner x y with
    | some k => exact facSignature_opens hc ht h hk
    | none => exact facSignature_fails hc ht h hk hu
  · rw [State.facSigner_isSome hd, State.rootVerifies_iff, State.rootVerifies_iff]
    rfl
  · rw [exec_facChallengeExpiry, execFacChallengeExpiry, hc]
  · rw [exec_evidenceAppend, execEvidenceAppend, State.appendOldest_goes hr hf hsc hnv hk hc hw]
  · exact ringEntryRelease_stored hr hq hl (by rw [h]; rfl)
  · exact ringEntryRelease_stored hr hq hl (by rw [h]; exact ht)
  · rw [exec_logArchiveWrite, execLogArchiveWrite, hu]
    exact congrArg Outcome.next (State.ownWrite_let hl (beq_iff_eq.mpr ha))

end Sys2Proof.Machine
end

section
/-! SUPPORT. Seeds (R706): a row is one where a pass and one of the three before it found an error in it; a find four passes back
counts no more. -/
namespace Sys2Proof.Machine
open Host

/-- A device whose FB runs. -/
def scrubbing : State := { State.reset with dict := [(Reg.ISL_STATE (islNum .fb), islRun)] }

/-- The state after a pass over the record memory that found an error in these rows. -/
def State.scrubbed (s : State) (rows : List Nat) : State :=
  match exec (.scrubPassEnd 1 rows [] 0) s with
  | .next t => t
  | _ => s

/-- The record memory after four passes, of which the first found row 7 and the three since then none. -/
def scrubbedFour : State := [[7], [], [], []].foldl State.scrubbed scrubbing

/-- The fifth pass finds row 7 again: its find of four passes back is kept, but is not one of the three before. -/
def scrubbedFifth : State := scrubbedFour.scrubbed [7]

/-- Refutes O57: the passes kept of a memory are the latest four, while a seed needs an error in this pass and in one of the
three before it. Where row 7 had its error four passes back the statement makes it a seed; the model, with R706, does not. -/
theorem not_repair : ¬ Obligations.Repair := by
  intro h
  have hthere : scrubbedFour.memThere 1 = true ∧ scrubbedFour.now < 2 ^ 64 := by decide +kernel
  have hkept : [7] ∈ scrubbedFour.passesOf 1 ∧ (1, 7) ∉ scrubbedFour.rep.unrepaired := by decide +kernel
  have hnone : (1, 7) ∉ scrubbedFifth.rep.seeds := by decide +kernel
  obtain ⟨t, ht, -, -, hseed, -⟩ := h.1 1 [7] [] 0 scrubbedFour (by decide) (by decide) hthere.1 hthere.2
  have ht' : scrubbedFifth = t := by simp only [scrubbedFifth, State.scrubbed, ht]
  rw [ht'] at hnone
  exact hnone (hseed 7 (List.mem_singleton.mpr rfl) ⟨[7], hkept.1, List.mem_singleton.mpr rfl⟩ hkept.2)

end Sys2Proof.Machine
end

section
/-! SUPPORT. The bond of a pair (chapter 22): what its state, its leader and its splits, its role and its shared rails rest on,
and every operation of a split that leaves it alone. -/
namespace Sys2Proof.Machine
open Host

/-- The registers of the bond: the role's strap, the pair's state, its leader and its splits, and the rails' configuration. -/
def bondEls : List Nat :=
  [Reg.STRAPS, Reg.TWIN_STATE, Reg.TWIN_LEADER, Reg.TWIN_SPLITS, Reg.TWIN_LAST_SPLIT] ++
    (List.range 8).map (fun r => Reg.RES_CFG (24 + r))

/-- The bond that a store and a twin state show. -/
def bondOf (d : List (Nat × Nat)) (w : TwinSt) : List Nat × Bool × Nat := (bondEls.map (dictGet d), w.follow, w.lent)

/-- The bond: its registers, whether this half follows, and the enables that it lends. -/
def State.bond (s : State) : List Nat × Bool × Nat := bondOf s.dict s.twin

theorem bondEl_range {a : Nat} (h : a ∈ bondEls) :
    a = Reg.STRAPS ∨ (0x170101 + 24 ≤ a ∧ a < 0x170101 + 32) ∨ (0x210000 ≤ a ∧ a < 0x210100) := by
  have hall : ∀ b ∈ bondEls,
      b = Reg.STRAPS ∨ (0x170101 + 24 ≤ b ∧ b < 0x170101 + 32) ∨ (0x210000 ≤ b ∧ b < 0x210100) := by decide
  exact hall a h

/-- A holder's and a client's registers lie beyond the bond's. -/
theorem not_bondEl {a : Nat} (h : 0x300000 ≤ a) : a ∉ bondEls := fun hm => by
  have := bondEl_range hm
  unfold Reg.STRAPS at this
  omega

/-- A record writes no register of the bond. -/
theorem not_recordEl (n : NewRec) {a : Nat} (ha : a ∈ bondEls) : a ∉ recordEls n := fun hm => by
  have := bondEl_range ha
  simp only [recordEls, List.mem_cons, List.not_mem_nil, or_false, Reg.REC_OVERRUNS, Reg.EVT_LOST, Reg.REC_OVERRUN_ALL,
    Reg.REC_LOW, Reg.RING_WAITS, Reg.CH_ABANDON, Reg.ISL_STATE, Reg.STRAPS] at hm this
  omega

theorem State.el_of_bond {s t : State} (h : t.bond = s.bond) {a : Nat} (ha : a ∈ bondEls) : t.el a = s.el a :=
  List.map_inj_left.mp (congrArg Prod.fst h) a ha

theorem State.follow_of_bond {s t : State} (h : t.bond = s.bond) : t.twin.follow = s.twin.follow := congrArg (fun x => x.2.1) h
theorem State.lent_of_bond {s t : State} (h : t.bond = s.bond) : t.twin.lent = s.twin.lent := congrArg (fun x => x.2.2) h

/-- A bond from its parts. -/
theorem State.bond_eq {s t : State} (hel : ∀ a ∈ bondEls, t.el a = s.el a) (hf : t.twin.follow = s.twin.follow)
    (hl : t.twin.lent = s.twin.lent) : t.bond = s.bond :=
  Prod.ext (List.map_inj_left.mpr hel) (Prod.ext hf hl)

/-- A fold over what holds a state keeps the bond where each of its steps does. -/
theorem foldl_bond_via {σ α : Type} (g : σ → State) {f : σ → α → σ} (hf : ∀ t x, (g (f t x)).bond = (g t).bond) (l : List α) (a : σ) :
    (g (l.foldl f a)).bond = (g a).bond :=
  List.foldlRecOn l f (motive := fun t => (g t).bond = (g a).bond) rfl fun t ht x _ => (hf t x).trans ht

theorem foldl_bond_fst {β α : Type} {f : State × β → α → State × β} (hf : ∀ t x, (f t x).1.bond = t.1.bond) (l : List α)
    (a : State × β) : (l.foldl f a).1.bond = a.1.bond := foldl_bond_via Prod.fst hf l a

theorem State.ite_bond {c : Prop} [Decidable c] {s t u : State} (ht : t.bond = s.bond) (hu : u.bond = s.bond) :
    (if c then t else u).bond = s.bond := by
  split
  · exact ht
  · exact hu

theorem State.foldl_bond {α : Type} {f : State → α → State} (hf : ∀ t x, (f t x).bond = t.bond) (l : List α) (s : State) :
    (l.foldl f s).bond = s.bond :=
  foldl_bond_via id hf l s

section
variable (s : State)

theorem State.put_bond {a : Nat} (v : Nat) (h : a ∉ bondEls) : (s.put a v).bond = s.bond :=
  State.bond_eq (fun _ hb => s.el_put_ne v fun he => h (he ▸ hb)) rfl rfl

theorem State.record_bond (n : NewRec) : (s.record n).bond = s.bond :=
  State.bond_eq (fun _ ha => s.el_record_ne n (not_recordEl n ha)) (congrArg TwinSt.follow (s.record_twin_rest n) :)
    (congrArg TwinSt.lent (s.record_twin_rest n) :)

/-- What differs by no more than a record writes agrees in the bond. -/
theorem State.bond_of_besideRecord {s t : State} {n : NewRec} (h : t.besideRecord n = s.besideRecord n) : t.bond = s.bond := by
  obtain ⟨hel, -, -, htwin, -, -⟩ := State.besideRecord_eq h
  exact State.bond_eq (fun a ha => hel a (not_recordEl n ha)) (congrArg TwinSt.follow htwin :) (congrArg TwinSt.lent htwin :)

@[simp] theorem State.clientRecord_bond (src kind detail c : Nat) : (s.clientRecord src kind detail c).bond = s.bond := s.record_bond _
@[simp] theorem State.stationRecord_bond (src kind detail : Nat) (t0 : Bool) : (s.stationRecord src kind detail t0).bond = s.bond :=
  s.record_bond _
@[simp] theorem State.leaseRecord_bond (kind : Nat) (b : Bundle) : (s.leaseRecord kind b).bond = s.bond := s.record_bond _
@[simp] theorem State.tamperRecord_bond (src kind detail : Nat) : (s.tamperRecord src kind detail).bond = s.bond := s.record_bond _
@[simp] theorem State.bundleMap_bond (c n : Nat) (f : Bundle → Bundle) : (s.bundleMap c n f).bond = s.bond := rfl
theorem State.withArb_bond (a : ArbSt) : ({ s with arb := a } : State).bond = s.bond := rfl
@[simp] theorem State.drawn_bond : s.drawn.bond = s.bond := rfl
@[simp] theorem State.storeModel_bond : s.storeModel.bond = s.bond := rfl
@[simp] theorem State.noticeStanding_bond (i : Nat) : (s.noticeStanding i).bond = s.bond := rfl
@[simp] theorem State.logEntry_bond (g : LogGroup) : (s.logEntry g).bond = s.bond := rfl

theorem State.put_bond_high {a : Nat} (v : Nat) (h : 0x300000 ≤ a) : (s.put a v).bond = s.bond := s.put_bond v (not_bondEl h)
theorem State.inc_bond {a : Nat} (n : Nat) (h : a ∉ bondEls) : (s.inc n a).bond = s.bond := s.put_bond _ h
theorem State.putS_bond {a : Nat} (n : Nat) (v : Int) (h : a ∉ bondEls) : (s.putS n a v).bond = s.bond := s.put_bond _ h

@[simp] theorem State.setIsl_bond (i : Island) (c : Nat) : (s.setIsl i c).bond = s.bond :=
  State.put_bond { s with isl := _ } c (by cases i <;> decide)

@[simp] theorem State.wakeFb_bond : s.wakeFb.bond = s.bond := by simp [State.wakeFb, apply_ite State.bond]

@[simp] theorem State.wakeIsl_bond (i : Island) : (s.wakeIsl i).bond = s.bond := by
  simp [State.wakeIsl, apply_ite State.bond, apply_ite (State.setIsl · i islStarting)]

/-- What a crossing into an island does, or the count of one abandoned. -/
theorem State.over_bond {ch : Nat} (go : State → State) (hc : Reg.CH_ABANDON ch ∉ bondEls) (hgo : (go s).bond = s.bond) :
    (s.over ch go).bond = s.bond := by
  unfold State.over
  split
  · exact s.inc_bond 4 hc
  · exact hgo

@[simp] theorem State.wakeCr_bond : s.wakeCr.bond = s.bond := by simp [State.wakeCr, apply_ite State.bond]

@[simp] theorem State.callCr_bond : s.callCr.bond = s.bond := by
  have hover : (s.over 4 State.wakeCr).bond = s.bond := s.over_bond _ (by decide) s.wakeCr_bond
  simp [State.callCr, apply_ite State.bond, hover]

/-! ### The outputs -/

@[simp] theorem State.setOut_bond (o : Nat) (f : Output → Output) : (s.setOut o f).bond = s.bond := rfl

@[simp] theorem State.railRecord_bond (kind detail : Nat) : (s.railRecord kind detail).bond = s.bond :=
  s.over_bond _ (by decide) (s.stationRecord_bond _ _ _ _)

@[simp] theorem State.outClientRecords_bond (o kind : Nat) : (s.outClientRecords o kind).bond = s.bond :=
  State.foldl_bond (fun t _ => t.clientRecord_bond _ _ _ _) _ s

@[simp] theorem State.marginsOff_bond (r : Nat) : (s.marginsOff r).bond = s.bond := by
  simp +decide [State.marginsOff, apply_ite State.bond, State.put_bond]

@[simp] theorem State.outGo_bond (o st cause : Nat) (f : Output → Output) : (s.outGo o st cause f).bond = s.bond := by
  simp [State.outGo, apply_ite State.bond]

theorem State.Turns.bond {s t : State} {o : Nat} (h : s.Turns o t) : t.bond = s.bond := by
  cases h with
  | stays => rfl
  | set f => rfl
  | goes st cause f => exact s.outGo_bond o st cause f

@[simp] theorem State.settleOut_bond (o : Nat) : (s.settleOut o).bond = s.bond := (s.settleOut_turns o).bond

@[simp] theorem State.settle_bond : s.settle.bond = s.bond :=
  State.settle_of_settleOut (p := fun t => t.bond = s.bond) (fun t o ht => (t.settleOut_bond o).trans ht) rfl

@[simp] theorem State.settleWoken_bond : s.settleWoken.bond = s.bond := by simp [State.settleWoken, apply_ite State.bond]

@[simp] theorem State.outputsChanged_bond : s.outputsChanged.bond = s.bond := s.over_bond _ (by decide) s.settleWoken_bond

/-! ### The leases -/

@[simp] theorem State.inputZero_bond (c i : Nat) : (s.inputZero c i).bond = s.bond := by
  simp (disch := omega) [State.inputZero, apply_ite State.bond, State.put_bond_high, Reg.EVT_LOST, Reg.EVT_COUNT, Reg.EVT_NF]

@[simp] theorem State.endInput_bond (c i : Nat) : (s.endInput c i).bond = s.bond := s.inputZero_bond c i
@[simp] theorem State.grantInput_bond (c i : Nat) : (s.grantInput c i).bond = s.bond := s.inputZero_bond c i

@[simp] theorem State.cancelOvfTimers_bond (c : Nat) : (s.cancelOvfTimers c).bond = s.bond :=
  (State.foldl_bond (fun t _ => t.clientRecord_bond _ _ _ _) _ _).trans rfl

@[simp] theorem State.advanceStream_bond (src st hid : Nat) : (s.advanceStream src st hid).bond = s.bond := by
  have hplace (t : State) (id : Nat) : (t.place id st true).bond = t.bond :=
    State.bond_of_besideRecord (t.place_besideRecord ⟨src, 0, 0, 0, 0, 0, hid, 0, false, false⟩ id st true)
  unfold State.advanceStream
  split
  · split
    · rfl
    · exact (hplace _ _).trans rfl
  · rfl

@[simp] theorem State.dropOvfRecs_bond (c : Nat) : (s.dropOvfRecs c).bond = s.bond := by
  have hadd (k : Nat) : (s.add 4 (Reg.REC_DROPPED (s.hidOf c)) k).bond = s.bond :=
    s.put_bond_high _ (by unfold Reg.REC_DROPPED; omega)
  unfold State.dropOvfRecs
  refine (State.foldl_bond (fun t r => State.foldl_bond (fun u k => ?_) _ t) _ _).trans (hadd _)
  simp [apply_ite State.bond]

@[simp] theorem State.loseItems_bond (b : Bundle) : (s.loseItems b).bond = s.bond :=
  State.foldl_bond (fun t p => by simp [apply_ite State.bond]) _ s

@[simp] theorem State.endBundle_bond (b : Bundle) (reason kind : Nat) : (s.endBundle b reason kind).bond = s.bond := by
  simp [State.endBundle, apply_ite State.bond]

/-- A bundle ended and its revocation counted. -/
theorem State.revoked_bond (b : Bundle) : ((s.endBundle b 2 0x12).inc 4 Reg.ARB_REVOKES).bond = s.bond :=
  (State.inc_bond _ 4 (by decide)).trans (s.endBundle_bond b 2 0x12)

@[simp] theorem State.revokeNow_bond (b : Bundle) : (s.revokeNow b).bond = s.bond := s.revoked_bond b

@[simp] theorem State.revokeQueued_bond : s.revokeQueued.bond = s.bond := State.foldl_bond (fun t b => t.revoked_bond b) _ s

@[simp] theorem State.serveExpiries_bond : s.serveExpiries.bond = s.bond :=
  State.foldl_bond (fun t b => by simp [apply_ite State.bond, State.revoked_bond]) _ s

@[simp] theorem State.serveTimeouts_bond : s.serveTimeouts.bond = s.bond := State.foldl_bond (fun t b => t.endBundle_bond b 5 0x14) _ s

@[simp] theorem State.grantStanding_bond : s.grantStanding.bond = s.bond := by
  refine State.foldl_bond (fun t i => ?_) _ s
  split
  · rfl
  · dsimp only
    split
    · split
      · rfl
      · exact (State.record_bond _ _).trans rfl
    · rfl

/-! ### The energy budget -/

@[simp] theorem State.computeBudget_bond : s.computeBudget.bond = s.bond := by
  have hput (x y z : Nat) : (((s.put Reg.P_ADM_MW x).put Reg.P_HARV_MW y).put Reg.ENERGY_CAP z).bond = s.bond :=
    (State.put_bond _ z (by decide)).trans ((State.put_bond _ y (by decide)).trans (s.put_bond x (by decide)))
  exact State.ite_bond ((State.stationRecord_bond _ _ _ _ _).trans (hput _ _ _)) (hput _ _ _)

/-! ### The outputs -/

/-! ### The leases -/

/-! ### The energy budget -/

@[simp] theorem State.giveNotice_bond (b : Bundle) : (s.giveNotice b).bond = s.bond := by
  simp [State.giveNotice, apply_ite State.bond]

@[simp] theorem State.shedEnergy_bond : s.shedEnergy.bond = s.bond := by
  unfold State.shedEnergy
  refine (State.foldl_bond (fun u i => ?_) _ _).trans (State.foldl_bond (fun t b => ?_) _ s)
  · split
    · simp [apply_ite State.bond]
    · rfl
  · simp [apply_ite State.bond]

@[simp] theorem State.budget_bond (now_ : Bool) : (s.budget now_).bond = s.bond := by
  have hbase : s.computeBudget.revokeQueued.bond = s.bond := by simp
  unfold State.budget
  dsimp only
  split
  · exact hbase
  · split
    · split
      · exact (State.shedEnergy_bond _).trans hbase
      · exact hbase
    · split
      · exact (State.shedEnergy_bond _).trans hbase
      · exact hbase

@[simp] theorem State.obtainBudget_bond : s.obtainBudget.bond = s.bond := by
  unfold State.obtainBudget
  dsimp only
  split
  · split
    · exact (State.budget_bond _ _).trans rfl
    · rfl
  · exact (State.wakeIsl_bond _ _).trans rfl
  · exact (State.inc_bond _ 4 (by decide)).trans rfl

/-! ### The grants -/

@[simp] theorem State.noteBypass_bond (sn : State × List (Nat × Nat)) (x : Bundle) : (State.noteBypass sn x).1.bond = sn.1.bond := by
  unfold State.noteBypass
  dsimp only
  split
  · rfl
  · split
    · exact (State.leaseRecord_bond _ _ _).trans rfl
    · rfl

@[simp] theorem State.grant_bond (sn : State × List (Nat × Nat)) (b : Bundle) : (State.grant sn b).1.bond = sn.1.bond := by
  have hgrants (t : State) (v : Nat) : (((t.inc 4 Reg.ARB_GRANTS).put (Reg.WAIT_MAX b.hid) v).leaseRecord 0x10 b).bond = t.bond :=
    (State.leaseRecord_bond _ _ _).trans ((State.put_bond_high _ _ (by unfold Reg.WAIT_MAX; omega)).trans
      (t.inc_bond 4 (by decide)))
  unfold State.grant
  refine (foldl_bond_fst State.noteBypass_bond _ _).trans ((hgrants _ _).trans ?_)
  exact State.foldl_bond (fun t p => by simp [apply_ite State.bond]) _ _

theorem State.putDeficit_bond (h : Nat) (v : Int) : (s.putS 2 (Reg.DEFICIT h) v).bond = s.bond :=
  s.put_bond_high _ (by unfold Reg.DEFICIT; omega)

@[simp] theorem State.grantReserved_bond (sn : State × List (Nat × Nat)) : (State.grantReserved sn).1.bond = sn.1.bond := by
  unfold State.grantReserved
  refine foldl_bond_via (fun a : (State × List (Nat × Nat)) × List Bundle => a.1.1) (fun a b => ?_) _ (sn, [])
  dsimp only
  split
  · exact (State.putDeficit_bond _ _ _).trans (State.grant_bond _ _)
  · rfl

@[simp] theorem State.holderTurn_bond (sn : State × List (Nat × Nat)) (h : Nat) : (State.holderTurn sn h).1.bond = sn.1.bond := by
  unfold State.holderTurn
  dsimp only
  split
  · exact sn.1.put_bond_high _ (by unfold Reg.DEFICIT; omega)
  · refine (foldl_bond_via (fun a : (State × List (Nat × Nat)) × Bool => a.1.1) (fun a c => ?_) _ _).trans
      (State.putDeficit_bond _ _ _)
    split
    · rfl
    · split
      · rfl
      · split
        · rfl
        · exact (State.withArb_bond _ _).trans ((State.putDeficit_bond _ _ _).trans (State.grant_bond _ _))

@[simp] theorem State.round_bond (sn : State × List (Nat × Nat)) : (State.round sn).1.bond = sn.1.bond :=
  foldl_bond_fst State.holderTurn_bond _ _

@[simp] theorem State.rounds_bond (n : Nat) (sn : State × List (Nat × Nat)) : (State.rounds n sn).1.bond = sn.1.bond := by
  induction n generalizing sn with
  | zero => rfl
  | succ n ih =>
    rw [State.rounds]
    split
    · exact (ih _).trans (State.round_bond sn)
    · exact State.round_bond sn

/-- The reserved bundles and the rounds of a pass, and what they passed over (R316 to R331). -/
def State.granted (s : State) : State × List (Nat × Nat) :=
  let r1 := State.grantReserved (s, [])
  let n := (r1.1.arb.bundles.filter (fun b => b.st == .queued)).length
  let r2 := State.rounds (300 * (n + 1)) r1
  let z := r2.1.reserveList
  (r2.1.arb.bundles.filter (fun x => x.st == .queued && r2.1.fits x [] && !r2.1.fits x z)).foldl State.noteBypass r2

theorem State.granted_bond : s.granted.1.bond = s.bond :=
  (foldl_bond_fst State.noteBypass_bond _ _).trans ((State.rounds_bond _ _).trans (State.grantReserved_bond (s, [])))

@[simp] theorem State.pass_bond : s.pass.bond = s.bond := by
  unfold State.pass
  dsimp only
  refine State.ite_bond s.settle_bond ?_
  have hbudget : (if s.serveExpiries.wantsPower then s.serveExpiries.obtainBudget else s.serveExpiries).grantStanding.bond =
      s.bond :=
    (State.grantStanding_bond _).trans
      (State.ite_bond ((State.obtainBudget_bond _).trans s.serveExpiries_bond) s.serveExpiries_bond)
  generalize (if s.serveExpiries.wantsPower then s.serveExpiries.obtainBudget else s.serveExpiries).grantStanding = x at hbudget ⊢
  refine State.ite_bond ?_ ?_
  · exact (State.outputsChanged_bond _).trans (x.serveTimeouts_bond.trans hbudget)
  · refine (State.outputsChanged_bond _).trans ((State.withArb_bond x.granted.1.serveTimeouts _).trans ?_)
    exact (State.serveTimeouts_bond x.granted.1).trans (x.granted_bond.trans hbudget)

end
end Sys2Proof.Machine
end

section
/-! SUPPORT. What the assertion of a tamper source and the end of following leave of the bond. -/
namespace Sys2Proof.Machine
open Host

section
variable (s : State)

/-! ### The assertion of a tamper source (chapter 18) -/

@[simp] theorem State.reach_bond (t : Nat) : (s.reach t).bond = s.bond := by
  have htime : ∀ a ∈ bondEls, a ∉ [Reg.BK_ON_VBK_S, Reg.OUTAGE_CORR, Reg.SLEW_REM, Reg.COMP_WORD] := by decide
  exact State.bond_eq (fun a ha => s.el_reach_ne t (htime a ha)) (congrArg TwinSt.follow (s.reach_twin t))
    (congrArg TwinSt.lent (s.reach_twin t))

@[simp] theorem State.ringWrite_bond (src detail : Nat) (asserted : Bool) : (s.ringWrite src detail asserted).bond = s.bond := by
  have hedge (c : Bool) : (if c then s.nextEdge else s).bond = s.bond := State.ite_bond (s.reach_bond _) rfl
  unfold State.ringWrite
  dsimp only
  refine State.ite_bond ((State.inc_bond _ 2 (by decide)).trans ?_) ?_
  · exact hedge _
  · exact hedge _

@[simp] theorem State.setWd_bond (w : Nat) (f : Wd → Wd) : (s.setWd w f).bond = s.bond := rfl
@[simp] theorem State.startPeriod_bond (w ms : Nat) : (s.startPeriod w ms).bond = s.bond := rfl
@[simp] theorem State.newPeriod_bond (w : Nat) : (s.newPeriod w).bond = s.bond := rfl
@[simp] theorem State.startGrace_bond (w : Nat) : (s.startGrace w).bond = s.bond := (State.record_bond _ _).trans rfl

@[simp] theorem State.wdSync1_bond (w : Nat) (released : Bool) : (s.wdSync1 w released).bond = s.bond := by
  simp [State.wdSync1, apply_ite State.bond]

@[simp] theorem State.wdSync_bond (before : State) : (s.wdSync before).bond = s.bond := by simp [State.wdSync]

@[simp] theorem State.holdFor_bond (src : Nat) : (s.holdFor src).bond = s.bond := by
  unfold State.holdFor
  dsimp only
  split
  · rfl
  · rfl

@[simp] theorem State.shedFor_bond (src : Nat) : (s.shedFor src).bond = s.bond := by
  unfold State.shedFor
  dsimp only
  refine State.ite_bond rfl ((State.pass_bond _).trans ((State.withArb_bond _ _).trans ?_))
  exact State.foldl_bond (fun t b => t.revokeNow_bond b) _ s

@[simp] theorem State.ringLog_bond (e : RingEntry) : (s.ringLog e).bond = s.bond := by
  unfold State.ringLog
  dsimp only
  split
  · rfl
  · rfl

@[simp] theorem State.slotsErased_bond : s.slotsErased.bond = s.bond := by
  have hslot (t : State) (h : Nat) : (t.emptySlot h).bond = t.bond := by
    refine State.bond_eq (fun a ha => t.el_emptySlot_ne h fun hm => ?_) rfl rfl
    have := bondEl_range ha
    simp only [List.mem_cons, List.not_mem_nil, or_false, Reg.KEY_USES, Reg.KEY_GEN, Reg.KEY_ALG, Reg.KEY_STATE, Reg.STRAPS] at hm this
    omega
  have hkx (t : State) (c : Nat) : (t.eraseKx c).bond = t.bond := by
    refine State.bond_eq (fun a ha => t.el_eraseKx_ne (.inl ?_)) rfl rfl
    have := bondEl_range ha
    unfold Reg.KX_DEV_EPH
    unfold Reg.STRAPS at this
    omega
  unfold State.slotsErased State.setProv
  exact (State.put_bond _ _ (by decide)).trans ((State.foldl_bond hslot _ _).trans ((State.foldl_bond hkx _ _).trans rfl))

@[simp] theorem State.requestsEnded_bond : s.requestsEnded.bond = s.bond := by
  obtain ⟨hel, hrest⟩ := s.requestsEnded_only
  have hlow : ∀ a ∈ bondEls, a % 256 ≠ 0x32 := by decide
  exact State.bond_eq (fun a ha => hel a (hlow a ha)) (congrArg (fun t => t.twin.follow) hrest :)
    (congrArg (fun t => t.twin.lent) hrest :)

@[simp] theorem State.sessionLoss_bond : s.sessionLoss.bond = s.bond := by
  have hrange : ∀ a ∈ bondEls, a < 0x400000 ∧ a ≠ Reg.AUTH_EPOCH ∧ a ≠ Reg.AUTH_EPOCH_N := by decide
  exact State.bond_eq (fun a ha => s.el_sessionLoss_ne (.inr (hrange a ha).1) (hrange a ha).2.1 (hrange a ha).2.2) rfl rfl

@[simp] theorem State.zeroizeShown_bond (source : Nat) : (s.zeroizeShown source).bond = s.bond := by
  have hlast : ((s.inc 4 Reg.ZEROIZE_COUNT).put Reg.ZEROIZE_LAST s.now).bond = s.bond :=
    (State.put_bond _ _ (by decide)).trans (s.inc_bond 4 (by decide))
  exact State.ite_bond ((State.put_bond _ _ (by decide)).trans hlast) hlast

@[simp] theorem State.zeroize_bond (cause source cid : Nat) : (s.zeroize cause source cid).bond = s.bond := by
  obtain ⟨g, hg⟩ := s.zeroize_eq cause source cid
  have hkeyed (t : State) : t.rekeyed.bond = t.bond := rfl
  simp [hg, hkeyed]

@[simp] theorem State.zeroizeFor_bond (src : Nat) : (s.zeroizeFor src).bond = s.bond := by
  simp [State.zeroizeFor, apply_ite State.bond]

@[simp] theorem State.respond_bond (src detail : Nat) : (s.respond src detail).bond = s.bond := by
  unfold State.respond
  refine (State.zeroizeFor_bond _ _).trans ?_
  have htold : (((s.holdFor src).shedFor src).tamperRecord src 1 detail).bond = s.bond := by simp
  split
  · exact State.ite_bond ((State.ringLog_bond _ _).trans htold) htold
  · exact htold

@[simp] theorem State.tamperOn_bond (src detail : Nat) : (s.tamperOn src detail).bond = s.bond := by
  have hset : (((s.ringWrite src detail true).put Reg.TMP_STICKY (setBit (s.el Reg.TMP_STICKY) src true)).put Reg.TMP_ACTIVE
      (setBit (s.el Reg.TMP_ACTIVE) src true)).bond = s.bond :=
    (State.put_bond _ _ (by decide)).trans ((State.put_bond _ _ (by decide)).trans (s.ringWrite_bond _ _ _))
  unfold State.tamperOn State.tamperSet
  refine State.ite_bond rfl (State.ite_bond rfl (State.ite_bond ?_ hset))
  exact (State.wdSync_bond _ _).trans ((State.respond_bond _ _ _).trans hset)

/-! ### The end of following (chapter 22) -/

theorem State.withOsc_bond (o : OscSt) : ({ s with osc := o } : State).bond = s.bond := rfl

@[simp] theorem State.learnBand_bond : s.learnBand.bond = s.bond := by
  unfold State.learnBand
  split
  · rfl
  · refine State.ite_bond rfl ?_
    exact (State.putS_bond _ 2 _ (by decide)).trans ((State.putS_bond _ 2 _ (by decide)).trans (s.put_bond 2 (by decide)))

@[simp] theorem State.closeEpisode_bond : s.closeEpisode.bond = s.bond := (State.learnBand_bond _).trans rfl

/-- An episode closed and the model stored, where one is open. -/
theorem State.episodeClosed_bond (c : Prop) [Decidable c] : (if c then s.closeEpisode.storeModel else s).bond = s.bond :=
  State.ite_bond ((State.storeModel_bond _).trans s.closeEpisode_bond) rfl

@[simp] theorem State.closeFollow_bond : s.closeFollow.bond = s.bond := (State.episodeClosed_bond _ _).trans rfl

@[simp] theorem State.leaveLocked_bond : s.leaveLocked.bond = s.bond :=
  State.ite_bond rfl ((State.episodeClosed_bond _ _).trans rfl)

@[simp] theorem State.startObs_bond (cls : Nat) (eps : Int) : (s.startObs cls eps).bond = s.bond := State.ite_bond rfl rfl

@[simp] theorem State.lockedUnc_bond (cls : Nat) (eps : Int) : (s.lockedUnc cls eps).bond = s.bond := s.put_bond _ (by decide)

@[simp] theorem State.ptpGo_bond (v : Nat) : (s.ptpGo v).bond = s.bond :=
  State.ite_bond rfl ((State.stationRecord_bond _ _ _ _ _).trans (s.put_bond v (by decide)))

@[simp] theorem State.openEpisode_bond : s.openEpisode.bond = s.bond := rfl

@[simp] theorem State.sendStep_bond (d : Int) (a : Nat) (forced ok : Bool) : (s.sendStep d a forced ok).bond = s.bond :=
  State.ite_bond rfl rfl

@[simp] theorem State.requestStep_bond (d : Int) (forced set : Bool) (cid : Nat) (keeper : Bool) (peer : Option Nat) :
    (s.requestStep d forced set cid keeper peer).1.bond = s.bond := by
  have hsent (a : Nat) (ok c : Bool) : (if c then s.sendStep d a forced ok else s).bond = s.bond :=
    State.ite_bond (s.sendStep_bond _ _ _ _) rfl
  unfold State.requestStep
  dsimp only
  split
  · rfl
  · split
    · rfl
    · split
      · rfl
      · split
        · rfl
        · split
          · exact (State.put_bond _ _ (by decide)).trans (hsent _ _ _)
          · exact hsent _ _ _

@[simp] theorem State.slewBy_bond (ns : Int) : (s.slewBy ns).bond = s.bond :=
  (State.putS_bond _ 4 _ (by decide)).trans ((State.putS_bond _ 8 _ (by decide)).trans rfl)

@[simp] theorem State.toLocked_bond (cls : Nat) (eps : Int) : (s.toLocked cls eps).bond = s.bond := by
  unfold State.toLocked
  dsimp only
  refine State.ite_bond (s.put_bond 2 (by decide)) ?_
  have hobs (o : OscSt) : (((({ s with osc := o } : State).startObs cls eps).put Reg.REF_STATE 2).lockedUnc cls eps).bond = s.bond :=
    (State.lockedUnc_bond _ _ _).trans ((State.put_bond _ 2 (by decide)).trans (State.startObs_bond _ _ _))
  generalize hv : (if epClass cls = true then _ else _ : State) = v
  have hvb : v.bond = s.bond := by
    subst hv
    refine State.ite_bond ((State.openEpisode_bond _).trans ?_) ?_
    · exact State.ite_bond ((State.ptpGo_bond _ _).trans (hobs _)) (hobs _)
    · exact State.ite_bond ((State.ptpGo_bond _ _).trans (hobs _)) (hobs _)
  refine State.ite_bond ?_ ((v.slewBy_bond _).trans hvb)
  exact State.ite_bond ((v.requestStep_bond _ _ _ _ _ _).trans hvb)
    ((State.slewBy_bond _ _).trans ((v.requestStep_bond _ _ _ _ _ _).trans hvb))

@[simp] theorem State.toHoldover_bond : s.toHoldover.bond = s.bond := by
  have hshow (t : State) : t.showHold.bond = t.bond := State.ite_bond (t.put_bond _ (by decide)) rfl
  exact (hshow _).trans ((State.withOsc_bond _ _).trans ((State.put_bond _ _ (by decide)).trans
    ((State.put_bond _ _ (by decide)).trans ((State.put_bond _ _ (by decide)).trans s.leaveLocked_bond))))

/-- The end of following before this half runs on its own: its observation closed, its discipline anew. -/
def State.followEnded (s : State) : State :=
  let x := s.closeFollow
  { x with
    twin := { x.twin with follow := false }
    osc := { x.osc with disc := if x.osc.obsDue.isEmpty then 0 else x.osc.disc, discI := 0, discAt := none } }

theorem State.followEnded_bond : s.followEnded.bond = ({ s with twin := { s.twin with follow := false } } : State).bond := by
  have hel (a : Nat) (ha : a ∈ bondEls) : s.followEnded.el a = s.el a := State.el_of_bond (t := s.closeFollow) s.closeFollow_bond ha
  have hlent : s.followEnded.twin.lent = s.twin.lent := State.lent_of_bond (t := s.closeFollow) s.closeFollow_bond
  exact State.bond_eq hel rfl hlent

/-- At its end this half follows no more; the rest of the bond stands. -/
theorem State.endFollow_bond : s.endFollow.bond = ({ s with twin := { s.twin with follow := false } } : State).bond := by
  have hgo : s.endFollow = if !s.twin.follow then s else if s.followEnded.twinReady then
      s.followEnded.toLocked (s.followEnded.el Reg.REF_ACTIVE) (s.followEnded.elS 8 Reg.REF_OFFSET)
    else s.followEnded.toHoldover := rfl
  rw [hgo]
  split
  next h => exact State.bond_eq (fun _ _ => rfl) (by simpa using h) rfl
  next =>
    split
    · exact (State.toLocked_bond _ _ _).trans s.followEnded_bond
    · exact (State.toHoldover_bond _).trans s.followEnded_bond

end
end Sys2Proof.Machine
end

section
/-! SUPPORT. The shared rails of a pair (R774 to R778), and its split (R780). -/
namespace Sys2Proof.Machine
open Host

/-! ### A shared rail outside JOINED and DISCORD -/

/-- Neither on nor on its way. -/
def Output.idles (x : Output) : Prop := x.state ≠ oWaitUp ∧ x.state ≠ oRamp ∧ x.state ≠ oOn ∧ x.state ≠ oWaitDown

theorem Output.gone_idles {x : Output} {st cause : Nat} {f : Output → Output}
    (h : st ≠ oWaitUp ∧ st ≠ oRamp ∧ st ≠ oOn ∧ st ≠ oWaitDown) : (x.gone st cause f).idles := h

section
variable {s t : State}

theorem State.twinRole_of_bond (h : t.bond = s.bond) : t.twinRole = s.twinRole := by
  rw [State.twinRole, State.twinRole, State.el_of_bond h (by decide)]

theorem State.twinTogether_of_bond (h : t.bond = s.bond) : t.twinTogether = s.twinTogether := by
  simp only [State.twinTogether, State.twinIs, State.el_of_bond h (a := Reg.TWIN_STATE) (by decide)]

theorem State.mem_sharedRails {r : Nat} : r ∈ s.sharedRails ↔
    s.twinRole ≠ 0 ∧ r < 8 ∧ bitOf (s.el (Reg.RES_CFG (24 + r))) 73 = true := by
  unfold State.sharedRails
  split
  next h => simp [h]
  next h => simp [h, State.twinShared]

/-- R778: outside JOINED and DISCORD no lease holds a shared rail. -/
theorem State.sharedRail_unleased {r : Nat} (ht : s.twinTogether = false) (hr : r ∈ s.sharedRails) : s.outLeased r = false := by
  obtain ⟨hrole, h8, hbit⟩ := State.mem_sharedRails.mp hr
  have hapart : s.el Reg.TWIN_STATE ≠ 3 ∧ s.el Reg.TWIN_STATE ≠ 4 := by
    simpa [State.twinTogether, State.twinIs] using ht
  have hblocked : s.twinBlocked r = true := by simp [State.twinBlocked, hrole, h8, hbit, hapart]
  simp [State.outLeased, hblocked]

theorem State.sharedRails_of_bond (h : t.bond = s.bond) {r : Nat} (hr : r ∈ s.sharedRails) : r ∈ t.sharedRails := by
  obtain ⟨hrole, h8, hbit⟩ := State.mem_sharedRails.mp hr
  have hcfg : Reg.RES_CFG (24 + r) ∈ bondEls :=
    List.mem_append_right _ (List.mem_map.mpr ⟨r, List.mem_range.mpr h8, rfl⟩)
  refine State.mem_sharedRails.mpr ⟨?_, h8, ?_⟩
  · rwa [State.twinRole_of_bond h]
  · rwa [State.el_of_bond h hcfg]

/-- A rail that no lease holds takes no row that raises it. -/
theorem State.settleOut_idles {r : Nat} (h8 : r < 8) (hl : s.outLeased r = false) (hi : (s.outp r).idles) :
    ((s.settleOut r).outp r).idles := by
  obtain ⟨hwu, hra, hon, hwd⟩ := hi
  have hgone (f : Output → Output) : ((s.outGo r oOff 0 f).outp r).idles := by
    rw [State.outp_outGo]
    split
    · exact Output.gone_idles (by decide)
    · exact ⟨hwu, hra, hon, hwd⟩
  simp only [State.settleOut, h8, hl, hwu, hra, hon, hwd, if_true, or_self, false_and, and_false, if_false, Bool.false_eq_true]
  split
  · exact hgone id
  · split
    · exact hgone _
    · exact ⟨hwu, hra, hon, hwd⟩

/-- The settling of the sequencer leaves a shared rail idle that was so. -/
theorem State.settle_idles {r : Nat} (ht : s.twinTogether = false) (hr : r ∈ s.sharedRails) (hi : (s.outp r).idles) :
    (s.settle.outp r).idles := by
  refine (State.settle_of_settleOut (p := fun t => t.bond = s.bond ∧ (t.outp r).idles) (fun t q ⟨hb, ht'⟩ => ?_) ⟨rfl, hi⟩).2
  refine ⟨(t.settleOut_bond q).trans hb, ?_⟩
  by_cases hq : r = q
  · subst hq
    exact State.settleOut_idles (State.mem_sharedRails.mp hr).2.1
      (State.sharedRail_unleased ((State.twinTogether_of_bond hb).trans ht) (State.sharedRails_of_bond hb hr)) ht'
  · rw [(t.settleOut_turns q).outp_ne hq]
    exact ht'

end

section
variable (s : State)

/-- A shared rail of A's falls, with the records of its clients (R778). -/
def State.railDropped (s : State) (r : Nat) : State :=
  let st := (s.outp r).state
  if st = oWaitUp ∨ st = oRamp ∨ st = oOn ∨ st = oWaitDown then
    (s.outGo r oFall 0 (fun y => { y with turn := false, below := false })).outClientRecords r 0x0B
  else s

theorem State.railDropped_bond (r : Nat) : (s.railDropped r).bond = s.bond :=
  State.ite_bond ((State.outClientRecords_bond _ _ _).trans (s.outGo_bond _ _ _ _)) rfl

theorem State.railDropped_idles (r : Nat) : ((s.railDropped r).outp r).idles := by
  unfold State.railDropped
  dsimp only
  split
  next h =>
    have hlen : r < s.rail.outs.length := State.lt_of_outp_state fun h0 => by simp [h0] at h
    rw [(State.outClientRecords_tells _ _ _).outp, State.outp_outGo, if_pos ⟨rfl, hlen⟩]
    exact Output.gone_idles (by decide)
  next h => simpa [Output.idles] using h

theorem State.outp_railDropped_ne {r p : Nat} (h : p ≠ r) : (s.railDropped r).outp p = s.outp p := by
  unfold State.railDropped
  dsimp only
  split
  · rw [(State.outClientRecords_tells _ _ _).outp, State.outp_outGo, if_neg (by simp [h])]
  · rfl

/-- Once all of a list have been dropped they are idle. -/
theorem State.foldl_railDropped_idles {r : Nat} (l : List Nat) (h : r ∈ l ∨ (s.outp r).idles) :
    ((l.foldl State.railDropped s).outp r).idles := by
  induction l generalizing s with
  | nil => exact h.resolve_left List.not_mem_nil
  | cons q l ih =>
    rw [List.foldl_cons]
    refine ih _ ?_
    by_cases hq : r = q
    · exact .inr (hq ▸ s.railDropped_idles r)
    · exact (h.imp_left fun hm => (List.mem_cons.mp hm).resolve_left hq).imp_right fun hi => by
        rwa [s.outp_railDropped_ne hq]

theorem State.dropShared_eq : s.dropShared =
    if s.twinRole = 1 then (s.sharedRails.foldl State.railDropped s).settle else s.lendRails := rfl

/-- The registers of the bond, and whether this half follows, stand when the shared rails are dropped. -/
theorem State.dropShared_spares : (∀ a ∈ bondEls, s.dropShared.el a = s.el a) ∧ s.dropShared.twin.follow = s.twin.follow := by
  rw [State.dropShared_eq]
  split
  · have hb : (s.sharedRails.foldl State.railDropped s).settle.bond = s.bond :=
      (State.settle_bond _).trans (State.foldl_bond State.railDropped_bond _ _)
    exact ⟨fun _ ha => State.el_of_bond hb ha, State.follow_of_bond hb⟩
  · exact ⟨fun _ _ => rfl, rfl⟩

variable {s} in
/-- Apart, B lends no enable. -/
theorem State.dropShared_lent (ht : s.twinTogether = false) (hrole : s.twinRole = 2) : s.dropShared.twin.lent = 0 := by
  have hne : s.twinRole ≠ 1 := by omega
  rw [State.dropShared_eq, if_neg hne]
  simp [State.lendRails, ht]

variable {s} in
/-- Apart, A's shared rails are off or on their way down. -/
theorem State.dropShared_idles (ht : s.twinTogether = false) (hrole : s.twinRole = 1) {r : Nat} (hr : r ∈ s.sharedRails) :
    (s.dropShared.outp r).idles := by
  have hb : (s.sharedRails.foldl State.railDropped s).bond = s.bond := State.foldl_bond State.railDropped_bond _ _
  rw [State.dropShared_eq, if_pos hrole]
  exact State.settle_idles ((State.twinTogether_of_bond hb).trans ht) (State.sharedRails_of_bond hb hr)
    (s.foldl_railDropped_idles _ (.inl hr))

/-! ### The split -/

/-- What a split sets before the pair's state changes: this half follows no more, and the split is counted and dated. -/
def State.splitShown (s : State) : State :=
  ((s.endFollow.inc 4 Reg.TWIN_SPLITS).put Reg.TWIN_LAST_SPLIT s.now).put Reg.TWIN_LEADER 0

theorem State.el_splitShown {a : Nat} (ha : a ∈ bondEls) : s.splitShown.el a =
    if a = Reg.TWIN_LEADER then 0 else if a = Reg.TWIN_LAST_SPLIT then s.now
    else if a = Reg.TWIN_SPLITS then min (s.el Reg.TWIN_SPLITS + 1) (2 ^ 32 - 1) else s.el a := by
  have hend (b : Nat) (hb : b ∈ bondEls) : s.endFollow.el b = s.el b := State.el_of_bond s.endFollow_bond hb
  rw [State.splitShown, State.el_put, State.el_put, State.el_inc, hend a ha, hend _ (by decide)]

variable {s} in
/-- The pair's state once it has left another one for SPLIT, the rails dropped. -/
theorem State.twinGo_split (h : s.el Reg.TWIN_STATE ≠ 5) : s.twinGo 5 =
    ((s.put Reg.TWIN_STATE 5).twinRecord 1 (s.el Reg.TWIN_STATE * 256 + 5)).dropShared := by
  rw [State.twinGo, if_neg h, if_neg (by decide)]

theorem State.twinSplit_bond : s.twinSplit.bond = (s.splitShown.twinGo 5).bond := (State.tamperOn_bond _ 12 0 :)

/-- The state of a split as its rails are dropped. -/
def State.splitGone (s : State) : State :=
  (s.splitShown.put Reg.TWIN_STATE 5).twinRecord 1 (s.splitShown.el Reg.TWIN_STATE * 256 + 5)

theorem State.splitGone_bond : s.splitGone.bond = (s.splitShown.put Reg.TWIN_STATE 5).bond := State.stationRecord_bond _ _ _ _ _

theorem State.el_splitGone {a : Nat} (ha : a ∈ bondEls) : s.splitGone.el a =
    if a = Reg.TWIN_STATE then 5 else s.splitShown.el a :=
  (State.el_of_bond s.splitGone_bond ha).trans (State.el_put _ _ _ _)

variable {s} in
theorem State.twinSplit_drops (h : s.el Reg.TWIN_STATE ≠ 5) : s.twinSplit.bond = s.splitGone.dropShared.bond := by
  have hshown : s.splitShown.el Reg.TWIN_STATE ≠ 5 := by
    rw [s.el_splitShown (by decide), if_neg (by decide), if_neg (by decide), if_neg (by decide)]
    exact h
  rw [s.twinSplit_bond, State.twinGo_split hshown, State.splitGone]

variable {s} in
/-- The registers of the bond after a split. -/
theorem State.el_twinSplit (h : s.el Reg.TWIN_STATE ≠ 5) {a : Nat} (ha : a ∈ bondEls) : s.twinSplit.el a =
    if a = Reg.TWIN_STATE then 5 else s.splitShown.el a :=
  (State.el_of_bond (State.twinSplit_drops h) ha).trans ((s.splitGone.dropShared_spares.1 a ha).trans (s.el_splitGone ha))

variable {s} in
theorem State.twinSplit_follow (h : s.el Reg.TWIN_STATE ≠ 5) : s.twinSplit.twin.follow = false :=
  calc s.twinSplit.twin.follow = s.splitGone.dropShared.twin.follow := State.follow_of_bond (State.twinSplit_drops h)
    _ = s.splitGone.twin.follow := s.splitGone.dropShared_spares.2
    _ = (s.splitShown.put Reg.TWIN_STATE 5).twin.follow := State.follow_of_bond s.splitGone_bond
    _ = s.endFollow.twin.follow := rfl
    _ = false := State.follow_of_bond s.endFollow_bond

variable {s} in
/-- B lends no enable after a split. -/
theorem State.twinSplit_lent (h : s.el Reg.TWIN_STATE ≠ 5) (hrole : s.twinRole = 2) : s.twinSplit.twin.lent = 0 := by
  have hapart : s.splitGone.twinTogether = false := by
    simp [State.twinTogether, State.twinIs, s.el_splitGone (a := Reg.TWIN_STATE) (by decide)]
  have hstraps : s.splitGone.el Reg.STRAPS = s.el Reg.STRAPS := by
    rw [s.el_splitGone (by decide), if_neg (by decide), s.el_splitShown (by decide), if_neg (by decide), if_neg (by decide),
      if_neg (by decide)]
  have hsame : s.splitGone.twinRole = 2 := by
    rw [← hrole, State.twinRole, State.twinRole, hstraps]
  exact (State.lent_of_bond (State.twinSplit_drops h)).trans (State.dropShared_lent hapart hsame)

end

/-- Settles O60: nothing of a split writes the pair's state, its leader and its splits again; apart, no lease holds a shared rail,
so that no row of the sequencer raises one that was dropped. -/
theorem pairSplits : Obligations.PairSplits := by
  refine ⟨fun s t hs ht => ?_, fun s t hapart ht => ?_⟩
  · subst ht
    refine ⟨?_, ?_, State.twinSplit_follow hs, ?_, ?_, State.twinSplit_lent hs⟩
    · rw [State.el_twinSplit hs (by decide), if_pos rfl]
    · rw [State.el_twinSplit hs (by decide), if_neg (by decide), s.el_splitShown (by decide), if_pos rfl]
    · rw [State.el_twinSplit hs (by decide), if_neg (by decide), s.el_splitShown (by decide), if_neg (by decide), if_pos rfl]
    · rw [State.el_twinSplit hs (by decide), if_neg (by decide), s.el_splitShown (by decide), if_neg (by decide),
        if_neg (by decide), if_pos rfl]
  · subst ht
    exact ⟨State.dropShared_lent hapart, fun hrole r hr => State.dropShared_idles hapart hrole hr⟩

end Sys2Proof.Machine
end
